-- ==== Sys2Proof/Word.lean ====
section
/-! DEFINITION. The words of the DP8: registers (R9), lines (R81) and the sparse maps that hold indexed state.
Counts, indices, identifiers, times and addresses are natural numbers; register words, masks, keys and line contents
are bit vectors. -/

namespace Sys2Proof

/-- A register word (R9). -/
abbrev Word := BitVec 32

/-- A 64-bit register (R12). -/
abbrev DWord := BitVec 64

/-- A line of 64 bytes; byte i is bits 8i+7 .. 8i. -/
abbrev Line := BitVec 512

/-- Index-keyed state: keys strictly rising, and no entry equal to what an unlisted key reads as. -/
abbrev Sparse (β : Type) := List (Nat × β)

end Sys2Proof
end

