-- ==== Sys2Proof/Syntax.lean ====
section
/-! DEFINITION. The commands of the block: one constructor per row of the opcode table, with the row's operands.
What the package's surroundings decide (a measured latency, whether a training passes, the bytes a host sent) is an
operand of the command (assumption log entry 2). -/

namespace Sys2Proof

/-- The access paths of Table REG-1 (R470): a control function on a port, the debug system bus, MCTP. -/
inductive Path where
  | control (port : Nat)
  | debugBus
  | mctp
deriving DecidableEq, Repr

/-- An extent as a host names it in a mailbox command: DPA base and length, and the tag's context and generation (R55). -/
structure DcRef where
  base : Nat
  size : Nat
  ctx : Nat
  gen : Nat
deriving DecidableEq, Repr

/-- A measured latency of one window (R197): channel, class and mean latency in 10 ns. -/
structure WinLat where
  tier : Nat
  chan : Nat
  cls : Nat
  lat : Nat
deriving DecidableEq, Repr

/-- A descriptor as its ring posted it (Table SLU-1): ring, index and cookie. -/
structure DescRef where
  ring : Nat := 0
  index : Nat := 0
  cookie : Nat := 0
deriving DecidableEq, Repr

/-- A metering store that can be uncorrectable (Table MTR-6). A leaf of the bank in use or of the closed bank. -/
inductive MeterStore where
  | leaf (tier ctx : Nat) (closed : Bool)
  | leafNoCtx (tier : Nat) (closed : Bool)
  | accumulator (ctx : Nat)
  | record (tick ctx : Nat)
  | presence (tick tier : Nat)
  | node (tick kind id : Nat)
  | directory (tick tier : Nat)
deriving DecidableEq, Repr

/-- The fields of a package node as a rill frame carries them (R224): flags of Table MTR-2 and the sums. -/
structure NodeFields where
  flags : BitVec 16
  lines : Nat
  bytes : Nat
  hits : Nat
  misses : Nat
  throttled : Nat
  hammer : Nat
  extSec : Nat
deriving DecidableEq, Repr

/-- A lease as a member's tables report it (R294, R297). -/
structure LeaseInfo where
  num : Nat
  owner : Nat
  tier : Nat
  first : Nat
  count : Nat
  borrower : Nat
deriving DecidableEq, Repr

/-- A measured coil pair (R315, R316): group 0 read, 1 write, 2 command, 3 forwarded clock; eye width and height in steps,
0 for a clock that did not lock. -/
structure PairEye where
  runnel : Nat
  hop : Nat
  group : Nat
  pair : Nat
  width : Nat
  height : Nat
deriving DecidableEq, Repr

/-- An image as its verification finds it (R359, R360): MAGIC, FORMAT and component layout right, COMP_DIGEST right,
signature right, SHA-384 of PUBKEY, COMP_DIGEST, digest of the jet component, SV, VERSION, LENGTH. -/
structure Image where
  headerOk : Bool
  digestOk : Bool
  sigOk : Bool
  keyDigest : BitVec 384
  compDigest : BitVec 384
  jetDigest : BitVec 384
  sv : Nat
  version : Nat
  length : Nat
deriving DecidableEq, Repr

/-- An MCTP request (R368): its binding, 0 SMBus, 1 I3C, 2 PCIe VDM, and the requests still unanswered before it. -/
structure MctpReq where
  binding : Nat
  ahead : Nat
deriving DecidableEq, Repr

/-- The RDIMMs of a tier as Services finds them (R119, R120, R148): `bad` is 0 or the failures of R119 as DETAIL names them;
populated capacity in bytes, density code, refresh-management thresholds, the highest rated point of each channel (none: OP 0), and
the timing words of the four points from SPD (none: the reset values). -/
structure DimmInfo where
  tier : Nat
  bad : Nat
  cap : Nat
  density : Nat
  raaimt : Nat
  raammt : Nat
  rfm : Bool
  rated : List Nat
  optab : List (BitVec 32)
deriving DecidableEq, Repr

/-- The points at which a rank passed training (R133, R134). -/
structure RankTrain where
  tier : Nat
  chan : Nat
  rank : Nat
  lkg : BitVec 4
deriving DecidableEq, Repr

/-- What a reset scope's restart meets: checkers that fail, as (tier, checker); ranks that fail the short check, as (tier,
channel, rank); trainings that differ from all four points passed, where ranks train in full; measured pairs by tier. -/
structure Restart where
  checkers : List (Nat × Nat)
  shortFail : List (Nat × Nat × Nat)
  trained : List RankTrain
  eyes : List (Nat × List PairEye)
deriving DecidableEq, Repr

/-- What the power-on sequence meets (R457): TEST_N is low; fuse words whose two reads differ or cannot be decoded (true: beyond
correction); MP checkers pass; a sensor reads below 0 degrees; tiers whose PLLs fail; the RDIMMs; the measured
drifts as (tier, bond, via) (R326); and as `Restart`. -/
structure PowerOnFacts where
  testLow : Bool
  sense : List (Nat × Bool)
  mpOk : Bool
  cold : Bool
  pllFail : List Nat
  dimms : List DimmInfo
  drift : List (Nat × Nat × Nat)
  restart : Restart
deriving DecidableEq, Repr

/-- The commands (spec/opcode_table.json). Times are in microseconds, temperatures in 0.1 degrees unless said. -/
inductive Instr where
  -- Host ports (R40–R68)
  | cascadeModuleLost (link : Nat)  -- R34 link l joins tier l and tier (l+1) mod n
  | linkTrainingComplete (port partnerSpeed : Nat) (lane0 lane1 rev : Bool) (pol : BitVec 2) (flit256 : Bool)
  | laneMargining (port lane : Nat) (voltage : Bool) (result : BitVec 8)
  | l0pDeviceRequest (port : Nat)
  | l0pPartnerRequest (port : Nat)
  | linkWiden (port : Nat)
  | aspmL1Entry (port : Nat)
  | perstNAssert (group : Nat)
  | perstNDeassert (group : Nat) (sris : Bool)
  | linkDown (port : Nat)
  | hdmDecoderCommit (port base size ways : Nat)
  | getEventRecords (port log : Nat)
  | clearEventRecords (port log : Nat) (clearAll : Bool) (handles : List Nat)
  | getEventInterruptPolicy (port : Nat)
  | setEventInterruptPolicy (port : Nat) (settings : List (BitVec 8))
  | getTimestamp (port : Nat)
  | setTimestamp (port : Nat) (ts : BitVec 64)
  | getSupportedLogs (port : Nat)
  | getLog (port : Nat) (uuid : BitVec 128) (offset length : Nat)
  | identifyMemoryDevice (port : Nat)
  | getHealthInfo (port : Nat)
  | getPoisonList (port start : Nat)
  | getDynamicCapacityConfiguration (port : Nat)
  | getDynamicCapacityExtentList (port start count : Nat)
  | addDynamicCapacityResponse (port : Nat) (ext : Option DcRef)
  | releaseDynamicCapacity (port : Nat) (ext : DcRef)
  | mailboxUnsupportedCommand (port opcode : Nat)
  | releaseTimeout (port base : Nat)
  | dcEventOfferWhenRoom (port : Nat)
  | hptPortCfgWrite (path : Path) (port : Nat) (value : BitVec 32)
  | retrain (port : Nat)
  | hptLoopCtlWrite (path : Path) (port : Nat) (value : BitVec 32)
  | loopPartnerTimeout (port : Nat)
  | prbsCheckerLock (port : Nat) (lock : Bool) (errors : Nat)
  | flitReplayLimit (port : Nat)
  | aspmL1Exit (port : Nat)
  -- Registers
  | registerWrite (path : Path) (offset : Nat) (value : BitVec 32)
  | unsupportedRegisterAccess (path : Path) (offset size : Nat) (write : Bool)
  | registerReadLatch (path : Path) (offset : Nat)
  | lock (path : Path)
  -- Data plane
  | memrd (port tag hpa : Nat)
  | memrddata (port tag hpa : Nat)
  | memwr (port tag hpa : Nat) (data : Line) (poison : Bool)
  | memwrptl (port tag hpa : Nat) (enables : BitVec 64) (data : Line) (poison : Bool)
  | meminv (port tag hpa : Nat)
  -- Cistern channels
  | writeWaitsForQueueRoom (tier chan : Nat)
  | columnCommandIssue (tier chan : Nat) (ready : List Nat)
  | penaltyExpiry (tier chan ctx : Nat)
  | rowTrackerClear (tier chan rank : Nat)
  | cisternRefreshDue (tier chan rank : Nat)
  | dimmSensorRead (tier chan dimm : Nat) (reading : Option Int)
  | caParityAlert (tier chan sub rank : Nat) (replayPass caPass : Bool)
  | periodicRetrainingDue (tier chan rank : Nat)
  | retrainingEnd (tier chan rank : Nat) (pass shortPass : Bool)
  | retrainHoldMaxExpiry (tier chan rank : Nat) (shortPass : Bool)
  | powerDownTimerExpiry (tier chan rank : Nat)
  | selfRefreshTimerExpiry (tier chan rank : Nat)
  | rankLowPowerExit (tier chan rank : Nat) (alert completes : Bool)
  | operatingPointRequest (tier chan op : Nat)
  | frequencyChange (tier chan : Nat) (burstFail : BitVec 4)
  | pendingChangeApplied (tier chan : Nat)
  | softPostPackageRepair (tier chan sub rank group bank row : Nat) (device : Option Nat)
  | maxOpWrite (path : Path) (tier chan : Nat) (value : BitVec 32)
  -- Contexts
  | commitPoint
  | accessReductionDrainDone
  | faultFreeze (ctx : Nat)
  | frozenHoldExpiry (port : Nat)
  | migrationWaitsForCopySlot (tier : Nat)
  | migrationCopyPassEnd (ctx index : Nat) (remote : List (Nat × Option Line))
  | migrationSwitch (ctx index : Nat) (remote : List (Nat × Option Line))
  | migrationFinish (ctx index : Nat)
  | migrationAbort (ctx index : Nat)
  | releaseFinished (ctx : Nat)
  | validLineClear (tier ext : Nat)
  | leaseReturnHandover
  -- Basin
  | heatSample (tier jet ctx page : Nat)
  | heatDecay (tier jet : Nat)
  | victimBufferOffer (tier slice : Nat)
  | allocationWaitsForVictimRoom (tier slice : Nat)
  | basinBankRefresh (tier slice die bank : Nat)
  | firstSensorReading (tier : Nat) (dies : List Int)
  | basinSelfRefreshEntry (tier slice : Nat)
  | basinSelfRefreshExit (tier slice : Nat)
  | dieClockLossSelfRefresh (tier slice die : Nat)
  | clrCnt (path : Path) (tier slice : Nat)
  -- Fault collection
  | messageAccept (src kind level addr detail : Nat) (full : Bool)
  | recordLeavesQueue (recnum : Nat)
  | recordFlashCopy (recnum : Nat)
  | faultMsix
  | faultEscalationFrame (pkg src kind cls level addr detail time : Nat)
  | stop (unissued : List (Nat × Nat × Nat)) (confirmed : BitVec 32)
  | resume (path : Path)
  | fltClrCnt (path : Path)
  | lockdown
  | go (path : Path)
  | fltSrcStatClear (path : Path) (src : Nat)
  -- Stored-data protection
  | ceWindowRestart
  | sramUncorrectable (tier checker : Nat) (routing : Bool) (off ctx : Nat)
  | eccInjCtlWrite (path : Path) (tier : Nat) (value : BitVec 32)
  | entropyHealthFail
  | entropyRestartTest (pass : Bool)
  | tagEnWrite (path : Path) (tier : Nat) (value : BitVec 32)
  | tagLineWriteback (tier index : Nat)
  | tagSweep (tier index : Nat)
  | aqueductKeyExchange (aq peer : Nat) (sigOk member : Bool) (shared : BitVec 384)
  | aqueductKeyTimeout (aq : Nat)
  -- Weirs
  | weirWindowEnd (lats : List WinLat)
  | tokenReleaseHeldRequest (port cls : Nat)
  | missInterrupt
  -- Aqueducts
  | aqueductFlitReceive (aq : Nat) (flit : BitVec 2048)
  | aqueductNak (aq ackSeq : Nat)
  | aqueductReplayTimeout (aq : Nat)
  | aqueductRetrain (aq : Nat)
  | aqueductCountWrapRekey (aq : Nat)
  | aqueductLeavesL0 (aq : Nat)
  | endToEndTimeout (txid : Nat)
  | aqueductCreditReturn (aq req resp data : Nat)
  -- Descriptors: rings (chapter 10, Table CMD-3)
  | nop (d : DescRef)
  | ringCreate (d : DescRef) (ring ttype log2n dmaPort prio vector dbase cbase pollAddr account coalCount startSeq
      coalTime pollUs : Nat)
  | ringDelete (d : DescRef) (ring : Nat)
  | ringModifyStop (d : DescRef) (ring mask newCi newSeq prio vector intEn coalCount coalTime pollUs : Nat)
  | ringModifyStart (d : DescRef) (ring mask newCi newSeq prio vector intEn coalCount coalTime pollUs : Nat)
  | ringModifyResync (d : DescRef) (ring mask newCi newSeq prio vector intEn coalCount coalTime pollUs : Nat)
  | ringModifyAttributes (d : DescRef) (ring mask newCi newSeq prio vector intEn coalCount coalTime pollUs : Nat)
  | fence (d : DescRef) (scope : Nat)
  | doorbellWrite (port fn offset size : Nat) (value : BitVec 64)
  | doorbellPoll (ring : Nat) (value : BitVec 64)
  | descriptorFetch (tier : Nat) (descs : List (BitVec 512))
  | completionWrite (ring : Nat)
  | coalesceTimerExpiry (ring : Nat)
  | ringDmaError (ring : Nat) (write : Bool)
  | ringDmaPortLost (ring : Nat) (busMasterCleared functionReset : Bool)
  | sluDbGrantWrite (path : Path) (page : Nat) (value : BitVec 32)
  | sluAdminEnable (path : Path) (value : BitVec 32)
  | sluAdminDisable (path : Path) (value : BitVec 32)
  -- Descriptors: contexts and extents (Table CMD-4)
  | ctxCreate (d : DescRef) (ctx account keyid cls cflags wbase wsize : Nat)
  | ctxBindPortBind (d : DescRef) (ctx port : Nat)
  | ctxBindPortUnbind (d : DescRef) (ctx port : Nat)
  | ctxActivate (d : DescRef) (ctx : Nat)
  | ctxDrain (d : DescRef) (ctx : Nat)
  | ctxFreeze (d : DescRef) (ctx : Nat)
  | ctxThaw (d : DescRef) (ctx : Nat)
  | ctxRelease (d : DescRef) (ctx : Nat)
  | ctxQuery (d : DescRef) (ctx haddr : Nat)
  | extMap (d : DescRef) (ctx index pen count lease : Nat)
  | extUnmap (d : DescRef) (ctx index count : Nat)
  | extMigrate (d : DescRef) (ctx index dest lease : Nat)
  | extQuery (d : DescRef) (ctx index count haddr : Nat)
  -- Descriptors: keys and classes (Table CMD-5)
  | keyCreate (d : DescRef) (keyid : Nat)
  | keyRetire (d : DescRef) (keyid : Nat)
  | classSet (d : DescRef) (cls rankStep ways groups target guar ceil maxq rsv missFact missN : Nat)
  | classQuery (d : DescRef) (cls haddr : Nat)
  | ctxSetClass (d : DescRef) (ctx cls : Nat)
  -- Descriptors: data tasks (Table CMD-6)
  | copy (d : DescRef) (srcKind dstKind srcCtx dstCtx src dst length : Nat)
  | zero (d : DescRef) (ctx offset length : Nat)
  | crcRange (d : DescRef) (ctx offset length running poly xorout width mode : Nat)
  | scrubRange (d : DescRef) (kind level cls ctx firstPage pages addr haddr : Nat)
  | promote (d : DescRef) (ctx firstPage pages : Nat)
  | demote (d : DescRef) (ctx firstPage pages : Nat)
  | heatReport (d : DescRef) (ctx maxPages haddr : Nat)
  -- Jets (chapter 12)
  | pieceStart (tier jet : Nat)
  | pieceEnd (tier jet : Nat) (host remote : List (Nat × Option Line)) (dmaOk : Bool)
  | pieceQueuedWhenRoom (tier : Nat)
  | jetWatchdog (tier jet : Nat)
  | jetClockGate (tier jet : Nat)
  | jetWake (tier jet : Nat)
  | jetSramUncorrectable (tier jet : Nat)
  | jetFirmwareReload (tier jet : Nat)
  | cvuTestWrite (path : Path) (tier : Nat) (value : BitVec 32)
  | jetCvuDataWrite (path : Path) (tier : Nat) (value : BitVec 32)
  | jetCvuValWrite (path : Path) (tier : Nat) (value : BitVec 64)
  -- Metering (chapter 09, Table CMD-7)
  | meterSnapshot (d : DescRef) (tick scope first count haddr : Nat)
  | meterSeal (d : DescRef) (tick haddr : Nat)
  | meterConfig (d : DescRef) (interval rollWait autoseal : Nat)
  | tickMark (n : Nat)
  | ownTimerMark
  | missingMarkDetected
  | localFoldEnd (tier : Nat)
  | rollUpFrame (src tick ctx : Nat) (counts : List Nat)
  | doneFrame (src tick frames : Nat) (unattributed : List Nat)
  | rollWaitExpiry (tick : Nat)
  | tickFoldingFinished (tick : Nat)
  | packageNodeFrame (src tick : Nat) (node : NodeFields)
  | poolNodeDeadline (tick : Nat)
  | autoseal (tick : Nat)
  | sealLate (tick : Nat)
  | meteringStorageError (store : MeterStore)
  | reseal (tick : Nat)
  | meterSealTimeout (d : DescRef)
  -- Pools and the rill (chapter 13, Table CMD-8)
  | poolJoin (d : DescRef) (poolId pkg role : Nat)
  | poolLeave (d : DescRef) (pkg : Nat)
  | leaseGrant (d : DescRef) (owner otier count : Nat)
  | leaseReturn (d : DescRef) (lease : Nat)
  | managerHandover (d : DescRef) (pkg : Nat)
  | rilForm (path : Path) (value : BitVec 32)
  | joinFrame (src tag poolId pkg role : Nat)
  | packageNumberRewrite
  | poolRejoin
  | leaseRequestFrame (src tag owner otier count : Nat)
  | leaseClaimAtOwner (src lease otier count borrower : Nat)
  | extentReturnFrame (src lease pen : Nat)
  | coldOwnerRejoin (leases : List LeaseInfo)
  | mirrorFrame (src : Nat) (change : List Nat)
  | standbyAckTimeout (mirror : Nat)
  | standbyResync
  | heartbeatSend
  | heartbeatReceive (ring src hops epoch poolId role : Nat) (members : BitVec 16)
  | heartbeatTimeout (pkg : Nat)
  | takeover (tables : List (Nat × List LeaseInfo × List LeaseInfo))
  | handoverFrame (src epoch : Nat)
  | rillFrameReceive (ring : Nat) (crcOk : Bool) (dst src ftype fseq hops epoch : Nat) (payload : List Nat)
  | rillResend (fseq : Nat)
  | rillFrameUnacknowledged (fseq : Nat)
  | rillTickMark (n ring : Nat)
  | rillInputDown (ring : Nat)
  | rillInputUp (ring : Nat) (inverted : Bool)
  | rilLoopCtlWrite (path : Path) (value : BitVec 32)
  | remoteAnswerTimeout (d : DescRef)
  -- Stack health and repair (chapter 14)
  | fieldSelfTest (tier : Nat) (eyes : List PairEye) (bond via : Nat)
  | run (path : Path) (tier : Nat) (value : BitVec 32)
  | fieldSelfTestDeferredStart (tier : Nat)
  | guardBandWindow (tier : Nat) (counts : List (Nat × Nat × Nat × Nat × Nat))
  | relayCommandParityError (tier runnel hop : Nat)
  | coilSpareReplace (tier runnel hop group pair : Nat)
  | runnelNarrow (tier runnel hop group pair : Nat)
  | sliceFlush (tier runnel : Nat)
  | runnelLost (tier runnel hop group pair : Nat)
  | basinRowRepair (tier runnel die row : Nat)
  | spareExtentRemap (tier ext : Nat)
  | repairFuseWrite (tier : Nat) (margins : List Bool)
  -- Events, power and firmware descriptors (Tables CMD-7 to CMD-9)
  | eventFetch (d : DescRef) (maxRecs haddr : Nat)
  | eventAck (d : DescRef) (recnum : Nat)
  | tierSleep (d : DescRef) (tier st : Nat)
  | tierWake (d : DescRef) (tier : Nat)
  | oppointSet (d : DescRef) (tier chmask op : Nat)
  | fwStage (d : DescRef) (haddr offset length : Nat) (last : Bool) (image : Option Image) (progOk : Bool)
  | fwActivate (d : DescRef) (target : Nat)
  | fwCommit (d : DescRef) (short : List Nat)
  -- Gates (Table MGT-3)
  | ready
  | fuseRead (word : Nat)
  | fuseRepair (tier : Nat) (margins : List Bool)
  | keyMake (keyid : Nat)
  | keyZero (keyid : Nat)
  | linkKeys (aq peer : Nat) (sigOk : Bool) (shared : BitVec 384)
  | sealGate (tick : Nat)
  | spdmSign (hash : BitVec 384)
  | imgVerify
  | bankSet (commit : Bool)
  | arbAdvance (short : List Nat)
  | calWrite
  | dbgUnlock (keyDigest : BitVec 384) (sigOk : Bool)
  | lockdownGate
  | slotErase (slot : Nat)
  | gateBusyRetry (gate : Nat)
  -- The management processor (chapter 16)
  | servicesWatchdogMiss
  | servicesTrap
  | machineModeTrap
  | romBoot (mpOk : Bool)
  | managementOnlyReset
  | mgtReset (path : Path) (value : BitVec 32)
  | activationReadyTimeout
  | mpPllSwitch
  | mpIdleReturn
  | setEndpointId (m : MctpReq) (eid : Nat)
  | getEndpointId (m : MctpReq)
  | getEndpointUuid (m : MctpReq)
  | getMctpVersionSupport (m : MctpReq) (mtype : Nat)
  | getMessageTypeSupport (m : MctpReq)
  | gettid (m : MctpReq)
  | settid (m : MctpReq) (tid : Nat)
  | getpldmversion (m : MctpReq) (ptype : Nat)
  | getpldmtypes (m : MctpReq)
  | getpldmcommands (m : MctpReq) (ptype : Nat)
  | getpdr (m : MctpReq) (record : Nat)
  | getsensorreading (m : MctpReq) (sensor : Nat)
  | getstatesensorreadings (m : MctpReq) (sensor : Nat)
  | seteventreceiver (m : MctpReq) (eid : Nat)
  | requestupdate (m : MctpReq)
  | pldmFirmwareTransfer (m : MctpReq) (offset length : Nat) (last : Bool) (image : Option Image) (progOk : Bool)
  | activatefirmware (m : MctpReq)
  | getFirmwareParameters (m : MctpReq)
  | getVersion (m : MctpReq)
  | getCapabilities (m : MctpReq)
  | negotiateAlgorithms (m : MctpReq) (p384 : Bool)
  | getDigests (m : MctpReq)
  | getCertificate (m : MctpReq) (slot offset length : Nat)
  | challenge (m : MctpReq) (slot : Nat) (transcript : BitVec 384)
  | getMeasurements (m : MctpReq) (index : Nat) (signed : Bool) (transcript : BitVec 384)
  | calExport (m : MctpReq) (offset length : Nat)
  | calImport (m : MctpReq) (offset : Nat) (bytes : List (BitVec 8)) (last : Bool)
  | logRead (m : MctpReq) (first count : Nat)
  | fwCommitVendor (m : MctpReq) (short : List Nat)
  | thermalRestart (m : MctpReq)
  | regRead (m : MctpReq) (offset : Nat)
  | regWrite (m : MctpReq) (offset : Nat) (value : BitVec 32)
  | pmbusPoll (reads : List (Option (Nat × Nat × Nat × Nat))) (steps : List Int)
  | pmbAlert (status : List (Option Nat))
  | logEntryWrite (recnum : Option Nat) (note : List Nat) (progOk eraseOk : Bool)
  | sectorRetire (place : Nat) (failed : Bool)
  | shutdownRecordCopy
  | configStoreCompaction
  -- Power, clocks and heat (chapter 17)
  | referenceClockLost
  | referenceClockReturn
  | wakeCause (cause : Nat)
  | t1IdleExpiry (tier : Nat)
  | t2IdleExpiry (tier : Nat)
  | tierT2Entry (tier : Nat)
  | tierT2Wake (tier us : Nat)
  | t2UpdateLogFull (tier : Nat)
  | tierT3Entry (tier : Nat)
  | tierT3Exit (tier us : Nat) (facts : Restart)
  | tierPllLockFail (tier : Nat)
  | pwrTierCtlGo (path : Path) (value : BitVec 32)
  | p4Req (path : Path) (value : BitVec 32)
  | p4WakeRailCheck (ok : Bool)
  | sensorSample (tier : Nat) (readings : List Int)
  | thermalLadderTest (tier : Nat)
  | thermalMsix
  | thermalTrip
  | tripComparator (tier sensor : Nat)
  -- Fuses (chapter 18)
  | trustMonitorReread (reads : List (Nat × Option (BitVec 64)))
  | otpWrite (sense : Nat)
  | genSecret (sense : Nat)
  | advance (sense : Nat)
  -- Scan and debug (chapter 19)
  | tapReset
  | idcode
  | samplePreload (captured shifted : Nat)
  | extest (captured shifted : Nat)
  | extestPulse (captured shifted : Nat)
  | extestTrain (captured shifted : Nat)
  | clamp
  | highz
  | dtmcs (value : BitVec 32)
  | dmi (addr : Nat) (value : BitVec 32) (op : Nat)
  | dieCfg (value : BitVec 16)
  | dieScan (captured shifted : Nat)
  | bypass (code : Nat)
  | authdataNonceRequest
  | authdataResponse (keyDigest : BitVec 384) (sigOk : Bool)
  | unlockBackoffExpiry
  | relock (path : Path) (value : BitVec 32)
  | hartHalt (hart : Nat) (user : Bool)
  | hartResume (hart : Nat)
  | hartSingleStep (hart : Nat)
  | accessRegister (hart regno : Nat) (write : Bool) (value : BitVec 32)
  | ndmreset
  | triggerMatch (hart trigger : Nat) (user : Bool)
  | systemBusAccess (addr : Nat) (write : Bool) (size : Nat) (value : BitVec 32)
  -- Rails, resets and recovery (chapters 20 and 21)
  | oscillatorStart
  | porstNFall
  | porstNRise
  | powerOn (facts : PowerOnFacts)
  | railEnRelease
  | railToleranceTimeout
  | railOutOfBand (rail : Nat) (back : Bool)
  | voltageGlitch
  | mainRailLoss
  | vddAonLoss
  | tierReset (path : Path) (value : BitVec 32) (confirmed : BitVec 4) (unissued : List (Nat × Nat))
  | portDieReset (path : Path) (value : BitVec 32) (confirmed : BitVec 4) (unissued : List (Nat × Nat))
  | engineDieReset (path : Path) (value : BitVec 32)
  | portDieReturn (tier : Nat) (facts : Restart)
  | engineDieReturn (tier : Nat) (facts : Restart)
  | dieResetHoldExpiry (tier : Nat)
  | cisternDeclaredLost (tier : Nat)
  | warmRecovery (facts : Restart)
deriving DecidableEq, Repr

end Sys2Proof
end

