-- ==== Sys2Proof/Decode.lean ====
section
/-! DEFINITION. The command a word spells. The block has no instruction encoding: no row of the opcode table gives bits. -/

namespace Sys2Proof

/-- The command that a word spells by the table's bits: none, for every row. -/
def decodeTableWord (_nbits _w : Nat) : Option Instr := none

end Sys2Proof
end

