-- ==== Sys2Proof/Config.lean ====
section
/-! DEFINITION. What the spec leaves open. Every constant here is opaque: no proof can see a value of it, so a claim is
true whatever it is. A constant applied to the counter `State.fresh` is a fresh free value at each use. -/

namespace Sys2Proof.Config

/-- Contents nothing in the spec fixes: a line never written (R166), data miscorrected beyond the "Detects" column. -/
opaque freeLine : Nat → Line
/-- A 64-bit value the spec leaves open. -/
opaque freeWord : Nat → DWord
/-- 256 random bits from the DRBG (R176, R411). -/
opaque randomBits : Nat → BitVec 256
/-- Whether errors beyond the "Detects" column of Table ECC-1 are miscorrected (true) or reported. -/
opaque miscorrects : Nat → Bool
/-- The level code of an event whose rule names no level (R337). -/
opaque eventLevel : Nat → Nat → BitVec 3
/-- The address of an event whose rule names no place (R337). -/
opaque eventAddr : Nat → Nat → BitVec 48
/-- DETAIL of an event whose rule says it carries a value and not which. -/
opaque eventDetail : Nat → Nat → BitVec 22

/-- HKDF-SHA-384 as the rules use it: 128 key bits of a label from a secret (R190, R302). -/
opaque hkdf : BitVec 384 → Nat → BitVec 128

/-- SHA-384 of a string of bytes (R231, R355, R366). -/
opaque sha384 : List Nat → BitVec 384
/-- An ECDSA P-384 signature with the device identity key of a digest; the second argument is the signature's nonce. -/
opaque sign : BitVec 384 → Nat → BitVec 768
/-- SHA-384 of the identity public key (Table MTR-7). -/
opaque keyDigest : BitVec 384

/-- The endpoint UUID of the package (R368). -/
opaque endpointUuid : BitVec 128
/-- SHA-384 of the Grotto ROM (R371). -/
opaque romDigest : BitVec 384
/-- The device identity certificate chain of slot 0, and its length less 1 (R371). -/
opaque certificate : Nat → BitVec 8
opaque certLength : BitVec 16
/-- Rosras' JEDEC manufacturer identity (R420), and the lengths of the boundary register by tier count (R421) and of the wrapper
registers by DIE_CFG (R423), which the BSDL gives. -/
opaque jedecMfr : BitVec 11
opaque boundaryLength : Nat → Nat
opaque wrapperLength : BitVec 16 → Nat
/-- A word of the Grotto ROM (Table DBG-4). -/
opaque romWord : Nat → Word
/-- A register of a hart, by its number, as the firmware left it at a halt (R429). -/
opaque hartReg : Nat → Nat → Word

end Sys2Proof.Config
end

