-- ==== Sys2Proof/Machine/Sparse.lean ====
section
/-! DEFINITION. Reading and writing sparse maps in their canonical form, and the bit helpers of the register words. -/

namespace Sys2Proof

/-- The value at key `k`; an unlisted key reads as `d k`. -/
def Sparse.get {β : Type} (d : Nat → β) : Sparse β → Nat → β
  | [], k => d k
  | (a, b) :: m, k => if a = k then b else Sparse.get d m k

/-- The map without key `k`. -/
def Sparse.erase {β : Type} : Sparse β → Nat → Sparse β
  | [], _ => []
  | (a, b) :: m, k => if a = k then Sparse.erase m k else (a, b) :: Sparse.erase m k

/-- Insertion before the first greater key. -/
def Sparse.insert {β : Type} : Sparse β → Nat → β → Sparse β
  | [], k, v => [(k, v)]
  | (a, b) :: m, k, v => if k < a then (k, v) :: (a, b) :: m else (a, b) :: Sparse.insert m k v

/-- Writing `v` at `k`; writing what an unlisted key reads as removes the entry. -/
def Sparse.set {β : Type} [DecidableEq β] (d : Nat → β) (m : Sparse β) (k : Nat) (v : β) : Sparse β :=
  if v = d k then Sparse.erase m k else Sparse.insert (Sparse.erase m k) k v

/-- Every listed value changed by `f`; what becomes the default is removed. -/
def Sparse.mapVals {β : Type} [DecidableEq β] (d : Nat → β) (f : Nat → β → β) (m : Sparse β) : Sparse β :=
  (m.map (fun e => (e.1, f e.1 e.2))).filter (fun e => decide (e.2 ≠ d e.1))

/-- The listed keys that `p` selects, and no other. -/
def Sparse.keep {β : Type} (p : Nat → Bool) (m : Sparse β) : Sparse β := m.filter (fun e => p e.1)

/-- The canonical form. -/
def Sparse.wf {β : Type} [DecidableEq β] (d : Nat → β) : Sparse β → Bool
  | [] => true
  | [(a, b)] => decide (b ≠ d a)
  | (a, b) :: (a', b') :: m => decide (a < a') && decide (b ≠ d a) && Sparse.wf d ((a', b') :: m)

/-- Bit `i` of a natural number. -/
def bitAt (n i : Nat) : Bool := n / 2 ^ i % 2 = 1

/-- Bits `hi .. lo` of a natural number. -/
def bitsAt (n hi lo : Nat) : Nat := n / 2 ^ lo % 2 ^ (hi + 1 - lo)

/-- A Boolean as a bit. -/
def ofBool (b : Bool) : Nat := if b then 1 else 0

/-- `n` with bit `i` set to `b`. -/
def setBit (n i : Nat) (b : Bool) : Nat :=
  if bitAt n i = b then n else if b then n + 2 ^ i else n - 2 ^ i

/-- `n` with bits `hi .. lo` replaced by `v`. -/
def setBits (n hi lo v : Nat) : Nat :=
  n / 2 ^ (hi + 1) * 2 ^ (hi + 1) + v % 2 ^ (hi + 1 - lo) * 2 ^ lo + n % 2 ^ lo

/-- Saturating addition at `max`. -/
def satAdd (max a b : Nat) : Nat := min max (a + b)

/-- The list `0 .. n-1`. -/
def upto (n : Nat) : List Nat := List.range n

/-- Apply `f` to the state for each element in order. -/
def forEach {α σ : Type} (l : List α) (f : α → σ → σ) (s : σ) : σ := l.foldl (fun t a => f a t) s

end Sys2Proof
end

