-- ==== Sys2Proof/Machine/RegMap.lean ====
section
/-! DEFINITION. The set-up register map (chapter 22, R470-R479): every register of stepping B0 with the access masks
and reset value of its defining table, and the named fields of those tables. -/

namespace Sys2Proof.Machine

/-- A register or a family of like registers. `tier`: it lies in a tier block, at T(t) + base; instances repeat `count`
times at `step`; array elements repeat `n` times at `stride`; `wide`: 64 bits (R12). The masks give the bits of each
access type of Table DOC-3; a bit in no mask is RO or reserved. -/
structure RegRow where
  tier : Bool
  base : Nat
  count : Nat
  step : Nat
  off : Nat
  n : Nat
  stride : Nat
  wide : Bool
  rw : DWord
  rwl : DWord
  w1c : DWord
  w1s : DWord
  wo : DWord
  reset : DWord
deriving DecidableEq, Repr

/-- A field of a register: offset in its block or block copy, highest and lowest bit. -/
structure Fld where
  off : Nat
  hi : Nat
  lo : Nat
deriving DecidableEq, Repr

/-- The registers of the HPT block (R479). -/
def regRowsHPT : List RegRow := [
  ⟨true, 0x0, 12, 0x1000, 0x0, 1, 0x4, false, 0x1, 0x3F8, 0x0, 0x0, 0x0, 0xA9⟩,  -- HPT_PORT_CFG
  ⟨true, 0x0, 12, 0x1000, 0x4, 1, 0x4, false, 0x1F0, 0x0, 0x0, 0x0, 0x1, 0xA0⟩,  -- HPT_LINK_CTL
  ⟨true, 0x0, 12, 0x1000, 0x8, 1, 0x4, false, 0x0, 0x0, 0x0, 0x0, 0x0, 0x0⟩,  -- HPT_LINK_STATUS
  ⟨true, 0x0, 12, 0x1000, 0xC, 1, 0x4, false, 0x0, 0x0, 0x3F, 0x0, 0x0, 0x0⟩,  -- HPT_ERR_STATUS
  ⟨true, 0x0, 12, 0x1000, 0x10, 1, 0x4, false, 0x1F, 0x0, 0x0, 0x0, 0x0, 0x0⟩,  -- HPT_LOOP_CTL
  ⟨true, 0x0, 12, 0x1000, 0x14, 1, 0x4, false, 0x0, 0x0, 0x0, 0x0, 0x0, 0x0⟩,  -- HPT_LOOP_ERR
  ⟨true, 0x0, 12, 0x1000, 0x18, 1, 0x4, false, 0x0, 0xFF, 0x0, 0x0, 0x0, 0x1E⟩  -- HPT_DC_CFG
]

/-- The registers of the BSN block (R479). -/
def regRowsBSN : List RegRow := [
  ⟨true, 0x30000, 16, 0x400, 0x0, 1, 0x4, false, 0x0, 0x0, 0x0, 0x0, 0x0, 0x43⟩,  -- BSN_SLICE_STATUS
  ⟨true, 0x30000, 16, 0x400, 0x4, 1, 0x4, false, 0x0, 0x0, 0x0, 0x0, 0x1, 0x0⟩,  -- BSN_SLICE_CTL
  ⟨true, 0x30000, 1, 0x400, 0x200, 1, 0x4, false, 0xFFFFF00C, 0x30, 0x0, 0x0, 0x0, 0x200A6014⟩,  -- BSN_TIER_CFG
  ⟨true, 0x30000, 16, 0x400, 0x40, 8, 0x4, false, 0x0, 0x0, 0x0, 0x0, 0x0, 0x0⟩,  -- BSN_HOPh
  ⟨true, 0x30000, 1, 0x400, 0x260, 1, 0x4, false, 0xFFFF00, 0xFF, 0x0, 0x0, 0x80000000, 0x181C14⟩,  -- BSN_FST_CFG
  ⟨true, 0x30000, 1, 0x400, 0x264, 1, 0x4, false, 0x0, 0x0, 0x0, 0x0, 0x0, 0x0⟩,  -- BSN_FST_STATUS
  ⟨true, 0x30000, 1, 0x400, 0x270, 1, 0x4, false, 0xFFFF00FF, 0xFF00, 0x0, 0x0, 0x0, 0x400104⟩,  -- BSN_REPAIR_CFG
  ⟨true, 0x30000, 1, 0x400, 0x274, 1, 0x4, false, 0x0, 0x0, 0x3FF, 0x0, 0x0, 0x0⟩,  -- BSN_REPAIR_STATUS
  ⟨true, 0x30000, 16, 0x400, 0x8, 1, 0x4, true, 0x0, 0x0, 0x0, 0x0, 0x0, 0x0⟩,  -- BSN_HIT
  ⟨true, 0x30000, 16, 0x400, 0x10, 1, 0x4, true, 0x0, 0x0, 0x0, 0x0, 0x0, 0x0⟩,  -- BSN_MISS
  ⟨true, 0x30000, 16, 0x400, 0x18, 1, 0x4, true, 0x0, 0x0, 0x0, 0x0, 0x0, 0x0⟩,  -- BSN_DIRTY_EVICT
  ⟨true, 0x30000, 16, 0x400, 0x20, 1, 0x4, true, 0x0, 0x0, 0x0, 0x0, 0x0, 0x0⟩,  -- BSN_TAGENT_ERR
  ⟨true, 0x30000, 16, 0x400, 0x28, 1, 0x4, true, 0x0, 0x0, 0x0, 0x0, 0x0, 0x0⟩,  -- BSN_TAGENT_LOST
  ⟨true, 0x30000, 16, 0x400, 0x30, 1, 0x4, true, 0x0, 0x0, 0x0, 0x0, 0x0, 0x0⟩,  -- BSN_HEAT_DROP
  ⟨true, 0x30000, 1, 0x400, 0x210, 8, 0x4, false, 0x0, 0x0, 0x0, 0x0, 0x0, 0x0⟩,  -- BSN_SLICE_MAPk (reset by regReset)
  ⟨true, 0x30000, 1, 0x400, 0x240, 8, 0x4, false, 0xFFFFFFFF, 0x0, 0x0, 0x0, 0x0, 0x0⟩,  -- BSN_INSERTk
  ⟨true, 0x30000, 1, 0x400, 0x268, 1, 0x4, true, 0x0, 0x0, 0x0, 0x0, 0x0, 0x0⟩,  -- BSN_FST_LAST
  ⟨true, 0x30000, 1, 0x400, 0x278, 1, 0x4, false, 0x0, 0x0, 0x0, 0x0, 0x0, 0x0⟩,  -- BSN_SPARE_EXT
  ⟨true, 0x30000, 1, 0x400, 0x27C, 1, 0x4, false, 0x0, 0x0, 0x0, 0x0, 0x0, 0x0⟩,  -- BSN_FUSE_USE
  ⟨true, 0x30000, 1, 0x400, 0x280, 1, 0x4, true, 0x0, 0x0, 0x0, 0x0, 0x0, 0x0⟩,  -- BSN_COIL_REPAIRS
  ⟨true, 0x30000, 1, 0x400, 0x288, 1, 0x4, true, 0x0, 0x0, 0x0, 0x0, 0x0, 0x0⟩,  -- BSN_ROW_REPAIRS
  ⟨true, 0x30000, 1, 0x400, 0x290, 1, 0x4, true, 0x0, 0x0, 0x0, 0x0, 0x0, 0x0⟩,  -- BSN_EXT_REMAPS
  ⟨true, 0x30000, 1, 0x400, 0x298, 1, 0x4, true, 0x0, 0x0, 0x0, 0x0, 0x0, 0x0⟩,  -- BSN_LOST_DIRTY
  ⟨true, 0x30000, 1, 0x400, 0x2A0, 1, 0x4, false, 0xFFFF0000, 0x0, 0x0, 0x0, 0x0, 0x190AFFFF⟩  -- BSN_BOND_MON
]

/-- The registers of the DRC block (R479). -/
def regRowsDRC : List RegRow := [
  ⟨true, 0x20000, 4, 0x4000, 0x0, 1, 0x4, false, 0x30, 0xC4, 0x0, 0x0, 0x0, 0x34⟩,  -- DRC_CH_CFG
  ⟨true, 0x20000, 4, 0x4000, 0x4, 1, 0x4, false, 0xFFFF1FFF, 0x0, 0x0, 0x0, 0x0, 0x3E80100⟩,  -- DRC_LP_TIMER
  ⟨true, 0x20000, 4, 0x4000, 0x8, 1, 0x4, false, 0xFFFFFF, 0xFF000000, 0x0, 0x0, 0x0, 0xC028C42A⟩,  -- DRC_SCHED
  ⟨true, 0x20000, 4, 0x4000, 0xC, 1, 0x4, false, 0x0, 0x0, 0x0, 0x0, 0x0, 0x40⟩,  -- DRC_OP_STATUS
  ⟨true, 0x20000, 4, 0x4000, 0x10, 1, 0x4, false, 0x0, 0x0, 0x0, 0x0, 0x0, 0x0⟩,  -- DRC_RANK_STATUS
  ⟨true, 0x20000, 4, 0x4000, 0x14, 1, 0x4, false, 0xFFFFF000, 0xFFF, 0x0, 0x0, 0x0, 0x44028080⟩,  -- DRC_HAMMER
  ⟨true, 0x20000, 4, 0x4000, 0x18, 1, 0x4, false, 0x0, 0x0, 0x0, 0x0, 0x0, 0x0⟩,  -- DRC_HAMMER_LAST
  ⟨true, 0x20000, 4, 0x4000, 0x1C, 1, 0x4, false, 0xFFFFFFFF, 0x0, 0x0, 0x0, 0x0, 0x2580A03⟩,  -- DRC_RETRAIN
  ⟨true, 0x20000, 4, 0x4000, 0x20, 1, 0x4, false, 0x0, 0x0, 0x0, 0x0, 0x0, 0x0⟩,  -- DRC_DELIV
  ⟨true, 0x20000, 4, 0x4000, 0x24, 1, 0x4, false, 0x0, 0x0, 0x7F, 0x0, 0x0, 0x0⟩,  -- DRC_ERR_STATUS
  ⟨true, 0x20000, 4, 0x4000, 0x40, 1, 0x4, true, 0x0, 0x0, 0x0, 0x0, 0x0, 0x0⟩,  -- DRC_CA_REPLAY
  ⟨true, 0x20000, 4, 0x4000, 0x48, 1, 0x4, true, 0x0, 0x0, 0x0, 0x0, 0x0, 0x0⟩,  -- DRC_CA_RETRAIN
  ⟨true, 0x20000, 4, 0x4000, 0x50, 1, 0x4, true, 0x0, 0x0, 0x0, 0x0, 0x0, 0x0⟩,  -- DRC_RFM
  ⟨true, 0x20000, 4, 0x4000, 0x58, 1, 0x4, true, 0x0, 0x0, 0x0, 0x0, 0x0, 0x0⟩,  -- DRC_HAMMER_EVT
  ⟨true, 0x20000, 4, 0x4000, 0x60, 1, 0x4, true, 0x0, 0x0, 0x0, 0x0, 0x0, 0x0⟩,  -- DRC_PPR
  ⟨true, 0x20000, 4, 0x4000, 0x68, 1, 0x4, true, 0x0, 0x0, 0x0, 0x0, 0x0, 0x0⟩,  -- DRC_LOST_LINES
  ⟨true, 0x20000, 4, 0x4000, 0x100, 4, 0x10, false, 0x0, 0xFFFFFFFF, 0x0, 0x0, 0x0, 0x0⟩,  -- DRC_OPTABp word 0 (reset by regReset)
  ⟨true, 0x20000, 4, 0x4000, 0x104, 4, 0x10, false, 0x0, 0xFFFFFFFF, 0x0, 0x0, 0x0, 0x0⟩,  -- DRC_OPTABp word 1 (reset by regReset)
  ⟨true, 0x20000, 4, 0x4000, 0x108, 4, 0x10, false, 0x0, 0xFFFFFFFF, 0x0, 0x0, 0x0, 0x0⟩,  -- DRC_OPTABp word 2 (reset by regReset)
  ⟨true, 0x20000, 4, 0x4000, 0x10C, 4, 0x10, false, 0x0, 0xFFFF, 0x0, 0x0, 0x0, 0x0⟩,  -- DRC_OPTABp word 3 (reset by regReset)
  ⟨true, 0x20000, 4, 0x4000, 0x200, 1, 0x4, false, 0x0, 0x0, 0x0, 0x0, 0x0, 0x0⟩,  -- DRC_TIM_ACT word 0 (reset by regReset)
  ⟨true, 0x20000, 4, 0x4000, 0x210, 1, 0x4, false, 0x0, 0x0, 0x0, 0x0, 0x0, 0x0⟩,  -- DRC_TIM_SHD word 0 (reset by regReset)
  ⟨true, 0x20000, 4, 0x4000, 0x204, 1, 0x4, false, 0x0, 0x0, 0x0, 0x0, 0x0, 0x0⟩,  -- DRC_TIM_ACT word 1 (reset by regReset)
  ⟨true, 0x20000, 4, 0x4000, 0x214, 1, 0x4, false, 0x0, 0x0, 0x0, 0x0, 0x0, 0x0⟩,  -- DRC_TIM_SHD word 1 (reset by regReset)
  ⟨true, 0x20000, 4, 0x4000, 0x208, 1, 0x4, false, 0x0, 0x0, 0x0, 0x0, 0x0, 0x0⟩,  -- DRC_TIM_ACT word 2 (reset by regReset)
  ⟨true, 0x20000, 4, 0x4000, 0x218, 1, 0x4, false, 0x0, 0x0, 0x0, 0x0, 0x0, 0x0⟩,  -- DRC_TIM_SHD word 2 (reset by regReset)
  ⟨true, 0x20000, 4, 0x4000, 0x20C, 1, 0x4, false, 0x0, 0x0, 0x0, 0x0, 0x0, 0x0⟩,  -- DRC_TIM_ACT word 3 (reset by regReset)
  ⟨true, 0x20000, 4, 0x4000, 0x21C, 1, 0x4, false, 0x0, 0x0, 0x0, 0x0, 0x0, 0x0⟩  -- DRC_TIM_SHD word 3 (reset by regReset)
]

/-- The registers of the ECC block (R479). -/
def regRowsECC : List RegRow := [
  ⟨true, 0x40000, 1, 0x4000, 0x0, 1, 0x4, false, 0xFFFFFFFF, 0x0, 0x0, 0x0, 0x0, 0x1003C10⟩,  -- ECC_CFG
  ⟨true, 0x40000, 1, 0x4000, 0x4, 1, 0x4, false, 0x0, 0x7FF, 0x0, 0x0, 0x0, 0x0⟩,  -- ECC_INJ_CTL
  ⟨true, 0x40000, 1, 0x4000, 0x8, 1, 0x4, false, 0x0, 0xFFFFFFFF, 0x0, 0x0, 0x0, 0x0⟩,  -- ECC_INJ_MASK
  ⟨true, 0x40000, 1, 0x4000, 0xC, 1, 0x4, false, 0x0, 0x0, 0x1F, 0x0, 0x0, 0x0⟩,  -- ECC_STATUS
  ⟨true, 0x40000, 1, 0x4000, 0x18, 1, 0x4, false, 0x0, 0x0, 0x0, 0x0, 0x0, 0x0⟩,  -- ECC_PLIST
  ⟨true, 0x40000, 1, 0x4000, 0x10, 1, 0x4, false, 0x0, 0x0, 0x0, 0x0, 0x0, 0x0⟩,  -- ECC_ST_FAIL0
  ⟨true, 0x40000, 1, 0x4000, 0x14, 1, 0x4, false, 0x0, 0x0, 0x0, 0x0, 0x0, 0x0⟩,  -- ECC_ST_FAIL1
  ⟨true, 0x40000, 1, 0x4000, 0x20, 1, 0x4, true, 0x0, 0x0, 0x0, 0x0, 0x0, 0x0⟩,  -- ECC_LAST_UE
  ⟨true, 0x40000, 1, 0x4000, 0x28, 1, 0x4, true, 0x0, 0x0, 0x0, 0x0, 0x0, 0x0⟩,  -- ECC_LAST_CE
  ⟨true, 0x40000, 1, 0x4000, 0x400, 64, 0x10, true, 0x0, 0x0, 0x0, 0x0, 0x0, 0x0⟩,  -- ECC_CE_CNTn
  ⟨true, 0x40000, 1, 0x4000, 0x408, 64, 0x10, true, 0x0, 0x0, 0x0, 0x0, 0x0, 0x0⟩  -- ECC_UE_CNTn
]

/-- The registers of the SCR block (R479). -/
def regRowsSCR : List RegRow := [
  ⟨true, 0x44000, 1, 0xC000, 0x0, 1, 0x4, false, 0x0, 0x1, 0x0, 0x0, 0x0, 0x1⟩,  -- SCR_TIER_CFG
  ⟨true, 0x44000, 1, 0xC000, 0x4, 1, 0x4, false, 0x0, 0x0, 0xF, 0x0, 0x0, 0x0⟩,  -- SCR_STATUS
  ⟨true, 0x44000, 1, 0xC000, 0x8, 1, 0x4, false, 0x0, 0x0, 0x0, 0x0, 0x0, 0x0⟩,  -- SCR_TAG_BASE
  ⟨true, 0x44000, 1, 0xC000, 0xC, 1, 0x4, false, 0x0, 0x0, 0x0, 0x0, 0x0, 0x0⟩,  -- SCR_KEYS_LIVE
  ⟨true, 0x44000, 1, 0xC000, 0x40, 1, 0x4, true, 0x0, 0x0, 0x0, 0x0, 0x0, 0x0⟩,  -- SCR_TAGC_HIT
  ⟨true, 0x44000, 1, 0xC000, 0x48, 1, 0x4, true, 0x0, 0x0, 0x0, 0x0, 0x0, 0x0⟩,  -- SCR_TAGC_MISS
  ⟨true, 0x44000, 1, 0xC000, 0x50, 1, 0x4, true, 0x0, 0x0, 0x0, 0x0, 0x0, 0x0⟩,  -- SCR_TAG_CHECKS
  ⟨true, 0x44000, 1, 0xC000, 0x58, 1, 0x4, true, 0x0, 0x0, 0x0, 0x0, 0x0, 0x0⟩  -- SCR_TAG_POISONED
]

/-- The registers of the JET block (R479). -/
def regRowsJET : List RegRow := [
  ⟨true, 0x50000, 1, 0x10000, 0x0, 1, 0x4, false, 0x8000FFFF, 0x0, 0x0, 0x0, 0x0, 0x32⟩,  -- JET_TIER_CFG
  ⟨true, 0x50000, 1, 0x10000, 0x4, 1, 0x4, false, 0x0, 0x0, 0x0, 0x0, 0x0, 0x0⟩,  -- JET_STATUS
  ⟨true, 0x50000, 1, 0x10000, 0x8, 1, 0x4, false, 0x0, 0x0, 0x0, 0x0, 0x0, 0x0⟩,  -- JET_QUEUE
  ⟨true, 0x50000, 1, 0x10000, 0x100, 1, 0x4, false, 0x3C7F, 0x0, 0x0, 0x0, 0x0, 0x3020⟩,  -- JET_CVU_CFG
  ⟨true, 0x50000, 1, 0x10000, 0xC, 1, 0x4, false, 0x0, 0x0, 0x7, 0x0, 0x0, 0x0⟩,  -- JET_ERR_STATUS
  ⟨true, 0x50000, 1, 0x10000, 0x10, 1, 0x4, false, 0x0, 0x0, 0x0, 0x0, 0x0, 0x0⟩,  -- JET_FW_VER
  ⟨true, 0x50000, 1, 0x10000, 0x40, 1, 0x4, true, 0x0, 0x0, 0x0, 0x0, 0x0, 0x0⟩,  -- JET_PIECES_DONE
  ⟨true, 0x50000, 1, 0x10000, 0x48, 1, 0x4, true, 0x0, 0x0, 0x0, 0x0, 0x0, 0x0⟩,  -- JET_WDOG_CNT
  ⟨true, 0x50000, 1, 0x10000, 0x50, 1, 0x4, true, 0x0, 0x0, 0x0, 0x0, 0x0, 0x0⟩,  -- JET_BYTES_MOVED
  ⟨true, 0x50000, 1, 0x10000, 0x108, 1, 0x4, true, 0xFFFFFFFFFFFFFFFF, 0x0, 0x0, 0x0, 0x0, 0x0⟩,  -- JET_CVU_POLY
  ⟨true, 0x50000, 1, 0x10000, 0x110, 1, 0x4, true, 0xFFFFFFFFFFFFFFFF, 0x0, 0x0, 0x0, 0x0, 0x0⟩,  -- JET_CVU_XOROUT
  ⟨true, 0x50000, 1, 0x10000, 0x118, 1, 0x4, true, 0xFFFFFFFFFFFFFFFF, 0x0, 0x0, 0x0, 0x0, 0x0⟩,  -- JET_CVU_VAL
  ⟨true, 0x50000, 1, 0x10000, 0x120, 1, 0x4, true, 0x0, 0x0, 0x0, 0x0, 0x0, 0x0⟩,  -- JET_CVU_FINAL
  ⟨true, 0x50000, 1, 0x10000, 0x128, 1, 0x4, false, 0x0, 0x0, 0x0, 0x0, 0xFFFFFFFF, 0x0⟩  -- JET_CVU_DATA
]

/-- The registers of the GLB block (R479). -/
def regRowsGLB : List RegRow := [
  ⟨false, 0x0, 1, 0x8000, 0x100, 1, 0x4, false, 0xFF0000, 0x0, 0x0, 0x0, 0xFF000703, 0xA0000⟩,  -- GLB_RESET_CTL
  ⟨false, 0x0, 1, 0x8000, 0x104, 1, 0x4, false, 0x0, 0x0, 0x0, 0x0, 0x0, 0x0⟩,  -- GLB_RESET_CAUSE
  ⟨false, 0x0, 1, 0x8000, 0x0, 1, 0x4, false, 0x0, 0x0, 0x0, 0x0, 0x0, 0x2D8BD808⟩,  -- GLB_ID
  ⟨false, 0x0, 1, 0x8000, 0x4, 1, 0x4, false, 0x0, 0x0, 0x0, 0x0, 0x0, 0x1⟩,  -- GLB_REV
  ⟨false, 0x0, 1, 0x8000, 0x8, 1, 0x4, false, 0x0, 0x0, 0x0, 0x0, 0x0, 0x800⟩,  -- GLB_CAP
  ⟨false, 0x0, 1, 0x8000, 0xC, 1, 0x4, false, 0x0, 0x0, 0x0, 0x0, 0x0, 0x943FFE00⟩,  -- GLB_CAP2
  ⟨false, 0x0, 1, 0x8000, 0x10, 1, 0x4, false, 0x0, 0x0, 0x0, 0x1, 0x0, 0x0⟩,  -- GLB_SETUP_LOCK
  ⟨false, 0x0, 1, 0x8000, 0x14, 1, 0x4, false, 0x0, 0x0, 0x0, 0x0, 0x0, 0x0⟩,  -- GLB_STATUS
  ⟨false, 0x0, 1, 0x8000, 0x18, 1, 0x4, false, 0xFFFFFFFF, 0x0, 0x0, 0x0, 0x0, 0x0⟩  -- GLB_SCRATCH
]

/-- The registers of the MGT block (R479). -/
def regRowsMGT : List RegRow := [
  ⟨false, 0x8000, 1, 0x8000, 0x0, 1, 0x4, false, 0x0, 0x0, 0x0, 0x0, 0x0, 0x0⟩,  -- MGT_STATUS
  ⟨false, 0x8000, 1, 0x8000, 0x4, 1, 0x4, false, 0x0, 0x0, 0x0, 0x0, 0x0, 0x0⟩,  -- MGT_FW_VER
  ⟨false, 0x8000, 1, 0x8000, 0xC, 1, 0x4, false, 0x0, 0x0, 0x0, 0x0, 0x0, 0x0⟩,  -- MGT_FLASH_STATUS
  ⟨false, 0x8000, 1, 0x8000, 0x10, 1, 0x4, false, 0x0, 0x0, 0x3F, 0x0, 0x0, 0x0⟩,  -- MGT_ERR_STATUS
  ⟨false, 0x8000, 1, 0x8000, 0x14, 1, 0x4, false, 0x0, 0x0, 0x0, 0x0, 0x1, 0x0⟩,  -- MGT_CTL
  ⟨false, 0x8000, 1, 0x8000, 0x18, 1, 0x4, false, 0x0, 0x7F, 0x0, 0x0, 0x0, 0x3A⟩,  -- MGT_MCTP_CFG
  ⟨false, 0x8000, 1, 0x8000, 0x8, 1, 0x4, false, 0x0, 0x0, 0x0, 0x0, 0x0, 0x0⟩,  -- MGT_FW_VERSION
  ⟨false, 0x8000, 1, 0x8000, 0x40, 1, 0x4, true, 0x0, 0x0, 0x0, 0x0, 0x0, 0x0⟩,  -- MGT_RESET_CNT
  ⟨false, 0x8000, 1, 0x8000, 0x48, 1, 0x4, true, 0x0, 0x0, 0x0, 0x0, 0x0, 0x0⟩,  -- MGT_LOG_ENTRIES
  ⟨false, 0x8000, 1, 0x8000, 0x50, 1, 0x4, true, 0x0, 0x0, 0x0, 0x0, 0x0, 0x0⟩  -- MGT_ERASES
]

/-- The registers of the OTP block (R479). -/
def regRowsOTP : List RegRow := [
  ⟨false, 0x10000, 1, 0x10000, 0x0, 1, 0x4, false, 0x0, 0x0, 0x0, 0x0, 0x0, 0x0⟩,  -- OTP_LC
  ⟨false, 0x10000, 1, 0x10000, 0x4, 1, 0x4, false, 0x0, 0x0, 0x0, 0x0, 0x0, 0x0⟩,  -- OTP_FEATURE
  ⟨false, 0x10000, 1, 0x10000, 0x18, 1, 0x4, false, 0x0, 0x0, 0x0, 0x0, 0x0, 0x0⟩,  -- OTP_SLOTS
  ⟨false, 0x10000, 1, 0x10000, 0x1C, 1, 0x4, false, 0x0, 0x0, 0x0, 0x0, 0x0, 0x0⟩,  -- OTP_DEBUG
  ⟨false, 0x10000, 1, 0x10000, 0x100, 1, 0x4, false, 0x0, 0x303FF, 0x0, 0x0, 0x0, 0x0⟩,  -- OTP_PROG_ADDR
  ⟨false, 0x10000, 1, 0x10000, 0x114, 1, 0x4, false, 0x0, 0x0, 0x0, 0x0, 0x0, 0x0⟩,  -- OTP_PROG_RESULT
  ⟨false, 0x10000, 1, 0x10000, 0x8, 4, 0x4, false, 0x0, 0x0, 0x0, 0x0, 0x0, 0x0⟩,  -- OTP_PORT_EN
  ⟨false, 0x10000, 1, 0x10000, 0x108, 1, 0x4, true, 0x0, 0xFFFFFFFFFFFFFFFF, 0x0, 0x0, 0x0, 0x0⟩,  -- OTP_PROG_DATA
  ⟨false, 0x10000, 1, 0x10000, 0x110, 1, 0x4, false, 0x0, 0x0, 0x0, 0x0, 0x1, 0x0⟩,  -- OTP_PROG_CTL
  ⟨false, 0x10000, 1, 0x10000, 0x118, 1, 0x4, false, 0x3FF, 0x0, 0x0, 0x0, 0x0, 0x0⟩,  -- OTP_RD_ADDR
  ⟨false, 0x10000, 1, 0x10000, 0x11C, 1, 0x4, false, 0x0, 0x0, 0x0, 0x0, 0x0, 0x0⟩,  -- OTP_RD_STATUS
  ⟨false, 0x10000, 1, 0x10000, 0x120, 1, 0x4, true, 0x0, 0x0, 0x0, 0x0, 0x0, 0x0⟩,  -- OTP_RD_DATA
  ⟨false, 0x10000, 1, 0x10000, 0x128, 1, 0x4, false, 0x0, 0x0, 0x7, 0x0, 0x0, 0x0⟩  -- OTP_STATUS
]

/-- The registers of the PWR block (R479). -/
def regRowsPWR : List RegRow := [
  ⟨false, 0x20000, 1, 0x10000, 0x0, 1, 0x4, false, 0xFFFFFFFF, 0x0, 0x0, 0x0, 0x0, 0x64⟩,  -- PWR_CFG
  ⟨false, 0x20000, 1, 0x10000, 0x4, 1, 0x4, false, 0xFFFF, 0x0, 0x0, 0x0, 0x0, 0xFF⟩,  -- PWR_AUTO
  ⟨false, 0x20000, 1, 0x10000, 0x8, 1, 0x4, false, 0x703, 0x0, 0x0, 0x0, 0x80000000, 0x0⟩,  -- PWR_TIER_CTL
  ⟨false, 0x20000, 1, 0x10000, 0xC, 1, 0x4, false, 0x0, 0x0, 0x0, 0x0, 0x0, 0x0⟩,  -- PWR_STATE
  ⟨false, 0x20000, 1, 0x10000, 0x18, 1, 0x4, false, 0x0, 0x0, 0x1F, 0x0, 0x0, 0x0⟩,  -- PWR_STATUS
  ⟨false, 0x20000, 1, 0x10000, 0x10, 1, 0x4, false, 0x0, 0x0, 0x0, 0x0, 0x1, 0x0⟩,  -- PWR_PKG_CTL
  ⟨false, 0x20000, 1, 0x10000, 0x14, 1, 0x4, false, 0x3, 0x0, 0x0, 0x0, 0x0, 0x3⟩,  -- PWR_WAKE_CFG
  ⟨false, 0x20000, 1, 0x10000, 0x20, 1, 0x4, true, 0x0, 0x0, 0x0, 0x0, 0x0, 0x0⟩,  -- PWR_TIMEBASE
  ⟨false, 0x20000, 1, 0x10000, 0x28, 1, 0x4, false, 0x0, 0x0, 0x0, 0x0, 0x0, 0x0⟩,  -- PWR_TB_STATUS
  ⟨false, 0x20000, 1, 0x10000, 0x30, 1, 0x4, true, 0x0, 0x0, 0x0, 0x0, 0x0, 0x0⟩,  -- PWR_CLK_RUN
  ⟨false, 0x20000, 1, 0x10000, 0x38, 1, 0x4, false, 0x0, 0x0, 0x0, 0x0, 0x0, 0x0⟩,  -- PWR_PKG_POWER
  ⟨false, 0x20000, 1, 0x10000, 0x3C, 1, 0x4, false, 0x0, 0x0, 0x0, 0x0, 0x0, 0x0⟩,  -- PWR_LAST_WAKE
  ⟨false, 0x20000, 1, 0x10000, 0x40, 1, 0x4, true, 0x0, 0x0, 0x0, 0x0, 0x0, 0x0⟩,  -- PWR_T2_ENTRIES
  ⟨false, 0x20000, 1, 0x10000, 0x48, 1, 0x4, true, 0x0, 0x0, 0x0, 0x0, 0x0, 0x0⟩  -- PWR_WAKES
]

/-- The registers of the THM block (R479). -/
def regRowsTHM : List RegRow := [
  ⟨false, 0x30000, 1, 0x10000, 0x0, 1, 0x4, false, 0xFFFF0FFF, 0x0, 0x0, 0x0, 0x0, 0x5240000⟩,  -- THM_CFG
  ⟨false, 0x30000, 1, 0x10000, 0x4, 1, 0x4, false, 0x0, 0x0, 0x2F, 0x0, 0x0, 0x0⟩,  -- THM_STATUS
  ⟨false, 0x30000, 1, 0x10000, 0x8, 1, 0x4, false, 0x0, 0x0, 0x0, 0x0, 0x0, 0x0⟩,  -- THM_MAX
  ⟨false, 0x30000, 1, 0x10000, 0x10, 8, 0x4, false, 0x0, 0x0, 0x0, 0x0, 0x0, 0x444000⟩,  -- THM_ZONEt
  ⟨false, 0x30000, 1, 0x10000, 0x40, 16, 0x4, false, 0x0, 0x0, 0x0, 0x0, 0x0, 0x0⟩,  -- THM_SENSk
  ⟨false, 0x30000, 1, 0x10000, 0xC, 1, 0x4, false, 0x7, 0x0, 0x0, 0x0, 0x0, 0x0⟩  -- THM_SEL
]

/-- The registers of the FLT block (R479). -/
def regRowsFLT : List RegRow := [
  ⟨false, 0x40000, 1, 0x10000, 0x1000, 512, 0x4, false, 0x8007FFFF, 0xFC00000, 0x0, 0x0, 0x0, 0x1400400⟩,  -- FLT_SRC_CFGs
  ⟨false, 0x40000, 1, 0x10000, 0x2000, 512, 0x4, false, 0x0, 0x0, 0x80000000, 0x0, 0x0, 0x0⟩,  -- FLT_SRC_STATs
  ⟨false, 0x40000, 1, 0x10000, 0x0, 1, 0x4, false, 0xFFC007FF, 0x0, 0x0, 0x0, 0x0, 0x4CC00000⟩,  -- FLT_CFG
  ⟨false, 0x40000, 1, 0x10000, 0x4, 1, 0x4, false, 0x0, 0x0, 0x1C, 0x0, 0x0, 0x0⟩,  -- FLT_STATUS
  ⟨false, 0x40000, 1, 0x10000, 0x18, 1, 0x4, false, 0x0, 0x7E007FFF, 0x0, 0x0, 0x80000000, 0x0⟩,  -- FLT_INJECT
  ⟨false, 0x40000, 1, 0x10000, 0x8, 1, 0x4, false, 0x0, 0x0, 0x0, 0x0, 0x3, 0x0⟩,  -- FLT_CTL
  ⟨false, 0x40000, 1, 0x10000, 0xC, 1, 0x4, false, 0x0, 0x0, 0x0, 0x0, 0x0, 0x0⟩,  -- FLT_QUEUE
  ⟨false, 0x40000, 1, 0x10000, 0x10, 1, 0x4, false, 0x0, 0x0, 0x0, 0x0, 0x0, 0x0⟩,  -- FLT_NEXT_REC
  ⟨false, 0x40000, 1, 0x10000, 0x14, 1, 0x4, false, 0x0, 0x0, 0x0, 0x0, 0x0, 0x0⟩,  -- FLT_OLDEST_REC
  ⟨false, 0x40000, 1, 0x10000, 0x40, 1, 0x4, true, 0x0, 0x0, 0x0, 0x0, 0x0, 0x0⟩,  -- FLT_DROP_CNT
  ⟨false, 0x40000, 1, 0x10000, 0x48, 1, 0x4, true, 0x0, 0x0, 0x0, 0x0, 0x0, 0x0⟩,  -- FLT_STOP_CNT
  ⟨false, 0x40000, 1, 0x10000, 0x50, 1, 0x4, true, 0x0, 0x0, 0x0, 0x0, 0x0, 0x0⟩,  -- FLT_INPUT_LOST_CNT
  ⟨false, 0x40000, 1, 0x10000, 0x80, 16, 0x4, false, 0x0, 0x0, 0x0, 0x0, 0x0, 0x0⟩,  -- FLT_SUMMARYk
  ⟨false, 0x40000, 1, 0x10000, 0x100, 6, 0x4, false, 0x0, 0x0, 0x0, 0x0, 0x0, 0x0⟩,  -- FLT_PKG_FIRST
  ⟨false, 0x40000, 1, 0x10000, 0x118, 1, 0x4, false, 0x0, 0x0, 0x1, 0x0, 0x0, 0x0⟩,  -- FLT_PKG_FIRST_V
  ⟨true, 0x60000, 1, 0x10000, 0x0, 6, 0x4, false, 0x0, 0x0, 0x0, 0x0, 0x0, 0x0⟩,  -- FLT_TFIRST
  ⟨true, 0x60000, 1, 0x10000, 0x18, 1, 0x4, false, 0x0, 0x0, 0x1, 0x0, 0x0, 0x0⟩  -- FLT_TFIRST_V
]

/-- The registers of the SLU block (R479). -/
def regRowsSLU : List RegRow := [
  ⟨false, 0x50000, 1, 0x10000, 0x0, 1, 0x4, false, 0xFFFFFF80, 0x0, 0x0, 0x0, 0x0, 0x4C000000⟩,  -- SLU_ADMIN_CFG
  ⟨false, 0x50000, 1, 0x10000, 0x18, 1, 0x4, false, 0xFFFF, 0x0, 0x0, 0x0, 0x0, 0x0⟩,  -- SLU_RING_SEL
  ⟨false, 0x50000, 1, 0x10000, 0x20, 1, 0x4, false, 0x0, 0x0, 0x0, 0x0, 0x0, 0x800⟩,  -- SLU_RING_STATE
  ⟨false, 0x50000, 1, 0x10000, 0x404, 127, 0x4, false, 0x800007FF, 0x0, 0x0, 0x0, 0x0, 0x0⟩,  -- SLU_DB_GRANTp
  ⟨false, 0x50000, 1, 0x10000, 0x8, 1, 0x4, true, 0xFFFFFFFFFFFFF000, 0x0, 0x0, 0x0, 0x0, 0x0⟩,  -- SLU_ADMIN_DBASE
  ⟨false, 0x50000, 1, 0x10000, 0x10, 1, 0x4, true, 0xFFFFFFFFFFFFF000, 0x0, 0x0, 0x0, 0x0, 0x0⟩,  -- SLU_ADMIN_CBASE
  ⟨false, 0x50000, 1, 0x10000, 0x24, 1, 0x4, false, 0x0, 0x0, 0x0, 0x0, 0x0, 0x0⟩,  -- SLU_RING_IDX
  ⟨false, 0x50000, 1, 0x10000, 0x28, 1, 0x4, false, 0x0, 0x0, 0x0, 0x0, 0x0, 0x0⟩,  -- SLU_RING_CIDX
  ⟨false, 0x50000, 1, 0x10000, 0x2C, 1, 0x4, false, 0x0, 0x0, 0xF, 0x0, 0x0, 0x0⟩,  -- SLU_STATUS
  ⟨false, 0x50000, 1, 0x10000, 0x40, 1, 0x4, true, 0x0, 0x0, 0x0, 0x0, 0x0, 0x0⟩,  -- SLU_DESC_DONE
  ⟨false, 0x50000, 1, 0x10000, 0x48, 1, 0x4, true, 0x0, 0x0, 0x0, 0x0, 0x0, 0x0⟩,  -- SLU_CHECK_FAIL
  ⟨false, 0x50000, 1, 0x10000, 0x50, 1, 0x4, true, 0x0, 0x0, 0x0, 0x0, 0x0, 0x0⟩,  -- SLU_SEQ_FAIL
  ⟨false, 0x50000, 1, 0x10000, 0x58, 1, 0x4, true, 0x0, 0x0, 0x0, 0x0, 0x0, 0x0⟩  -- SLU_CPL_DROP
]

/-- The registers of the MTR block (R479). -/
def regRowsMTR : List RegRow := [
  ⟨false, 0x60000, 1, 0x10000, 0x0, 1, 0x4, false, 0x0, 0x0, 0x0, 0x0, 0x0, 0x3C52000⟩,  -- MTR_CFG
  ⟨false, 0x60000, 1, 0x10000, 0x4, 1, 0x4, false, 0x0, 0x0, 0x3E, 0x0, 0x0, 0x0⟩,  -- MTR_STATUS
  ⟨false, 0x60000, 1, 0x10000, 0x8, 1, 0x4, false, 0x0, 0x0, 0x0, 0x0, 0x0, 0x0⟩,  -- MTR_TICK
  ⟨false, 0x60000, 1, 0x10000, 0xC, 1, 0x4, false, 0x0, 0x0, 0x0, 0x0, 0x0, 0x0⟩,  -- MTR_OLDEST
  ⟨false, 0x60000, 1, 0x10000, 0x18, 1, 0x4, false, 0x0, 0x0, 0x0, 0x0, 0x0, 0x0⟩,  -- MTR_DEPTH
  ⟨false, 0x60000, 1, 0x10000, 0x1C, 1, 0x4, false, 0x0, 0x0, 0x0, 0x0, 0x0, 0x0⟩,  -- MTR_SEALED
  ⟨false, 0x60000, 1, 0x10000, 0x10, 1, 0x4, true, 0x0, 0x0, 0x0, 0x0, 0x0, 0x0⟩,  -- MTR_TICK_START
  ⟨false, 0x60000, 1, 0x10000, 0x40, 1, 0x4, true, 0x0, 0x0, 0x0, 0x0, 0x0, 0x0⟩,  -- MTR_GAP_CNT
  ⟨false, 0x60000, 1, 0x10000, 0x48, 1, 0x4, true, 0x0, 0x0, 0x0, 0x0, 0x0, 0x0⟩,  -- MTR_LEAF_STALL
  ⟨false, 0x60000, 1, 0x10000, 0x50, 1, 0x4, true, 0x0, 0x0, 0x0, 0x0, 0x0, 0x0⟩,  -- MTR_ROLL_LATE
  ⟨false, 0x60000, 1, 0x10000, 0x58, 1, 0x4, true, 0x0, 0x0, 0x0, 0x0, 0x0, 0x0⟩  -- MTR_UNSYNC_TICKS
]

/-- The registers of the WEIR block (R479). -/
def regRowsWEIR : List RegRow := [
  ⟨false, 0x70000, 1, 0x10000, 0x0, 1, 0x4, false, 0xFFFC07FF, 0x3F800, 0x0, 0x0, 0x0, 0x60428000⟩,  -- WEIR_GLB_CFG
  ⟨false, 0x70000, 1, 0x10000, 0x4, 1, 0x4, false, 0x3FF03FF, 0x0, 0x0, 0x0, 0x0, 0x1800100⟩,  -- WEIR_PRESS
  ⟨false, 0x70000, 1, 0x10000, 0x8, 1, 0x4, false, 0xFFFF07, 0x0, 0x0, 0x0, 0x0, 0x200401⟩,  -- WEIR_PORT_CFG
  ⟨false, 0x70000, 1, 0x10000, 0x28, 1, 0x4, false, 0x73, 0x0, 0x0, 0x0, 0x0, 0x0⟩,  -- WEIR_SEL
  ⟨false, 0x70000, 1, 0x10000, 0x10, 1, 0x4, true, 0x0, 0x0, 0xFFFFFFFFFFFFFFFF, 0x0, 0x0, 0x0⟩,  -- WEIR_MISS_STATUS
  ⟨false, 0x70000, 1, 0x10000, 0x18, 1, 0x4, true, 0xFFFFFFFFFFFFFFFF, 0x0, 0x0, 0x0, 0x0, 0xFFFFFFFFFFFFFFFF⟩,  -- WEIR_MISS_MASK
  ⟨false, 0x70000, 1, 0x10000, 0x20, 1, 0x4, true, 0x0, 0x0, 0x0, 0x0, 0x0, 0x0⟩,  -- WEIR_SCALED
  ⟨false, 0x70000, 1, 0x10000, 0x40, 8, 0x10, false, 0x0, 0x0, 0x0, 0x0, 0x0, 0x0⟩,  -- WEIR_GRP_DELIV
  ⟨false, 0x70000, 1, 0x10000, 0x44, 8, 0x10, false, 0x0, 0x0, 0x0, 0x0, 0x0, 0x0⟩,  -- WEIR_GRP_CEIL
  ⟨false, 0x70000, 1, 0x10000, 0x48, 8, 0x10, false, 0x0, 0x0, 0x0, 0x0, 0x0, 0x0⟩,  -- WEIR_GRP_COMMIT
  ⟨false, 0x70000, 1, 0x10000, 0x4C, 8, 0x10, false, 0x0, 0x0, 0x0, 0x0, 0x0, 0x80⟩,  -- WEIR_GRP_STATUS
  ⟨false, 0x70000, 1, 0x10000, 0x100, 32, 0x4, false, 0x0, 0x0, 0x0, 0x0, 0x0, 0x0⟩,  -- WEIR_LATk
  ⟨false, 0x70000, 1, 0x10000, 0x180, 8, 0x4, false, 0x0, 0x0, 0x0, 0x0, 0x0, 0x0⟩,  -- WEIR_STEPk
  ⟨false, 0x70000, 1, 0x10000, 0x1A0, 1, 0x4, true, 0x0, 0x0, 0x0, 0x0, 0x0, 0x0⟩,  -- WEIR_PRESS_CNT
  ⟨false, 0x70000, 1, 0x10000, 0x200, 32, 0x4, false, 0x0, 0x0, 0x0, 0x0, 0x0, 0x0⟩,  -- WEIR_EFFk
  ⟨false, 0x70000, 1, 0x10000, 0x1000, 256, 0x4, false, 0x0, 0x0, 0x0, 0x0, 0x0, 0x0⟩  -- WEIR_CLASSc
]

/-- The registers of the AQD block (R479). -/
def regRowsAQD : List RegRow := [
  ⟨false, 0x80000, 1, 0x10000, 0x0, 1, 0x4, false, 0xFFFFFF00, 0x0, 0x0, 0x0, 0x0, 0x13881400⟩,  -- AQD_CFG
  ⟨false, 0x80000, 1, 0x10000, 0x40, 16, 0x4, false, 0xC0000077, 0x0, 0x0, 0x0, 0x0, 0x0⟩,  -- AQD_ROUTEd
  ⟨false, 0x80100, 8, 0x40, 0x0, 1, 0x4, false, 0x0, 0x0, 0x0, 0x0, 0x0, 0x0⟩,  -- AQD_STATUSa
  ⟨false, 0x80100, 8, 0x40, 0x4, 1, 0x4, false, 0x0, 0x0, 0x7, 0x0, 0x0, 0x0⟩,  -- AQD_ERRa
  ⟨false, 0x80100, 8, 0x40, 0x10, 1, 0x4, true, 0x0, 0x0, 0x0, 0x0, 0x0, 0x0⟩,  -- AQD_FLIT_TX
  ⟨false, 0x80100, 8, 0x40, 0x18, 1, 0x4, true, 0x0, 0x0, 0x0, 0x0, 0x0, 0x0⟩,  -- AQD_FLIT_RX
  ⟨false, 0x80100, 8, 0x40, 0x20, 1, 0x4, true, 0x0, 0x0, 0x0, 0x0, 0x0, 0x0⟩,  -- AQD_REPLAY
  ⟨false, 0x80100, 8, 0x40, 0x28, 1, 0x4, true, 0x0, 0x0, 0x0, 0x0, 0x0, 0x0⟩  -- AQD_RETRAIN
]

/-- The registers of the RIL block (R479). -/
def regRowsRIL : List RegRow := [
  ⟨false, 0x90000, 1, 0x10000, 0x0, 1, 0x4, false, 0xF000003, 0x0, 0x0, 0x0, 0x80000000, 0x3⟩,  -- RIL_POOL_CFG
  ⟨false, 0x90000, 1, 0x10000, 0x8, 1, 0x4, false, 0x0, 0x0, 0x0, 0x0, 0x0, 0x0⟩,  -- RIL_STATUS
  ⟨false, 0x90000, 1, 0x10000, 0xC, 1, 0x4, false, 0xFFFFFFFF, 0x0, 0x0, 0x0, 0x0, 0x64000A⟩,  -- RIL_HB
  ⟨false, 0x90000, 1, 0x10000, 0x20, 1, 0x4, false, 0x5F, 0x0, 0x0, 0x0, 0x0, 0x0⟩,  -- RIL_LOOP_CTL
  ⟨false, 0x90000, 1, 0x10000, 0x4, 1, 0x4, false, 0xFFFFFFFF, 0x0, 0x0, 0x0, 0x0, 0x0⟩,  -- RIL_POOL_ID
  ⟨false, 0x90000, 1, 0x10000, 0x10, 1, 0x4, false, 0x0, 0x0, 0x0, 0x0, 0x0, 0x0⟩,  -- RIL_MEMBERS
  ⟨false, 0x90000, 1, 0x10000, 0x14, 1, 0x4, false, 0x0, 0x0, 0x0, 0x0, 0x0, 0x0⟩,  -- RIL_DIST
  ⟨false, 0x90000, 1, 0x10000, 0x18, 1, 0x4, false, 0x0, 0x0, 0x3F, 0x0, 0x0, 0x0⟩,  -- RIL_ERR
  ⟨false, 0x90000, 1, 0x10000, 0x1C, 1, 0x4, false, 0x0, 0x0, 0x0, 0x0, 0x0, 0x0⟩,  -- RIL_LEASES
  ⟨false, 0x90000, 1, 0x10000, 0x24, 1, 0x4, false, 0x0, 0x0, 0x0, 0x0, 0x0, 0x0⟩,  -- RIL_LOOP_ERR
  ⟨false, 0x90000, 1, 0x10000, 0x40, 1, 0x4, true, 0x0, 0x0, 0x0, 0x0, 0x0, 0x0⟩,  -- RIL_FRAME_TX
  ⟨false, 0x90000, 1, 0x10000, 0x48, 1, 0x4, true, 0x0, 0x0, 0x0, 0x0, 0x0, 0x0⟩,  -- RIL_FRAME_RX
  ⟨false, 0x90000, 1, 0x10000, 0x50, 1, 0x4, true, 0x0, 0x0, 0x0, 0x0, 0x0, 0x0⟩,  -- RIL_CRC_ERR
  ⟨false, 0x90000, 1, 0x10000, 0x58, 1, 0x4, true, 0x0, 0x0, 0x0, 0x0, 0x0, 0x0⟩  -- RIL_RETRY
]

/-- The registers of the DBG block (R479). -/
def regRowsDBG : List RegRow := [
  ⟨false, 0xA0000, 1, 0x10000, 0x0, 1, 0x4, false, 0x0, 0x0, 0x200, 0x0, 0x0, 0x1⟩,  -- DBG_STATUS
  ⟨false, 0xA0000, 1, 0x10000, 0x4, 1, 0x4, false, 0x0, 0x0, 0x0, 0x0, 0x1, 0x0⟩  -- DBG_CTL
]

/-- Every register. -/
def regRows : List RegRow :=
  regRowsHPT ++ regRowsBSN ++ regRowsDRC ++ regRowsECC ++ regRowsSCR ++ regRowsJET ++ regRowsGLB ++ regRowsMGT ++
  regRowsOTP ++ regRowsPWR ++ regRowsTHM ++ regRowsFLT ++ regRowsSLU ++ regRowsMTR ++ regRowsWEIR ++ regRowsAQD ++
  regRowsRIL ++ regRowsDBG

/-! Block bases (Table REG-2). -/
def tierBase (t : Nat) : Nat := 0x100000 + t * 0x100000
def hptBase (p : Nat) : Nat := tierBase (p / 12) + p % 12 * 0x1000
def drcBase (t c : Nat) : Nat := tierBase t + 0x20000 + c * 0x4000
def bsnBase (t j : Nat) : Nat := tierBase t + 0x30000 + j * 0x400
def eccBase (t : Nat) : Nat := tierBase t + 0x40000
def scrBase (t : Nat) : Nat := tierBase t + 0x44000
def jetBase (t : Nat) : Nat := tierBase t + 0x50000
def tfltBase (t : Nat) : Nat := tierBase t + 0x60000
def glbBase : Nat := 0
def mgtBase : Nat := 0x8000
def otpBase : Nat := 0x10000
def pwrBase : Nat := 0x20000
def thmBase : Nat := 0x30000
def fltBase : Nat := 0x40000
def sluBase : Nat := 0x50000
def mtrBase : Nat := 0x60000
def weirBase : Nat := 0x70000
def aqdRegBase : Nat := 0x80000
def aqdBase (a : Nat) : Nat := 0x80100 + a * 0x40
def rilBase : Nat := 0x90000
def dbgBase : Nat := 0xA0000

/-- The place of a BAR0 offset inside one row: the offset of the register's low word, or none when the row does not
hold it. A wide register holds the word at its low offset and the one after it. -/
def RegRow.locate (r : RegRow) (o : Nat) : Option Nat :=
  let t := o / 0x100000
  let rel := o % 0x100000
  if (if r.tier then decide (1 ≤ t ∧ t ≤ 8) else decide (t = 0)) && decide (r.base ≤ rel) then
    let d := rel - r.base
    if d / r.step < r.count ∧ r.off ≤ d % r.step then
      let e := d % r.step - r.off
      if e / r.stride < r.n then
        if e % r.stride = 0 then some o
        else if r.wide ∧ e % r.stride = 4 then some (o - 4) else none
      else if r.wide ∧ r.n = 1 ∧ e = 4 then some (o - 4) else none
    else none
  else none

/-- The register of a BAR0 offset: its row and its low offset (R479). -/
def findReg (o : Nat) : List RegRow → Option (RegRow × Nat)
  | [] => none
  | r :: rs => match r.locate o with
    | some lo => some (r, lo)
    | none => findReg o rs

/-- The register at a BAR0 offset; none where Table REG-2 or the defining chapter lists nothing (R473). -/
def regAt (o : Nat) : Option (RegRow × Nat) := findReg o regRows

/-- Hardware floor of an event source (Tables FLT-1 and FLT-2). -/
def sourceFloor (src : Nat) : Nat :=
  if src = 0x002 ∨ src = 0x003 then 5
  else if src = 0x005 then 3
  else if src = 0x008 then 2
  else if 0x040 ≤ src then
    let i := (src - 0x040) % 0x38
    if i = 35 then 4 else if i = 36 then 3 else if i = 37 then 5 else 0
  else 0

/-- Timing entry words of Table DRC-6 in the layout of Table DRC-18. -/
def timingReset (op word : Nat) : DWord :=
  match op, word with
  | 0, 0 => 0x67343434#64 | 0, 1 => 0x60201008#64 | 0, 2 => 0x30C006E0#64 | 0, 3 => 0x380#64
  | 1, 0 => 0x5A2E2E2E#64 | 1, 1 => 0x54200E08#64 | 1, 2 => 0x2AA80604#64 | 1, 3 => 0x310#64
  | 2, 0 => 0x4D282828#64 | 2, 1 => 0x48200C08#64 | 2, 2 => 0x24900528#64 | 2, 3 => 0x2A0#64
  | 3, 0 => 0x341A1A1A#64 | 3, 1 => 0x30200808#64 | 3, 2 => 0x18600370#64 | 3, 3 => 0x1C0#64
  | _, _ => 0#64

/-- The reset value of the register at low offset `o`: its table's value, with the few that vary by place: CTLFN on
ports 00 and 12 (Table HPT-8), the slice map (Table BSN-10), the timing entries (R144, Table DRC-6) and the source
floors (Table FLT-9). An unmapped offset reads 0 (R473). -/
def regReset (o : Nat) : DWord :=
  match regAt o with
  | none => 0
  | some (r, _) =>
    let t := o / 0x100000
    let rel := o % 0x100000
    if t = 0 then
      if 0x41000 ≤ rel ∧ rel < 0x41800 then r.reset ||| BitVec.ofNat 64 (sourceFloor ((rel - 0x41000) / 4) * 2 ^ 28)
      else r.reset
    else if rel = 0 ∧ t ≤ 2 then r.reset ||| 0x200#64
    else if 0x30210 ≤ rel ∧ rel < 0x30230 then
      (if (rel - 0x30210) / 4 % 2 = 0 then 0x76543210#64 else 0xFEDCBA98#64)
    else if 0x20000 ≤ rel ∧ rel < 0x30000 then
      let q := rel % 0x4000
      if 0x100 ≤ q ∧ q < 0x140 then timingReset ((q - 0x100) / 0x10) (q % 0x10 / 4)
      else if 0x200 ≤ q ∧ q < 0x220 then timingReset 0 (q % 0x10 / 4)
      else r.reset
    else r.reset

/-! The named fields of the register tables. -/
def HPT_PORT_CFG_CTLFN : Fld := ⟨0x0, 9, 9⟩
def HPT_PORT_CFG_BOND : Fld := ⟨0x0, 8, 8⟩
def HPT_PORT_CFG_TGT_SPEED : Fld := ⟨0x0, 7, 5⟩
def HPT_PORT_CFG_X1_ONLY : Fld := ⟨0x0, 4, 4⟩
def HPT_PORT_CFG_L0P_EN : Fld := ⟨0x0, 3, 3⟩
def HPT_PORT_CFG_ENABLE : Fld := ⟨0x0, 0, 0⟩
def HPT_LINK_CTL_L0P_IDLE : Fld := ⟨0x4, 8, 4⟩
def HPT_LINK_CTL_RETRAIN : Fld := ⟨0x4, 0, 0⟩
def HPT_LINK_STATUS_LTSSM : Fld := ⟨0x8, 15, 12⟩
def HPT_LINK_STATUS_CXL_MODE : Fld := ⟨0x8, 11, 11⟩
def HPT_LINK_STATUS_LANE_REV : Fld := ⟨0x8, 10, 10⟩
def HPT_LINK_STATUS_POL_INV : Fld := ⟨0x8, 9, 8⟩
def HPT_LINK_STATUS_WIDTH : Fld := ⟨0x8, 5, 4⟩
def HPT_LINK_STATUS_SPEED : Fld := ⟨0x8, 2, 0⟩
def HPT_ERR_STATUS_LOOP_FAIL : Fld := ⟨0xC, 5, 5⟩
def HPT_ERR_STATUS_CXL_NEG_FAIL : Fld := ⟨0xC, 4, 4⟩
def HPT_ERR_STATUS_LINK_DOWN : Fld := ⟨0xC, 3, 3⟩
def HPT_ERR_STATUS_REPLAY_LIMIT : Fld := ⟨0xC, 2, 2⟩
def HPT_ERR_STATUS_DOWNTRAIN_WIDTH : Fld := ⟨0xC, 1, 1⟩
def HPT_ERR_STATUS_DOWNTRAIN_SPEED : Fld := ⟨0xC, 0, 0⟩
def HPT_LOOP_CTL_LOCK : Fld := ⟨0x10, 5, 5⟩
def HPT_LOOP_CTL_RUN : Fld := ⟨0x10, 4, 4⟩
def HPT_LOOP_CTL_PATTERN : Fld := ⟨0x10, 3, 2⟩
def HPT_LOOP_CTL_MODE : Fld := ⟨0x10, 1, 0⟩
def HPT_LOOP_ERR_COUNT : Fld := ⟨0x14, 31, 0⟩
def HPT_DC_CFG_REL_TMO : Fld := ⟨0x18, 7, 0⟩
def BSN_SLICE_STATUS_REFRATE : Fld := ⟨0x0, 7, 6⟩
def BSN_SLICE_STATUS_SR : Fld := ⟨0x0, 5, 5⟩
def BSN_SLICE_STATUS_JET_RET : Fld := ⟨0x0, 4, 4⟩
def BSN_SLICE_STATUS_WIDTH : Fld := ⟨0x0, 1, 0⟩
def BSN_SLICE_CTL_CLR_CNT : Fld := ⟨0x4, 0, 0⟩
def BSN_TIER_CFG_PROMOTE_THRESH : Fld := ⟨0x200, 31, 24⟩
def BSN_TIER_CFG_HEAT_DECAY : Fld := ⟨0x200, 23, 16⟩
def BSN_TIER_CFG_HEAT_SHIFT : Fld := ⟨0x200, 15, 12⟩
def BSN_TIER_CFG_FILL : Fld := ⟨0x200, 5, 5⟩
def BSN_TIER_CFG_TCR_EN : Fld := ⟨0x200, 4, 4⟩
def BSN_TIER_CFG_AUTO_PROMOTE : Fld := ⟨0x200, 3, 3⟩
def BSN_TIER_CFG_HEAT_EN : Fld := ⟨0x200, 2, 2⟩
def DRC_CH_CFG_MAX_OP : Fld := ⟨0x0, 7, 6⟩
def DRC_CH_CFG_LP_MODE : Fld := ⟨0x0, 5, 4⟩
def DRC_CH_CFG_REF_MODE : Fld := ⟨0x0, 2, 2⟩
def DRC_LP_TIMER_SR_TIMER : Fld := ⟨0x4, 31, 16⟩
def DRC_LP_TIMER_PD_TIMER : Fld := ⟨0x4, 12, 0⟩
def DRC_SCHED_EFF : Fld := ⟨0x8, 31, 24⟩
def DRC_SCHED_AGE_CAP : Fld := ⟨0x8, 23, 16⟩
def DRC_SCHED_DRAIN_HI : Fld := ⟨0x8, 15, 12⟩
def DRC_SCHED_DRAIN_LO : Fld := ⟨0x8, 11, 8⟩
def DRC_SCHED_OPEN_IDLE : Fld := ⟨0x8, 7, 2⟩
def DRC_SCHED_PAGE_POLICY : Fld := ⟨0x8, 1, 0⟩
def DRC_OP_STATUS_ALLOWED : Fld := ⟨0xC, 11, 8⟩
def DRC_OP_STATUS_CHANGING : Fld := ⟨0xC, 7, 7⟩
def DRC_OP_STATUS_TRAINING : Fld := ⟨0xC, 6, 6⟩
def DRC_OP_STATUS_PEND : Fld := ⟨0xC, 5, 5⟩
def DRC_OP_STATUS_ACTIVE_SET : Fld := ⟨0xC, 4, 4⟩
def DRC_OP_STATUS_PEND_OP : Fld := ⟨0xC, 3, 2⟩
def DRC_OP_STATUS_CUR_OP : Fld := ⟨0xC, 1, 0⟩
def DRC_RANK_STATUS_LKG_USED : Fld := ⟨0x10, 27, 24⟩
def DRC_RANK_STATUS_DOUBLED : Fld := ⟨0x10, 23, 20⟩
def DRC_RANK_STATUS_FENCED : Fld := ⟨0x10, 19, 16⟩
def DRC_RANK_STATUS_STATE : Fld := ⟨0x10, 15, 0⟩
def DRC_HAMMER_REPEAT : Fld := ⟨0x14, 31, 28⟩
def DRC_HAMMER_PENALTY : Fld := ⟨0x14, 27, 20⟩
def DRC_HAMMER_ACT_GAP : Fld := ⟨0x14, 19, 12⟩
def DRC_HAMMER_ROW_THRESH : Fld := ⟨0x14, 11, 0⟩
def DRC_HAMMER_LAST_CTXID : Fld := ⟨0x18, 17, 0⟩
def DRC_RETRAIN_INTERVAL : Fld := ⟨0x1C, 31, 16⟩
def DRC_RETRAIN_TEMP_DELTA : Fld := ⟨0x1C, 15, 8⟩
def DRC_RETRAIN_HOLD_MAX : Fld := ⟨0x1C, 7, 0⟩
def ECC_CFG_CE_THRESH : Fld := ⟨0x0, 31, 16⟩
def ECC_CFG_CE_WINDOW : Fld := ⟨0x0, 15, 8⟩
def ECC_CFG_SCRUB_MAX : Fld := ⟨0x0, 7, 0⟩
def ECC_INJ_CTL_POISON : Fld := ⟨0x4, 10, 10⟩
def ECC_INJ_CTL_SEL : Fld := ⟨0x4, 9, 4⟩
def ECC_INJ_CTL_COUNT : Fld := ⟨0x4, 3, 0⟩
def ECC_INJ_MASK_MASK : Fld := ⟨0x8, 31, 0⟩
def ECC_STATUS_INJ_DONE : Fld := ⟨0xC, 4, 4⟩
def ECC_STATUS_PLIST_OVF : Fld := ⟨0xC, 3, 3⟩
def ECC_STATUS_UE : Fld := ⟨0xC, 2, 2⟩
def ECC_STATUS_CE_THRESH : Fld := ⟨0xC, 1, 1⟩
def ECC_STATUS_ST_FAIL : Fld := ⟨0xC, 0, 0⟩
def ECC_PLIST_OVF : Fld := ⟨0x18, 31, 31⟩
def ECC_PLIST_COUNT : Fld := ⟨0x18, 10, 0⟩
def SCR_TIER_CFG_TAG_EN : Fld := ⟨0x0, 0, 0⟩
def SCR_STATUS_ENTROPY_FAIL : Fld := ⟨0x4, 3, 3⟩
def SCR_STATUS_TAG_LINE_UE : Fld := ⟨0x4, 2, 2⟩
def SCR_STATUS_DIR_LOST : Fld := ⟨0x4, 1, 1⟩
def SCR_STATUS_TAGC_LOST : Fld := ⟨0x4, 0, 0⟩
def SCR_TAG_BASE_TB_EXT : Fld := ⟨0x8, 19, 0⟩
def WEIR_GLB_CFG_WM_HI : Fld := ⟨0x0, 31, 25⟩
def WEIR_GLB_CFG_WM_LO : Fld := ⟨0x0, 24, 18⟩
def WEIR_GLB_CFG_CEIL_PCT : Fld := ⟨0x0, 17, 11⟩
def WEIR_GLB_CFG_MISS_VEC : Fld := ⟨0x0, 10, 0⟩
def WEIR_PRESS_PRESS_ON : Fld := ⟨0x4, 25, 16⟩
def WEIR_PRESS_PRESS_OFF : Fld := ⟨0x4, 9, 0⟩
def WEIR_PORT_CFG_HOLD_LIM : Fld := ⟨0x8, 23, 16⟩
def WEIR_PORT_CFG_RISE : Fld := ⟨0x8, 15, 8⟩
def WEIR_PORT_CFG_CUT : Fld := ⟨0x8, 2, 0⟩
def WEIR_SEL_TIER : Fld := ⟨0x28, 6, 4⟩
def WEIR_SEL_CHAN : Fld := ⟨0x28, 1, 0⟩
def MTR_CFG_INTERVAL : Fld := ⟨0x0, 31, 20⟩
def MTR_CFG_ROLL_WAIT : Fld := ⟨0x0, 19, 14⟩
def MTR_CFG_AUTOSEAL : Fld := ⟨0x0, 13, 13⟩
def MTR_STATUS_SEAL_LATE : Fld := ⟨0x4, 5, 5⟩
def MTR_STATUS_ROLL_LATE : Fld := ⟨0x4, 4, 4⟩
def MTR_STATUS_LEAF_FULL : Fld := ⟨0x4, 3, 3⟩
def MTR_STATUS_GAP : Fld := ⟨0x4, 2, 2⟩
def MTR_STATUS_OVERFLOW : Fld := ⟨0x4, 1, 1⟩
def MTR_STATUS_UNSYNC : Fld := ⟨0x4, 0, 0⟩
def SLU_ADMIN_CFG_ENABLE : Fld := ⟨0x0, 31, 31⟩
def SLU_ADMIN_CFG_CHK_EN : Fld := ⟨0x0, 30, 30⟩
def SLU_ADMIN_CFG_LOG2N : Fld := ⟨0x0, 29, 25⟩
def SLU_ADMIN_CFG_DMA_PORT : Fld := ⟨0x0, 24, 18⟩
def SLU_ADMIN_CFG_VECTOR : Fld := ⟨0x0, 17, 7⟩
def SLU_RING_SEL_RING : Fld := ⟨0x18, 15, 0⟩
def SLU_RING_STATE_EXPSEQ : Fld := ⟨0x20, 31, 24⟩
def SLU_RING_STATE_DMA_PORT : Fld := ⟨0x20, 23, 17⟩
def SLU_RING_STATE_LOG2N : Fld := ⟨0x20, 16, 12⟩
def SLU_RING_STATE_PHASE : Fld := ⟨0x20, 11, 11⟩
def SLU_RING_STATE_CAUSE : Fld := ⟨0x20, 10, 8⟩
def SLU_RING_STATE_PRIO : Fld := ⟨0x20, 7, 6⟩
def SLU_RING_STATE_TENANT : Fld := ⟨0x20, 5, 5⟩
def SLU_RING_STATE_POLLED : Fld := ⟨0x20, 4, 4⟩
def SLU_RING_STATE_CQ_FULL : Fld := ⟨0x20, 3, 3⟩
def SLU_RING_STATE_STATE : Fld := ⟨0x20, 2, 0⟩
def SLU_DB_GRANT_VALID : Fld := ⟨0x400, 31, 31⟩
def SLU_DB_GRANT_PORT : Fld := ⟨0x400, 10, 4⟩
def SLU_DB_GRANT_SLOT : Fld := ⟨0x400, 3, 0⟩
def JET_TIER_CFG_CVU_TEST : Fld := ⟨0x0, 31, 31⟩
def JET_TIER_CFG_BW_MAX : Fld := ⟨0x0, 15, 8⟩
def JET_TIER_CFG_WDOG : Fld := ⟨0x0, 7, 0⟩
def JET_STATUS_RETIRED : Fld := ⟨0x4, 31, 16⟩
def JET_STATUS_BUSY : Fld := ⟨0x4, 15, 0⟩
def JET_QUEUE_MIGS : Fld := ⟨0x8, 21, 16⟩
def JET_QUEUE_PIECES : Fld := ⟨0x8, 12, 0⟩
def JET_CVU_CFG_DLEN : Fld := ⟨0x100, 13, 12⟩
def JET_CVU_CFG_REFOUT : Fld := ⟨0x100, 11, 11⟩
def JET_CVU_CFG_REFIN : Fld := ⟨0x100, 10, 10⟩
def JET_CVU_CFG_WIDTH : Fld := ⟨0x100, 6, 0⟩
def AQD_CFG_E2E_TMO : Fld := ⟨0x0, 31, 16⟩
def AQD_CFG_REPLAY_TMO : Fld := ⟨0x0, 15, 8⟩
def AQD_ROUTE_VALID : Fld := ⟨0x40, 31, 31⟩
def AQD_ROUTE_ALT_VALID : Fld := ⟨0x40, 30, 30⟩
def AQD_ROUTE_ALT : Fld := ⟨0x40, 6, 4⟩
def AQD_ROUTE_PRIMARY : Fld := ⟨0x40, 2, 0⟩
def AQD_STATUS_PEER : Fld := ⟨0x0, 15, 12⟩
def AQD_STATUS_PRESENT : Fld := ⟨0x0, 11, 11⟩
def AQD_STATUS_EVEN_PORT : Fld := ⟨0x0, 10, 4⟩
def AQD_STATUS_STATE : Fld := ⟨0x0, 1, 0⟩
def AQD_ERR_RSV_MSG : Fld := ⟨0x4, 2, 2⟩
def AQD_ERR_KEY_FAIL : Fld := ⟨0x4, 1, 1⟩
def AQD_ERR_RETRAIN : Fld := ⟨0x4, 0, 0⟩
def RIL_POOL_CFG_FORM : Fld := ⟨0x0, 31, 31⟩
def RIL_POOL_CFG_PKG : Fld := ⟨0x0, 27, 24⟩
def RIL_POOL_CFG_RING_B_EN : Fld := ⟨0x0, 1, 1⟩
def RIL_POOL_CFG_RING_A_EN : Fld := ⟨0x0, 0, 0⟩
def RIL_STATUS_PKG : Fld := ⟨0x8, 31, 28⟩
def RIL_STATUS_ROLE : Fld := ⟨0x8, 27, 26⟩
def RIL_STATUS_MGR : Fld := ⟨0x8, 25, 22⟩
def RIL_STATUS_QUORUM : Fld := ⟨0x8, 21, 21⟩
def RIL_STATUS_A_UP : Fld := ⟨0x8, 20, 20⟩
def RIL_STATUS_B_UP : Fld := ⟨0x8, 19, 19⟩
def RIL_STATUS_A_POL : Fld := ⟨0x8, 18, 18⟩
def RIL_STATUS_B_POL : Fld := ⟨0x8, 17, 17⟩
def RIL_STATUS_UNSYNC : Fld := ⟨0x8, 16, 16⟩
def RIL_STATUS_EPOCH : Fld := ⟨0x8, 15, 0⟩
def RIL_HB_TIMEOUT : Fld := ⟨0xC, 31, 16⟩
def RIL_HB_PERIOD : Fld := ⟨0xC, 15, 0⟩
def RIL_LOOP_CTL_RING : Fld := ⟨0x20, 6, 6⟩
def RIL_LOOP_CTL_LOCK : Fld := ⟨0x20, 5, 5⟩
def RIL_LOOP_CTL_RUN : Fld := ⟨0x20, 4, 4⟩
def RIL_LOOP_CTL_PATTERN : Fld := ⟨0x20, 3, 2⟩
def RIL_LOOP_CTL_MODE : Fld := ⟨0x20, 1, 0⟩
def BSN_HOP_RD_SPARE_USED : Fld := ⟨0x40, 23, 20⟩
def BSN_HOP_WR_SPARE_USED : Fld := ⟨0x40, 19, 17⟩
def BSN_HOP_CA_SPARE_USED : Fld := ⟨0x40, 16, 15⟩
def BSN_HOP_CLK_ON_SPARE : Fld := ⟨0x40, 14, 14⟩
def BSN_HOP_WEAK : Fld := ⟨0x40, 13, 8⟩
def BSN_HOP_MIN_W : Fld := ⟨0x40, 7, 0⟩
def BSN_FST_CFG_RUN : Fld := ⟨0x260, 31, 31⟩
def BSN_FST_CFG_INTERVAL : Fld := ⟨0x260, 23, 16⟩
def BSN_FST_CFG_WEAK_W : Fld := ⟨0x260, 15, 8⟩
def BSN_FST_CFG_FAIL_W : Fld := ⟨0x260, 7, 0⟩
def BSN_FST_STATUS_BUSY : Fld := ⟨0x264, 31, 31⟩
def BSN_FST_STATUS_DEFERRED : Fld := ⟨0x264, 30, 30⟩
def BSN_FST_STATUS_RUNNEL : Fld := ⟨0x264, 3, 0⟩
def BSN_REPAIR_CFG_GB_THRESH : Fld := ⟨0x270, 31, 16⟩
def BSN_REPAIR_CFG_SPARE_PERMIL : Fld := ⟨0x270, 15, 8⟩
def BSN_REPAIR_CFG_ROW_CE : Fld := ⟨0x270, 7, 0⟩
def BSN_REPAIR_STATUS_DRIFT : Fld := ⟨0x274, 9, 9⟩
def BSN_REPAIR_STATUS_FUSE_FULL : Fld := ⟨0x274, 8, 8⟩
def BSN_REPAIR_STATUS_WITHHELD_FULL : Fld := ⟨0x274, 7, 7⟩
def BSN_REPAIR_STATUS_SPARE_OUT : Fld := ⟨0x274, 6, 6⟩
def BSN_REPAIR_STATUS_REMAP : Fld := ⟨0x274, 5, 5⟩
def BSN_REPAIR_STATUS_SET_RETIRED : Fld := ⟨0x274, 4, 4⟩
def BSN_REPAIR_STATUS_ROW_REPAIR : Fld := ⟨0x274, 3, 3⟩
def BSN_REPAIR_STATUS_LOST : Fld := ⟨0x274, 2, 2⟩
def BSN_REPAIR_STATUS_NARROW : Fld := ⟨0x274, 1, 1⟩
def BSN_REPAIR_STATUS_COIL_SPARE : Fld := ⟨0x274, 0, 0⟩
def FLT_SRC_CFG_FREEZE : Fld := ⟨0x1000, 31, 31⟩
def FLT_SRC_CFG_FLOOR : Fld := ⟨0x1000, 30, 28⟩
def FLT_SRC_CFG_MIN : Fld := ⟨0x1000, 27, 25⟩
def FLT_SRC_CFG_MAX : Fld := ⟨0x1000, 24, 22⟩
def FLT_SRC_CFG_NO_MSIX : Fld := ⟨0x1000, 18, 18⟩
def FLT_SRC_CFG_NO_HOST : Fld := ⟨0x1000, 17, 17⟩
def FLT_SRC_CFG_NO_RILL : Fld := ⟨0x1000, 16, 16⟩
def FLT_SRC_CFG_CE_LIMIT : Fld := ⟨0x1000, 15, 0⟩
def FLT_SRC_STAT_STICKY : Fld := ⟨0x2000, 31, 31⟩
def FLT_SRC_STAT_LIVE : Fld := ⟨0x2000, 30, 30⟩
def FLT_SRC_STAT_MAXCLASS : Fld := ⟨0x2000, 29, 27⟩
def FLT_SRC_STAT_COUNT : Fld := ⟨0x2000, 15, 0⟩
def FLT_CFG_MSIX_MIN : Fld := ⟨0x0, 31, 29⟩
def FLT_CFG_RILL_MIN : Fld := ⟨0x0, 28, 26⟩
def FLT_CFG_STOP_MAX : Fld := ⟨0x0, 25, 22⟩
def FLT_CFG_VEC : Fld := ⟨0x0, 10, 0⟩
def FLT_STATUS_STOP_SEEN : Fld := ⟨0x4, 4, 4⟩
def FLT_STATUS_DROPPED : Fld := ⟨0x4, 3, 3⟩
def FLT_STATUS_INPUT_LOST : Fld := ⟨0x4, 2, 2⟩
def FLT_STATUS_Q_FULL : Fld := ⟨0x4, 1, 1⟩
def FLT_STATUS_HALTED : Fld := ⟨0x4, 0, 0⟩
def FLT_INJECT_GO : Fld := ⟨0x18, 31, 31⟩
def FLT_INJECT_CLASS : Fld := ⟨0x18, 30, 28⟩
def FLT_INJECT_LEVEL : Fld := ⟨0x18, 27, 25⟩
def FLT_INJECT_KIND : Fld := ⟨0x18, 14, 9⟩
def FLT_INJECT_SOURCE : Fld := ⟨0x18, 8, 0⟩
def MGT_STATUS_PLL : Fld := ⟨0x0, 7, 7⟩
def MGT_STATUS_TRIAL : Fld := ⟨0x0, 6, 6⟩
def MGT_STATUS_BANK : Fld := ⟨0x0, 5, 5⟩
def MGT_STATUS_MODE : Fld := ⟨0x0, 2, 0⟩
def MGT_FW_VER_ARB : Fld := ⟨0x4, 31, 24⟩
def MGT_FW_VER_STAGED_SV : Fld := ⟨0x4, 23, 16⟩
def MGT_FW_VER_SV : Fld := ⟨0x4, 15, 8⟩
def MGT_FLASH_STATUS_SLOTS_FREE : Fld := ⟨0xC, 31, 24⟩
def MGT_FLASH_STATUS_SPARES_FREE : Fld := ⟨0xC, 23, 15⟩
def MGT_FLASH_STATUS_RAM_LOG : Fld := ⟨0xC, 2, 2⟩
def MGT_FLASH_STATUS_CAL : Fld := ⟨0xC, 1, 0⟩
def MGT_ERR_STATUS_COMMIT_SHORT : Fld := ⟨0x10, 5, 5⟩
def MGT_ERR_STATUS_ERASE_REDONE : Fld := ⟨0x10, 4, 4⟩
def MGT_ERR_STATUS_SECTOR_RETIRED : Fld := ⟨0x10, 3, 3⟩
def MGT_ERR_STATUS_CAL_DEFAULT : Fld := ⟨0x10, 2, 2⟩
def MGT_ERR_STATUS_BANK_REVERT : Fld := ⟨0x10, 1, 1⟩
def MGT_ERR_STATUS_SVC_FAULT : Fld := ⟨0x10, 0, 0⟩
def PWR_CFG_T2_IDLE : Fld := ⟨0x0, 31, 16⟩
def PWR_CFG_T1_IDLE : Fld := ⟨0x0, 15, 0⟩
def PWR_AUTO_AUTO_T2 : Fld := ⟨0x4, 15, 8⟩
def PWR_AUTO_AUTO_T1 : Fld := ⟨0x4, 7, 0⟩
def PWR_TIER_CTL_GO : Fld := ⟨0x8, 31, 31⟩
def PWR_TIER_CTL_TIER : Fld := ⟨0x8, 10, 8⟩
def PWR_TIER_CTL_STATE : Fld := ⟨0x8, 1, 0⟩
def PWR_STATE_PKG : Fld := ⟨0xC, 16, 16⟩
def PWR_STATE_TIERS : Fld := ⟨0xC, 15, 0⟩
def PWR_STATUS_REF_LOST : Fld := ⟨0x18, 4, 4⟩
def PWR_STATUS_P4_WAKE : Fld := ⟨0x18, 3, 3⟩
def PWR_STATUS_WAKE_FAIL : Fld := ⟨0x18, 2, 2⟩
def PWR_STATUS_PLL_FAIL : Fld := ⟨0x18, 1, 1⟩
def PWR_STATUS_REFUSED : Fld := ⟨0x18, 0, 0⟩
def THM_CFG_GRACE : Fld := ⟨0x0, 31, 22⟩
def THM_CFG_WARN_OP : Fld := ⟨0x0, 21, 20⟩
def THM_CFG_STEP_DELTA : Fld := ⟨0x0, 19, 16⟩
def THM_CFG_INT_EN : Fld := ⟨0x0, 11, 11⟩
def THM_CFG_VEC : Fld := ⟨0x0, 10, 0⟩
def THM_STATUS_TRIP_PREV : Fld := ⟨0x4, 5, 5⟩
def THM_STATUS_CAL_GENERIC : Fld := ⟨0x4, 4, 4⟩
def THM_STATUS_ZONE_SUSPECT : Fld := ⟨0x4, 3, 3⟩
def THM_STATUS_SUSPECT : Fld := ⟨0x4, 2, 2⟩
def THM_STATUS_HOT : Fld := ⟨0x4, 1, 1⟩
def THM_STATUS_WARN : Fld := ⟨0x4, 0, 0⟩
def THM_MAX_TIER : Fld := ⟨0x8, 14, 12⟩
def THM_MAX_TEMP : Fld := ⟨0x8, 11, 0⟩
def THM_ZONE_F : Fld := ⟨0x10, 22, 19⟩
def THM_ZONE_L : Fld := ⟨0x10, 18, 15⟩
def THM_ZONE_OPREQ : Fld := ⟨0x10, 14, 12⟩
def THM_ZONE_GRACE : Fld := ⟨0x10, 11, 11⟩
def THM_ZONE_Z2 : Fld := ⟨0x10, 8, 6⟩
def THM_ZONE_Z1 : Fld := ⟨0x10, 5, 3⟩
def THM_ZONE_Z0 : Fld := ⟨0x10, 2, 0⟩
def THM_SENS_SUSPECT : Fld := ⟨0x40, 31, 31⟩
def THM_SENS_OFFSET : Fld := ⟨0x40, 27, 16⟩
def THM_SENS_TEMP : Fld := ⟨0x40, 11, 0⟩
def OTP_LC_ARB : Fld := ⟨0x0, 15, 8⟩
def OTP_LC_SAFE : Fld := ⟨0x0, 4, 4⟩
def OTP_LC_MARGINAL : Fld := ⟨0x0, 3, 3⟩
def OTP_LC_STATE : Fld := ⟨0x0, 2, 0⟩
def OTP_FEATURE_DEV_SECRET : Fld := ⟨0x4, 7, 7⟩
def OTP_FEATURE_OWNER_LIVE : Fld := ⟨0x4, 6, 6⟩
def OTP_FEATURE_OWNER1 : Fld := ⟨0x4, 5, 5⟩
def OTP_FEATURE_MGR_ROLE : Fld := ⟨0x4, 4, 4⟩
def OTP_FEATURE_TIERS : Fld := ⟨0x4, 1, 0⟩
def OTP_SLOTS_LOCKS : Fld := ⟨0x18, 19, 16⟩
def OTP_SLOTS_REVOKED : Fld := ⟨0x18, 15, 12⟩
def OTP_SLOTS_VALID : Fld := ⟨0x18, 11, 8⟩
def OTP_SLOTS_INCOMPLETE : Fld := ⟨0x18, 7, 4⟩
def OTP_SLOTS_USABLE : Fld := ⟨0x18, 3, 0⟩
def OTP_DEBUG_OWNER_KEY : Fld := ⟨0x1C, 3, 3⟩
def OTP_DEBUG_SCAN_DEPLOYED : Fld := ⟨0x1C, 2, 2⟩
def OTP_DEBUG_JET_DBG : Fld := ⟨0x1C, 1, 1⟩
def OTP_DEBUG_PERM_OFF : Fld := ⟨0x1C, 0, 0⟩
def OTP_PROG_ADDR_OP : Fld := ⟨0x100, 17, 16⟩
def OTP_PROG_ADDR_WORD : Fld := ⟨0x100, 9, 0⟩
def OTP_PROG_RESULT_BUSY : Fld := ⟨0x114, 31, 31⟩
def OTP_PROG_RESULT_CODE : Fld := ⟨0x114, 3, 0⟩
def DBG_STATUS_REFUSALS : Fld := ⟨0x0, 31, 28⟩
def DBG_STATUS_REFUSED : Fld := ⟨0x0, 9, 9⟩
def DBG_STATUS_BACKOFF : Fld := ⟨0x0, 8, 8⟩
def DBG_STATUS_SCAN_MODE : Fld := ⟨0x0, 7, 7⟩
def DBG_STATUS_SCAN_OPEN : Fld := ⟨0x0, 6, 6⟩
def DBG_STATUS_JETS_OPEN : Fld := ⟨0x0, 5, 5⟩
def DBG_STATUS_MP_OPEN : Fld := ⟨0x0, 4, 4⟩
def DBG_STATUS_AUTH_BUSY : Fld := ⟨0x0, 3, 3⟩
def DBG_STATUS_ACCESS : Fld := ⟨0x0, 2, 0⟩
def DBG_CTL_RELOCK : Fld := ⟨0x4, 0, 0⟩
def GLB_RESET_CTL_KEY : Fld := ⟨0x100, 31, 24⟩
def GLB_RESET_CTL_ENG_HOLD : Fld := ⟨0x100, 23, 16⟩
def GLB_RESET_CTL_TIER : Fld := ⟨0x100, 10, 8⟩
def GLB_RESET_CTL_SCOPE : Fld := ⟨0x100, 1, 0⟩
def GLB_RESET_CAUSE_TIER : Fld := ⟨0x104, 6, 4⟩
def GLB_RESET_CAUSE_CAUSE : Fld := ⟨0x104, 3, 0⟩
def GLB_ID_VENDOR : Fld := ⟨0x0, 31, 16⟩
def GLB_ID_DEVICE : Fld := ⟨0x0, 15, 0⟩
def GLB_REV_CODE : Fld := ⟨0x4, 7, 5⟩
def GLB_REV_STEPPING : Fld := ⟨0x4, 3, 0⟩
def GLB_CAP_NPORTS : Fld := ⟨0x8, 31, 25⟩
def GLB_CAP_TIER_MASK : Fld := ⟨0x8, 24, 17⟩
def GLB_CAP_NTIERS : Fld := ⟨0x8, 16, 13⟩
def GLB_CAP_MGR_ROLE : Fld := ⟨0x8, 12, 12⟩
def GLB_CAP_NAQD : Fld := ⟨0x8, 11, 8⟩
def GLB_CAP_NCHAN : Fld := ⟨0x8, 5, 0⟩
def GLB_CAP2_LOG2_CTX : Fld := ⟨0xC, 31, 27⟩
def GLB_CAP2_LOG2_RINGS : Fld := ⟨0xC, 26, 22⟩
def GLB_CAP2_KEYIDS : Fld := ⟨0xC, 21, 10⟩
def GLB_CAP2_CLASSES : Fld := ⟨0xC, 9, 3⟩
def GLB_SETUP_LOCK_LOCK : Fld := ⟨0x10, 0, 0⟩

end Sys2Proof.Machine
end

