-- ==== Sys2Proof/Machine/State.lean ====
section
/-! DEFINITION. The state of the block: every register, table, queue, buffer, counter, mode and pin the spec gives it,
as plain data, and the queue of waiting commands. -/

namespace Sys2Proof.Machine

/-- Why a command stops. -/
inductive Fault where
  /-- Raised by the PORST_N commands when the pin is low for 100 microseconds to 1 ms, a pulse whose effect R441 calls
  undefined. Safe: the model stops where the part goes on. -/
  | porstPulseUndefined
deriving DecidableEq, Repr

/-- Commands the model has no meaning for. -/
inductive Refusal where
  /-- Raised by `exec` for a command that has no meaning yet. Safe: the model stops. -/
  | notModelled (mnemonic : String)
deriving DecidableEq, Repr

/-- What a command put out of the package, newest first in State.out: responses, interrupts, host-memory writes, frames, pins. -/
inductive Output where
  /-- Read data at a port: the line, its poison indication and DevLoad (R52). -/
  | readResp (port tag : Nat) (data : Line) (poison : Bool) (devload : Nat)
  /-- Write completion (Cmp) at a port. -/
  | writeResp (port tag : Nat) (devload : Nat)
  /-- An access completed as an unsupported request (R9, R51). -/
  | unsupported (port tag : Nat)
  /-- A register read's value on a path. -/
  | regValue (path : Path) (value : Word)
  /-- A mailbox completion: return code and payload bytes or fields (R53). -/
  | mailbox (port code : Nat) (payload : List Nat)
  /-- An MSI-X message of a function of a port. -/
  | msix (port fn vector : Nat)
  /-- Bytes written to host memory through a port, as 64-bit words, lowest first. -/
  | dmaWrite (port addr : Nat) (words : List DWord)
  /-- A line of zeros written to host memory with the poisoned-data indication (R279). -/
  | dmaPoison (port addr : Nat)
  /-- A tick mark inserted on both rill rings (R311). -/
  | tickMark (n : Nat)
  /-- A margining report (R44). -/
  | marginReport (port lane : Nat) (result : BitVec 8)
  /-- An aqueduct flit sent (Table AQD-1): byte i is bits 8i+7 .. 8i. -/
  | aqFlit (aq : Nat) (flit : BitVec 2048)
  /-- A rill frame: ring 0 A, 1 B, 2 both; type, destination, payload fields. -/
  | rillFrame (ring ftype dst : Nat) (payload : List Nat)
  /-- A rill frame of another package passed on. -/
  | rillForward (ring dst src ftype fseq hops epoch : Nat) (payload : List Nat)
  /-- An MCTP response: message type, completion code, payload fields. -/
  | mctp (mtype code : Nat) (payload : List Nat)
  /-- A platform event sent to the BMC (R349). -/
  | platformEvent (recnum cls : Nat)
  /-- A gate's return: gate number, status, payload (R357). -/
  | gate (n status : Nat) (payload : List Nat)
  /-- A pin or rail-enable level. -/
  | pin (name : String) (level : Bool)
  /-- Data shifted out of the TAP or read through the debug module. -/
  | tdo (bits : Nat) (value : Nat)
deriving DecidableEq, Repr

/-- Per-path register state (R472): the read latch of R12 with the register it holds, the pending low word of R13 with its
register, and the four window selectors. -/
structure PathState where
  latch : Option (Nat × Word) := none
  pendingLow : Option (Nat × Word) := none
  weirSel : Word := 0
  thmSel : Word := 0
  ringSel : Word := 0
  otpRdAddr : Word := 0
deriving DecidableEq, Repr

/-- Wired feature values, sensed at power-on (R2, R408). -/
structure Wired where
  tiers : Nat := 0
  mgr : Bool := false
  ports : BitVec 128 := 0
deriving DecidableEq, Repr

/-- A tier's condition besides its blocks. `power`: 0 to 3 for T0 to T3; `cap`: populated capacity in bytes (R81, R119);
`started`: its start-up sequence is complete; `portReset`, `engReset`: a die is held in reset. -/
structure Tier where
  power : Nat := 0
  started : Bool := false
  cap : Nat := 0
  /-- Density code of its RDIMMs: 0 none or refused, 1 16 Gb, 2 32 Gb, 3 64 Gb. -/
  density : Nat := 0
  portReset : Bool := false
  engReset : Bool := false
  /-- Held in reset by a failed checker (R167). -/
  stFailed : Bool := false
  /-- The cistern was declared lost (R464). -/
  lost : Bool := false
  /-- Time of the die reset, or of the failed wake, that holds requests (R391, R462); its limit has passed; contexts
  reported for it. -/
  resetAt : Nat := 0
  holdOver : Bool := false
  reported : List Nat := []
  /-- Its PLL failed to lock twice (R391); self-refresh entry was not confirmed (R464); its contexts are to be frozen when its
  reset ends (R463). -/
  pllFail : Bool := false
  unconfirmed : Bool := false
  freezeDue : Bool := false
  /-- A running frequency change or wake cause waits for the entry to T2 to end. -/
  wakeAfter : Bool := false
  /-- Idle since, for T1_IDLE and T2_IDLE (R391). -/
  idleSince : Nat := 0
deriving DecidableEq, Repr

/-! ### Host ports (chapter 02) -/

/-- A record of a port's event logs (R53). `kind`: 0 General Media, 1 DRAM, 2 Memory Module, 3 Add Capacity,
4 Release Capacity. `dpa`, `len`, `ctx` and `gen` describe the place, or the extent and its tag (R55). -/
structure EventRec where
  handle : Nat := 0
  kind : Nat := 0
  dpa : Nat := 0
  len : Nat := 0
  ctx : Nat := 0
  gen : Nat := 0
  time : Nat := 0
  /-- The host has fetched it (R60). -/
  fetched : Bool := false
deriving DecidableEq, Repr

/-- One event log: at most 64 records, oldest first, and its overflow count (R53). -/
structure EventLog where
  records : List EventRec := []
  overflow : Nat := 0
deriving DecidableEq, Repr

/-- The port's HDM decoder (R51). -/
structure HdmDecoder where
  base : Nat := 0
  size : Nat := 0
  committed : Bool := false
  errNotCommitted : Bool := false
deriving DecidableEq, Repr

/-- A dynamic-capacity extent the port describes to its host (R54-R60). `accepted`: the host has taken it;
`awaiting`: the add is offered and not answered; `relDeadline`: release offered, with the time REL_TMO ends. -/
structure DcExtent where
  ctx : Nat := 0
  gen : Nat := 0
  base : Nat := 0
  size : Nat := 0
  awaiting : Bool := false
  accepted : Bool := false
  relDeadline : Option Nat := none
deriving DecidableEq, Repr

/-- A window entry (Table CTX-3); base and size in 256 MiB blocks. -/
structure Window where
  valid : Bool := false
  opened : Bool := false
  declined : Bool := false
  pendrel : Bool := false
  ctx : Nat := 0
  wbase : Nat := 0
  wsize : Nat := 0
  gen : Nat := 0
deriving DecidableEq, Repr

/-- Everything a host port holds besides its registers. -/
structure Port where
  /-- The control function is presented, as set at the last PERST_N (R63). -/
  ctlfn : Bool := false
  /-- The pair is bonded, as set at the last PERST_N (R65); even ports only. -/
  bonded : Bool := false
  /-- Common clock or SRIS, taken at PERST_N. -/
  sris : Bool := false
  /-- Highest rate of the partner, learnt in training (R41). -/
  partnerSpeed : Nat := 0
  /-- Width before L0p narrowing or ASPM L1, to return to (R45). -/
  fullWidth : Nat := 0
  decoder : HdmDecoder := {}
  /-- Logs 0 Informational, 1 Warning, 2 Failure, 3 Fatal, 4 Dynamic Capacity. -/
  logs : Sparse EventLog := []
  /-- Dynamic Capacity events held back by a full log (R53). -/
  heldDc : List EventRec := []
  /-- Interrupt settings of the five logs (R53). -/
  intPolicy : Sparse (BitVec 8) := []
  /-- Timestamp offset against the time base (R53). -/
  tsOffset : DWord := 0
  nextHandle : Nat := 1
  dc : List DcExtent := []
  /-- Window entries by index (R73). -/
  windows : Sparse Window := []
  /-- Block map: block number to window index + 1; 0 is no entry (R73). -/
  blocks : Sparse Nat := []
  /-- Binding generations by context (R55). -/
  gens : Sparse Nat := []
  /-- Bus Master Enable of function 0 and of function 1 (R248). -/
  busMaster : Bool := true
  /-- The last margining result reported by the standard command set (R44), with the lane and kind asked. -/
  margin : Option (Nat × Bool × BitVec 8) := none
deriving DecidableEq, Repr

/-! ### Contexts and extents (chapter 03) -/

/-- Context states (Table CTX-2). -/
inductive CtxState where
  | free | building | live | draining | frozen | releasing
deriving DecidableEq, Repr

/-- A context entry (Table CTX-1). `extptr`: tier to list index + 1, 0 when the tier holds no copy. -/
structure Ctx where
  state : CtxState := .free
  faultFrozen : Bool := false
  keyId : Nat := 0
  cls : Nat := 0
  integrity : Bool := false
  remoteOk : Bool := false
  noalloc : Bool := false
  wthru : Bool := false
  account : Nat := 0
  wbase : Nat := 0
  wsize : Nat := 0
  ports : BitVec 96 := 0
  extptr : Sparse Nat := []
  extCount : Nat := 0
  migCount : Nat := 0
  created : Nat := 0
  changed : Nat := 0
deriving DecidableEq, Repr

/-- An extent-list entry (Table CTX-4). -/
structure ExtEntry where
  valid : Bool := false
  remote : Bool := false
  migrating : Bool := false
  retired : Bool := false
  pen : Nat := 0
  dest : Nat := 0
  lease : Nat := 0
deriving DecidableEq, Repr

/-- A valid-map line: 512 page bits, and which of its two copies no longer checks (R85, R87, R96). -/
structure ValidLine where
  bits : BitVec 512 := 0
  primaryBad : Bool := false
  shadowBad : Bool := false
deriving DecidableEq, Repr

/-- Why a request is held at a port or in the crossbar. -/
inductive HoldWhy where
  | frozen | migration | token | tierAsleep | dieReset | queueFull | victimFull | rankHeld | sweep
deriving DecidableEq, Repr

/-- The kinds of CXL.mem request (R49). -/
inductive ReqKind where
  | read | readData | write | partialWrite | inv
deriving DecidableEq, Repr

/-- An aqueduct message (Table AQD-2) with the line it carries. `msg`: 1 read, 2 full write, 3 partial write, 4 read
response, 5 write completion. -/
structure AqMsg where
  msg : Nat := 0
  pa : Nat := 0
  cls : Nat := 0
  key : Nat := 0
  ctx : Nat := 0
  integrity : Bool := false
  poison : Bool := false
  data : Line := 0
  be : BitVec 64 := 0
  rpkg : Nat := 0
  txid : Nat := 0
  hops : Nat := 0
deriving DecidableEq, Repr

/-- A CXL.mem request a port holds (R79, R121, R202): host request tag, DPA, data and byte enables, arrival time.
`cls` is the class its credits belong to, and `tier` what it waits for. -/
structure Req where
  port : Nat := 0
  tag : Nat := 0
  kind : ReqKind := .read
  dpa : Nat := 0
  data : Line := 0
  be : BitVec 64 := 0
  poison : Bool := false
  why : HoldWhy := .frozen
  cls : Nat := 0
  ctx : Nat := 0
  tier : Nat := 0
  chan : Nat := 0
  arrival : Nat := 0
  /-- The port weir has admitted it (R201). -/
  admitted : Bool := false
  /-- It has passed its translation point: its pool place, extent and attribute are fixed (R20, R30). -/
  passed : Bool := false
  off : Nat := 0
  idx : Nat := 0
  key : Nat := 0
  integ : Bool := false
  noalloc : Bool := false
  wthru : Bool := false
  /-- It came over aqueduct `aq` as this message (R91, R196). -/
  remote : Option AqMsg := none
  aq : Nat := 0
deriving DecidableEq, Repr

/-- Phases of a migration (R89). -/
inductive MigPhase where
  | waiting | copying | switching | finishing
deriving DecidableEq, Repr

/-- A migration (R89): extent, source and destination PEN, phase, passes run, pages dirtied, pages still to copy. -/
structure Migration where
  ctx : Nat := 0
  index : Nat := 0
  src : Nat := 0
  dest : Nat := 0
  lease : Nat := 0
  phase : MigPhase := .copying
  passes : Nat := 0
  /-- Pages dirtied since the running pass began, and the pages that pass copies. -/
  dirty : BitVec 512 := 0
  pass : BitVec 512 := 0
  desc : DescRef := {}
  /-- The Contained event of a poisoned source line has been raised (R157). -/
  poisonNoted : Bool := false
  /-- Order number of its last piece to start (R273). -/
  lastStart : Nat := 0
  /-- Pages copied, over all passes. -/
  copied : Nat := 0
  /-- Requests under the source entry that the finish waits for (R22). -/
  txids : List Nat := []
  reqs : List (Nat × Nat) := []
deriving DecidableEq, Repr

/-! ### Basin (chapter 04) -/

/-- State of a stored code word: readable, correctable, uncorrectable, or the poison marker (chapter 06). -/
inductive Code where
  | clean | correctable | uncorrectable | marker
deriving DecidableEq, Repr

/-- A line of the line cache: verified plaintext, its code state, and the attribute of its last writer or filler. -/
structure BLine where
  data : Line := 0
  code : Code := .clean
  key : Nat := 0
  ctx : Nat := 0
  integrity : Bool := false
deriving DecidableEq, Repr

/-- A way of a set: the way entry of Table BSN-4, the state of its two copies, and its lines by number 0-31. -/
structure Way where
  valid : Bool := false
  tag : Nat := 0
  present : BitVec 32 := 0
  dirty : BitVec 32 := 0
  cls : Nat := 0
  wbp : Bool := false
  age : Nat := 0
  copy0Bad : Bool := false
  copy1Bad : Bool := false
  lines : Sparse BLine := []
deriving DecidableEq, Repr

/-- A line in a slice's victim buffer (R106). -/
structure Victim where
  off : Nat := 0
  cls : Nat := 0
  line : BLine := {}
deriving DecidableEq, Repr

/-- A slice: its sets by number, victim buffer, heat table (page key to count plus 1) and dies in self-refresh (R102-R116). -/
structure Slice where
  sets : Sparse (Sparse Way) := []
  victims : List Victim := []
  heat : Sparse Nat := []
  /-- Dies in self-refresh, one bit each (R115, R116). -/
  dieSr : BitVec 8 := 0
  /-- Dies that entered self-refresh for want of a clock, not yet reported (R116). -/
  dieLoss : BitVec 8 := 0
  /-- Bank refreshes done, per die and bank (R114). -/
  refreshes : Sparse Nat := []
  /-- Dirty extent map: tier extents with a line that became DIRTY here (R325), and the flush's walk position (R323). -/
  dirtyExt : Sparse Bool := []
  flush : Option Nat := none
  /-- Accesses since the last heat sample (R111). -/
  sampleCount : Nat := 0
deriving DecidableEq, Repr

/-! ### Cistern channels (chapter 05) -/

/-- A line stored in the cistern: ciphertext and code state; the tag is in the tag lines. -/
structure CLine where
  data : Line := 0
  code : Code := .clean
deriving DecidableEq, Repr

/-- A write-queue entry (R122): the line's tier offset, its stored form, class, context and arrival. `pend`: a tag of
the tag cache waits for it (R186). -/
structure WriteEntry where
  off : Nat := 0
  line : CLine := {}
  cls : Nat := 0
  ctx : Nat := 0
  arrival : Nat := 0
  pend : Bool := false
deriving DecidableEq, Repr

/-- A read whose DRAM command is still to be issued (R123). -/
structure ReadEntry where
  off : Nat := 0
  cls : Nat := 0
  ctx : Nat := 0
  arrival : Nat := 0
deriving DecidableEq, Repr

/-- A penalty-table entry (R130). -/
structure Penalty where
  ctx : Nat := 0
  expiry : Nat := 0
  repeats : Nat := 0
  /-- Time of its last activation on the channel. -/
  lastAct : Nat := 0
deriving DecidableEq, Repr

/-- A command of a subchannel's retry buffer (R131): its rank, bank and row, and whether it writes. -/
structure RetryCmd where
  rank : Nat := 0
  bank : Nat := 0
  row : Nat := 0
  write : Bool := false
  knownGood : Bool := false
deriving DecidableEq, Repr

/-- A rank of a channel (R126-R149). -/
structure Rank where
  /-- Consecutive readings above 85, below 82, and failed (R126). -/
  hotReads : Nat := 0
  coolReads : Nat := 0
  failReads : Nat := 0
  /-- At the doubled interval by its readings, and for a failed sensor (R126). -/
  hot : Bool := false
  sensorFailed : Bool := false
  /-- Refreshes postponed and pulled in (R127). -/
  owed : Nat := 0
  pulled : Nat := 0
  /-- Bank set the next same-bank refresh addresses (Table DRC-2). -/
  refSet : Nat := 0
  /-- Points with a last-known-good set (R134). -/
  lkg : BitVec 4 := 0
  /-- Last reading, in 0.1 degrees, and the reading and time at the last retraining (R135). -/
  temp : Int := 0
  trainTemp : Int := 0
  trainTime : Nat := 0
  /-- The next interval retraining is due after INTERVAL / 8 (R136). -/
  trainSoon : Bool := false
  /-- A retraining is due and waits (R135). -/
  due : Bool := false
  /-- When the present hold began, and whether the rank was in self-refresh (R136, R137). -/
  heldSince : Option Nat := none
  heldFromSr : Bool := false
  /-- Idle since (R485). -/
  idleSince : Nat := 0
  /-- Consecutive failed replays (R132). -/
  failedReplays : Nat := 0
  /-- A bit per bank group: sPPR used since power-on, hPPR used (R149). -/
  spprUsed : BitVec 8 := 0
  hpprUsed : BitVec 8 := 0
  /-- Contexts already reported for the fence (R139). -/
  reported : List Nat := []
deriving DecidableEq, Repr

/-- A bank: the row of its last activation, whether it is open and when it was last used, the hits of its last
activations, newest first, at most 8 (R124), its rolling activation count (R128) and its row tracker of up to 16
(row, count) (R129). -/
structure Bank where
  row : Nat := 0
  isOpen : Bool := false
  usedAt : Nat := 0
  hits : List Nat := []
  raa : Nat := 0
  tracker : List (Nat × Nat) := []
deriving DecidableEq, Repr

/-- A channel controller (chapter 05) besides its registers. -/
structure Chan where
  writes : List WriteEntry := []
  reads : List ReadEntry := []
  writeMode : Bool := false
  ranks : Sparse Rank := []
  /-- Banks by bank key (R124, R128, R129). -/
  banks : Sparse Bank := []
  lastGroup : Nat := 0
  /-- The RDIMMs' refresh-management thresholds, read in training (R128). -/
  raaimt : Nat := 0
  /-- The fastest point both RDIMMs are rated for (R120). -/
  rated : Nat := 0
  raammt : Nat := 0
  rfmRequired : Bool := false
  penalties : List Penalty := []
  /-- Retry buffers of the four subchannel buses (R131). -/
  retry : Sparse (List RetryCmd) := []
  /-- Points trained at the last power-on (R483). -/
  trained : BitVec 4 := 0
  /-- The target of a frequency change under way (R145). -/
  target : Option Nat := none
  /-- The point kept in retention for a change that a reset abandoned (R146). -/
  beforeChange : Option Nat := none
  /-- Last point asked by OPPOINT_SET and by the thermal policy (R27). -/
  reqPolicy : Option Nat := none
  reqThermal : Option Nat := none
  /-- Write addresses kept in port-die retention storage with their contexts (R350, R462). -/
  retained : List (Nat × Nat) := []
deriving DecidableEq, Repr

/-! ### Fault collector (chapter 15) -/

/-- An event record (Table FLT-5) with its message (Table FLT-3). `st` is byte STATE. -/
structure FRec where
  src : Nat := 0
  kind : Nat := 0
  cls : Nat := 0
  level : Nat := 0
  addr : Nat := 0
  detail : Nat := 0
  merged : Bool := false
  overflow : Bool := false
  time : Nat := 0
  recnum : Nat := 0
  merges : Nat := 0
  st : BitVec 8 := 0
  pkg : Nat := 0
  last : Nat := 0
  /-- EVENT_ACK has released it (R346). -/
  released : Bool := false
deriving DecidableEq, Repr

/-- The reaction that runs (R350-R352). -/
inductive Reaction where
  | none | stop (recnum t0 : Nat) | lockdown (recnum : Nat)
deriving DecidableEq, Repr

/-- The fault collector besides its registers. -/
structure Flt where
  queue : List FRec := []
  nextRec : Nat := 1
  /-- Input messages lost, per tier 0-7 and 8 for the package, since the last accepted from there (R341). -/
  inputLost : Sparse Bool := []
  /-- The next record queued carries OVERFLOW (R347). -/
  ovfNext : Bool := false
  /-- Counted corrected messages per source in the running second, and that second (R343). -/
  ceCount : Sparse Nat := []
  ceSecond : Nat := 0
  reaction : Reaction := .none
  /-- Times of the warm recoveries (R351). -/
  recoveries : List Nat := []
  /-- A record waits for the control functions' MSI-X; the time of the last message (R349). -/
  msixPending : Bool := false
  msixLast : Option Nat := none
  /-- Internal freeze requests posted to home sluices, oldest first (R23). -/
  freezes : List Nat := []
  /-- The Stop sequence has ended in the warm reset (Table FLT-7); the Lockdown sequence has been carried out. -/
  stopped : Bool := false
  lockedDown : Bool := false
deriving DecidableEq, Repr

/-! ### Stored-data protection and keys (chapters 06 and 07) -/

/-- A poison-list entry (R160): pool address, 2 MiB extent or one line, context and DPA at detection, media-error
source (1 external, 2 internal), time base. -/
structure Poison where
  pa : Nat := 0
  extent : Bool := false
  ctx : Nat := 0
  dpa : Nat := 0
  source : Nat := 2
  time : Nat := 0
deriving DecidableEq, Repr

/-- A way of the tag cache: its directory entry (Table SCR-3), its tag line and whether the stored line still checks. -/
structure TagWay where
  valid : Bool := false
  dirty : Bool := false
  pend : BitVec 16 := 0
  age : Nat := 0
  taghi : Nat := 0
  data : Line := 0
  bad : Bool := false
deriving DecidableEq, Repr

/-- A set of the tag cache (R185): 14 ways and the two directory copies. -/
structure TagSet where
  ways : Sparse TagWay := []
  copy0Bad : Bool := false
  copy1Bad : Bool := false
deriving DecidableEq, Repr

/-! ### Service classes (chapter 08) -/

/-- Class parameters (Table WEIR-1). -/
structure ClassParams where
  target : Nat := 0
  guar : Nat := 0
  ceil : Nat := 0
  rank : Nat := 0
  minStep : Nat := 0
  ways : Nat := 4
  groups : BitVec 8 := 0
  maxq : Nat := 64
  rsv : Nat := 0
  missFact : Nat := 12
  missN : Nat := 16
deriving DecidableEq, Repr

/-- A class at a channel weir (R197-R210). `reads`, `lines`: served in the running window. -/
structure ChanClass where
  lat : Nat := 0
  step : Nat := 0
  miss : Bool := false
  missRun : Nat := 0
  okRun : Nat := 0
  reads : Nat := 0
  lines : Nat := 0
  /-- Contexts of the class with a read served in the window (R211). -/
  ctxs : List Nat := []
deriving DecidableEq, Repr

/-- A channel weir: its classes, the pressure latch and the greatest pool occupancy of the window (R200). -/
structure ChanWeir where
  classes : Sparse ChanClass := []
  pressure : Bool := false
  /-- Windows under pressure (WEIR_PRESS_CNT). -/
  pressCnt : Nat := 0
  maxReads : Nat := 0
  maxWrites : Nat := 0
  /-- A rank was HELD or the channel changed frequency in the window (R210). -/
  disturbed : Bool := false
deriving DecidableEq, Repr

/-- A class at a port weir (R201, R202): rate in lines per microsecond, none for the raw rate; tokens used of the 64;
tiers sent to in the window. -/
structure PortClass where
  rate : Option Rat := none
  used : Rat := 0
  sent : BitVec 8 := 0
deriving DecidableEq, Repr

/-- A port weir. -/
structure PortWeir where
  classes : Sparse PortClass := []
  /-- Return of CXL request credits is stopped (R202). -/
  creditsStopped : Bool := false
deriving DecidableEq, Repr

/-- A row under watch (R327): a cistern or basin row, its lines with corrected errors, and whether it has been found
failing. -/
structure RowWatch where
  basin : Bool := false
  row : Nat := 0
  lines : List Nat := []
  failing : Bool := false
  /-- PPR reported no resource: the row is handled by a spare extent (R328). -/
  noPpr : Bool := false
deriving DecidableEq, Repr

/-! ### Aqueducts (chapter 13) -/

/-- A sent flit kept for replay: its 30-bit count and its message (R304). -/
structure AqFlit where
  seq : Nat := 0
  msg : AqMsg := {}
  resent : Nat := 0
deriving DecidableEq, Repr

/-- An aqueduct link: its keys by direction, flit counts, credits held, replay buffer and messages that wait for credit
(R190, R300-R304). -/
structure AqLink where
  txMix : BitVec 128 := 0
  txTag : BitVec 128 := 0
  rxMix : BitVec 128 := 0
  rxTag : BitVec 128 := 0
  keyed : Bool := false
  txSeq : Nat := 0
  rxSeq : Nat := 0
  reqCredits : Nat := 0
  respCredits : Nat := 0
  dataCredits : Nat := 0
  replay : List AqFlit := []
  waiting : List AqMsg := []
  /-- A NAK was sent; flits are discarded until the retransmission (R304). -/
  nakWait : Bool := false
  /-- Times of the retrains within the last second (R304). -/
  retrains : List Nat := []
  /-- When the link reached L0 for its key exchange (R190). -/
  keyingSince : Nat := 0
  /-- Credits to return: request slots, response slots, data blocks (R303). -/
  retReq : Nat := 0
  retResp : Nat := 0
  retData : Nat := 0
  /-- A direction's count has wrapped and its keys wait to be replaced (R302). -/
  txWrap : Bool := false
  rxWrap : Bool := false
deriving DecidableEq, Repr

/-- A remote request that has no response yet (R307). -/
structure Outstanding where
  txid : Nat := 0
  port : Nat := 0
  tag : Nat := 0
  read : Bool := true
  ctx : Nat := 0
  cls : Nat := 0
  dest : Nat := 0
  sentAt : Nat := 0
  /-- It is answered to no host: its port went down (R48), or it is a jet's own access. -/
  internal : Bool := false
  /-- The descriptor whose jet made it (R265). -/
  task : Option DescRef := none
deriving DecidableEq, Repr

/-! ### Pools (chapter 13) -/

/-- A lease (R290-R294): its number, the run on the owner, the borrower, the extents already returned, whether it is
lost. -/
structure Lease where
  num : Nat := 0
  owner : Nat := 0
  tier : Nat := 0
  first : Nat := 0
  count : Nat := 0
  borrower : Nat := 0
  returned : List Nat := []
  lost : Bool := false
deriving DecidableEq, Repr

/-- A pool member as this package sees it: when its last heartbeat came, whether it is current, its role. -/
structure Member where
  member : Bool := false
  hbAt : Nat := 0
  current : Bool := false
  lost : Bool := false
  role : Nat := 0
  /-- Hops from it on ring A and on ring B, as its heartbeats show. -/
  hopsA : Nat := 0
  hopsB : Nat := 0
deriving DecidableEq, Repr

/-- A rill frame (Table RIL-1); `sentAt`, `lastAt` and `resends` for one this package sent and awaits. -/
structure RillFrame where
  dst : Nat := 0
  src : Nat := 0
  ftype : Nat := 0
  fseq : Nat := 0
  hops : Nat := 0
  epoch : Nat := 0
  payload : List Nat := []
  sentAt : Nat := 0
  lastAt : Nat := 0
  resends : Nat := 0
  ringB : Bool := false
  /-- The operation that waits on it. -/
  op : Option DescRef := none
deriving DecidableEq, Repr

/-- A pool descriptor that waits for its answer (R268): opcode, when it was posted, the tag of its request, the lease or
package it names. -/
structure PoolOp where
  desc : DescRef := {}
  opcode : Nat := 0
  since : Nat := 0
  tag : Nat := 0
  arg : Nat := 0
deriving DecidableEq, Repr

/-- An operation the manager has begun (R292-R295): the lease request it asks the owner for (lease, borrower, its tag, owner),
or the frames to send once the standby acknowledges mirror frame `mirror`, sent at `at`. -/
inductive MgrOp where
  | asking (lease borrower tag owner since : Nat)
  | mirroring (mirror at_ : Nat) (sends : List (Nat × Nat × List Nat))
deriving DecidableEq, Repr

/-- A membership to be taken when the package number has been rewritten (R287, R288), and the descriptor that waits. -/
structure Membership where
  number : Nat := 0
  role : Nat := 0
  mgr : Nat := 0
  epoch : Nat := 0
  interval : Option Nat := none
  members : List Nat := []
  standby : Option Nat := none
  poolId : Nat := 0
  op : Option DescRef := none
deriving DecidableEq, Repr

/-- Pool ID, number, role and epoch in the configuration store (R289). -/
structure StoredPool where
  poolId : Nat := 0
  number : Nat := 0
  role : Nat := 0
  epoch : Nat := 0
deriving DecidableEq, Repr

/-- The pool (chapter 13). -/
structure Pool where
  members : Sparse Member := []
  epoch : Nat := 0
  standby : Option Nat := none
  standbyActive : Bool := false
  directory : List Lease := []
  leasesHeld : List Lease := []
  granted : List Lease := []
  nextLease : Nat := 1
  /-- A handover is under way: new pool operations are refused (R298). -/
  handover : Bool := false
  /-- This package becomes manager at its next tick mark (R298). -/
  managerNext : Bool := false
  frames : List RillFrame := []
  /-- Frames the hardware holds for Services, at most 64. -/
  inbox : List RillFrame := []
  /-- Frames delivered, by source and number, newest first (R310). -/
  seen : List (Nat × Nat) := []
  nextFseq : Nat := 0
  /-- Lease returns queued for the manager: lease and PEN, at most 4,096 (R92). -/
  returns : List (Nat × Nat) := []
  ops : List PoolOp := []
  /-- Contexts reported for a request under a lost lease (R294). -/
  lostReported : List Nat := []
  mgrOps : List MgrOp := []
  /-- The membership this package is to take; its extent lists wait for the rewrite (R288). -/
  change : Option Membership := none
  stored : Option StoredPool := none
  /-- A reset has come since: it rejoins warm or cold (R289). -/
  rejoin : Option Bool := none
  hbSentAt : Nat := 0
  /-- Cold start: the directory is to be rebuilt before lease requests are answered (R297). -/
  rebuilding : Bool := false
deriving DecidableEq, Repr


/-! ### Rings, sluices and commit points (chapters 01, 10 and 11) -/

/-- Ring states (Table SLU-5). -/
inductive RingState where
  | absent | running | stopped | error
deriving DecidableEq, Repr

/-- A ring pair (chapter 10). -/
structure Ring where
  state : RingState := .absent
  tenant : Bool := false
  /-- Owner account of a tenant ring. -/
  account : Nat := 0
  log2n : Nat := 0
  dmaPort : Nat := 0
  prio : Nat := 0
  vector : Nat := 0
  intEn : Bool := false
  chkEn : Bool := false
  polled : Bool := false
  pollAddr : Nat := 0
  pollUs : Nat := 0
  /-- Time of the last poll. -/
  polledAt : Nat := 0
  coalCount : Nat := 0
  coalTime : Nat := 0
  dbase : Nat := 0
  cbase : Nat := 0
  /-- Consumer index, producer index last recorded, expected sequence (R238, R242). -/
  ci : Nat := 0
  pi : Nat := 0
  expSeq : Nat := 0
  /-- Next completion entry to write, CQ_HEAD last recorded, phase (R236). -/
  cqWrite : Nat := 0
  cqHead : Nat := 0
  phase : Bool := true
  cause : Nat := 0
  /-- Counted completions since the last message and the time of the first (R246). -/
  counted : Nat := 0
  since : Nat := 0
  /-- It becomes ABSENT once its fetched descriptors complete; the RING_DELETE that asked for it (R248). -/
  leaving : Bool := false
  leaveDesc : Option DescRef := none
deriving DecidableEq, Repr

/-- A descriptor in a sluice's buffer (R249): its 64 bytes, byte i in bits 8i+7 .. 8i, the tier of the sluice, whether
it executes, and, for a FENCE, the descriptors it waited for. -/
structure Fetched where
  ref : DescRef := {}
  tier : Nat := 0
  bytes : BitVec 512 := 0
  running : Bool := false
  waited : Nat := 0
deriving DecidableEq, Repr

/-- A completion to be written (Table SLU-2). -/
structure Cpl where
  ring : Nat := 0
  index : Nat := 0
  cookie : Nat := 0
  status : Nat := 0
  stopped : Bool := false
  quiet : Bool := false
  result : Nat := 0
deriving DecidableEq, Repr

/-- A change of the context table that waits for its commit point (R21). -/
inductive Change where
  | create (c : Nat) (x : Ctx)
  | bind (c port win gen : Nat)
  | unbind (c port : Nat)
  | activate (c : Nat)
  | drain (c : Nat)
  | freeze (c : Nat)
  | thaw (c : Nat)
  | release (c : Nat)
  | map (c index pen count lease : Nat)
  | unmap (c index count : Nat)
  | setClass (c cls : Nat)
  | migStart (c index dest lease : Nat)
  | faultFreeze (c : Nat)
deriving DecidableEq, Repr

/-- What follows once the requests under the old entry have left (R22): the descriptor completes with a result, or the
unmapped extents (PEN and lease) are cleared and returned. -/
inductive AfterDrain where
  | finish (result : Nat)
  | clear (count : Nat) (locals : List Nat) (remotes : List (Nat × Nat))
deriving DecidableEq, Repr

/-- A reduction of access that waits for R22: the remote requests and the host requests (port, tag) under the old
entry. -/
structure Drain where
  desc : DescRef := {}
  txids : List Nat := []
  reqs : List (Nat × Nat) := []
  next : AfterDrain := .finish 0
deriving DecidableEq, Repr

/-- A valid-map line to be cleared (R86): for an EXT_UNMAP, or the release of a context. -/
structure ClearJob where
  tier : Nat := 0
  ext : Nat := 0
  desc : Option DescRef := none
  ctx : Option Nat := none
deriving DecidableEq, Repr

/-- A release under way (R88): its descriptor (none after a warm reset), extents cleared, lease returns. -/
structure Releasing where
  ctx : Nat := 0
  desc : Option DescRef := none
  cleared : Nat := 0
  returned : Nat := 0
deriving DecidableEq, Repr


/-! ### Jets and data tasks (chapter 12) -/

/-- A piece (R272): its task's descriptor, the tier that runs it, where it starts (a context offset; the distance from
SRC for COPY; a tier offset or basin address for a physical place) and its length in bytes, the jet that runs it and
since when, and its watchdog trips. -/
structure Piece where
  desc : DescRef := {}
  tier : Nat := 0
  start : Nat := 0
  len : Nat := 0
  jet : Option Nat := none
  startedAt : Nat := 0
  trips : Nat := 0
deriving DecidableEq, Repr

/-- The counts of a scrub (Table ECC-7). -/
structure ScrubSum where
  read : Nat := 0
  skipped : Nat := 0
  corrected : Nat := 0
  uncorrectable : Nat := 0
  bad : List Nat := []
  rewritten : Nat := 0
  poisoned : Nat := 0
deriving DecidableEq, Repr

/-- A data task that runs: its opcode, the contexts it names, pieces still to be placed, lines or pages done and skipped,
the first poisoned address, the CRC running value with the jet that carries it, the scrub's counts, when its last piece
started, and the status it will end with when not OK. -/
structure Task where
  desc : DescRef := {}
  op : Nat := 0
  ctxs : List Nat := []
  toPlace : List Piece := []
  done : Nat := 0
  skipped : Nat := 0
  firstPoison : Option Nat := none
  crc : Nat := 0
  crcJet : Option Nat := none
  scrub : ScrubSum := {}
  lastStart : Nat := 0
  /-- The Contained event of a poisoned source has been raised (R157). -/
  poisonNoted : Bool := false
  status : Nat := 0
deriving DecidableEq, Repr

/-- A jet (R276-R278): clock-gated, idle since, watchdog trips since power-on, retired, resetting until, waiting to reload
its firmware. -/
structure Jet where
  gated : Bool := false
  idleSince : Nat := 0
  trips : Nat := 0
  retired : Bool := false
  resetTill : Nat := 0
  reload : Bool := false
  /-- Taken out of scheduling by CVU_TEST (R285); halted by a debugger (R277, chapter 19). -/
  testing : Bool := false
  halted : Bool := false
  /-- When the heat counts of its slice were last halved (R111). -/
  heatAt : Nat := 0
deriving DecidableEq, Repr


/-! ### Metering (chapter 09) -/

/-- The six counts of Table MTR-3: lines read, bytes written, hit lines, misses, throttled and hammer microseconds. -/
structure Counts where
  lines : Nat := 0
  bytes : Nat := 0
  hits : Nat := 0
  misses : Nat := 0
  throttled : Nat := 0
  hammer : Nat := 0
deriving DecidableEq, Repr

/-- A context record of a tick (Table MTR-1). `waitOn`: owners of its REMOTE extents at the mark. -/
structure MRec where
  ctx : Nat := 0
  account : Nat := 0
  released : Bool := false
  created : Bool := false
  unsync : Bool := false
  overflow : Bool := false
  indet : Bool := false
  counts : Counts := {}
  extSec : Nat := 0
  tiers : BitVec 8 := 0
  pkgs : BitVec 16 := 0
  waitOn : List Nat := []
  final : Bool := false
deriving DecidableEq, Repr

/-- An interior node (R224): kind 1 account, 2 package, 3 pool; `id`: the account or the package number. -/
structure MNode where
  kind : Nat := 0
  id : Nat := 0
  released : Bool := false
  created : Bool := false
  unsync : Bool := false
  overflow : Bool := false
  indet : Bool := false
  counts : Counts := {}
  extSec : Nat := 0
  children : Nat := 0
  /-- Bytes 80-81 of a pool node. -/
  pkgs : BitVec 16 := 0
deriving DecidableEq, Repr

/-- A seal record (Table MTR-7): generation, digest, signature, and the records it covers. -/
structure Seal where
  gen : Nat := 0
  records : Nat := 0
  digest : BitVec 384 := 0
  signature : BitVec 768 := 0
deriving DecidableEq, Repr

/-- A closed tick in the history (R225, R226). `folding`: tiers whose local fold has not ended; `late`: tiers that did not
switch at the mark (R222); `rollups`, `dones`: roll-ups received by owner, and done frames with their counts. -/
structure Tick where
  num : Nat := 0
  start : Nat := 0
  duration : Nat := 0
  unsync : Bool := false
  markAt : Nat := 0
  folding : List Nat := []
  late : List Nat := []
  records : List MRec := []
  rollups : Sparse Nat := []
  dones : List (Nat × Nat) := []
  /-- Roll-ups this package has sent for the tick, by originating package, with unattributed counts (R223). -/
  sent : Sparse Nat := []
  unattributed : Sparse Counts := []
  donesSent : Bool := false
  finished : Bool := false
  accounts : List MNode := []
  node : Option MNode := none
  /-- Package nodes received, by package; pool node (R224). -/
  nodes : List MNode := []
  poolNode : Option MNode := none
  sealed : Option Seal := none
  sealLate : Bool := false
  /-- A record was marked after the seal (R231). -/
  reseal : Bool := false
deriving DecidableEq, Repr

/-- A METER_SNAPSHOT or METER_SEAL that waits for its tick to be final or sealed (R230, R231). -/
structure MeterWait where
  desc : DescRef := {}
  toSeal : Bool := false
  tick : Nat := 0
  scope : Nat := 0
  first : Nat := 0
  count : Nat := 0
  haddr : Nat := 0
  since : Nat := 0
deriving DecidableEq, Repr

/-- A context released in the open tick: its account, and whether it was created in it too (R215, R217). -/
structure Gone where
  account : Nat := 0
  created : Bool := false
deriving DecidableEq, Repr

/-- The meter besides its registers. `openUnsync`: the package's own timer opened the open tick; `openIndet`: contexts whose record of
the open tick is to be marked INDET, `openIndetAll`: every record. `markAt`: time of the own timer's last mark, or of SYS_READY;
`lastMark`: when a worker last received a mark; `config`: INTERVAL, ROLL_WAIT and AUTOSEAL that take effect at the next
mark (R228). -/
structure Meter where
  ticks : List Tick := []
  openUnsync : Bool := false
  openIndet : List Nat := []
  openIndetAll : Bool := false
  openLate : List Nat := []
  createdIn : Sparse Bool := []
  released : Sparse (Option Gone) := []
  markAt : Option Nat := none
  lastMark : Nat := 0
  config : Option (Nat × Nat × Bool) := none
  waits : List MeterWait := []
deriving DecidableEq, Repr




/-! ### Repair (chapter 14) -/

/-- A coil group of a hop (R316, R321): failed pairs (actives first, then spares; 80 and 81 are the forwarded clocks),
the pairs whose place a spare has taken with that spare, the pairs graded WEAK, and at half width the half in use. -/
structure CoilGroup where
  bad : List Nat := []
  taken : List (Nat × Nat) := []
  weak : List Nat := []
  upper : Bool := false
deriving DecidableEq, Repr

/-- A cistern row to be made hard by hPPR (R150). -/
structure PprRow where
  chan : Nat := 0
  sub : Nat := 0
  rank : Nat := 0
  group : Nat := 0
  bank : Nat := 0
  row : Nat := 0
  device : Option Nat := none
deriving DecidableEq, Repr

/-- Repair state of a tier: coil groups by ((runnel * 8 + hop) * 4 + group), the guard-band windows in a row by pair key,
parity excesses of the running window, spare rows in use by ((runnel * 8 + die) * 16 + bank), repair fuse words 0-247 as
written, with their margin read, entries that wait for a fuse, spare extents handed out, and rows for hPPR. -/
structure Repair where
  groups : Sparse CoilGroup := []
  gb : Sparse Nat := []
  parity : List (Nat × Nat) := []
  rows : Sparse (List Nat) := []
  fuses : List (BitVec 64 × Bool) := []
  queued : List (BitVec 64) := []
  sparesUsed : List Nat := []
  hard : List PprRow := []
  /-- A power-via group reached DRIFT_FAIL: f_t is held at 6 or below until power-on (R326). -/
  viaFail : Bool := false
  /-- A bond or via stands above its warn level (R317). -/
  drifting : Bool := false
  /-- A self-test is due and the tier sleeps (R317). -/
  fstDue : Bool := false
  fuseFullTold : Bool := false
deriving DecidableEq, Repr



/-! ### Package power states, resets and heat (chapters 17, 20 and 21) -/

/-- Where the package stands: only the always-on domain runs with RAIL_EN low; RAIL_EN released and the power-on
sequence awaited (R443); sequence done (P0 or P3, R392); thermal shutdown (R401). -/
inductive PkgMode where
  | aon | rails | up | shutdown
deriving DecidableEq, Repr

/-- The package. `asleep`: a wake cause is awaited (P4, or the third failed attempt, R443); `waking`: the running attempt is
a wake from P4; `railAt`: RAIL_EN last changed, or VDD_AON came into tolerance; `porstLow`: PORST_N low since; `cause`: code
of the coming power-on (Table RST-6); `fresh`: VDD_AON rose before it, so TEST_N is sampled (R424). -/
structure Package where
  mode : PkgMode := .aon
  asleep : Bool := false
  waking : Bool := false
  attempts : Nat := 0
  railEn : Bool := false
  railAt : Nat := 0
  porstLow : Option Nat := none
  cause : Nat := 0
  fresh : Bool := true
  sysReady : Bool := false
  thermtrip : Bool := false
  scan : Bool := false
  /-- Rails outside their band: 0 VDD_AON, 1 VDD_PORT, 2 VDD_ENG, 3 VDD_IO, 4 VDD_FLASH, 5 VDD_SDS, 6 VDDH_SDS,
  7 VDDQ_DDR, 8 VPP_BASIN. -/
  badRails : List Nat := []
  /-- The thermal trip of this power-up is to be reported at the next boot (R401). -/
  tripped : Bool := false


deriving DecidableEq, Repr

/-- A sensor (R394-R396): last reading in 0.125 degrees, learned offset, suspect, and the runs of samples that differ from
and agree with the median. -/
structure Sensor where
  reading : Int := 0
  offset : Rat := 0
  suspect : Bool := false
  badRun : Nat := 0
  okRun : Nat := 0
  /-- Above 85 degrees and above 45 degrees for its die's refresh (R114), with the runs toward the other side. -/
  above85 : Bool := false
  above45 : Bool := true
  run85 : Nat := 0
  run45 : Nat := 0
deriving DecidableEq, Repr

/-- A zone (R395): temperature in 0.125 degrees, and for Warm, Warn, Warn + 3, Hot and Trip whether it is crossed and the
run of samples toward the other side. -/
structure Zone where
  temp : Int := 0
  crossed : List Bool := [false, false, false, false, false]
  run : List Nat := [0, 0, 0, 0, 0]
deriving DecidableEq, Repr

/-- A tier's heat (R394-R398): a reading was taken; its three zones; since when a zone is at Warn or above; the hottest
zone's temperature at the last ladder test and its time; sensors' zones reported as all suspect. -/
structure TierHeat where
  sensed : Bool := false
  zones : Sparse Zone := []
  warnSince : Option Nat := none
  base : Option Int := none
  baseAt : Nat := 0
  blind : Bool := false
deriving DecidableEq, Repr

/-- A tier state request (R391): target state 0 to 3, its descriptor if a descriptor made it. -/
structure TierReq where
  tier : Nat := 0
  target : Nat := 0
  desc : Option DescRef := none
  wake : Bool := false
deriving DecidableEq, Repr

/-- An OPPOINT_SET that waits for changes to end (R267). -/
structure OpWait where
  desc : DescRef := {}
  tier : Nat := 0
  mask : Nat := 0
  op : Nat := 0
deriving DecidableEq, Repr

/-! ### Fuses (chapter 18) -/

/-- A package fuse word (R404, R407, R415): written, its data, destroyed, and how it was sensed: 0 as read, 1 marginal,
2 safe value. -/
structure FuseWord where
  written : Bool := false
  data : DWord := 0
  destroyed : Bool := false
  sense : Nat := 0
deriving DecidableEq, Repr

/-! ### Management (chapter 16) -/

/-- The image of a part as shipped (assumption log entry 7): signed with the key of slot 0. -/
def imageFactory : Image :=
  { headerOk := true, digestOk := true, sigOk := true
    keyDigest := BitVec.ofNat 384 (2 ^ 320 + 2 * 2 ^ 256 + 3 * 2 ^ 192 + 4 * 2 ^ 128 + 5 * 2 ^ 64 + 6)
    compDigest := 0, jetDigest := 0, sv := 0, version := 1, length := 0x900000 }

/-- A copy of the boot record (R361). `good`: its CRC checks. -/
structure BootRec where
  seq : Nat := 0
  active : Nat := 0
  prev : Nat := 0
  trial : Bool := false
  tried : Nat := 0
  good : Bool := true
deriving DecidableEq, Repr

/-- Staging (R269, R363): bytes staged; by PLDM or by FW_STAGE; LAST has been programmed. -/
structure Staging where
  bytes : Nat := 0
  pldm : Bool := false
deriving DecidableEq, Repr

/-- An activation that waits for the new Services (R364): the staged bank, the descriptor, when Services started. -/
structure Activation where
  bank : Nat := 0
  desc : Option DescRef := none
  since : Nat := 0
deriving DecidableEq, Repr

/-- A log sector (R374): 0 erased, 1 open, 2 full, 3 erase pending, 4 retired; its erase count; its header checks. -/
structure Sector where
  state : Nat := 0
  erases : Nat := 0
  headerOk : Bool := true
deriving DecidableEq, Repr

/-- A shutdown record (R378). -/
structure ShutRec where
  cause : Nat := 0
  boots : Nat := 0
  time : Nat := 0
  event : List Nat := []
  flashOff : Nat := 0
  flashOp : Nat := 0
  /-- Services has copied it to the log. -/
  copied : Bool := false
deriving DecidableEq, Repr

/-- A log entry (R374): its place in the circle, words of bytes 0-31, sequence number, boot count, type. -/
structure LogEntry where
  place : Nat := 0
  words : List Nat := []
  seq : Nat := 0
  boots : Nat := 0
  kind : Nat := 0
deriving DecidableEq, Repr

/-- A regulator (R372): its rail (numbered as in `Package.badRails`), the offset of its setpoint from nominal in mV, reads
failed in a row, time of its last step. -/
structure Regulator where
  rail : Nat := 0
  offset : Int := 0
  fails : Nat := 0
  stepAt : Nat := 0
  vout : Nat := 0
  iout : Nat := 0
  temp : Nat := 0
  status : Nat := 0
deriving DecidableEq, Repr

/-- The flash (R373-R382) besides the banks and the boot record. -/
structure Flash where
  /-- Log sectors by place in the circle, the spares used as (place, spare), the write place and entry in it. -/
  sectors : Sparse Sector := []
  spared : List (Nat × Nat) := []
  place : Nat := 0
  entry : Nat := 0
  seq : Nat := 0
  log : List LogEntry := []
  /-- Log RAM (R377). -/
  ram : List LogEntry := []
  slots : Sparse (Option ShutRec) := []
  /-- The configuration store: register overrides, boot count, SMBus address, group clock modes, regulators, the half in
  use, records appended to it and good sectors free in it. -/
  overrides : List (Nat × DWord) := []
  boots : Nat := 0
  sris : List Nat := []
  regulators : List Regulator := []
  half : Nat := 0
  records : Nat := 0
  /-- Sectors of the configuration store that are retired: 0-511 in the first half, 512-1,023 in the second. -/
  cfgBad : List Nat := []
  /-- The calibration set: its bytes where they differ from the factory's, and whether format and CRC check; bytes imported so
  far. -/
  cal : Sparse (BitVec 8) := []
  calGood : Bool := true
  calNew : Option (Sparse (BitVec 8)) := none
  /-- Flash operation in progress: 0 none, 1 program, 2 erase, and its offset (R378). -/
  busy : Nat := 0
  busyOff : Nat := 0
deriving DecidableEq, Repr

/-- The management processor (chapter 16). `grotto`, `services`: they run; `bankA`, `bankB`: the images held; `running`: the
image the MP runs and `jetImage` the one the jets run; `staged`: a verified image is in the inactive bank; `activated`: the
running image was activated since the last commit; `gateDone`: the result of a gate that returned BUSY. -/
structure Mgmt where
  grotto : Bool := false
  services : Bool := false
  bankA : Option Image := some imageFactory
  bankB : Option Image := none
  boot0 : BootRec := { seq := 1 }
  boot1 : BootRec := { good := false }
  running : Option Image := none
  jetImage : Option Image := none
  staging : Option Staging := none
  staged : Bool := false
  fwDesc : Option DescRef := none
  activation : Option Activation := none
  activated : Bool := false
  /-- Services has called READY since its start; time of the last READY, or of the start of Services. -/
  isReady : Bool := false
  readyAt : Nat := 0
  gateDone : Option (Nat × Nat × List Nat) := none
  /-- Time of the last cause to run from the PLL (R355). -/
  pllAt : Option Nat := none
  /-- Time of the last management-only reset or ROM boot. -/
  resetAt : Nat := 0
  tid : Nat := 0
  receiver : Option Nat := none
  /-- PLDM firmware update state: 0 idle, 1 update requested. -/
  updating : Bool := false
  /-- SPDM negotiation: 0 none, 1 version, 2 capabilities, 3 algorithms. -/
  spdm : Nat := 0
deriving DecidableEq, Repr

/-! ### Scan and debug (chapter 19) -/

/-- A hart of the debug module (R429). `epoch`: marks the halt, so that registers the firmware left are free values; `regs`:
registers written since; `triggers`: tdata1 and tdata2 of the four. -/
structure Hart where
  halted : Bool := false
  haltReq : Bool := false
  step : Bool := false
  resumeAck : Bool := false
  epoch : Nat := 0
  /-- Halted since. -/
  since : Nat := 0
  regs : Sparse (Option Word) := []
  triggers : Sparse (Word × Word) := []
deriving DecidableEq, Repr

/-- TAP and debug module (R418-R433). -/
structure Debug where
  /-- Instruction register of the TAP; IDCODE after a TAP reset. -/
  ir : Nat := 1
  /-- Boundary register as last shifted in. -/
  boundary : Nat := 0
  dieCfg : BitVec 16 := 0
  /-- The spliced wrapper registers as last shifted in. -/
  wrapper : Nat := 0
  /-- The last DMI access: address, data read, op status. -/
  dmiAddr : Nat := 0
  dmiData : Word := 0
  dmiStat : Nat := 0
  /-- dmcontrol.dmactive and hartsel; abstract data, program buffer, cmderr; system-bus address, data and error. -/
  active : Bool := false
  hartsel : Nat := 0
  data0 : Word := 0
  progbuf0 : Word := 0
  progbuf1 : Word := 0
  cmderr : Nat := 0
  sbAddr : Word := 0
  sbData : Word := 0
  sberror : Nat := 0
  sbReadOnAddr : Bool := false
  sbReadOnData : Bool := false
  sbAutoInc : Bool := false
  sbAccess : Nat := 2
  ndmreset : Bool := false
  harts : Sparse Hart := []
  /-- Unlocked by challenge and response (R428); nonce with its time of issue and the words of it read; response words. -/
  unlocked : Bool := false
  /-- A challenge and response has succeeded in this power-on (R413). -/
  succeeded : Bool := false
  nonce : Option (BitVec 128 × Nat) := none
  nonceReads : Nat := 4
  response : Option (List Word) := none
  backoffTill : Option Nat := none
deriving DecidableEq, Repr



/-- The state of the block. -/
structure State where
  /-- Commands waiting, first in, first out. -/
  pending : List Instr := []
  /-- Outputs, newest first. -/
  out : List Output := []
  /-- Counter of free values drawn (the model's own). -/
  fresh : Nat := 0
  /-- Time base in microseconds, its 9-bit fraction, and its sources (R385, R447). -/
  us : Nat := 0
  frac : Nat := 0
  refPresent : Bool := false
  xtalRunning : Bool := false
  /-- Registers by BAR0 offset of the low word; unlisted: `regReset`. -/
  regs : Sparse DWord := []
  /-- Path state by path number: port number, 200 debug bus, 201 MCTP. -/
  paths : Sparse PathState := []
  wired : Wired := {}
  tiers : Sparse Tier := []
  ports : Sparse Port := []
  /-- Port groups whose PERST_N is low. -/
  perstLow : Sparse Bool := []
  /-- Lost UCIe modules by link (R34). -/
  modulesLost : Sparse Nat := []
  ctxs : Sparse Ctx := []
  /-- Extent-list entries by ctx * 2^20 + index. -/
  exts : Sparse ExtEntry := []
  /-- List-space runs in use, by tier: (first entry, length, context) (R72). -/
  listUse : Sparse (List (Nat × Nat × Nat)) := []
  /-- Allocation bits by tier * 2^20 + extent (R76). -/
  alloc : Sparse Bool := []
  /-- Valid-map lines by tier * 2^20 + extent. -/
  valid : Sparse ValidLine := []
  /-- Requests held at ports and in crossbar credits, oldest first. -/
  held : List Req := []
  /-- Slices by tier * 16 + slice. -/
  slices : Sparse Slice := []
  /-- Cistern lines by tier * 2^35 + line number; none: never written (R166). -/
  cistern : Sparse (Option CLine) := []
  /-- Channels by tier * 4 + channel. -/
  chans : Sparse Chan := []
  /-- Poison lists by tier, oldest first, and the time OVF last rose (R160). -/
  poison : Sparse (List Poison) := []
  ovfTime : Sparse Nat := []
  /-- Corrections per unit in the running window, by tier * 1024 + unit (R155). -/
  unitCe : Sparse Nat := []
  /-- Number of the running corrections window, by tier (R155). -/
  ceWindow : Sparse Nat := []
  /-- Key material by key ID; none: EMPTY (R174, R175). -/
  keys : Sparse (Option (BitVec 256)) := []
  /-- Keys drawn since the last reseed; entropy source failed, and when its restart test is due (R176). -/
  drbgDraws : Nat := 0
  entropyFailed : Bool := false
  entropyTestAt : Nat := 0
  /-- Tag-cache sets by tier * 2^21 + set. -/
  tagSets : Sparse TagSet := []
  classes : Sparse ClassParams := []
  chanWeirs : Sparse ChanWeir := []
  portWeirs : Sparse PortWeir := []
  /-- Effective guarantees by tier * 64 + class (R207). -/
  effective : Sparse Nat := []
  /-- The miss interrupt waits; time of the last (R210). -/
  missPending : Bool := false
  missLast : Option Nat := none
  /-- Rows under watch by tier, at most 64 (R327). -/
  rowWatch : Sparse (List RowWatch) := []
  /-- Sets retired by slice (R329). -/
  retiredSets : Sparse (List Nat) := []
  /-- Leaf counters: bank, tier, context and counter in one key; the bank in use by tier (R24, R220). -/
  leaves : Sparse Nat := []
  leafBank : Sparse Nat := []
  /-- Remote leaves, with the originating package in the key (R221). -/
  remoteLeaves : Sparse Nat := []
  /-- Tag lines whose sweep is still to be done: (tier, index) (R188). -/
  sweeps : List (Nat × Nat) := []
  /-- Aqueduct links 0 to 7, outstanding remote requests, next transaction number, destinations reported for want of a
  route (R305-R307). -/
  links : Sparse AqLink := []
  remote : List Outstanding := []
  nextTxid : Nat := 0
  noRoute : Sparse Bool := []
  pool : Pool := {}
  /-- Migrations in progress (R89). -/
  migrations : List Migration := []
  flt : Flt := {}
  pkgMode : Package := {}
  /-- Sensors by tier * 16 + sensor; heat by tier; when the thermal MSI-X was last signalled, and whether one waits (R397). -/
  sensors : Sparse Sensor := []
  heat : Sparse TierHeat := []
  thmMsixLast : Option Nat := none
  thmMsixPending : Bool := false
  /-- Tier state requests, oldest first; OPPOINT_SETs that wait. -/
  tierReqs : List TierReq := []
  opWaits : List OpWait := []
  /-- Package fuse words by number, and the anti-rollback field of 384 bits (R416). -/
  fuses : Sparse FuseWord := []
  arb : BitVec 384 := 0
  flash : Flash := {}
  dbg : Debug := {}
  /-- Rings by number (chapter 10). -/
  rings : Sparse Ring := []
  /-- The sluices' descriptor buffers, in order of fetch; completions to be written, oldest first. -/
  fetched : List Fetched := []
  cplQ : List Cpl := []
  /-- The ring fetched last, by tier * 4 + PRIO (R249). -/
  sluiceRr : Sparse Nat := []
  /-- Changes that wait for their commit point, oldest first, with their descriptors (R21). -/
  commits : List (Option DescRef × Change) := []
  /-- Reductions of access that wait for R22, oldest first. -/
  drains : List Drain := []
  /-- Valid-map lines to be cleared, EXT_UNMAP descriptors whose clears run with their counts, releases (R86, R88). -/
  clears : List ClearJob := []
  unmaps : List (DescRef × Nat) := []
  releases : List Releasing := []
  /-- Extent-microsecond accumulator by context, and the time it was last brought up to date (R219). -/
  extAcc : Sparse Nat := []
  extAt : Sparse Nat := []
  meter : Meter := {}
  mgmt : Mgmt := {}
  /-- Entries of a tier's update log while in T2 (R389). -/
  updateLog : Sparse Nat := []
  /-- Wakes asked of a tier in T2 or T1. -/
  wakeReq : Sparse Bool := []
  /-- Data tasks, the pieces in the tiers' piece queues and in the jets, jets by tier * 16 + jet (chapter 12). -/
  tasks : List Task := []
  pieces : List Piece := []
  jets : Sparse Jet := []
  /-- Pieces started so far, to order the tasks (R273). -/
  pieceSeq : Nat := 0
  /-- Extents by tier * 2^20 + extent: 1 withheld, 2 to be withheld when it would be freed, 3 withheld until power-on
  (R330, R331). -/
  badExt : Sparse Nat := []
  /-- Repair state by tier (chapter 14). -/
  repair : Sparse Repair := []
deriving DecidableEq, Repr

/-- The package when VDD_AON has just risen, before its power-on sequence: every register and table at its reset
value, no command waiting. -/
def State.reset : State := {}

end Sys2Proof.Machine
end

