-- ==== Sys2Proof/Machine/Ops.lean ====
section
/-! DEFINITION. The named operations over the state: registers and counters, indexed state, outputs, free values. -/

namespace Sys2Proof.Machine

/-! ### Registers -/

/-- The stored value of the register at low offset `o`. -/
def State.reg (s : State) (o : Nat) : DWord := Sparse.get regReset s.regs o

/-- Store the register at low offset `o`. -/
def State.setReg (s : State) (o : Nat) (v : DWord) : State := { s with regs := Sparse.set regReset s.regs o v }

/-- A field of the register in the block (or block copy) at `base`. -/
def State.get (s : State) (base : Nat) (f : Fld) : Nat := bitsAt (s.reg (base + f.off)).toNat f.hi f.lo

/-- Store a field. -/
def State.put (s : State) (base : Nat) (f : Fld) (v : Nat) : State :=
  s.setReg (base + f.off) (BitVec.ofNat 64 (setBits (s.reg (base + f.off)).toNat f.hi f.lo v))

/-- A one-bit field. -/
def State.flag (s : State) (base : Nat) (f : Fld) : Bool := s.get base f ≠ 0

/-- Set a one-bit field. -/
def State.putFlag (s : State) (base : Nat) (f : Fld) (b : Bool) : State := s.put base f (ofBool b)

/-- Bit `i` of the register at `o`. -/
def State.regBit (s : State) (o i : Nat) : Bool := bitAt (s.reg o).toNat i

/-- Store bit `i` of the register at `o`. -/
def State.setRegBit (s : State) (o i : Nat) (b : Bool) : State :=
  s.setReg o (BitVec.ofNat 64 (setBit (s.reg o).toNat i b))

/-- Advance a saturating 64-bit counter. -/
def State.count (s : State) (o n : Nat) : State :=
  s.setReg o (BitVec.ofNat 64 (satAdd (2 ^ 64 - 1) (s.reg o).toNat n))

/-- The set-up lock (R477). -/
def State.locked (s : State) : Bool := s.flag glbBase GLB_SETUP_LOCK_LOCK

/-! ### Outputs and free values -/

/-- Put an output out. -/
def State.emit (s : State) (o : Output) : State := { s with out := o :: s.out }

/-- Draw a fresh free value: the index to apply a constant of `Config` to is `s.fresh`. -/
def State.drawn (s : State) : State := { s with fresh := s.fresh + 1 }

/-! ### Indexed state -/

/-- A port at power-on: the control function is presented on ports 00 and 12 (R62). -/
def portDefault (p : Nat) : Port := { ctlfn := p = 0 || p = 12 }

def State.port (s : State) (p : Nat) : Port := Sparse.get portDefault s.ports p
def State.setPort (s : State) (p : Nat) (v : Port) : State := { s with ports := Sparse.set portDefault s.ports p v }
def State.tier (s : State) (t : Nat) : Tier := Sparse.get (fun _ => {}) s.tiers t
def State.setTier (s : State) (t : Nat) (v : Tier) : State := { s with tiers := Sparse.set (fun _ => {}) s.tiers t v }
def State.ctx (s : State) (c : Nat) : Ctx := Sparse.get (fun _ => {}) s.ctxs c
def State.setCtx (s : State) (c : Nat) (v : Ctx) : State := { s with ctxs := Sparse.set (fun _ => {}) s.ctxs c v }
def extKey (c i : Nat) : Nat := c * 2 ^ 20 + i
def State.ext (s : State) (c i : Nat) : ExtEntry := Sparse.get (fun _ => {}) s.exts (extKey c i)
def State.setExt (s : State) (c i : Nat) (v : ExtEntry) : State :=
  { s with exts := Sparse.set (fun _ => {}) s.exts (extKey c i) v }
def tierExt (t e : Nat) : Nat := t * 2 ^ 20 + e
def State.allocBit (s : State) (t e : Nat) : Bool := Sparse.get (fun _ => false) s.alloc (tierExt t e)
def State.setAlloc (s : State) (t e : Nat) (b : Bool) : State :=
  { s with alloc := Sparse.set (fun _ => false) s.alloc (tierExt t e) b }
def State.validLine (s : State) (t e : Nat) : ValidLine := Sparse.get (fun _ => {}) s.valid (tierExt t e)
def State.setValidLine (s : State) (t e : Nat) (v : ValidLine) : State :=
  { s with valid := Sparse.set (fun _ => {}) s.valid (tierExt t e) v }
def State.slice (s : State) (t j : Nat) : Slice := Sparse.get (fun _ => {}) s.slices (t * 16 + j)
def State.setSlice (s : State) (t j : Nat) (v : Slice) : State :=
  { s with slices := Sparse.set (fun _ => {}) s.slices (t * 16 + j) v }
def State.chan (s : State) (t c : Nat) : Chan := Sparse.get (fun _ => {}) s.chans (t * 4 + c)
def State.setChan (s : State) (t c : Nat) (v : Chan) : State :=
  { s with chans := Sparse.set (fun _ => {}) s.chans (t * 4 + c) v }
def Chan.rank (ch : Chan) (k : Nat) : Rank := Sparse.get (fun _ => {}) ch.ranks k
def Chan.setRank (ch : Chan) (k : Nat) (r : Rank) : Chan := { ch with ranks := Sparse.set (fun _ => {}) ch.ranks k r }
def State.rank (s : State) (t c k : Nat) : Rank := (s.chan t c).rank k
def State.setRank (s : State) (t c k : Nat) (r : Rank) : State := s.setChan t c ((s.chan t c).setRank k r)
def lineKey (t off : Nat) : Nat := t * 2 ^ 35 + off / 64
/-- The cistern line at a tier offset; none: never written. -/
def State.cline (s : State) (t off : Nat) : Option CLine := Sparse.get (fun _ => none) s.cistern (lineKey t off)
def State.setCline (s : State) (t off : Nat) (l : CLine) : State :=
  { s with cistern := Sparse.set (fun _ => none) s.cistern (lineKey t off) (some l) }
def State.path (s : State) (p : Nat) : PathState := Sparse.get (fun _ => {}) s.paths p
def State.setPath (s : State) (p : Nat) (v : PathState) : State :=
  { s with paths := Sparse.set (fun _ => {}) s.paths p v }
def State.cls (s : State) (c : Nat) : ClassParams := Sparse.get (fun _ => {}) s.classes c
def State.key (s : State) (k : Nat) : Option (BitVec 256) := Sparse.get (fun _ => none) s.keys k
def State.setKey (s : State) (k : Nat) (v : Option (BitVec 256)) : State :=
  { s with keys := Sparse.set (fun _ => none) s.keys k v }
def tagSetKey (t x : Nat) : Nat := t * 2 ^ 21 + x % 2 ^ 21
def State.tagSet (s : State) (t x : Nat) : TagSet := Sparse.get (fun _ => {}) s.tagSets (tagSetKey t x)
def State.setTagSet (s : State) (t x : Nat) (v : TagSet) : State :=
  { s with tagSets := Sparse.set (fun _ => {}) s.tagSets (tagSetKey t x) v }
def State.plist (s : State) (t : Nat) : List Poison := Sparse.get (fun _ => []) s.poison t
def State.chanWeir (s : State) (t c : Nat) : ChanWeir := Sparse.get (fun _ => {}) s.chanWeirs (t * 4 + c)
def State.setChanWeir (s : State) (t c : Nat) (w : ChanWeir) : State :=
  { s with chanWeirs := Sparse.set (fun _ => {}) s.chanWeirs (t * 4 + c) w }
def State.portWeir (s : State) (p : Nat) : PortWeir := Sparse.get (fun _ => {}) s.portWeirs p
def State.setPortWeir (s : State) (p : Nat) (w : PortWeir) : State :=
  { s with portWeirs := Sparse.set (fun _ => {}) s.portWeirs p w }
/-- A class at a channel weir starts at MIN_STEP (R213). -/
def State.chanClass (s : State) (t c k : Nat) : ChanClass := Sparse.get (fun _ => {}) (s.chanWeir t c).classes k
def State.setChanClass (s : State) (t c k : Nat) (v : ChanClass) : State :=
  s.setChanWeir t c { s.chanWeir t c with classes := Sparse.set (fun _ => {}) (s.chanWeir t c).classes k v }
def State.portClass (s : State) (p k : Nat) : PortClass := Sparse.get (fun _ => {}) (s.portWeir p).classes k
def State.setPortClass (s : State) (p k : Nat) (v : PortClass) : State :=
  s.setPortWeir p { s.portWeir p with classes := Sparse.set (fun _ => {}) (s.portWeir p).classes k v }

/-! ### The package -/

/-- The tier count (R2). -/
def State.nTiers (s : State) : Nat := s.wired.tiers
/-- The tiers present. -/
def State.tierList (s : State) : List Nat := upto s.nTiers
/-- The host ports present (R4). -/
def State.portList (s : State) : List Nat := upto (12 * s.nTiers)
/-- This package's number in its pool (R288). -/
def State.pkg (s : State) : Nat := s.get rilBase RIL_STATUS_PKG
/-- A pool address (Table CTX-7). -/
def poolAddr (pkg t off : Nat) : Nat := pkg * 2 ^ 44 + t * 2 ^ 41 + off
/-- The home tier of a context. -/
def State.homeTier (s : State) (c : Nat) : Nat := c % s.nTiers
/-- Tier of a port. -/
def portTier (p : Nat) : Nat := p / 12
/-- The data plane is down: a Stop or Lockdown (R350, R352), a halt (R351), or the package is not up (R392, R400, R457). -/
def State.reacting (s : State) : Bool :=
  s.flt.reaction ≠ .none || s.pkgMode.mode ≠ .up || s.flag fltBase FLT_STATUS_HALTED
/-- The link of a port is in L0 or L0p with CXL (R50). -/
def State.linkUp (s : State) (p : Nat) : Bool :=
  let l := s.get (hptBase p) HPT_LINK_STATUS_LTSSM
  l = 3 || l = 4 || l = 6
/-- A port is enabled by its register and by its wired enable (R409, Table OTP-1). -/
def State.portOn (s : State) (p : Nat) : Bool := s.flag (hptBase p) HPT_PORT_CFG_ENABLE && s.wired.ports.getLsbD p
/-- A port is enabled and not bonded (R49, R61). -/
def State.hostPort (s : State) (p : Nat) : Bool :=
  p < 12 * s.nTiers && s.portOn p && !(s.port (p / 2 * 2)).bonded
/-- The ports that present the control function (R62). -/
def State.controlPorts (s : State) : List Nat := s.portList.filter (fun p => (s.port p).ctlfn)
/-- Signal a vector of every control function. -/
def State.signalControl (s : State) (vec : Nat) : State :=
  forEach s.controlPorts (fun p t => t.emit (.msix p 1 vec)) s

/-- A CXL.mem request, a doorbell or an index change reaches a tier: from T1 to T0 at once, a wake asked in T2 (Table
PWR-2). -/
def wakeTier (t : Nat) (s : State) : State :=
  match (s.tier t).power with
  | 1 => (s.setTier t { s.tier t with power := 0, idleSince := s.us }).count (pwrBase + 0x48) 1
  | 2 => { s with wakeReq := Sparse.set (fun _ => false) s.wakeReq t true }
  | _ => s.setTier t { s.tier t with idleSince := s.us }

/-! ### The rill (R309, R310) -/

/-- What this package has heard of package `p`. -/
def State.member (s : State) (p : Nat) : Member := Sparse.get (fun _ => {}) s.pool.members p
def State.setMember (s : State) (p : Nat) (m : Member) : State :=
  { s with pool := { s.pool with members := Sparse.set (fun _ => {}) s.pool.members p m } }

/-- The ring a unicast frame is sent on: the one with fewer hops to its destination that heartbeats show whole. Heartbeats of
a package on one ring show its distance on the other. -/
def State.ringTo (s : State) (dst : Nat) : Nat :=
  let m := s.member dst
  if m.hopsB = 0 then (if m.hopsA = 0 then 0 else 1) else if m.hopsA ≠ 0 && m.hopsA < m.hopsB then 1 else 0

/-- A frame this package sends (Table RIL-1). A broadcast goes on both rings and is not acknowledged; a unicast frame is
kept until it is; `op` is the descriptor that ends when it is not. -/
def rillSendFor (op : Option DescRef) (dst ftype : Nat) (payload : List Nat) (s : State) : State :=
  let ring := if dst = 0xFF then 2 else s.ringTo dst
  let f : RillFrame :=
    { dst := dst, src := s.pkg, ftype := ftype, fseq := s.pool.nextFseq, epoch := s.pool.epoch, payload := payload
      sentAt := s.us, lastAt := s.us, ringB := decide (ring = 1), op := op }
  let a := s.flag rilBase RIL_POOL_CFG_RING_A_EN
  let b := s.flag rilBase RIL_POOL_CFG_RING_B_EN
  let ring := if ring = 2 then (if a then (if b then 2 else 0) else 1) else if ring = 0 then ofBool !a else ofBool b
  let keep := if dst = 0xFF || ftype = 0x7F then s.pool.frames else s.pool.frames ++ [f]
  let s := { s with pool := { s.pool with frames := keep, nextFseq := (s.pool.nextFseq + 1) % 65536 } }
  if a || b then (s.count (rilBase + 0x40) 1).emit (.rillFrame ring ftype dst payload) else s

def rillSend (dst ftype : Nat) (payload : List Nat) (s : State) : State := rillSendFor none dst ftype payload s

/-! ### The cascade (R33, R34) -/

/-- UCIe modules on each link: four between the two tiers of a DP8-2, two otherwise (Table ARC-5). -/
def modulesPerLink (n : Nat) : Nat := if n = 2 then 4 else 2
/-- Modules of link `l` that live: link l joins tiers l and (l + 1) mod n; a DP8-2 has link 0 alone. -/
def State.linkLive (s : State) (l : Nat) : Nat :=
  modulesPerLink s.nTiers - Sparse.get (fun _ => 0) s.modulesLost (if s.nTiers = 2 then 0 else l)
/-- Every link from `a` to `b` in increasing direction lives. -/
def State.upPath (s : State) (a b : Nat) : Bool :=
  (upto ((b + s.nTiers - a) % s.nTiers)).all (fun i => 0 < s.linkLive ((a + i) % s.nTiers))
/-- Tier `b` can be reached from tier `a` (R34). -/
def State.reaches (s : State) (a b : Nat) : Bool := a = b || s.upPath a b || s.upPath b a

end Sys2Proof.Machine
end

