-- ==== Sys2Proof/Machine/Flags.lean ====
section
/-! DEFINITION. Status flags and event flags: the fault collector's acceptance of messages (R335-R349) and the host
event logs (R53). -/

namespace Sys2Proof.Machine

/-! ### Host event logs (R53) -/

def Port.log (p : Port) (l : Nat) : EventLog := Sparse.get (fun _ => {}) p.logs l
def Port.setLog (p : Port) (l : Nat) (v : EventLog) : Port := { p with logs := Sparse.set (fun _ => {}) p.logs l v }

/-- The next record handle; never 0. -/
def nextHandle (h : Nat) : Nat := if h % 65535 = 0 then 1 else h + 1

/-- Place a record in a port's log: a full log loses its oldest record, but a full Dynamic Capacity log holds the event
back (R53). MSI-X vector l + 1 when the interrupt policy asks for it (R61). -/
def placeEvent (p l : Nat) (r : EventRec) (s : State) : State :=
  let q := s.port p
  let lg := q.log l
  if l = 4 ∧ 64 ≤ lg.records.length then s.setPort p { q with heldDc := q.heldDc ++ [r] }
  else
    let r := { r with handle := q.nextHandle, time := s.us }
    let lg := if 64 ≤ lg.records.length then { records := lg.records.tail ++ [r], overflow := lg.overflow + 1 }
      else { lg with records := lg.records ++ [r] }
    let s := s.setPort p { q.setLog l lg with nextHandle := nextHandle q.nextHandle }
    if (Sparse.get (fun _ => (0 : BitVec 8)) q.intPolicy l).toNat % 4 = 1 then s.emit (.msix p 0 (l + 1)) else s

/-- The window of the present binding of context `c` on port `p` (R73): its index and entry. -/
def presentWindow (q : Port) (c : Nat) : Option (Nat × Window) :=
  q.windows.find? (fun w => w.2.valid && !w.2.pendrel && w.2.ctx = c)

/-! ### Sources, kinds and classes (Tables FLT-1 and FLT-2) -/

/-- Default classes of the kinds of a package source: 0 Note, 1 Corrected, 2 Contained, 3 Degraded, 4 Stop,
5 Lockdown. -/
def pkgKinds (src : Nat) : List Nat :=
  match src with
  | 0x000 => [0, 0] | 0x001 => [0, 3, 0] | 0x002 => [5, 5, 5, 5] | 0x003 => [5] | 0x004 => [0, 3] | 0x005 => [3]
  | 0x006 => [3, 0, 3] | 0x007 => [0, 3, 3, 0] | 0x008 => [2] | 0x009 => [0, 0, 0, 0] | 0x00A => [0, 0]
  | 0x00B => [3, 1, 3] | 0x00C => [3, 1, 3] | 0x00D => [3, 3, 3, 3, 2] | 0x00E => [0, 0] | 0x00F => [3, 3, 0]
  | 0x010 => [1, 1, 3, 3, 3, 3, 2] | 0x011 => [1, 1, 3, 3, 3, 3, 2] | 0x012 => [1, 1, 3, 3, 3, 3, 2]
  | 0x013 => [1, 1, 3, 3, 3, 3, 2] | 0x014 => [1, 1, 3, 3, 3, 3, 2] | 0x015 => [1, 1, 3, 3, 3, 3, 2]
  | 0x016 => [1, 1, 3, 3, 3, 3, 2] | 0x017 => [1, 1, 3, 3, 3, 3, 2] | 0x018 => [3]
  | _ => []

/-- Default classes of the kinds of tier source `i`. -/
def tierKinds (i : Nat) : List Nat :=
  if i < 12 then [3, 0, 1, 0, 0, 0, 0, 0]
  else if i < 16 then [1, 1, 3, 3, 2, 0, 3, 0, 3, 2]
  else if i < 32 then [1, 0, 3, 3, 3, 3, 3, 2]
  else match i with
    | 32 => [1, 2, 3] | 33 => [1, 2, 3, 1, 1] | 34 => [1, 2, 3] | 35 => [4, 4] | 36 => [3] | 37 => [5]
    | 38 => [1, 3, 2, 2, 2] | 39 => [0, 2, 2, 2, 0, 2] | 40 => [3, 3] | 41 => [1, 2, 0, 2] | 42 => [0, 2, 0, 0, 0]
    | 43 => [3, 3, 0, 3, 3, 3] | 44 => [0, 3, 3, 3] | 45 => [3, 3] | 46 => [3, 2] | _ => []

/-- Source number of tier source `i` (R335). -/
def tierSource (t i : Nat) : Nat := 0x040 + t * 0x38 + i
def sourceIsTier (src : Nat) : Bool := 0x040 ≤ src && src < 0x200
def sourceTier (src : Nat) : Nat := (src - 0x040) / 0x38

/-- The default class of a kind of a source; none where the tables list no such kind, or the tier is absent (R335).
Kind 8 of channels 1 to 3 is raised by channel 0 only. -/
def State.kindClass (s : State) (src kind : Nat) : Option Nat :=
  if sourceIsTier src then
    if sourceTier src < s.nTiers then
      let i := (src - 0x040) % 0x38
      if kind = 0x3F ∧ tierKinds i ≠ [] then some 3 else (tierKinds i)[kind]?
    else none
  else if kind = 0x3F ∧ pkgKinds src ≠ [] then some 3 else (pkgKinds src)[kind]?

def srcCfg (src : Nat) : Nat := fltBase + 4 * src

/-- The class R340 gives a message of `src` raised at `raised`. -/
def State.fltClass (s : State) (src raised : Nat) : Nat :=
  let floor := s.get (srcCfg src) FLT_SRC_CFG_FLOOR
  let mx := let m := min 5 (s.get (srcCfg src) FLT_SRC_CFG_MAX); max m floor
  let mn := min mx (s.get (srcCfg src) FLT_SRC_CFG_MIN)
  max floor (min mx (max mn raised))

/-- Show whether a condition of a source persists (R344). -/
def setLive (src : Nat) (b : Bool) (s : State) : State := s.putFlag (srcCfg src) FLT_SRC_STAT_LIVE b

/-! ### Records -/

/-- Word 0 of a message (Table FLT-3). -/
def FRec.word0 (r : FRec) : Nat :=
  r.src % 2 ^ 9 + r.kind % 2 ^ 6 * 2 ^ 9 + r.cls % 8 * 2 ^ 15 + r.level % 8 * 2 ^ 18 + ofBool r.merged * 2 ^ 21 +
  ofBool r.overflow * 2 ^ 22 + (if sourceIsTier r.src then sourceTier r.src else 0) * 2 ^ 23 + r.detail / 2 ^ 16 % 64 * 2 ^ 26
/-- Words 0 to 3 of a message. -/
def FRec.words (r : FRec) : List Nat :=
  [r.word0, r.addr % 2 ^ 32, r.detail % 2 ^ 16 * 2 ^ 16 + r.addr / 2 ^ 32 % 2 ^ 16, r.time % 2 ^ 32]
/-- Bytes 16 to 31 of a record (Table FLT-5) as words. -/
def FRec.tail (r : FRec) : List Nat :=
  [r.recnum % 2 ^ 32, min r.merges 0xFFFF + r.st.toNat * 2 ^ 16 + r.pkg * 2 ^ 24, r.time / 2 ^ 32 % 2 ^ 32, r.last % 2 ^ 32]
/-- Bit `i` of STATE set. -/
def FRec.mark (r : FRec) (i : Nat) : FRec := { r with st := r.st ||| BitVec.ofNat 8 (2 ^ i) }
def FRec.marked (r : FRec) (i : Nat) : Bool := bitAt r.st.toNat i
/-- A record leaves the queue when released, copied and its reaction done (R346). -/
def FRec.leaves (r : FRec) : Bool := r.released && r.marked 4 && r.marked 0

def State.setQueue (s : State) (q : List FRec) : State := { s with flt := { s.flt with queue := q } }
/-- Change the record with a record number. -/
def mapRecord (n : Nat) (f : FRec → FRec) (s : State) : State :=
  s.setQueue (s.flt.queue.map (fun r => if r.recnum = n then f r else r))

/-- Store a first-error capture (R348): six words and VALID at `base`, unless one is held. -/
def capture (base : Nat) (r : FRec) (t64 : Nat) (s : State) : State :=
  if s.regBit (base + 0x18) 0 then s
  else
    let ws := r.words ++ [t64 % 2 ^ 32, t64 / 2 ^ 32 % 2 ^ 32]
    let s := forEach (ws.zipIdx) (fun w t => t.setReg (base + 4 * w.2) (BitVec.ofNat 64 w.1)) s
    s.setRegBit (base + 0x18) 0 true

/-- The capture of a record's source: FLT_PKG_FIRST or the tier's FLT_TFIRST. -/
def captureBase (src : Nat) : Nat :=
  if sourceIsTier src then tfltBase (sourceTier src) else fltBase + 0x100

/-- STICKY, MAXCLASS and COUNT of a source at a message (R344). -/
def noteSource (src cls : Nat) (s : State) : State :=
  let b := srcCfg src
  let s := s.putFlag b FLT_SRC_STAT_STICKY true
  let s := s.put b FLT_SRC_STAT_MAXCLASS (max cls (s.get b FLT_SRC_STAT_MAXCLASS))
  s.put b FLT_SRC_STAT_COUNT (satAdd 0xFFFF (s.get b FLT_SRC_STAT_COUNT) 1)

/-- The record a message is merged into: while a Stop or Lockdown reaction runs, its record; else, for Note and
Corrected, an unacknowledged record of the same source, kind and class (R341, R342). -/
def mergeTarget (src kind cls : Nat) (s : State) : Option Nat :=
  match s.flt.reaction with
  | .stop n _ => some n
  | .lockdown n => some n
  | .none =>
    if cls ≤ 1 then
      (s.flt.queue.find? (fun r => r.src = src && r.kind = kind && r.cls = cls && !r.released && !r.marked 5)).map (·.recnum)
    else none

/-- Merge a message of class `cls` into record `n`; a rise to Stop or Lockdown starts that reaction (R342). -/
def mergeInto (n cls : Nat) (s : State) : State :=
  let s := mapRecord n (fun r => { r with merges := r.merges + 1, merged := true, cls := max r.cls cls, last := s.us }) s
  match s.flt.reaction with
  | .stop m _ => if cls = 5 then { s with flt := { s.flt with reaction := .lockdown m } } else s
  | _ => s

/-- Make room and queue a record (R347). Answers the source of a dropped or replaced record. -/
def enqueue (r : FRec) (s : State) : State × Option Nat :=
  let q := s.flt.queue
  if q.length < 64 then (s.setQueue (q ++ [r]), none)
  else
    let drop (t : State) (src : Nat) : State × Option Nat :=
      (((t.count (fltBase + 0x40) 1).putFlag fltBase FLT_STATUS_DROPPED true), some src)
    let minCls := q.foldl (fun m x => min m x.cls) 7
    let victim : Option FRec :=
      if r.cls ≤ 1 then none
      else if r.cls ≤ 3 then q.find? (fun x => x.cls ≤ 1)
      else q.find? (fun x => x.cls = minCls)
    match victim with
    | none => let (t, d) := drop s r.src; ({ t with flt := { t.flt with ovfNext := true } }, d)
    | some v => drop (s.setQueue (q.filter (fun x => x.recnum ≠ v.recnum) ++ [{ r with overflow := true }])) v.src

/-- Host event records of a Contained or Degraded record at level 7 (Table FLT-6): each port whose window of the
context is OPEN. -/
def notifyHosts (r : FRec) (s : State) : State :=
  forEach s.portList (fun p t =>
    match presentWindow (t.port p) r.addr with
    | some (_, w) =>
      if w.opened then
        placeEvent p (if r.cls = 2 then 2 else 1) { kind := 0, dpa := w.wbase * 2 ^ 28, ctx := r.addr } t
      else t
    | none => t) s

/-- Whether record class and the source's NO_ bits route a record to a path (R349, Table FLT-6). -/
def State.toMsix (s : State) (r : FRec) : Bool :=
  s.get fltBase FLT_CFG_MSIX_MIN ≤ (if r.marked 5 then max r.cls 3 else r.cls) && !s.flag (srcCfg r.src) FLT_SRC_CFG_NO_MSIX
def State.toRill (s : State) (r : FRec) : Bool :=
  s.get fltBase FLT_CFG_RILL_MIN ≤ r.cls && !s.flag (srcCfg r.src) FLT_SRC_CFG_NO_RILL &&
  (s.get rilBase RIL_STATUS_ROLE = 1 || s.get rilBase RIL_STATUS_ROLE = 2)

/-- The place a lost input message is noted under: the source's tier, or 8 for the package (R341). -/
def lostIndex (src : Nat) : Nat := if sourceIsTier src then sourceTier src else 8

/-- A message that names a context and is Contained or Degraded. -/
def contextual (cls level : Nat) : Bool := (cls = 2 || cls = 3) && level = 7

/-- The record of a new message, with the marks of what its acceptance does at once (R341, R345, R347). -/
def newRecord (src kind cls level addr detail : Nat) (s : State) : FRec :=
  let r : FRec :=
    { src, kind, cls, level, addr, detail
      overflow := Sparse.get (fun _ => false) s.flt.inputLost (lostIndex src) || s.flt.ovfNext, time := s.us
      recnum := s.flt.nextRec, pkg := s.pkg, last := s.us }
  let r := if cls ≤ 3 then r.mark 0 else r
  let r := if contextual cls level && s.flag (srcCfg src) FLT_SRC_CFG_FREEZE then r.mark 1 else r
  let r := if contextual cls level && !s.flag (srcCfg src) FLT_SRC_CFG_NO_HOST then r.mark 2 else r
  if cls ≤ 3 && s.toRill r then r.mark 3 else r

/-- A message from a place has been accepted: none from there counts as lost any more (R341). -/
def clearLost (src : Nat) (s : State) : State :=
  { s with flt := { s.flt with inputLost := Sparse.set (fun _ => false) s.flt.inputLost (lostIndex src) false } }

/-- Record `num` stands in the queue: numbers go on from 2^32 - 1 to 1, and the MP runs from the PLL (R345, R355). -/
def recordQueued (num : Nat) (s : State) : State :=
  if s.flt.queue.any (fun x => x.recnum = num) then
    { s with flt := { s.flt with nextRec := if num = 2 ^ 32 - 1 then 1 else num + 1, ovfNext := false }
             mgmt := { s.mgmt with pllAt := some s.us } }
  else s

/-- A new record's four routes (Table FLT-6): host event records, the freeze of its context (R23), the frame to the
manager, and MSI-X (R349). -/
def tellHosts (r : FRec) (s : State) : State := if r.marked 2 then notifyHosts r s else s
def askFreeze (r : FRec) (s : State) : State :=
  if r.marked 1 then { s with flt := { s.flt with freezes := s.flt.freezes ++ [r.addr] } } else s
def tellManager (r : FRec) (s : State) : State :=
  if r.marked 3 then rillSend (s.get rilBase RIL_STATUS_MGR) 0x40 (r.words ++ r.tail) s else s
def askMsix (r : FRec) (s : State) : State :=
  if r.cls ≤ 4 && s.toMsix r then { s with flt := { s.flt with msixPending := true } } else s
def routeRecord (r : FRec) (s : State) : State := askMsix r (tellManager r (askFreeze r (tellHosts r s)))

/-- A Stop or Lockdown record starts its reaction (R350, R352). -/
def startReaction (r : FRec) (s : State) : State :=
  if r.cls = 4 then { s with flt := { s.flt with reaction := .stop r.recnum s.us } }
  else if r.cls = 5 then { s with flt := { s.flt with reaction := .lockdown r.recnum } } else s

/-- The first error of a place is captured from class Contained up (R348). -/
def captureNew (r : FRec) (s : State) : State := if 2 ≤ r.cls then capture (captureBase r.src) r s.us s else s

/-- Accept one message of class `cls` (R341-R349). Answers the source of a record dropped to make room. -/
def acceptOne (src kind cls level addr detail : Nat) (s : State) : State × Option Nat :=
  let s := noteSource src cls s
  match mergeTarget src kind cls s with
  | some n => (mergeInto n cls s, none)
  | none =>
    let r := newRecord src kind cls level addr detail s
    let q := enqueue r (captureNew r (clearLost src s))
    (startReaction r (routeRecord r (recordQueued r.recnum q.1)), q.2)

/-- Accept a message, and the message of source 0x000 kind 0 for a record it made the collector drop (R347). -/
def acceptDropping (src kind cls level addr detail : Nat) (s : State) : State :=
  match acceptOne src kind cls level addr detail s with
  | (s, none) => s
  | (s, some d) =>
    if d = 0 then s
    else (acceptOne 0 0 (s.fltClass 0 0) (Config.eventLevel 0 0).toNat (Config.eventAddr 0 0).toNat d s).1

/-- Count a Corrected message of a source in the running second (R343). -/
def tallyCorrected (src : Nat) (s : State) : State :=
  let sec := s.us / 1000000
  let n := if s.flt.ceSecond = sec then Sparse.get (fun _ => 0) s.flt.ceCount src else 0
  { s with flt := { s.flt with
      ceSecond := sec
      ceCount := Sparse.set (fun _ => 0) (if s.flt.ceSecond = sec then s.flt.ceCount else []) src (n + 1) } }

/-- The count that reaches CE_LIMIT raises kind 0x3F of the source (R343). -/
def checkCorrected (src level addr detail : Nat) (s : State) : State :=
  if Sparse.get (fun _ => 0) s.flt.ceCount src = s.get (srcCfg src) FLT_SRC_CFG_CE_LIMIT then
    acceptDropping src 0x3F (s.fltClass src 3) level addr detail s
  else s

/-- Accept a message whose raised class is given, counting it toward its source's limit (R340, R343). -/
def acceptRaised (src kind raised level addr detail : Nat) (s : State) : State :=
  let t := acceptDropping src kind (s.fltClass src raised) level addr detail s
  if s.fltClass src raised = 1 then checkCorrected src level addr detail (tallyCorrected src t) else t

/-- A block raises a message (R336, R337). A tier that can reach tier 0 by neither way keeps it in its own first-error
capture (R341). A package locked down takes no effect (R353). -/
def raise (src kind level addr detail : Nat) (s : State) : State :=
  match s.kindClass src kind with
  | none => s
  | some cls =>
    if sourceIsTier src && !s.reaches (sourceTier src) 0 then
      let c := s.fltClass src cls
      if 2 ≤ c then
        capture (captureBase src) { src, kind, cls := c, level, addr, detail, time := s.us } s.us s
      else s
    else acceptRaised src kind cls level addr detail s

/-- A message whose rule names a context (level code 7). -/
def raiseCtx (src kind ctx : Nat) (s : State) : State := raise src kind 7 ctx 0 s

/-- A message whose rule names no place: level and address are free (R337). -/
def raiseOpen (src kind : Nat) (s : State) : State :=
  raise src kind (Config.eventLevel src kind).toNat (Config.eventAddr src kind).toNat 0 s

/-- A message whose rule names no place and carries DETAIL. -/
def raiseDetail (src kind detail : Nat) (s : State) : State :=
  raise src kind (Config.eventLevel src kind).toNat (Config.eventAddr src kind).toNat detail s

/-- The Note of a write ignored by a rule of the manual (source 0x00E kind 1). -/
def noteIgnored (s : State) : State := raiseOpen 0x00E 1 s

/-- The Note of a write to a locked field (source 0x00E kind 0). -/
def noteLocked (s : State) : State := raiseOpen 0x00E 0 s

end Sys2Proof.Machine
end

