-- ==== Sys2Proof/Machine/Scramble.lean ====
section
/-! DEFINITION. The keyed mix (R180), the line tag (R182) and the cyclic codes of records (R216, R237, R281). -/

namespace Sys2Proof.Machine

/-- Word i of a line: bytes 4i to 4i + 3, little-endian (R180). -/
def lineWords (l : Line) : List Word := (upto 16).map (fun i => l.extractLsb' (32 * i) 32)
def ofLineWords (w : List Word) : Line :=
  BitVec.ofNat 512 (w.foldr (fun x acc => x.toNat + 2 ^ 32 * acc) 0)
/-- Four words of a 128-bit key, lowest first. -/
def keyWords (k : BitVec 128) : List Word := (upto 4).map (fun i => k.extractLsb' (32 * i) 32)
/-- The mix key and the tag key of a key ID's material (R174). -/
def mixKey (k : BitVec 256) : BitVec 128 := k.extractLsb' 0 128
def tagKey (k : BitVec 256) : BitVec 128 := k.extractLsb' 128 128

def wordAt (w : List Word) (i : Nat) : Word := w.getD i 0

/-- The tweak of a pool address: its bits [43:6] (R180). -/
def tweakWords (pa : Nat) : List Word :=
  let t := pa / 64 % 2 ^ 38
  let lo : Word := BitVec.ofNat 32 t
  let hi : Word := BitVec.ofNat 32 (t / 2 ^ 32)
  (upto 16).map (fun i => lo ^^^ hi.rotateLeft i ^^^ (BitVec.ofNat 32 i * 0x6A5D39C3#32))

def rotOf (r : Nat) : Nat := match r with | 0 => 7 | 1 => 13 | 2 => 19 | _ => 26

def mixAdd (k tw : List Word) (r : Nat) (w : List Word) : List Word :=
  (upto 16).map (fun i => wordAt w i + (wordAt k ((i + r) % 4) ^^^ wordAt tw i))
def mixSub (k tw : List Word) (r : Nat) (w : List Word) : List Word :=
  (upto 16).map (fun i => wordAt w i - (wordAt k ((i + r) % 4) ^^^ wordAt tw i))
def mixXor (r : Nat) (w : List Word) (i : Nat) : List Word :=
  w.set ((i + 1) % 16) (wordAt w ((i + 1) % 16) ^^^ (wordAt w i).rotateLeft (rotOf r))

/-- The mix of R180. -/
def mix (w k : List Word) (pa : Nat) : List Word :=
  let tw := tweakWords pa
  (upto 4).foldl (fun w r => (upto 16).foldl (mixXor r) (mixAdd k tw r w)) w

/-- Its inverse: every step in reverse order. -/
def unmix (w k : List Word) (pa : Nat) : List Word :=
  let tw := tweakWords pa
  (upto 4).foldl (fun w q =>
    let r := 3 - q
    mixSub k tw r ((upto 16).foldl (fun w i => mixXor r w (15 - i)) w)) w

def scramble (key : BitVec 256) (pa : Nat) (l : Line) : Line := ofLineWords (mix (lineWords l) (keyWords (mixKey key)) pa)
def descramble (key : BitVec 256) (pa : Nat) (l : Line) : Line := ofLineWords (unmix (lineWords l) (keyWords (mixKey key)) pa)

/-- The line tag over scrambled words (R182). -/
def tagOf (c kt : List Word) (pa : Nat) : Word :=
  let tw := tweakWords pa
  let (a, b) := (upto 16).foldl (fun (ab : Word × Word) i =>
    let a := (ab.1 + wordAt c i).rotateLeft 5 ^^^ ab.2
    (a, (ab.2 ^^^ wordAt c i).rotateLeft 11 + wordAt kt (2 + i % 2)))
    (wordAt kt 0 ^^^ wordAt tw 0, wordAt kt 1 ^^^ wordAt tw 1)
  (a + b.rotateLeft 16) ^^^ wordAt kt 3

def lineTag (key : BitVec 256) (pa : Nat) (cipher : Line) : Word :=
  tagOf (lineWords cipher) (keyWords (tagKey key)) pa

/-- The data field of the poison marker: every byte 0xA5 (R156). -/
def markerLine : Line := BitVec.ofNat 512 (0xA5 * ((2 ^ 512 - 1) / 255))

/-- Merge the byte-enabled bytes of `new` into `old`. -/
def mergeBytes (old new : Line) (be : BitVec 64) : Line :=
  BitVec.ofNat 512 (((upto 64).map (fun i =>
    (if be.getLsbD i then new.extractLsb' (8 * i) 8 else old.extractLsb' (8 * i) 8).toNat * 2 ^ (8 * i))).sum)

/-- Enabled bytes of a mask. -/
def popCount (m : Nat) (bits : Nat) : Nat := ((upto bits).filter (fun i => bitAt m i)).length

/-! ### Cyclic codes -/

/-- One bit of a reflected CRC register. -/
def crcStep (poly : Nat) (c : Nat) : Nat := if c % 2 = 1 then (c / 2) ^^^ poly else c / 2
/-- One byte, low bit first, through a reflected CRC. -/
def crcByte (poly : Nat) (c b : Nat) : Nat := (upto 8).foldl (fun c _ => crcStep poly c) (c ^^^ b)
def crcBytes (poly : Nat) (init : Nat) (bytes : List Nat) : Nat := bytes.foldl (crcByte poly) init

/-- Reverse the low `n` bits. -/
def reflect (n v : Nat) : Nat := ((upto n).map (fun i => if bitAt v i then 2 ^ (n - 1 - i) else 0)).sum

/-- Little-endian bytes of a number. -/
def leBytes (n v : Nat) : List Nat := (upto n).map (fun i => v / 2 ^ (8 * i) % 256)

/-- CRC-32C (polynomial 0x1EDC_6F41, reflected, init and final XOR all ones) (R237). -/
def crc32c (bytes : List Nat) : Nat := crcBytes (reflect 32 0x1EDC6F41) 0xFFFFFFFF bytes ^^^ 0xFFFFFFFF
/-- CRC-64 of the meter records (R216). -/
def crc64 (bytes : List Nat) : Nat :=
  crcBytes (reflect 64 0x42F0E1EBA9EA3693) 0xFFFFFFFFFFFFFFFF bytes ^^^ 0xFFFFFFFFFFFFFFFF

end Sys2Proof.Machine
end

