-- ==== Sys2Proof/Machine/Fuses.lean ====
section
/-! DEFINITION. The package fuses: the words and their used values, the life cycle, programming, secrets and the
anti-rollback count (chapter 18, R404-R417). -/

namespace Sys2Proof.Machine

/-! ### Words (R404, R405) -/

/-- The content of a mark word. -/
def markValue (n : Nat) : DWord := BitVec.ofNat 64 (0x4D41524B00000000 + n)

/-- A word as a FACTORY DP8-8M leaves Rosras (assumption log entry 7): identity, FACTORY mark, features of a DP8-8M with the
manager role, every port, feature lock, slot 0 with its VALID mark, and the device secret; every other word blank. -/
def fuseFactory (n : Nat) : FuseWord :=
  if n < 4 then { written := true }
  else if n = 8 || n = 20 || n = 38 then { written := true, data := markValue n }
  else if n = 16 then { written := true, data := 0x13 }
  else if n = 17 then { written := true, data := 0xFFFFFFFFFFFFFFFF }
  else if n = 18 then { written := true, data := 0xFFFFFFFF }
  else if 32 ≤ n && n ≤ 37 then { written := true, data := BitVec.ofNat 64 (n - 31) }
  else if 96 ≤ n && n ≤ 99 then { written := true }
  else {}

def State.fuse (s : State) (n : Nat) : FuseWord := Sparse.get fuseFactory s.fuses n
def State.setFuse (s : State) (n : Nat) (w : FuseWord) : State := { s with fuses := Sparse.set fuseFactory s.fuses n w }

/-- The word takes its safe value (R407, R415). -/
def FuseWord.lost (w : FuseWord) : Bool := w.destroyed || w.sense = 2

def isMark (n : Nat) : Bool := (8 ≤ n && n ≤ 12) || n = 20 || n = 31 || n = 64 || (32 ≤ n && n < 64 && (n % 8 = 6 || n % 8 = 7))
/-- A VALID mark: its safe value is not set (R408). -/
def isValidMark (n : Nat) : Bool := 32 ≤ n && n < 64 && n % 8 = 6
/-- Words of the secrets (R405). -/
def isSecret (n : Nat) : Bool := 96 ≤ n && n < 108
/-- Critical words (R409). -/
def isCritical (n : Nat) : Bool := isMark n || n = 16 || n = 17 || n = 18 || n = 24

/-- A mark is set: it decodes to exactly its value; a word that cannot be used, or holds another value, is safe (R405, R408). -/
def State.markSet (s : State) (n : Nat) : Bool :=
  let w := s.fuse n
  if w.lost then !isValidMark n
  else if !w.written then false
  else if w.data = markValue n then true else !isValidMark n

/-- The safe value of a word that is no mark (R408). -/
def safeValue (n : Nat) : DWord := if n = 16 then 1 else if n = 24 then 1 else if isMark n && !isValidMark n then markValue n else 0

/-- The used value of a word. -/
def State.fuseUsed (s : State) (n : Nat) : DWord :=
  let w := s.fuse n
  if w.lost then safeValue n
  else if isMark n && w.written && decide (w.data ≠ markValue n) then safeValue n else w.data

/-! ### Life cycle, locks and slots (R406, R410, Tables OTP-2 to OTP-9) -/

/-- 0 BLANK, 1 FACTORY, 2 PROVISIONED, 3 DEPLOYED, 4 RETURNED, 5 SCRAPPED: the latest state whose mark is set. -/
def State.lifeCycle (s : State) : Nat :=
  if s.markSet 12 then 5 else if s.markSet 11 then 4 else if s.markSet 10 then 3 else if s.markSet 9 then 2
  else if s.markSet 8 then 1 else 0

def State.featureLock (s : State) : Bool := s.markSet 20
def State.debugLock (s : State) : Bool := s.markSet 31
def State.slotLock (s : State) : Bool := s.markSet 64
def digestWords (i : Nat) : List Nat := (upto 6).map (fun k => 32 + 8 * i + k)
def State.slotValid (s : State) (i : Nat) : Bool := s.markSet (38 + 8 * i)
def State.slotRevoked (s : State) (i : Nat) : Bool := s.markSet (39 + 8 * i)
/-- A digest word is blank or at its safe value. -/
def State.slotIncomplete (s : State) (i : Nat) : Bool :=
  (digestWords i).any (fun n => !(s.fuse n).written || (s.fuse n).lost)
/-- A slot is usable (R410). -/
def State.slotUsable (s : State) (i : Nat) : Bool :=
  (digestWords i).all (fun n => !(s.fuse n).lost) && s.slotValid i && !s.slotRevoked i
/-- Words joined, the first highest. -/
def State.joinWords (s : State) (l : List Nat) : Nat := l.foldl (fun a n => a * 2 ^ 64 + (s.fuseUsed n).toNat) 0
/-- The digest of a slot; byte 0 in the top byte of its first word. -/
def State.slotDigest (s : State) (i : Nat) : BitVec 384 := BitVec.ofNat 384 (s.joinWords (digestWords i))
/-- Some usable slot holds a key digest. -/
def State.keyTrusted (s : State) (dg : BitVec 384) : Bool := (upto 4).any (fun i => s.slotUsable i && s.slotDigest i = dg)

def State.permOff (s : State) : Bool := (s.fuseUsed 24).getLsbD 0
def State.jetDbg (s : State) : Bool := (s.fuseUsed 24).getLsbD 1
def State.scanDeployed (s : State) : Bool := (s.fuseUsed 24).getLsbD 2
/-- The owner debug key digest is complete, and its value. -/
def State.ownerKey (s : State) : Bool := ((upto 6).map (· + 25)).all (fun n => (s.fuse n).written && !(s.fuse n).lost)
def State.ownerDigest (s : State) : BitVec 384 := BitVec.ofNat 384 (s.joinWords ((upto 6).map (· + 25)))

/-! ### Secrets and the anti-rollback count (R414-R416) -/

def State.secretPresent (s : State) (first : Nat) : Bool :=
  ((upto 4).map (· + first)).all (fun n => (s.fuse n).written && !(s.fuse n).lost)
def State.deviceSecret (s : State) : Bool := s.secretPresent 96
/-- The device identity key exists: seals, SPDM signatures and aqueduct shares rest on it (R414). -/
def State.identity (s : State) : Bool := s.deviceSecret
def State.ownerLive (s : State) : Bool := s.secretPresent 100 || s.secretPresent 104

/-- Step `k` reads as blown: at least two of its three bits (R366, R416). -/
def State.stepBlown (s : State) (k : Nat) : Bool :=
  let f := s.arb.toNat / 2 ^ (3 * (k - 1)) % 8
  2 ≤ popCount f 3
/-- The anti-rollback count. -/
def State.arbCount (s : State) : Nat := ((upto 127).filter (fun i => s.stepBlown (i + 1))).length
/-- Blow the three bits of a step. -/
def blowStep (k : Nat) (s : State) : State := { s with arb := s.arb ||| BitVec.ofNat 384 (7 * 2 ^ (3 * (k - 1))) }

/-- Advance the count to `sv`; a step named in `short` cannot reach two blown bits, and the counter stops below it (R366). -/
def advanceArb (short : List Nat) : Nat → Nat → State → State
  | 0, _, s => s
  | n + 1, sv, s =>
    let k := s.arbCount + 1
    if sv < k || 127 < k then s
    else if short.contains k then s.putFlag mgtBase MGT_ERR_STATUS_COMMIT_SHORT true
    else advanceArb short n sv (blowStep k s)

/-! ### Sensing (R407) -/

/-- A word is sensed: 0 as read, 1 marginal, 2 unusable; the records of R407 carry its number. -/
def senseWord (n how : Nat) (s : State) : State :=
  let s := s.setFuse n { s.fuse n with sense := how }
  if how = 1 then raiseDetail 0x001 0 n s else if how = 2 then raiseDetail 0x001 1 n s else s

/-- The wired features (R2, R408, Tables OTP-1 and OTP-3). -/
def State.wiredFrom (s : State) : Wired :=
  let f := (s.fuseUsed 16).toNat
  { tiers := match f % 4 with | 2 => 4 | 3 => 8 | _ => 2
    mgr := bitAt f 4
    ports := BitVec.ofNat 128 ((s.fuseUsed 17).toNat + (s.fuseUsed 18).toNat % 2 ^ 32 * 2 ^ 64) }

/-! ### Programming (R410-R413) -/

/-- End the request in progress (Table OTP-11). -/
def endProg (code : Nat) (s : State) : State := (s.putFlag otpBase OTP_PROG_RESULT_BUSY false).put otpBase OTP_PROG_RESULT_CODE code

/-- A fuse may be written now: tier 0's port die below 85 degrees and VDD_PORT in tolerance (R412). -/
def State.fuseCondition (s : State) : Bool :=
  (upto 4).all (fun k => decide ((Sparse.get (fun _ => {}) s.sensors k : Sensor).reading < 680)) && !s.pkgMode.badRails.contains 1

/-- The request may be made in DEPLOYED (R413). -/
def State.deployedOk (s : State) : Bool := s.lifeCycle ≠ 3 || s.dbg.succeeded

/-- The group of Table OTP-1 admits a WRITE of word `n` now; none: a reserved word. -/
def State.writable (s : State) (n : Nat) : Option Bool :=
  let lc := s.lifeCycle
  let blank := decide (lc = 0)
  let fact := decide (lc = 1)
  if n < 4 then some blank
  else if 8 ≤ n && n ≤ 12 then some false
  else if 16 ≤ n && n ≤ 18 then some (blank && !s.featureLock)
  else if n = 20 then some blank
  else if 24 ≤ n && n ≤ 30 then some (fact && !s.debugLock)
  else if n = 31 then some fact
  else if 32 ≤ n && n < 64 then
    if n % 8 = 7 then some (fact || decide (lc = 2) || (decide (lc = 3) && s.dbg.succeeded))
    else if n < 40 then some blank else some (fact && !s.slotLock)
  else if n = 64 then some fact
  else if 96 ≤ n && n < 108 then some false
  else if 112 ≤ n && n < 118 then some false
  else if 128 ≤ n && n < 256 then some blank
  else none

/-- A REVOKE write leaves a usable slot; a VALID write finds its digest complete (R410). -/
def State.precondition (s : State) (n : Nat) : Bool :=
  if isValidMark n then (digestWords ((n - 32) / 8)).all (fun k => (s.fuse k).written)
  else if 32 ≤ n && n < 64 && n % 8 = 7 then (upto 4).any (fun i => i ≠ (n - 32) / 8 && s.slotUsable i)
  else true

/-- Write one word and margin-read it: MARGIN_FAIL when the reads differ (R404, R409). -/
def writeWord (n : Nat) (v : DWord) (sense : Nat) (s : State) : State :=
  let s := senseWord n sense (s.setFuse n { written := true, data := v })
  if sense = 0 then s else s.setRegBit (otpBase + 0x128) 0 true

/-- A program request of operation `op` is in progress. -/
def State.progRuns (s : State) (op : Nat) : Bool :=
  s.flag otpBase OTP_PROG_RESULT_BUSY && s.get otpBase OTP_PROG_ADDR_OP = op && s.flt.reaction = .none && s.pkgMode.mode = .up

/-- OTP_WRITE (R404, R410-R413): the checks in the order reserved word, state and locks, blank, precondition, condition. A mark
word takes no content but its mark. -/
def execOtpWrite (sense : Nat) (s : State) : Host.Outcome State Fault Refusal :=
  if !s.progRuns 0 then .next s
  else
    let n := s.get otpBase OTP_PROG_ADDR_WORD
    let v := s.reg (otpBase + 0x108)
    match s.writable n with
    | none => .next (endProg 2 s)
    | some ok =>
      if !ok || s.pkgMode.scan || (isMark n && decide (v ≠ markValue n)) then .next (endProg 1 s)
      else if (s.fuse n).written || (s.fuse n).destroyed then .next (endProg 3 s)
      else if !s.precondition n then .next (endProg 6 s)
      else if !s.fuseCondition then .next (endProg 5 s)
      else .next (endProg (if sense = 0 then 0 else 4) (writeWord n v sense s))

/-- Write 256 drawn bits, scrambled, to four words. -/
def writeSecret (first sense : Nat) (s : State) : State :=
  let r := (Config.randomBits s.fresh).toNat
  forEach (upto 4) (fun i u => writeWord (first + i) (BitVec.ofNat 64 (r / 2 ^ (64 * i))) sense u) s.drawn

/-- GEN_SECRET (R411): owner secret 1. -/
def execGenSecret (sense : Nat) (s : State) : Host.Outcome State Fault Refusal :=
  if !s.progRuns 1 then .next s
  else
    let lc := s.lifeCycle
    if !(lc = 2 || (lc = 3 && s.dbg.succeeded)) || s.pkgMode.scan then .next (endProg 1 s)
    else if ((upto 4).map (· + 104)).any (fun n => (s.fuse n).written || (s.fuse n).destroyed) then .next (endProg 3 s)
    else if !s.fuseCondition then .next (endProg 5 s)
    else .next (endProg (if sense = 0 then 0 else 4) (writeSecret 104 sense s))

/-- Every unblown bit of a secret is blown (R415). -/
def destroySecret (first : Nat) (s : State) : State :=
  (forEach (upto 4) (fun i u => u.setFuse (first + i) { written := true, data := 0xFFFFFFFFFFFFFFFF, destroyed := true }) s).setRegBit
    (otpBase + 0x128) 2 true

/-- Conditions of the next state's entry (Table OTP-5). -/
def State.advanceOk (s : State) (next : Nat) : Bool :=
  match next with
  | 1 => s.featureLock && s.slotUsable 0
  | 2 => s.debugLock && s.slotLock
  | _ => true

/-- ADVANCE (R411, R413, R415, Table OTP-5): the mark after the present state's. From FACTORY that is PROVISIONED. -/
def execAdvance (sense : Nat) (s : State) : Host.Outcome State Fault Refusal :=
  if !s.progRuns 2 then .next s
  else
    let next := s.lifeCycle + 1
    if 5 < next || !s.deployedOk || s.pkgMode.scan then .next (endProg 1 s)
    else if !s.advanceOk next then .next (endProg 6 s)
    else if !s.fuseCondition then .next (endProg 5 s)
    else
      let s := match next with
        | 1 => writeSecret 96 sense s
        | 2 => writeSecret 100 sense s
        | 4 => destroySecret 104 (destroySecret 100 s)
        | 5 => destroySecret 104 (destroySecret 100 (destroySecret 96 s))
        | _ => s
      .next (endProg (if sense = 0 then 0 else 4) (writeWord (7 + next) (markValue (7 + next)) sense s))

/-- TRUST_MONITOR_REREAD (R409): once per second each critical word is decoded and compared with its wired value; `reads` lists the
words that decode otherwise than stored (none: undecodable). Words marginal or safe are left out. -/
def execTrustMonitorReread (reads : List (Nat × Option (BitVec 64))) (s : State) : Host.Outcome State Fault Refusal :=
  let bad := reads.filter (fun r =>
    isCritical r.1 && decide ((s.fuse r.1).sense = 0) && !(s.fuse r.1).destroyed && decide (r.2 ≠ some (s.fuse r.1).data))
  if bad = [] || s.pkgMode.mode ≠ .up then .next s
  else .next (raiseOpen 0x002 2 (s.setRegBit (otpBase + 0x128) 1 true))

end Sys2Proof.Machine
end

