-- ==== Sys2Proof/Machine/Weir.lean ====
section
/-! DEFINITION. Service classes and weirs (chapter 08): deliverable bandwidth, effective guarantees, latency steps,
pressure, token buckets and the miss interrupt. -/

namespace Sys2Proof.Machine

/-! ### Leaf counters (R218, R220) -/

/-- Counters of a leaf: 0 lines read, 1 bytes written, 2 hit lines, 3 misses, 4 throttled, 5 hammer microseconds. -/
def leafKey (bank t c n : Nat) : Nat := ((bank * 8 + t) * 2 ^ 18 + c) * 8 + n
def leafWidth (n : Nat) : Nat := match n with | 0 => 46 | 1 => 52 | 2 => 46 | _ => 32
/-- Add to a leaf of the bank in use; a leaf counter stays at its maximum (R218). -/
def leafAdd (t c n v : Nat) (s : State) : State :=
  let k := leafKey (Sparse.get (fun _ => 0) s.leafBank t) t c n
  let x := satAdd (2 ^ leafWidth n - 1) (Sparse.get (fun _ => 0) s.leaves k) v
  { s with leaves := Sparse.set (fun _ => 0) s.leaves k x }

/-- Key of a remote leaf (R221); context 0x3FFFF is the package's catch-all. -/
def remoteKey (bank t pkg c n : Nat) : Nat := (((bank * 8 + t) * 16 + pkg) * 2 ^ 18 + c) * 8 + n

/-- Add to a remote leaf: a new pair that finds none of the 16,384 free goes to the package's catch-all (R221). -/
def remoteAdd (t pkg c n v : Nat) (s : State) : State :=
  let bank := Sparse.get (fun _ => 0) s.leafBank t
  let base := (bank * 8 + t) * 2 ^ 25
  let pairs := ((s.remoteLeaves.filter (fun e => e.1 / 2 ^ 25 * 2 ^ 25 = base && e.1 / 8 % 2 ^ 18 ≠ 0x3FFFF)).map (fun e => e.1 / 8)).dedup
  let pair := remoteKey bank t pkg c 0 / 8
  let full := !pairs.contains pair && decide (16384 ≤ pairs.length)
  let k := remoteKey bank t pkg (if full then 0x3FFFF else c) n
  let x := satAdd (2 ^ leafWidth n - 1) (Sparse.get (fun _ => 0) s.remoteLeaves k) v
  let s := { s with remoteLeaves := Sparse.set (fun _ => 0) s.remoteLeaves k x }
  if full then raiseOpen 0x009 2 (s.putFlag mtrBase MTR_STATUS_LEAF_FULL true) else s

/-! ### Deliverable bandwidth and guarantees (R203-R207) -/

/-- Live UCIe modules of a tier. -/
def State.tierModules (s : State) (t : Nat) : Nat :=
  if s.nTiers = 2 then s.linkLive 0 else s.linkLive t + s.linkLive ((t + s.nTiers - 1) % s.nTiers)

/-- D_t (R203). -/
def State.deliverable (s : State) (t : Nat) : Nat :=
  if (s.tier t).cap = 0 then 0
  else
    let c := ((upto 4).map (fun c => bitsAt (s.reg (drcBase t c + 0x20)).toNat 15 0)).sum
    let b := ((upto 16).map (fun j =>
      match s.get (bsnBase t j) BSN_SLICE_STATUS_WIDTH with | 0 => 240 | 1 => 120 | _ => 0)).sum
    min c (min b (1440 + 1920 * s.tierModules t))

/-- f_t (R208). -/
def State.thermFactor (s : State) (t : Nat) : Nat := s.get (thmBase + 4 * t) THM_ZONE_F
/-- CEIL_PCT as it acts (Table WEIR-5). -/
def State.ceilPct (s : State) : Nat := max 1 (min 100 (s.get weirBase WEIR_GLB_CFG_CEIL_PCT))
/-- K_t (R204). -/
def State.commitCeil (s : State) (t : Nat) : Nat := s.deliverable t * s.ceilPct / 100
/-- S_t of a class table (R204). -/
def commitment (cls : Nat → ClassParams) (t : Nat) : Nat :=
  ((upto 64).map (fun c => if (cls c).groups.getLsbD t then (cls c).guar else 0)).sum

/-- The effective guarantees of R207: per rank from 15 down, in full or in proportion. -/
def effectiveOf (cls : Nat → ClassParams) (t avail : Nat) : List (Nat × Nat) :=
  let on := (upto 64).filter (fun c => (cls c).groups.getLsbD t)
  ((upto 16).foldl (fun (acc : Nat × List (Nat × Nat)) i =>
    let grp := on.filter (fun c => (cls c).rank = 15 - i)
    let need := (grp.map (fun c => (cls c).guar)).sum
    if need ≤ acc.1 then (acc.1 - need, acc.2 ++ grp.map (fun c => (c, (cls c).guar)))
    else (0, acc.2 ++ grp.map (fun c => (c, (cls c).guar * acc.1 / need)))) (avail, [])).2

def State.eff (s : State) (t c : Nat) : Nat := Sparse.get (fun _ => 0) s.effective (t * 64 + c)
/-- A class is scaled on group t: its guarantee there is cut (R207). -/
def State.scaledOn (s : State) (t c : Nat) : Bool := (s.cls c).groups.getLsbD t && s.eff t c < (s.cls c).guar

/-- Set a bit of WEIR_MISS_STATUS; an unmasked rise asks for the interrupt (R210). -/
def setMissBit (c : Nat) (s : State) : State :=
  let o := weirBase + 0x10
  if s.regBit o c then s
  else
    let s := s.setRegBit o c true
    if s.regBit (weirBase + 0x18) c then s else { s with missPending := true }

/-- Report group t to the weirs (R39, R203, R207): D_t, K_t, S_t, effective guarantees, scaled classes. -/
def reportGroup (t : Nat) (s : State) : State :=
  let d := s.deliverable t
  let f := s.thermFactor t
  let avail := d * f / 8
  let k := s.commitCeil t
  let st := commitment s.cls t
  let old := (upto 64).filter (fun c => s.tierList.any (fun u => s.scaledOn u c))
  let s := forEach (upto 64) (fun c u =>
    let e := ((effectiveOf s.cls t avail).find? (fun e => e.1 = c)).elim 0 (·.2)
    { u with effective := Sparse.set (fun _ => 0) u.effective (t * 64 + c) e }) s
  let g := weirBase + 0x40 + 0x10 * t
  let some_ := (upto 64).any (fun c => s.scaledOn t c)
  let s := s.setReg g (BitVec.ofNat 64 (d % 65536 + avail % 65536 * 65536))
  let s := s.setReg (g + 4) (BitVec.ofNat 64 (k % 65536))
  let s := s.setReg (g + 8) (BitVec.ofNat 64 (st % 2 ^ 23))
  let s := s.setReg (g + 0xC) (BitVec.ofNat 64 (f * 16 + ofBool some_ * 2 + ofBool (decide (k < st))))
  let now := (upto 64).filter (fun c => s.tierList.any (fun u => s.scaledOn u c))
  let s := s.setReg (weirBase + 0x20) (BitVec.ofNat 64 ((now.map (fun c => 2 ^ c)).sum))
  let fresh := now.filter (fun c => !old.contains c)
  let s := forEach fresh setMissBit s
  if fresh ≠ [] ∧ old.length < now.length then raiseOpen 0x00A 1 s else s

/-- Report every group. -/
def reportAll (s : State) : State := forEach s.tierList reportGroup s

/-- f_t (R398): the ladder value, 4 while a zone is Hot, 6 while R326 holds the tier. -/
def State.factorOf (s : State) (t : Nat) : Nat :=
  let b := thmBase + 4 * t
  let hot := 3 ≤ s.get b THM_ZONE_Z0 || 3 ≤ s.get b THM_ZONE_Z1 || 3 ≤ s.get b THM_ZONE_Z2
  let f := if hot then min 4 (s.get b THM_ZONE_L) else s.get b THM_ZONE_L
  if (Sparse.get (fun _ => {}) s.repair t : Repair).viaFail then min 6 f else f

/-- Bring THM_ZONEt.F up to date; a change is reported to the weirs (R39, R208). -/
def setFactor (t : Nat) (s : State) : State :=
  let f := s.factorOf t
  if s.thermFactor t = f then s else reportGroup t (s.put (thmBase + 4 * t) THM_ZONE_F f)

/-! ### Steps, queues and DevLoad -/

/-- The priority step of a class at a channel; never below MIN_STEP (R198). -/
def State.stepOf (s : State) (t c k : Nat) : Nat := max (s.cls k).minStep (s.chanClass t c k).step

/-- The step computed from the measured latency (Table WEIR-3). -/
def stepFor (lat target : Nat) : Nat :=
  if target = 0 then 0
  else if lat * 2 < target then 0 else if lat * 8 < target * 5 then 1 else if lat * 4 < target * 3 then 2
  else if lat * 16 < target * 13 then 3 else if lat * 8 < target * 7 then 4 else if lat * 16 < target * 15 then 5
  else if lat < target then 6 else 7

/-- The watermarks as they act (Table WEIR-5). -/
def State.wmHi (s : State) : Nat := min 64 (s.get weirBase WEIR_GLB_CFG_WM_HI)
def State.wmLo (s : State) : Nat :=
  let l := s.get weirBase WEIR_GLB_CFG_WM_LO
  if s.wmHi ≤ l then s.wmHi - 1 else l

/-- Some thermal zone of the tier is at Warn or above (R52). -/
def State.zoneWarn (s : State) (t : Nat) : Bool :=
  2 ≤ s.get (thmBase + 4 * t) THM_ZONE_Z0 || 2 ≤ s.get (thmBase + 4 * t) THM_ZONE_Z1 || 2 ≤ s.get (thmBase + 4 * t) THM_ZONE_Z2

/-- DevLoad (R52) for class `k` served at tier `t`; `q` is the channel that served it, none for a basin hit or a read of
an unwritten page. -/
def State.devload (s : State) (t k : Nat) (q : Option Nat) : Nat :=
  if s.scaledOn t k || s.zoneWarn t then 3
  else match q with
    | none => 0
    | some c =>
      let n := ((s.chan t c).reads.filter (fun e => e.cls = k)).length
      if s.wmHi < n ∨ ((s.cls k).target ≠ 0 ∧ (s.cls k).target < (s.chanClass t c k).lat) then 2
      else if n < s.wmLo then 0 else 1

/-- The DevLoad of a response no rule evaluates: free. -/
def State.freeDevload (s : State) : Nat := (Config.freeWord s.fresh).toNat % 4

/-! ### Port weirs (R201, R202) -/

/-- Raw rate of a port in lines per microsecond: 250 at 64 GT/s x2 (R201, Table HPT-1). -/
def State.rawRate (s : State) (p : Nat) : Rat :=
  let w := s.get (hptBase p) HPT_LINK_STATUS_WIDTH
  let sp := min 5 (s.get (hptBase p) HPT_LINK_STATUS_SPEED)
  (250 : Rat) * (if (s.port (p / 2 * 2)).bonded then 2 else 1) * w / 2 / (2 ^ (5 - sp) : Nat)

/-- HOLD_LIM as it acts (Table WEIR-7). -/
def State.holdLim (s : State) : Nat := max 1 (min 64 (s.get weirBase WEIR_PORT_CFG_HOLD_LIM))

/-- Requests of a class a port holds for want of tokens. -/
def State.tokenHeld (s : State) (p k : Nat) : Nat :=
  (s.held.filter (fun r => r.port = p && r.cls = k && r.why = .token)).length

/-- Credits stop while some class is at HOLD_LIM (R202). -/
def updateCredits (p : Nat) (s : State) : State :=
  let stop := (upto 64).any (fun k => s.holdLim ≤ s.tokenHeld p k)
  s.setPortWeir p { s.portWeir p with creditsStopped := stop }

/-- A token of class `k` at port `p` is there. -/
def State.hasToken (s : State) (p k : Nat) : Bool := (s.portClass p k).used + 1 ≤ 64
/-- Take a token and note the tier sent to. -/
def takeToken (p k t : Nat) (s : State) : State :=
  let q := s.portClass p k
  s.setPortClass p k { q with used := q.used + 1, sent := q.sent ||| BitVec.ofNat 8 (2 ^ (t % 8)) }

/-! ### Channel pools (R121, R195) -/

/-- Sum of RSV over the classes. -/
def State.rsvSum (s : State) : Nat := ((upto 64).map (fun c => (s.cls c).rsv)).sum
/-- Whether class `k` may take one more entry of a pool whose entries have these classes (R195). -/
def State.poolRoom (s : State) (k : Nat) (classes : List Nat) : Bool :=
  let cnt (c : Nat) := (classes.filter (fun x => x = c)).length
  let beyond := ((upto 64).map (fun c => cnt c - (s.cls c).rsv)).sum
  cnt k < min 64 (s.cls k).maxq && (cnt k < (s.cls k).rsv || beyond < 512 - s.rsvSum)

/-- Note the pool occupancy of a channel in the running window (R200). -/
def notePool (t c : Nat) (s : State) : State :=
  let w := s.chanWeir t c
  let ch := s.chan t c
  s.setChanWeir t c { w with maxReads := max w.maxReads ch.reads.length, maxWrites := max w.maxWrites ch.writes.length }

/-- Note a line of class `k` served by a channel, and, for a read, its context (R197, R200, R211). -/
def noteServed (t c k : Nat) (readCtx : Option Nat) (s : State) : State :=
  let q := s.chanClass t c k
  let q := { q with lines := q.lines + 1 }
  let q := match readCtx with
    | none => q
    | some x => { q with reads := q.reads + 1, ctxs := if q.ctxs.contains x then q.ctxs else x :: q.ctxs }
  s.setChanClass t c k q

/-! ### The window (R198-R202, R210) -/

/-- End of the window for one class at one channel: latency, step, miss state, guarantee misses. -/
def classWindow (t c k : Nat) (lat : Option Nat) (s : State) : State :=
  let q := s.chanClass t c k
  let p := s.cls k
  let s := if q.miss then forEach q.ctxs (fun x u => leafAdd t x 3 1 u) s else s
  let (m, s) := if q.reads = 0 then (q.lat, s) else
    match lat with
    | some v => (min 65535 v, s)
    | none => ((Config.freeWord s.fresh).toNat % 65536, s.drawn)
  let comp := if q.reads = 0 then 0 else stepFor m p.target
  let cur := max p.minStep q.step
  let step := max p.minStep (if cur ≤ comp then comp else cur - 1)
  let counts := q.reads ≠ 0 && p.target ≠ 0 && !(s.chanWeir t c).disturbed
  let missRun := if counts then (if p.target * p.missFact < m * 8 then q.missRun + 1 else 0) else q.missRun
  let okRun := if counts then (if m ≤ p.target then q.okRun + 1 else 0) else q.okRun
  let enter := counts && !q.miss && p.missN ≤ missRun
  let leave := counts && q.miss && p.missN ≤ okRun
  let s := if enter then setMissBit k s else s
  s.setChanClass t c k
    { q with
      lat := m, step := step, miss := (q.miss || enter) && !leave
      missRun := if enter then 0 else missRun, okRun := if leave then 0 else okRun, reads := 0, lines := 0, ctxs := [] }

/-- PRESS_ON and PRESS_OFF as they act (Table WEIR-6). -/
def State.pressOn (s : State) : Nat := min 512 (s.get weirBase WEIR_PRESS_PRESS_ON)
def State.pressOff (s : State) : Nat :=
  let f := s.get weirBase WEIR_PRESS_PRESS_OFF
  if s.pressOn ≤ f then s.pressOn - 1 else f

/-- The classes a channel names at the end of a window (R200): above their share under pressure, or above CEIL. -/
def State.named (s : State) (t c : Nat) (pressure : Bool) : List Nat :=
  (upto 64).filter (fun k =>
    let lines := (s.chanClass t c k).lines
    let grp := ((upto 4).map (fun d => (s.chanClass t d k).lines)).sum
    let rd := ((s.chan t c).reads.filter (fun e => e.cls = k)).length
    let wr := ((s.chan t c).writes.filter (fun e => e.cls = k)).length
    let below := decide (rd < (s.cls k).rsv) || decide (wr < (s.cls k).rsv)
    (pressure && !below && (if s.eff t k = 0 then decide (0 < lines) else decide (s.eff t k * 100 < 64 * lines * 4))) ||
    ((s.cls k).ceil ≠ 0 && decide ((s.cls k).ceil * 100 < 64 * grp)))

/-- End of the window for a channel: the pressure latch, then its classes. Answers the classes it names. -/
def chanWindow (t c : Nat) (lats : List WinLat) (s : State) : State × List Nat :=
  let w := s.chanWeir t c
  let press := if w.pressure then !(decide (w.maxReads ≤ s.pressOff) && decide (w.maxWrites ≤ s.pressOff))
    else decide (s.pressOn ≤ w.maxReads) || decide (s.pressOn ≤ w.maxWrites)
  let names := s.named t c press
  let s := forEach (upto 64) (fun k u =>
    classWindow t c k ((lats.find? (fun l => l.tier = t && l.chan = c && l.cls = k)).map (·.lat)) u) s
  let w := s.chanWeir t c
  let ch := s.chan t c
  (s.setChanWeir t c { w with
      pressure := press, pressCnt := satAdd (2 ^ 64 - 1) w.pressCnt (ofBool w.pressure)
      maxReads := ch.reads.length, maxWrites := ch.writes.length, disturbed := false }, names)

/-- End of the window for a class at a port: rate and tokens (R201). -/
def portWindow (p k : Nat) (named : List (Nat × Nat)) (s : State) : State :=
  let q := s.portClass p k
  let raw := s.rawRate p
  let rate := match q.rate with | none => raw | some r => min r raw
  let cut := max 1 (s.get weirBase WEIR_PORT_CFG_CUT)
  let rise := max 1 (s.get weirBase WEIR_PORT_CFG_RISE)
  let hit := named.any (fun n => n.2 = k && q.sent.getLsbD n.1)
  let next := if hit then max 1 (rate * ((8 : Rat) - cut) / 8) else min raw (rate + rise)
  let used := if q.used ≤ rate then 0 else q.used - rate
  s.setPortClass p k { rate := if raw ≤ next then none else some next, used := used, sent := 0 }

/-- The end of a 1 microsecond window at every weir. -/
def windowEnd (lats : List WinLat) (s : State) : State :=
  let (s, named) := s.tierList.foldl (fun (acc : State × List (Nat × Nat)) t =>
    (upto 4).foldl (fun (acc : State × List (Nat × Nat)) c =>
      let (u, ns) := chanWindow t c lats acc.1
      (u, acc.2 ++ ns.map (fun k => (t, k)))) acc) (s, [])
  let s := forEach s.portList (fun p u =>
    forEach ((u.portWeir p).classes.map (·.1)) (fun k v => portWindow p k named v) u) s
  let throttled := s.held.filter (fun r => r.why = .token)
  let pairs := (throttled.map (fun r => (portTier r.port, r.ctx))).dedup
  forEach pairs (fun p u => leafAdd p.1 p.2 4 1 u) s

end Sys2Proof.Machine
end

