-- ==== Sys2Proof/Machine/Cistern.lean ====
section
/-! DEFINITION. Operations on the cistern: place decode (R82, R83), corrections and poison (chapter 06), class queues
(R121, R122), tag cache and tag lines (chapter 07), and the checked read of a line (R189). -/

namespace Sys2Proof.Machine

/-! ### Place (R82, R83) -/

/-- The channel of a tier offset. -/
def chanOf (off : Nat) : Nat :=
  let b (i : Nat) : Nat := off / 2 ^ i % 2
  (b 9 + b 13 + b 17 + b 22 + b 30) % 2 * 2 + (b 8 + b 12 + b 16 + b 21 + b 29) % 2
/-- The channel-local address: the tier offset without bits [9:8]. -/
def chanLocal (off : Nat) : Nat := off / 1024 * 256 + off % 256
def rowOf (off : Nat) : Nat := chanLocal off / 2 ^ 21
/-- Rank k = 2 × DIMM + RANK. -/
def rankOf (off : Nat) : Nat := bitsAt (chanLocal off) 20 20 * 2 + bitsAt (chanLocal off) 19 19
def bankOf (off : Nat) : Nat := bitsAt (chanLocal off) 18 17
def groupOf (off : Nat) : Nat := bitsAt (chanLocal off) 16 14 ^^^ (rowOf off % 8)
def subOf (off : Nat) : Nat := bitsAt (chanLocal off) 6 6
/-- Bank key within a channel: subchannel, rank, group, bank. -/
def bankKey (off : Nat) : Nat := ((subOf off * 4 + rankOf off) * 8 + groupOf off) * 4 + bankOf off

/-! ### Rank states (Table DRC-4, Table DRC-13) -/

def State.rankState (s : State) (t c k : Nat) : Nat :=
  bitsAt (s.get (drcBase t c) DRC_RANK_STATUS_STATE) (4 * k + 2) (4 * k)
def setRankState (t c k v : Nat) (s : State) : State :=
  s.put (drcBase t c) DRC_RANK_STATUS_STATE (setBits (s.get (drcBase t c) DRC_RANK_STATUS_STATE) (4 * k + 2) (4 * k) v)
def State.fenced (s : State) (t c k : Nat) : Bool := bitAt (s.get (drcBase t c) DRC_RANK_STATUS_FENCED) k
/-- The channel weir holds traffic to a rank: it is HELD, or the channel changes frequency (R135, R144). -/
def State.rankHeld (s : State) (t c k : Nat) : Bool :=
  s.rankState t c k = 4 || s.flag (drcBase t c) DRC_OP_STATUS_CHANGING

/-! ### Corrections (R155) and the row watch (R327) -/

def eccUnitKey (t unit : Nat) : Nat := t * 1024 + unit
/-- CE_THRESH as it acts (Table ECC-9). -/
def State.ceThresh (s : State) (t : Nat) : Nat := max 1 (s.get (eccBase t) ECC_CFG_CE_THRESH)

/-- Count a corrected or uncorrectable read of a line in its row's watch entry; the row becomes failing at ROW_CE
corrected lines or at an uncorrectable read (R327). -/
def watchRow (t : Nat) (basin : Bool) (row line : Nat) (uncorr : Bool) (s : State) : State :=
  let ws := Sparse.get (fun _ => []) s.rowWatch t
  let lim := max 1 (s.get (bsnBase t 0) BSN_REPAIR_CFG_ROW_CE)
  let old := (ws.find? (fun w => w.basin = basin && w.row = row)).getD { basin := basin, row := row }
  let lines := if uncorr || old.lines.contains line then old.lines else line :: old.lines
  let new : RowWatch := { old with lines := lines, failing := old.failing || uncorr || decide (lim ≤ lines.length) }
  let rest := ws.filter (fun w => !(w.basin = basin && w.row = row))
  let rest := if rest.length < 64 then rest else
    let m := rest.foldl (fun m w => min m w.lines.length) 1000000
    match rest.findIdx? (fun w => w.lines.length = m) with
    | some i => rest.eraseIdx i
    | none => rest
  { s with rowWatch := Sparse.set (fun _ => []) s.rowWatch t (rest ++ [new]) }

/-- The row key of a cistern line in the row watch. -/
def cisternRow (off : Nat) : Nat := (chanOf off * 128 + bankKey off) * 2 ^ 18 + rowOf off

/-- Lowest tier offset on rank `k` of channel `c` (R17, R82, R83). -/
def rankOff (c k : Nat) : Nat :=
  let b := k / 2 % 2 * 2 ^ 22 + k % 2 * 2 ^ 21
  b + (((upto 4).find? (fun i => chanOf (b + i * 256) = c)).getD 0) * 256

/-- Lowest address of a unit of a tier (R17, R155): a rank, a basin die of a runnel, or an SRAM checker. -/
def State.unitAddr (s : State) (t unit : Nat) : Nat :=
  if unit < 64 then poolAddr s.pkg t (rankOff (unit / 4) (unit % 4))
  else if unit < 256 then t * 2 ^ 36 + (unit % 8 * 16 + (unit - 64) / 8) * 32768
  else poolAddr s.pkg t 0

/-- A checker corrected a read: its counters, its unit, the Corrected message and the unit threshold. `src`: tier source
32 cistern, 33 basin, 34 SRAM; `level` 2, or 4 for SRAM. `quiet`: a scrub raises no Corrected messages (R170). -/
def corrected (t checker unit src level addr : Nat) (basin quiet : Bool) (s : State) : State :=
  let e := eccBase t
  let s := s.count (e + 0x400 + 0x10 * checker) 1
  let s := s.setReg (e + 0x28) (BitVec.ofNat 64 (addr % 2 ^ 48 + ofBool basin * 2 ^ 48))
  let n := Sparse.get (fun _ => 0) s.unitCe (eccUnitKey t unit) + 1
  let hit := decide (s.ceThresh t ≤ n)
  let s := { s with unitCe := Sparse.set (fun _ => 0) s.unitCe (eccUnitKey t unit) (if hit then 0 else n) }
  let s := if quiet then s else raise (tierSource t src) 0 level addr 0 s
  if hit then raise (tierSource t src) 2 level (s.unitAddr t unit) 0 (s.putFlag e ECC_STATUS_CE_THRESH true) else s

/-- A checker found an uncorrectable read: counters and status (Table ECC-14). -/
def sawUncorrectable (t checker addr : Nat) (basin : Bool) (s : State) : State :=
  let e := eccBase t
  let s := s.count (e + 0x408 + 0x10 * checker) 1
  let s := s.setReg (e + 0x20) (BitVec.ofNat 64 (addr % 2 ^ 48 + ofBool basin * 2 ^ 48))
  s.putFlag e ECC_STATUS_UE true

/-! ### The poison list (R160) -/

def State.listed (s : State) (t pa : Nat) : Bool :=
  (s.plist t).any (fun e => if e.extent then decide (e.pa / 2 ^ 21 = pa / 2 ^ 21) else decide (e.pa = pa))

def setPlist (t : Nat) (l : List Poison) (s : State) : State :=
  let s := { s with poison := Sparse.set (fun _ => []) s.poison t l }
  let s := s.put (eccBase t) ECC_PLIST_COUNT l.length
  if l = [] then
    { s.putFlag (eccBase t) ECC_PLIST_OVF false with ovfTime := Sparse.set (fun _ => 0) s.ovfTime t 0 }
  else s

/-- Enter a line in the poison list; a full list sets OVF and keeps the time it rose. -/
def listPoison (t : Nat) (p : Poison) (s : State) : State :=
  let l := s.plist t
  if s.listed t p.pa then s
  else if l.length < 1024 then setPlist t (l ++ [{ p with time := s.us }]) s
  else
    let was := s.flag (eccBase t) ECC_PLIST_OVF
    let s := (s.putFlag (eccBase t) ECC_PLIST_OVF true).putFlag (eccBase t) ECC_STATUS_PLIST_OVF true
    if was then s else { s with ovfTime := Sparse.set (fun _ => 0) s.ovfTime t s.us }

/-- Remove a line's entry (R159). -/
def unlistPoison (t pa : Nat) (s : State) : State :=
  if (s.plist t).any (fun e => !e.extent && e.pa = pa) then
    setPlist t ((s.plist t).filter (fun e => e.extent || decide (e.pa ≠ pa))) s
  else s

/-- Remove the entries of an extent (R159). -/
def unlistExtent (t pen : Nat) (s : State) : State :=
  if (s.plist t).any (fun e => decide (e.pa / 2 ^ 21 = pen)) then
    setPlist t ((s.plist t).filter (fun e => decide (e.pa / 2 ^ 21 ≠ pen))) s
  else s

/-! ### Accesses -/

/-- An access to a line of a tier: the attribute it carries (R30, R179), the flags of its context (Table CTX-2) and its
DPA, for poison records. `force`: it is part of a longer operation that waits for queue entries within itself. -/
structure Acc where
  t : Nat
  off : Nat
  ctx : Nat
  key : Nat
  cls : Nat
  integ : Bool
  noalloc : Bool := false
  wthru : Bool := false
  dpa : Nat := 0
  force : Bool := false
  /-- Media-error source of poison that the access writes (R160). -/
  psrc : Nat := 1
deriving DecidableEq, Repr

def State.pa (s : State) (a : Acc) : Nat := poolAddr s.pkg a.t (a.off / 64 * 64)

/-- List a line as poisoned (source 2 unless from a host) with the context and DPA of the access. -/
def listAcc (a : Acc) (source : Nat) (s : State) : State :=
  listPoison a.t { pa := s.pa a, ctx := a.ctx, dpa := a.dpa, source := source } s

/-- The Contained event naming the context, unless the line is already listed (R157, R160). -/
def firstDetected (src kind : Nat) (a : Acc) (s : State) : State :=
  if s.listed a.t (s.pa a) then s else listAcc a 2 (raiseCtx (tierSource a.t src) kind a.ctx s)

/-- Page of an offset within its extent, and its valid bit (R85). -/
def pageOf (off : Nat) : Nat := off / 4096 % 512
def extOf (off : Nat) : Nat := off / 2 ^ 21
def State.pageValid (s : State) (t off : Nat) : Bool := (s.validLine t (extOf off)).bits.getLsbD (pageOf off)

/-- The context and extent index that map an extent of a tier of this package. -/
def State.ownerOf (s : State) (t e : Nat) : Option (Nat × Nat) :=
  let pen := s.pkg * 2 ^ 23 + t * 2 ^ 20 + e
  (s.exts.find? (fun x => x.2.valid && !x.2.remote && decide (x.2.pen = pen))).map (fun x => (x.1 / 2 ^ 20, x.1 % 2 ^ 20))

/-! ### Write queues (R121, R122) and injection (R168) -/

/-- Take one injected write of checker `n`: POISON and MASK when the checker is armed (R168). -/
def takeInjection (t n : Nat) (s : State) : State × Option (Bool × Nat) :=
  let e := eccBase t
  let cnt := s.get e ECC_INJ_CTL_COUNT
  if s.get e ECC_INJ_CTL_SEL = n ∧ n < 57 ∧ cnt ≠ 0 then
    let s' := s.put e ECC_INJ_CTL_COUNT (cnt - 1)
    let s' := if cnt = 1 then s'.putFlag e ECC_STATUS_INJ_DONE true else s'
    (s', some (s.flag e ECC_INJ_CTL_POISON, s.get e ECC_INJ_MASK_MASK))
  else (s, none)

/-- Code state of a cistern word with its check devices 8 and 9 altered by a mask (R168). -/
def cisternMask (m : Nat) : Code :=
  if m % 65536 = 0 ∧ m / 65536 = 0 then .clean
  else if m % 65536 = 0 ∨ m / 65536 = 0 then .correctable else .uncorrectable

/-- Worst code state of two. -/
def worseCode : Code → Code → Code
  | .marker, _ => .marker | _, .marker => .marker
  | .uncorrectable, _ => .uncorrectable | _, .uncorrectable => .uncorrectable
  | .correctable, _ => .correctable | _, .correctable => .correctable
  | .clean, .clean => .clean

/-- Bad bits of an SRAM entry by byte under a mask, 5 check bits a byte: one is corrected, two are detected, more may be
miscorrected (Table ECC-1, R168). -/
def sramMask (m : Nat) (free : Bool) : Code :=
  (upto 7).foldl (fun c i =>
    let n := popCount (bitsAt m (5 * i + 4) (5 * i)) 5
    worseCode c (if n = 0 then .clean else if n = 1 then .correctable
      else if n = 2 then .uncorrectable else if free then .clean else .uncorrectable)) .clean

/-- A stored line as the channel's encoder writes it, under injection on checkers c and 32 + c. -/
def encodeCistern (a : Acc) (l : CLine) (s : State) : State × CLine :=
  let c := chanOf a.off
  let (s, l) := match takeInjection a.t c s with
    | (s, none) => (s, l)
    | (s, some (true, _)) => (s, { data := markerLine, code := .marker })
    | (s, some (false, m)) => (s, { l with code := worseCode l.code (cisternMask m) })
  match takeInjection a.t (32 + c) s with
  | (s, none) => (s, l)
  | (s, some (poison, m)) =>
    let code : Code := if poison then .marker else sramMask m (Config.miscorrects s.fresh)
    let s := s.drawn
    match code with
    | .clean => (s, l)
    | .correctable => (corrected a.t (32 + c) (256 + 32 + c) 34 4 (s.pa a) false false s, l)
    | _ => (listAcc a 2 (raiseCtx (tierSource a.t 34) 1 a.ctx (sawUncorrectable a.t (32 + c) (s.pa a) false s)),
            { data := markerLine, code := .marker })

/-- A line lost to the fence of its rank: counted, and one Contained event per context and fence (R139). -/
def lostOnFence (t c k ctx : Nat) (s : State) : State :=
  let s := s.count (drcBase t c + 0x68) 1
  let r := s.rank t c k
  if r.reported.contains ctx then s
  else raiseCtx (tierSource t (12 + c)) 9 ctx (s.setRank t c k { r with reported := ctx :: r.reported })

/-- Note activity of a rank for its idle timers (R485). -/
def touchRank (t c k : Nat) (s : State) : State :=
  let r := s.rank t c k
  s.setRank t c k { r with idleSince := s.us }

def Chan.entry (ch : Chan) (off : Nat) : Option WriteEntry := ch.writes.find? (fun e => e.off = off)

/-- Offer a stored line to its channel (R121): discarded on a fenced rank (R139), held while the weir holds the rank,
replacing an unissued entry of the same line (R122), taking a new entry, or refused for want of room. A forced offer
that finds no room is issued at once: the operation it belongs to has waited for the entry. -/
def acceptWrite (a : Acc) (l : CLine) (pend : Bool) (s : State) : Except HoldWhy State :=
  let off := a.off / 64 * 64
  let c := chanOf off
  let k := rankOf off
  if s.fenced a.t c k then .ok (lostOnFence a.t c k a.ctx s)
  else if s.rankHeld a.t c k && !a.force then .error .rankHeld
  else
    let ch := s.chan a.t c
    match ch.entry off with
    | some _ =>
      let (s, l) := encodeCistern a l s
      let ch := s.chan a.t c
      .ok (s.setChan a.t c { ch with writes := ch.writes.map (fun e =>
        if e.off = off then { e with line := l, pend := pend } else e) })
    | none =>
      if s.poolRoom a.cls (ch.writes.map (·.cls)) then
        let (s, l) := encodeCistern a l s
        let ch := s.chan a.t c
        let e : WriteEntry := { off := off, line := l, cls := a.cls, ctx := a.ctx, arrival := s.us, pend := pend }
        .ok (notePool a.t c (touchRank a.t c k (s.setChan a.t c { ch with writes := ch.writes ++ [e] })))
      else if a.force then
        let (s, l) := encodeCistern a l s
        .ok (noteServed a.t c a.cls none (touchRank a.t c k (s.setCline a.t off l)))
      else .error .queueFull

/-- The stored form of a line as a read finds it: the queue entry, else the cistern, else contents never written. -/
def State.stored (s : State) (t off : Nat) : CLine × Bool :=
  match (s.chan t (chanOf off)).entry (off / 64 * 64) with
  | some e => (e.line, true)
  | none => match s.cline t off with
    | some l => (l, false)
    | none => ({ data := Config.freeLine (lineKey t off), code := .clean }, false)

/-- Write a line straight to where reads find it, a queue entry or the cistern: markers and rewrites by rule. -/
def putStored (t off : Nat) (l : CLine) (s : State) : State :=
  let c := chanOf off
  let ch := s.chan t c
  match ch.entry (off / 64 * 64) with
  | some _ => s.setChan t c { ch with writes := ch.writes.map (fun e =>
      if e.off = off / 64 * 64 then { e with line := l } else e) }
  | none => s.setCline t off l

/-! ### Tag lines and the tag cache (R183-R188) -/

/-- Tag base of a tier in bytes; 0 when it has no tags (Table SCR-8). -/
def State.tagBase (s : State) (t : Nat) : Nat := s.get (scrBase t) SCR_TAG_BASE_TB_EXT * 2 ^ 21
def tagIndex (off : Nat) : Nat := off / 1024
/-- Tier offset of tag line `x` (R183). -/
def State.tagLineOff (s : State) (t x : Nat) : Nat := s.tagBase t + x * 64
def tagWord (off : Nat) : Nat := off / 64 % 16

def lineWord (l : Line) (i : Nat) : Word := l.extractLsb' (32 * i) 32
def setLineWord (l : Line) (i : Nat) (w : Word) : Line := ofLineWords ((lineWords l).set i w)

def TagSet.way (g : TagSet) (w : Nat) : TagWay := Sparse.get (fun _ => {}) g.ways w
def TagSet.setWay (g : TagSet) (w : Nat) (v : TagWay) : TagSet := { g with ways := Sparse.set (fun _ => {}) g.ways w v }
def TagSet.find (g : TagSet) (x : Nat) : Option Nat :=
  (upto 14).find? (fun w => (g.way w).valid && (g.way w).taghi = x / 2 ^ 21)

/-- The way a new tag line takes: the lowest free one, else the oldest with PEND 0, ties to the lowest (R186). -/
def TagSet.victim (g : TagSet) : Option Nat :=
  match (upto 14).find? (fun w => !(g.way w).valid) with
  | some w => some w
  | none =>
    let ok := (upto 14).filter (fun w => (g.way w).pend = 0)
    let m := ok.foldl (fun m w => max m (g.way w).age) 0
    ok.find? (fun w => (g.way w).age = m)

/-- The access to the cistern line of tag line `x`. -/
def State.tagAcc (s : State) (a : Acc) (x : Nat) : Acc :=
  { a with off := s.tagLineOff a.t x, integ := false, force := true }

/-- Whether a rank holds tag line `x` and is fenced (R139, Table SCR-5). -/
def State.tagFenced (s : State) (t x : Nat) : Bool :=
  let o := s.tagLineOff t x
  s.fenced t (chanOf o) (rankOf o)

/-- Store a tag line's way, evicting the way's old line: a dirty one is written back (R186). -/
def placeTag (a : Acc) (x w : Nat) (v : TagWay) (s : State) : State :=
  let g := s.tagSet a.t x
  let old := g.way w
  let s := if old.valid && old.dirty then
      let ox := old.taghi * 2 ^ 21 + x % 2 ^ 21
      match acceptWrite (s.tagAcc a ox) { data := old.data } false s with
      | .ok s => s
      | .error _ => s
    else s
  let g := s.tagSet a.t x
  let g := (upto 14).foldl (fun g i => if i = w || !(g.way i).valid then g else
    g.setWay i { g.way i with age := min 15 ((g.way i).age + 1) }) g
  s.setTagSet a.t x (g.setWay w { v with age := 0 })

/-- Lost directory or way: the tag lines to sweep are noted (Table SCR-4). Answers the state with the set usable. -/
def repairTagSet (a : Acc) (x : Nat) (s : State) : State :=
  let g := s.tagSet a.t x
  if g.copy0Bad && g.copy1Bad then
    let tb := s.tagBase a.t
    let lines := (upto 960).filterMap (fun i =>
      let y := i * 2 ^ 21 + x % 2 ^ 21
      if y * 1024 < tb then some (a.t, y) else none)
    let s := (s.setTagSet a.t x {}).putFlag (scrBase a.t) SCR_STATUS_DIR_LOST true
    raise (tierSource a.t 38) 1 (Config.eventLevel (tierSource a.t 38) 1).toNat (Config.eventAddr (tierSource a.t 38) 1).toNat 0
      { s with sweeps := s.sweeps ++ lines }
  else if g.copy0Bad || g.copy1Bad then
    raiseOpen (tierSource a.t 38) 0 (s.setTagSet a.t x { g with copy0Bad := false, copy1Bad := false })
  else s

/-- A cached way whose line no longer checks: dropped when clean, swept when dirty or pending (Table SCR-4). -/
def repairTagWay (a : Acc) (x : Nat) (s : State) : State :=
  let g := s.tagSet a.t x
  match g.find x with
  | none => s
  | some w =>
    let v := g.way w
    if !v.bad then s
    else
      let s' := s.setTagSet a.t x (g.setWay w {})
      if v.dirty || v.pend ≠ 0 then
        { s'.putFlag (scrBase a.t) SCR_STATUS_TAGC_LOST true with sweeps := s'.sweeps ++ [(a.t, x)] }
      else raiseOpen (tierSource a.t 38) 0 s'

/-- A tag line as the tag cache or the cistern gives it. -/
inductive TagRead where
  | line (l : Line) | bad | wait (why : HoldWhy)
deriving DecidableEq, Repr

/-- List the 16 lines a tag line covers, of valid pages (R188, Table SCR-5). -/
def listCovered (a : Acc) (x : Nat) (s : State) : State :=
  forEach (upto 16) (fun i u =>
    let b := { a with off := x * 1024 + i * 64, dpa := a.dpa / 1024 * 1024 + i * 64 }
    if u.pageValid a.t b.off && !u.listed a.t (u.pa b) then
      listAcc b 2 (u.count (scrBase a.t + 0x58) 1)
    else u) s

/-- Read tag line `x` (R185, R482): a hit uses the cached copy; a miss reads the cistern and places a readable line. -/
def readTag (a : Acc) (x : Nat) (s : State) : State × TagRead :=
  let s := repairTagWay a x (repairTagSet a x s)
  if s.sweeps.contains (a.t, x) then (s, .wait .sweep)
  else
    let g := s.tagSet a.t x
    match g.find x with
    | some w =>
      let s := s.count (scrBase a.t + 0x40) 1
      (s.setTagSet a.t x (g.setWay w { g.way w with age := 0 }), .line (g.way w).data)
    | none =>
      let s := s.count (scrBase a.t + 0x48) 1
      if s.tagFenced a.t x then (s, .bad)
      else
        let b := s.tagAcc a x
        let (l, _) := s.stored a.t b.off
        let c := chanOf b.off
        match l.code with
        | .uncorrectable => (sawUncorrectable a.t c (s.pa b) false (s.putFlag (scrBase a.t) SCR_STATUS_TAG_LINE_UE true), .bad)
        | .marker => (sawUncorrectable a.t c (s.pa b) false (s.putFlag (scrBase a.t) SCR_STATUS_TAG_LINE_UE true), .bad)
        | code =>
          let s := if code = .correctable then
              watchRow a.t false (cisternRow b.off) b.off false
                (corrected a.t c (c * 4 + rankOf b.off) 32 2 (s.pa b) false false s)
            else s
          match (s.tagSet a.t x).victim with
          | none => (s, .wait .queueFull)
          | some w => (placeTag a x w { valid := true, taghi := x / 2 ^ 21, data := l.data } s, .line l.data)

/-- Make a line the poison marker where reads find it, and list it (R154, R188). -/
def writeMarker (a : Acc) (s : State) : State :=
  listAcc a 2 (putStored a.t a.off { data := markerLine, code := .marker } s)

/-- Sweep tag line `x` (R188): markers in the covered lines of valid pages but `keep`, listed; the tag line written
fresh; one Contained event per context. -/
def sweepTag (a : Acc) (x : Nat) (keep : Option Nat) (s : State) : State :=
  let s := forEach ((upto 16).filter (fun i => keep ≠ some i)) (fun i u =>
    let off := x * 1024 + i * 64
    if u.pageValid a.t off then
      let own := u.ownerOf a.t (extOf off)
      let c := (own.map (·.1)).getD a.ctx
      let dpa := match own with
        | some (c, idx) => (u.ctx c).wbase * 2 ^ 28 + idx * 2 ^ 21 + off % 2 ^ 21
        | none => a.dpa
      writeMarker { a with off := off, ctx := c, dpa := dpa } (u.count (scrBase a.t + 0x58) 1)
    else u) s
  let c := ((s.ownerOf a.t (extOf (x * 1024))).map (·.1)).getD a.ctx
  let s := raiseCtx (tierSource a.t 38) 2 c s
  let o := s.tagLineOff a.t x
  if s.tagFenced a.t x then s else putStored a.t o { data := 0 } s

/-- Write a line's tag when its data write is accepted (R186): into the cached tag line, DIRTY, with its PEND bit. A
fenced tag line cannot take it (R139); an uncorrectable one is swept first (Table SCR-4). -/
def writeTag (a : Acc) (tag : Word) (pend : Bool) (s : State) : Except HoldWhy State :=
  let x := tagIndex a.off
  let i := tagWord a.off
  if s.tagFenced a.t x then .ok s
  else
    let put (l : Line) (s : State) : Except HoldWhy State :=
      let g := s.tagSet a.t x
      match g.find x with
      | some w =>
        let v := g.way w
        .ok (s.setTagSet a.t x (g.setWay w { v with
          data := setLineWord l i tag, dirty := true
          pend := if pend then v.pend ||| BitVec.ofNat 16 (2 ^ i) else v.pend }))
      | none => match g.victim with
        | none => .error .queueFull
        | some w => .ok (placeTag a x w { valid := true, dirty := true, taghi := x / 2 ^ 21, data := setLineWord l i tag
                                          pend := if pend then BitVec.ofNat 16 (2 ^ i) else 0 } s)
    match readTag a x s with
    | (s, .line l) => put l s
    | (_, .wait w) => .error w
    | (s, .bad) =>
      put 0 (sweepTag a x (some i) s)

/-- Clear the PEND bit of a line whose write command is issued (R186). -/
def clearPend (t off : Nat) (s : State) : State :=
  let x := tagIndex off
  let g := s.tagSet t x
  match g.find x with
  | some w =>
    let v := g.way w
    s.setTagSet t x (g.setWay w { v with pend := v.pend &&& ~~~(BitVec.ofNat 16 (2 ^ tagWord off)) })
  | none => s

/-! ### Writing and reading a data line -/

/-- Scramble, tag and offer a plaintext line, or the marker (R179, R182, R186). A missing key scrambles to contents
nothing fixes. -/
def writeCistern (a : Acc) (l : Line) (marker : Bool) (s : State) : Except HoldWhy State :=
  let pa := s.pa a
  let cipher : Line := match s.key a.key with
    | some k => scramble k pa l
    | none => Config.freeLine (lineKey a.t a.off)
  let tag : Word := if marker then 0 else match s.key a.key with
    | some k => lineTag k pa cipher
    | none => 0
  let stored : CLine := if marker then { data := markerLine, code := .marker } else { data := cipher }
  let fencedRank := s.fenced a.t (chanOf a.off) (rankOf a.off)
  match acceptWrite a stored a.integ s with
  | .error w => .error w
  | .ok s => if a.integ && !fencedRank then writeTag a tag true s else .ok s

/-- What a cistern read serves: a read, the merge of a partial write, whose discard always raises its event
(Table ECC-2), or a scrub, which raises no Corrected messages (R170). -/
inductive ReadFor where
  | read | merge | scrub
deriving DecidableEq, Repr

/-- What a checked cistern read gives (Table SCR-5). -/
inductive RdOut where
  | data (l : Line) (wasCorrected : Bool) | poison | tamper | wait (why : HoldWhy)
deriving DecidableEq, Repr

/-- A read found a line uncorrectable or poisoned: it is listed, and its Contained event is raised, for a merge always
(Table ECC-2) and otherwise unless the line is already listed (R157, R160, R168). -/
def reportPoison (src : Nat) (use : ReadFor) (a : Acc) (s : State) : State :=
  if use = .merge then listAcc a 2 (raiseCtx (tierSource a.t src) 1 a.ctx s) else firstDetected src 1 a s

/-- The tag half of a read (Table SCR-5): compare, or report the covered lines. -/
def checkTag (a : Acc) (l : CLine) (out : RdOut) (use : ReadFor) (s : State) : State × RdOut :=
  if !a.integ then (s, out)
  else
    let x := tagIndex a.off
    match readTag a x s with
    | (s, .wait w) => (s, .wait w)
    | (s, .bad) =>
      let s := if use ≠ .merge && s.listed a.t (s.pa a) then s else raiseCtx (tierSource a.t 38) 3 a.ctx s
      (listCovered a x s, .poison)
    | (s, .line tl) =>
      let s := s.count (scrBase a.t + 0x50) 1
      let good := match s.key a.key with
        | some k => decide (lineTag k (s.pa a) l.data = lineWord tl (tagWord a.off))
        | none => true
      if good then (s, out)
      else (raiseOpen (tierSource a.t 37) 0 s, .tamper)

/-- Plaintext of a stored line under the access's key (R179). -/
def State.plain (s : State) (a : Acc) (l : CLine) : Line :=
  match s.key a.key with
  | some k => descramble k (s.pa a) l.data
  | none => Config.freeLine (lineKey a.t a.off)

/-- The checked read of a cistern line (R36, R139, R189). -/
def readCistern (a : Acc) (use : ReadFor) (s : State) : State × RdOut :=
  let off := a.off / 64 * 64
  let c := chanOf off
  let k := rankOf off
  if s.fenced a.t c k then (lostOnFence a.t c k a.ctx s, .poison)
  else if s.rankHeld a.t c k && !a.force then (s, .wait .rankHeld)
  else
    let (l, queued) := s.stored a.t off
    let ch := s.chan a.t c
    if !queued && !a.force && !s.poolRoom a.cls (ch.reads.map (·.cls)) then (s, .wait .queueFull)
    else
      let s := if queued || a.force then s else
        let ch := s.chan a.t c
        notePool a.t c (touchRank a.t c k (s.setChan a.t c { ch with reads := ch.reads ++
          [{ off := off, cls := a.cls, ctx := a.ctx, arrival := s.us }] }))
      let s := if queued then noteServed a.t c a.cls (some a.ctx) s else s
      match l.code with
      | .marker => (reportPoison 32 use a s, .poison)
      | .uncorrectable =>
        let s := watchRow a.t false (cisternRow off) off true (sawUncorrectable a.t c (s.pa a) false s)
        (reportPoison 32 use a s, .poison)
      | .correctable =>
        let s := watchRow a.t false (cisternRow off) off false
          (corrected a.t c (c * 4 + k) 32 2 (s.pa a) false (use = .scrub) s)
        checkTag a l (.data (s.plain a l) true) use s
      | .clean => checkTag a l (.data (s.plain a l) false) use s

end Sys2Proof.Machine
end

