-- ==== Sys2Proof/Machine/Basin.lean ====
section
/-! DEFINITION. Operations on the basin: placement (R100, R101), lookup, allocation and replacement (R102-R110),
the victim buffer (R106), and the local service of reads, writes and page fills (R37, R85, R104, R105, R162). -/

namespace Sys2Proof.Machine

/-! ### Placement -/

def sectorOf (off : Nat) : Nat := off / 2048
/-- Index of the slice-map entry of a sector (R100). -/
def sliceHash (sec : Nat) : Nat := (sec ^^^ (sec / 64) ^^^ (sec / 4096)) % 64
/-- The runnel that caches a tier offset, by the slice map. -/
def State.sliceOf (s : State) (t off : Nat) : Nat :=
  let v := sliceHash (sectorOf off)
  bitsAt (s.reg (bsnBase t 0 + 0x210 + 4 * (v / 8))).toNat (4 * (v % 8) + 3) (4 * (v % 8))
/-- Set of a sector within its slice (R101). -/
def setNo (off : Nat) : Nat := sectorOf off / 16 % 125856
def basinLine (off : Nat) : Nat := off / 64 % 32
def setDie (n : Nat) : Nat := n % 8
/-- Row in the die of a set. -/
def setRow (n : Nat) : Nat := 652 + n / 8
/-- Basin address of a set's row (R95 continued to the line-cache rows). -/
def rowAddr (j n : Nat) : Nat := ((setRow n * 8 + setDie n) * 16 + j) * 32768
/-- Row key of a set in the row watch. -/
def basinRow (j n : Nat) : Nat := (j * 8 + setDie n) * 16384 + setRow n
/-- Basin address of a line in the form of FIRST_BAD (R172). -/
def lineAddr (t j n w line : Nat) : Nat := t * 2 ^ 36 + rowAddr j n + w * 2048 + line * 64

def Slice.set (sl : Slice) (n : Nat) : Sparse Way := Sparse.get (fun _ => []) sl.sets n
def State.way (s : State) (t j n w : Nat) : Way := Sparse.get (fun _ => {}) ((s.slice t j).set n) w
def State.setWay (s : State) (t j n w : Nat) (v : Way) : State :=
  let sl := s.slice t j
  s.setSlice t j { sl with sets := Sparse.set (fun _ => []) sl.sets n (Sparse.set (fun _ => {}) (sl.set n) w v) }
/-- The way that holds a sector. -/
def State.findWay (s : State) (t j n sec : Nat) : Option Nat :=
  (upto 16).find? (fun w => (s.way t j n w).valid && (s.way t j n w).tag = sec)
def State.setRetired (s : State) (t j n : Nat) : Bool := (Sparse.get (fun _ => []) s.retiredSets (t * 16 + j)).contains n
/-- The slice works at half width and writes through (R323). -/
def State.halfWidth (s : State) (t j : Nat) : Bool := s.get (bsnBase t j) BSN_SLICE_STATUS_WIDTH = 1

def bit32 (i : Nat) : BitVec 32 := BitVec.ofNat 32 (2 ^ i)
def Way.line (w : Way) (i : Nat) : BLine := Sparse.get (fun _ => {}) w.lines i

/-! ### Way entries (R102, R110) -/

/-- Opening a set's row: a way entry with one bad copy is rewritten from the other; with both bad the way is lost. -/
def openSet (t j n : Nat) (s : State) : State :=
  forEach (upto 16) (fun w u =>
    let v := u.way t j n w
    if v.copy0Bad && v.copy1Bad then
      let u := (u.setWay t j n w {}).count (bsnBase t j + 0x28) 1
      raise (tierSource t (16 + j)) 4 0 (rowAddr j n) w u
    else if v.copy0Bad || v.copy1Bad then
      (u.setWay t j n w { v with copy0Bad := false, copy1Bad := false }).count (bsnBase t j + 0x20) 1
    else u) s

/-! ### Replacement (R108) -/

/-- The way with the highest AGE of a list, ties to the lowest number. -/
def oldest (age : Nat → Nat) (l : List Nat) : Option Nat :=
  let m := l.foldl (fun m w => max m (age w)) 0
  l.find? (fun w => age w = m)

/-- The way a class takes in a set (choose_victim of R108). -/
def chooseVictim (way : Nat → Way) (cls : Nat) (share : Nat → Nat) : Option Nat :=
  if share cls = 0 then none
  else match (upto 16).find? (fun w => !(way w).valid) with
    | some w => some w
    | none =>
      let cnt (c : Nat) := ((upto 16).filter (fun w => (way w).cls = c)).length
      let mine := (upto 16).filter (fun w => (way w).cls = cls && !(way w).wbp)
      let above := (upto 16).filter (fun w => decide (share (way w).cls < cnt (way w).cls) && !(way w).wbp)
      let age (w : Nat) := (way w).age
      if mine.length < share cls && above ≠ [] then oldest age above
      else if mine ≠ [] then oldest age mine
      else oldest age ((upto 16).filter (fun w => !(way w).wbp))

/-- Insertion age of a class (Table BSN-11). -/
def State.insertAge (s : State) (t cls : Nat) : Nat :=
  bitsAt (s.reg (bsnBase t 0 + 0x240 + 4 * (cls / 8))).toNat (4 * (cls % 8) + 3) (4 * (cls % 8))

/-- Read a dirty line out of its way (R106, R155, Table ECC-3): a corrected one leaves clean, an uncorrectable one leaves
as the marker, listed. -/
def readDirty (t j n w i : Nat) (s : State) : State × BLine :=
  let v := s.way t j n w
  let l := v.line i
  let addr := lineAddr t j n w i
  match l.code with
  | .clean => (s, l)
  | .marker => (s, l)
  | .correctable =>
    (watchRow t true (basinRow j n) addr false (corrected t (4 + j) (64 + j * 8 + setDie n) 33 2 addr true false s),
     { l with code := .clean })
  | .uncorrectable =>
    let off := v.tag * 2048 + i * 64
    let dpa := match s.ownerOf t (extOf off) with
      | some (c, idx) => (s.ctx c).wbase * 2 ^ 28 + idx * 2 ^ 21 + off % 2 ^ 21
      | none => 0
    let a : Acc := { t := t, off := off, ctx := l.ctx, key := l.key, cls := v.cls, integ := l.integrity, dpa := dpa }
    (firstDetected 33 1 a (watchRow t true (basinRow j n) addr true (sawUncorrectable t (4 + j) addr true s)),
     { l with data := markerLine, code := .marker })

/-- Move a dirty line of a way into the slice's victim buffer, counted as written back (R106). -/
def bufferLine (t j n w i : Nat) (s : State) : State :=
  let v := s.way t j n w
  let (s, l) := readDirty t j n w i s
  let sl := s.slice t j
  (s.setSlice t j { sl with victims := sl.victims ++ [({ off := v.tag * 2048 + i * 64, cls := v.cls, line := l } : Victim)] }).count
    (bsnBase t j + 0x18) 1

/-- Move a way's dirty lines of valid pages to the victim buffer and empty the way (R106). -/
def evictWay (t j n w : Nat) (s : State) : Except HoldWhy State :=
  let v := s.way t j n w
  let offs := (upto 32).filter (fun i => v.valid && v.dirty.getLsbD i && s.pageValid t (v.tag * 2048 + i * 64))
  let sl := s.slice t j
  if 64 < sl.victims.length + offs.length then .error .victimFull
  else
    let s := forEach offs (fun i u => bufferLine t j n w i u) s
    .ok (s.setWay t j n w {})

/-- Every valid way of a set but `keep` grows older by 1, to 15 (R108). -/
def ageOthers (t j n : Nat) (keep : Option Nat) (s : State) : State :=
  forEach (upto 16) (fun w u =>
    let v := u.way t j n w
    if v.valid && keep ≠ some w then u.setWay t j n w { v with age := min 15 (v.age + 1) } else u) s

/-- A way for the access's sector: the way that holds it, or one allocated (R104, R108); none: no allocation. -/
def allocWay (a : Acc) (s : State) : Except HoldWhy (State × Option Nat) :=
  let j := s.sliceOf a.t a.off
  let n := setNo a.off
  let sec := sectorOf a.off
  match s.findWay a.t j n sec with
  | some w => .ok (s, some w)
  | none =>
    if s.setRetired a.t j n then .ok (s, none)
    else match chooseVictim (s.way a.t j n) a.cls (fun c => (s.cls c).ways) with
      | none => .ok (s, none)
      | some w =>
        match evictWay a.t j n w s with
        | .error e => .error e
        | .ok s => .ok (s.setWay a.t j n w
            { valid := true, tag := sec, cls := a.cls, age := s.insertAge a.t a.cls }, some w)

/-! ### Lines -/

/-- Code state of a basin line with its first check symbols altered by a mask (R168). -/
def basinMask (m : Nat) (free : Bool) : Code :=
  let q0 := ofBool (m % 256 ≠ 0) + ofBool (m / 256 % 256 ≠ 0) + ofBool (m / 65536 % 256 ≠ 0)
  let c0 : Code := match q0 with
    | 0 => .clean | 1 => .correctable | 2 => .uncorrectable | _ => if free then .clean else .uncorrectable
  worseCode c0 (if m / 2 ^ 24 = 0 then .clean else .correctable)

/-- Write a line into a way (R102), through the slice's encoder; `dirty` sets DIRTY and marks the dirty extent map
(R325), else DIRTY is cleared. -/
def putBasin (a : Acc) (w : Nat) (l : Line) (marker dirty : Bool) (s : State) : State :=
  let j := s.sliceOf a.t a.off
  let n := setNo a.off
  let i := basinLine a.off
  let (s, code, l) : State × Code × Line := match takeInjection a.t (4 + j) s with
    | (s, none) => (s, (if marker then .marker else .clean), l)
    | (s, some (true, _)) => (s, .marker, markerLine)
    | (s, some (false, m)) =>
      let free := Config.miscorrects s.fresh
      (s.drawn, worseCode (if marker then .marker else .clean) (basinMask m free), l)
  let v := s.way a.t j n w
  let bl : BLine := { data := l, code := code, key := a.key, ctx := a.ctx, integrity := a.integ }
  let s := s.setWay a.t j n w { v with
    present := v.present ||| bit32 i, dirty := (if dirty then v.dirty ||| bit32 i else v.dirty &&& ~~~(bit32 i))
    cls := a.cls, lines := Sparse.set (fun _ => {}) v.lines i bl }
  let sl := s.slice a.t j
  if dirty then
    s.setSlice a.t j { sl with dirtyExt := Sparse.set (fun _ => false) sl.dirtyExt (extOf a.off) true }
  else s

/-- Clear a line of a way. -/
def dropLine (t j n w i : Nat) (s : State) : State :=
  let v := s.way t j n w
  s.setWay t j n w { v with
    present := v.present &&& ~~~(bit32 i), dirty := v.dirty &&& ~~~(bit32 i)
    lines := Sparse.erase v.lines i }

/-- Note a hit: AGE 0 and the class of the request (R103, R107). -/
def touchWay (a : Acc) (j n w : Nat) (s : State) : State :=
  let v := s.way a.t j n w
  s.setWay a.t j n w { v with age := 0, cls := a.cls }

/-- What a lookup of the basin finds; a poisoned line has been reported. -/
inductive Lookup where
  | hit (w : Nat) (l : Line) (dirty : Bool) | poisoned | victim (l : Line) | miss
deriving DecidableEq, Repr

/-- A lookup that the set misses (R106, R108): the set's other ways grow older, and the victim buffer may hold the
line. -/
def missedSet (a : Acc) (use : ReadFor) (keep : Option Nat) (s : State) : State × Lookup :=
  let j := s.sliceOf a.t a.off
  let s := (ageOthers a.t j (setNo a.off) keep s).count (bsnBase a.t j + 0x10) 1
  match (s.slice a.t j).victims.find? (fun x => x.off = a.off / 64 * 64) with
  | none => (s, .miss)
  | some x => match x.line.code with
    | .marker => (reportPoison 33 use a s, .poisoned)
    | .uncorrectable => (reportPoison 33 use a s, .poisoned)
    | _ => (s, .victim x.line.data)

/-- Look a line up (R103) and evaluate its code (R155, R160, Table ECC-2, Table ECC-3). -/
def lookup (a : Acc) (use : ReadFor) (s : State) : State × Lookup :=
  let t := a.t
  let j := s.sliceOf t a.off
  let n := setNo a.off
  let i := basinLine a.off
  let s := openSet t j n s
  match s.findWay t j n (sectorOf a.off) with
  | some w =>
    let v := s.way t j n w
    if v.present.getLsbD i then
      let s := touchWay a j n w s
      let addr := lineAddr t j n w i
      let l := v.line i
      match l.code with
      | .clean => (s.count (bsnBase t j + 8) 1, .hit w l.data (v.dirty.getLsbD i))
      | .correctable =>
        let s := watchRow t true (basinRow j n) addr false (corrected t (4 + j) (64 + j * 8 + setDie n) 33 2 addr true false s)
        (s.count (bsnBase t j + 8) 1, .hit w l.data (v.dirty.getLsbD i))
      | .marker => (reportPoison 33 use a (s.count (bsnBase t j + 8) 1), .poisoned)
      | .uncorrectable =>
        let s := watchRow t true (basinRow j n) addr true (sawUncorrectable t (4 + j) addr true s)
        if v.dirty.getLsbD i then
          let v := s.way t j n w
          let s := s.setWay t j n w { v with lines := Sparse.set (fun _ => {}) v.lines i { l with data := markerLine, code := .marker } }
          (reportPoison 33 use a s, .poisoned)
        else
          let s := raise (tierSource t 33) 4 2 addr 0 (dropLine t j n w i s)
          missedSet a use (some w) s
    else missedSet a use (some w) s
  | none => missedSet a use none s

/-- Drop a line that the victim buffer holds. -/
def dropVictim (t off : Nat) (s : State) : State :=
  let j := s.sliceOf t off
  let sl := s.slice t j
  if sl.victims.any (fun x => x.off = off / 64 * 64) then
    s.setSlice t j { sl with victims := sl.victims.filter (fun x => x.off ≠ off / 64 * 64) }
  else s

/-- The access may allocate: its context is not no-allocate, its class has a way share (R105) and its runnel is not
lost. -/
def State.allocates (s : State) (a : Acc) : Bool :=
  !a.noalloc && (s.cls a.cls).ways ≠ 0 && s.get (bsnBase a.t (s.sliceOf a.t a.off)) BSN_SLICE_STATUS_WIDTH ≠ 2
/-- Writes go through: the context's flag or a slice at half width (R105, R323). -/
def State.through (s : State) (a : Acc) : Bool := a.wthru || s.halfWidth a.t (s.sliceOf a.t a.off)

/-! ### Reads -/

/-- Fill the missed line, and with FILL = 1 the rest of its 256-byte granule (R104). -/
def fillMiss (a : Acc) (l : Line) (s : State) : Except HoldWhy State :=
  if !s.allocates a then .ok s
  else match allocWay a s with
    | .error e => .error e
    | .ok (s, none) => .ok s
    | .ok (s, some w) =>
      let s := putBasin a w l false false s
      if s.flag (bsnBase a.t 0) BSN_TIER_CFG_FILL then
        .ok (forEach (upto 4) (fun i u =>
          let b := { a with off := a.off / 256 * 256 + i * 64, dpa := a.dpa / 256 * 256 + i * 64, force := true }
          let j := u.sliceOf a.t b.off
          let held := (u.way a.t j (setNo b.off) w).present.getLsbD (basinLine b.off)
          let inVictim := (u.slice a.t j).victims.any (fun x => x.off = b.off)
          if b.off = a.off / 64 * 64 || held || inVictim then u
          else match readCistern b .read u with
            | (u, .data l _) => putBasin b w l false false u
            | (u, _) => u) s)
      else .ok s

/-- Read a line of a page whose valid bit is set. The flag says it was served from the basin or a victim buffer. -/
def localRead (a : Acc) (s0 : State) : State × RdOut × Bool :=
  match (if a.noalloc then (s0, Lookup.miss) else lookup a .read s0) with
  | (s, .hit _ l _) => (s, .data l false, true)
  | (s, .poisoned) => (s, .poison, true)
  | (s, .victim l) => (s, .data l false, true)
  | (s, .miss) =>
    match readCistern a .read s with
    | (s, .data l c) =>
      match fillMiss a l s with
      | .ok s => (s, .data l c, false)
      | .error w => (s0, .wait w, false)
    | (_, .wait w) => (s0, .wait w, false)
    | (s, out) => (s, out, false)

/-! ### Writes -/

/-- What a write comes to. -/
inductive WrOut where
  | done | discarded | tamper | wait (why : HoldWhy)
deriving DecidableEq, Repr

/-- Write a whole line, or the marker for a line the host poisoned (R37, R104, R105, R157, R159). -/
def localWrite (a : Acc) (l : Line) (poison : Bool) (s0 : State) : State × WrOut :=
  let l := if poison then markerLine else l
  let entered (s : State) : State :=
    if poison then listAcc a a.psrc s else unlistPoison a.t (s.pa a) s
  let toChannel (s : State) : State × WrOut :=
    match writeCistern a l poison s with
    | .ok s => (entered (dropVictim a.t a.off s), .done)
    | .error w => (s0, .wait w)
  if a.noalloc then toChannel s0
  else
    let j := s0.sliceOf a.t a.off
    let n := setNo a.off
    let s := openSet a.t j n s0
    let here := match s.findWay a.t j n (sectorOf a.off) with
      | some w => if (s.way a.t j n w).present.getLsbD (basinLine a.off) then some w else none
      | none => none
    match here with
    | some w =>
      let s := (touchWay a j n w s).count (bsnBase a.t j + 8) 1
      if s.through a then
        match writeCistern a l poison s with
        | .ok s => (entered (dropVictim a.t a.off (putBasin a w l poison false s)), .done)
        | .error e => (s0, .wait e)
      else (entered (dropVictim a.t a.off (putBasin a w l poison true s)), .done)
    | none =>
      let s := (ageOthers a.t j n (s.findWay a.t j n (sectorOf a.off)) s).count (bsnBase a.t j + 0x10) 1
      if s.through a || !s.allocates a then toChannel s
      else match allocWay a s with
        | .error e => (s0, .wait e)
        | .ok (s, none) => toChannel s
        | .ok (s, some w) => (entered (dropVictim a.t a.off (putBasin a w l poison true s)), .done)

/-- A partial write to a valid page (R38, Table ECC-2). -/
def localPartial (a : Acc) (l : Line) (be : BitVec 64) (s0 : State) : State × WrOut :=
  let channelMerge (s : State) : State × WrOut :=
    match readCistern a .merge s with
    | (s, .data old _) =>
      match writeCistern a (mergeBytes old l be) false s with
      | .ok s => (s, .done)
      | .error w => (s0, .wait w)
    | (s, .poison) => (s, .discarded)
    | (s, .tamper) => (s, .tamper)
    | (_, .wait w) => (s0, .wait w)
  if a.noalloc then channelMerge s0
  else match lookup a .merge s0 with
    | (s, .hit w old _) =>
      let m := mergeBytes old l be
      if s.through a then
        match writeCistern a m false s with
        | .ok s => (putBasin a w m false false s, .done)
        | .error e => (s0, .wait e)
      else
        (putBasin a w m false true s, .done)
    | (s, .poisoned) => (s, .discarded)
    | (s, .victim old) =>
      let m := mergeBytes old l be
      if s.through a || !s.allocates a then
        match writeCistern a m false s with
        | .ok s => (dropVictim a.t a.off s, .done)
        | .error e => (s0, .wait e)
      else match allocWay a s with
        | .error e => (s0, .wait e)
        | .ok (s, some w) => (dropVictim a.t a.off (putBasin a w m false true s), .done)
        | .ok (s, none) =>
          match writeCistern a m false s with
          | .ok s => (dropVictim a.t a.off s, .done)
          | .error e => (s0, .wait e)
    | (s, .miss) =>
      if s.through a || !s.allocates a then channelMerge s
      else match readCistern a .merge s with
        | (s, .data old _) =>
          let m := mergeBytes old l be
          match allocWay a s with
          | .error e => (s0, .wait e)
          | .ok (s, some w) => (putBasin a w m false true s, .done)
          | .ok (s, none) =>
            match writeCistern a m false s with
            | .ok s => (s, .done)
            | .error e => (s0, .wait e)
        | (s, .poison) => (s, .discarded)
        | (s, .tamper) => (s, .tamper)
        | (_, .wait w) => (s0, .wait w)

/-! ### Page fill (R85, R187) -/

/-- Invalidate the basin copies of a line and drop it from the victim buffer. -/
def forgetLine (t off : Nat) (s : State) : State :=
  let j := s.sliceOf t off
  let n := setNo off
  let s := dropVictim t off s
  match s.findWay t j n (sectorOf off) with
  | some w => dropLine t j n w (basinLine off) s
  | none => s

/-- Make room in the tag cache for a fresh tag line, written whole (R187): it replaces an unreadable one. -/
def freshTagLine (a : Acc) (x : Nat) (s : State) : Except HoldWhy State :=
  let g := s.tagSet a.t x
  if s.tagFenced a.t x then .ok s
  else match g.find x with
    | some w => .ok (s.setTagSet a.t x (g.setWay w { g.way w with bad := false }))
    | none => match g.victim with
      | none => .error .queueFull
      | some w => .ok (placeTag a x w { valid := true, dirty := true, taghi := x / 2 ^ 21, data := 0 } s)

/-- The fill: 64 lines of zeros, one of them merged with the write's bytes, then the valid bit. -/
def pageFill (a : Acc) (l : Line) (be : BitVec 64) (poison : Bool) (s0 : State) : State × WrOut :=
  let base := a.off / 4096 * 4096
  let dpa := a.dpa / 4096 * 4096
  let s := forEach (upto 64) (fun i u => forgetLine a.t (base + i * 64) u) s0
  let tags : Except HoldWhy State :=
    if a.integ then (upto 4).foldl (fun r i => match r with
      | .ok s => freshTagLine a (tagIndex base + i) s
      | .error e => .error e) (.ok s)
    else .ok s
  let toBasin := s0.allocates a && !s0.through a
  let step (r : Except HoldWhy State) (i : Nat) : Except HoldWhy State :=
    match r with
    | .error e => .error e
    | .ok s =>
      let b := { a with off := base + i * 64, dpa := dpa + i * 64, force := true }
      let mine := decide (b.off = a.off / 64 * 64)
      let bad := mine && poison
      let v : Line := if bad then markerLine else if mine then mergeBytes 0 l be else 0
      let s := if bad then s else unlistPoison a.t (s.pa b) s
      let chan (s : State) : Except HoldWhy State := writeCistern b v bad s
      if toBasin then
        match allocWay b s with
        | .error e => .error e
        | .ok (s, none) => chan s
        | .ok (s, some w) =>
          if a.integ then
            match chan s with
            | .ok s => .ok (putBasin b w v bad false s)
            | .error e => .error e
          else .ok (putBasin b w v bad true s)
      else chan s
  match (upto 64).foldl step tags with
  | .error e => (s0, .wait e)
  | .ok s =>
    let s := if poison then listAcc a a.psrc s else s
    let v := s.validLine a.t (extOf a.off)
    (s.setValidLine a.t (extOf a.off) { v with bits := v.bits ||| BitVec.ofNat 512 (2 ^ pageOf a.off) }, .done)

end Sys2Proof.Machine
end

