-- ==== Sys2Proof/Machine/Descriptors.lean ====
section
/-! DEFINITION. Descriptors in the sluices' buffers: their bytes, rings and completions, and the end of data tasks. -/

namespace Sys2Proof.Machine

/-! ### Rings -/

def State.ring (s : State) (r : Nat) : Ring := Sparse.get (fun _ => {}) s.rings r
def State.setRing (s : State) (r : Nat) (v : Ring) : State := { s with rings := Sparse.set (fun _ => {}) s.rings r v }

/-- Entries of a ring (R235). -/
def Ring.n (r : Ring) : Nat := 2 ^ r.log2n
/-- The tier whose sluice serves a ring (R234). -/
def Ring.tier (r : Ring) : Nat := portTier r.dmaPort
/-- The function a ring's DMA and messages use (R234). -/
def Ring.fn (r : Ring) : Nat := if r.tenant then 0 else 1

/-- SLU_STATUS bits: 0 DB_ERR, 1 GRANT_CONFLICT, 2 RING_ERR, 3 CPL_DROP (Table SLU-12). -/
def sluStatus (i : Nat) (s : State) : State := s.setRegBit (sluBase + 0x2C) i true
def sluSource (t : Nat) : Nat := tierSource t 42

/-! ### Descriptor bytes (Table SLU-1) -/

/-- `len` bytes of a descriptor from byte `i`, little-endian. -/
def descField (b : BitVec 512) (i len : Nat) : Nat := b.toNat / 2 ^ (8 * i) % 2 ^ (8 * len)
def descOp (b : BitVec 512) : Nat := descField b 0 2
def descFlag (b : BitVec 512) (i : Nat) : Bool := bitAt (descField b 2 1) i

/-! ### Completion -/

def queueCpl (c : Cpl) (s : State) : State := { s with cplQ := s.cplQ ++ [c] }

def State.fetchedOf (s : State) (d : DescRef) : Option Fetched := s.fetched.find? (fun f => f.ref = d)

/-- Change a fetched descriptor. -/
def mapFetched (d : DescRef) (g : Fetched → Fetched) (s : State) : State :=
  { s with fetched := s.fetched.map (fun f => if f.ref = d then g f else f) }

/-- The descriptor executes. -/
def startDesc (d : DescRef) (s : State) : State := mapFetched d (fun f => { f with running := true }) s

/-- A descriptor completes: it leaves the buffer and its completion is queued; WRONG_STATE raises a Note (R77, Table
CMD-1). A descriptor no longer held (its sluice was reset, R460) writes nothing. -/
def complete (d : DescRef) (status result : Nat) (s : State) : State :=
  match s.fetchedOf d with
  | none => s
  | some f =>
    let s := { s with fetched := s.fetched.filter (fun x => x.ref ≠ d) }
    let s := queueCpl { ring := d.ring, index := d.index, cookie := d.cookie, status := status
                        quiet := descFlag f.bytes 1, result := result } s
    if status = 0x05 then raiseOpen (sluSource f.tier) 0 s else s

/-- Host-memory writes of a ring's descriptor go through its DMA port (R252). -/
def dmaOut (f : Fetched) (haddr : Nat) (words : List DWord) (s : State) : State :=
  if haddr = 0 then s else s.emit (.dmaWrite (s.ring f.ref.ring).dmaPort haddr words)

/-- Words of 64 bits from a number, lowest first. -/
def dwords (n v : Nat) : List DWord := (upto n).map (fun i => BitVec.ofNat 64 (v / 2 ^ (64 * i)))

/-! ### The end of data tasks (R265, R272) -/

/-- RESULT of a data task that ends with a status (Table CMD-6, R265, R279, R282). -/
def taskResult (b : BitVec 512) (k : Task) (status : Nat) : Nat :=
  match k.op with
  | 0x0500 => match k.firstPoison with
    | some a => if status = 0 then 2 ^ 63 + a % 2 ^ 48 else k.done
    | none => k.done
  | 0x0501 => k.done
  | 0x0502 =>
    if status = 0 then (if bitAt (descField b 53 1) 2 then k.crc ^^^ descField b 44 8 else k.crc)
    else if status = 0x09 then (k.firstPoison.getD 0) % 2 ^ 48 else 0
  | 0x0503 => min k.scrub.uncorrectable (2 ^ 32 - 1) + min k.scrub.corrected (2 ^ 32 - 1) * 2 ^ 32
  | _ => k.done + k.skipped * 2 ^ 32

/-- The scrub's summary record (Table ECC-7). -/
def scrubRecord (b : BitVec 512) (q : ScrubSum) (status : Nat) : List DWord :=
  let cap (n : Nat) := min n (2 ^ 64 - 1)
  let lo := q.bad.foldl min (q.bad.headD 0)
  let hi := q.bad.foldl max 0
  let flags := ofBool (descFlag b 2) + 2 * ofBool (decide (status = 0x0A)) + 4 * ofBool (decide (descField b 8 1 = 2)) +
    8 * ofBool (decide (q.bad = []))
  [cap q.read, cap q.skipped, cap q.corrected, cap q.uncorrectable, lo, hi, cap q.rewritten,
    min q.poisoned (2 ^ 32 - 1) + flags * 2 ^ 32].map (BitVec.ofNat 64)

def State.taskOf (s : State) (d : DescRef) : Option Task := s.tasks.find? (fun k => k.desc = d)
/-- Change a task. -/
def mapTask (d : DescRef) (g : Task → Task) (s : State) : State :=
  { s with tasks := s.tasks.map (fun k => if k.desc = d then g k else k) }

/-- A task completes once its last piece has ended and every write it made has been observed (R265, R272). A scrub
writes its summary record first (R172). -/
def settleTask (d : DescRef) (s : State) : State :=
  match s.taskOf d, s.fetchedOf d with
  | some k, some f =>
    if s.pieces.any (fun p => p.desc = d) || k.toPlace ≠ [] || s.remote.any (fun o => o.task = some d) then s
    else
      let s := { s with tasks := s.tasks.filter (fun x => x.desc ≠ d) }
      let s := if k.op = 0x0503 then s.emit (.dmaWrite (s.ring f.ref.ring).dmaPort (descField f.bytes 32 8) (scrubRecord f.bytes k.scrub k.status)) else s
      complete d k.status (taskResult f.bytes k k.status) s
  | _, _ => s

/-- A task ends before its last piece, with a status. -/
def stopTask (d : DescRef) (status : Nat) (s : State) : State :=
  let s := { s with pieces := s.pieces.filter (fun p => p.desc ≠ d) }
  settleTask d (mapTask d (fun k => { k with toPlace := [], status := status }) s)

end Sys2Proof.Machine
end

