-- ==== Sys2Proof/Machine/Aqueduct.lean ====
section
/-! DEFINITION. Sending over the aqueducts: flits, routes, credits and the answers of requests that find no route
(R91, R191, R300-R307). -/

namespace Sys2Proof.Machine

def State.link (s : State) (a : Nat) : AqLink := Sparse.get (fun _ => {}) s.links a
def State.setLink (s : State) (a : Nat) (l : AqLink) : State := { s with links := Sparse.set (fun _ => {}) s.links a l }
/-- The aqueduct is keyed in L0 (R305). -/
def State.carrying (s : State) (a : Nat) : Bool := s.get (aqdBase a) AQD_STATUS_STATE = 3

/-! ### Flits (R300-R302) -/

/-- The tweak of block `i` of flit `seq` (R191). -/
def flitTweak (seq i : Nat) : Nat := (seq * 256 + i) * 64
def mixBlock (k : BitVec 128) (seq i : Nat) (l : Line) : Line := ofLineWords (mix (lineWords l) (keyWords k) (flitTweak seq i))
def unmixBlock (k : BitVec 128) (seq i : Nat) (l : Line) : Line := ofLineWords (unmix (lineWords l) (keyWords k) (flitTweak seq i))

/-- The flit tag over the first 56 bytes and the three mixed blocks (R302). -/
def flitTag (head : Nat) (blocks : List Line) (kt : BitVec 128) (seq : Nat) : Word :=
  let parts : List (Nat × Line) :=
    [(3, BitVec.ofNat 512 (head % 2 ^ 448)), (0, blocks.getD 0 0), (1, blocks.getD 1 0), (2, blocks.getD 2 0)]
  parts.foldl (fun (t : Word) p =>
    let c := lineWords p.2
    tagOf (c.set 0 (wordAt c 0 ^^^ t)) (keyWords kt) (flitTweak seq p.1)) 0

/-- A message slot (Table AQD-2); `blk`: the data block of its line, 3 for none. -/
def AqMsg.slot (m : AqMsg) (blk : Nat) : Nat :=
  let resp := decide (4 ≤ m.msg)
  m.msg % 16 * 2 ^ 124 + (if resp then 0 else m.pa / 64 % 2 ^ 42) * 2 ^ 82 +
  (if resp then 0 else (m.cls % 64 * 2 ^ 30 + m.key % 4096 * 2 ^ 18 + m.ctx % 2 ^ 18)) * 2 ^ 46 +
  ofBool m.integrity * 2 ^ 45 + ofBool m.poison * 2 ^ 44 + blk % 4 * 2 ^ 42 + m.rpkg % 16 * 2 ^ 38 +
  m.txid % 65536 * 2 ^ 22 + m.hops % 16 * 2 ^ 18

/-- The message of a slot, with the plaintext data blocks of its flit. -/
def AqMsg.ofSlot (v : Nat) (blocks : List Line) : AqMsg :=
  let attr := bitsAt v 81 46
  let blk := bitsAt v 43 42
  { msg := bitsAt v 127 124, pa := bitsAt v 123 82 * 64, cls := bitsAt attr 35 30, key := bitsAt attr 29 18
    ctx := bitsAt attr 17 0, integrity := bitAt v 45, poison := bitAt v 44, data := blocks.getD blk 0
    be := (blocks.getD (blk + 1) 0).extractLsb' 0 64, rpkg := bitsAt v 41 38, txid := bitsAt v 37 22
    hops := bitsAt v 21 18 }

/-- Request slots, response slots and data blocks a message needs (R301, R303). -/
def AqMsg.needs (m : AqMsg) : Nat × Nat × Nat :=
  match m.msg with
  | 1 => (1, 0, 0) | 2 => (1, 0, if m.poison then 0 else 1) | 3 => (1, 0, 2) | 4 => (0, 1, if m.poison then 0 else 1)
  | _ => (0, 1, 0)

/-- Build a flit: type, count, last good count received, credits, and at most one message. -/
def buildFlit (l : AqLink) (ftype seq : Nat) (m : Option AqMsg) : BitVec 2048 :=
  let lhdr := seq % 4096 + (l.rxSeq + 2 ^ 30 - 1) % 4096 * 2 ^ 12 + ftype % 16 * 2 ^ 24 + ofBool (decide (0 < l.rxSeq)) * 2 ^ 28
  let credits := min 255 l.retReq + min 255 l.retResp * 2 ^ 8 + min 255 l.retData * 2 ^ 16
  let blk := match m with | none => 3 | some m => if m.needs.2.2 = 0 then 3 else 0
  let slot := match m with | none => 0 | some m => m.slot blk
  let head := lhdr + credits * 2 ^ 32 + slot * 2 ^ 64
  let plain : List Line := match m with
    | none => [0, 0, 0]
    | some m => [if blk = 3 then 0 else m.data, if m.msg = 3 then m.be.setWidth 512 else 0, 0]
  let blocks := plain.zipIdx.map (fun b => mixBlock l.txMix seq b.2 b.1)
  let body := head + (blocks.zipIdx.map (fun b => b.1.toNat * 2 ^ (448 + 512 * b.2))).sum +
    (flitTag head blocks l.txTag seq).toNat * 2 ^ 1984
  BitVec.ofNat 2048 (body + crc32c (leBytes 252 body) * 2 ^ 2016)

/-- Put a flit out; its CREDITS return what is owed. -/
def emitFlit (a ftype seq : Nat) (m : Option AqMsg) (s : State) : State :=
  let l := s.link a
  let s := s.setLink a { l with
    retReq := l.retReq - min 255 l.retReq, retResp := l.retResp - min 255 l.retResp, retData := l.retData - min 255 l.retData }
  (s.emit (.aqFlit a (buildFlit l ftype seq m))).count (aqdBase a + 0x10) 1

/-! ### Routes and sending (R303-R305) -/

/-- The aqueduct a message for package `d` leaves on (R305). -/
def State.route (s : State) (d : Nat) : Option Nat :=
  let b := aqdRegBase + 4 * d
  let p := s.get b AQD_ROUTE_PRIMARY
  let a := s.get b AQD_ROUTE_ALT
  if s.flag b AQD_ROUTE_VALID && s.carrying p then some p
  else if s.flag b AQD_ROUTE_ALT_VALID && s.carrying a then some a
  else none

/-- Place a message in the next flit of a link when its credits and the replay buffer allow; else it waits (R303, R304). -/
def postMsg (a : Nat) (m : AqMsg) (s : State) : State :=
  let l := s.link a
  let (q, r, d) := m.needs
  if s.carrying a && !l.txWrap && l.waiting = [] && q ≤ l.reqCredits && r ≤ l.respCredits && d ≤ l.dataCredits &&
      l.replay.length < 128 then
    let seq := l.txSeq
    let s := s.setLink a { l with
      reqCredits := l.reqCredits - q, respCredits := l.respCredits - r, dataCredits := l.dataCredits - d
      txSeq := (seq + 1) % 2 ^ 30, txWrap := decide (seq + 1 = 2 ^ 30), replay := l.replay ++ [{ seq := seq, msg := m }] }
    emitFlit a 1 seq (some m) s
  else s.setLink a { l with waiting := l.waiting ++ [m] }

/-- Send what waits on a link, oldest first, as credits allow. -/
def sendWaiting (a : Nat) (s : State) : State :=
  let w := (s.link a).waiting
  forEach w (fun m u => postMsg a m u) (s.setLink a { s.link a with waiting := [] })

/-- No usable route to package `d`: one Degraded event until the route has worked again (R305). -/
def noRouteEvent (d : Nat) (s : State) : State :=
  if Sparse.get (fun _ => false) s.noRoute d then s
  else
    let a := s.get (aqdRegBase + 4 * d) AQD_ROUTE_PRIMARY
    raise (0x010 + a) 5 5 (poolAddr d 0 0) d { s with noRoute := Sparse.set (fun _ => false) s.noRoute d true }

/-- Send a message toward package `d`. The flag says whether it found a route. -/
def sendToward (d : Nat) (m : AqMsg) (s : State) : State × Bool :=
  match s.route d with
  | some a => (postMsg a m { s with noRoute := Sparse.set (fun _ => false) s.noRoute d false }, true)
  | none => (noRouteEvent d s, false)

/-! ### Responses (R305, R307) -/

/-- A response of a remote request reaches its originator: the request is answered to its host; one that is no longer
outstanding is dropped (R306). DevLoad of a response from another package is free: the slot carries none. -/
def completeRemote (m : AqMsg) (s : State) : State :=
  match s.remote.find? (fun o => o.txid = m.txid) with
  | none => s
  | some o =>
    let d := s.freeDevload
    let s := { s.drawn with remote := s.remote.filter (fun x => x.txid ≠ m.txid) }
    if o.internal then (match o.task with | some d => settleTask d s | none => s)
    else if o.read then s.emit (.readResp o.port o.tag (if m.poison then 0 else m.data) m.poison d)
    else s.emit (.writeResp o.port o.tag d)

/-- Send a response to the package that issued the request. -/
def sendResponse (m : AqMsg) (s : State) : State :=
  if m.rpkg = s.pkg then completeRemote m s else (sendToward m.rpkg m s).1

/-- The answer of a request that is not sent on: poison for a read, a completion for a write (R305). -/
def bounce (m : AqMsg) (s : State) : State :=
  sendResponse { msg := if m.msg = 1 then 4 else 5, poison := m.msg = 1, rpkg := m.rpkg, txid := m.txid } s

/-- Send or forward a message by its package field or, for a response, by RPKG. -/
def dispatchMsg (m : AqMsg) (s : State) : State :=
  if 4 ≤ m.msg then sendResponse m s
  else match sendToward (m.pa / 2 ^ 44) m s with
    | (s, true) => s
    | (s, false) => bounce m s

/-- A message taken from a received flit that is not for this package: the next hop (R305). -/
def forwardMsg (m : AqMsg) (s : State) : State :=
  let d := if 4 ≤ m.msg then m.rpkg else m.pa / 2 ^ 44
  if m.hops = 7 then
    let s := noRouteEvent d s
    if 4 ≤ m.msg then s else bounce m s
  else dispatchMsg { m with hops := m.hops + 1 } s

/-- A link leaves L0: its keys are zeroised and what it has not had acknowledged goes over the routes that now apply
(R190, R306). `next` is its state after. -/
def linkLeaves (a next : Nat) (s : State) : State :=
  let l := s.link a
  let out := l.replay.map (·.msg) ++ l.waiting
  let s := (s.setLink a { retrains := l.retrains }).put (aqdBase a) AQD_STATUS_STATE next
  forEach out dispatchMsg s

end Sys2Proof.Machine
end

