-- ==== Sys2Proof/Machine/DataPlane.lean ====
section
/-! DEFINITION. CXL.mem requests: translation, the host view of Table CTX-6, holds, service and responses
(R20, R36, R37, R51, R79, R80, R85, R91, R202). -/

namespace Sys2Proof.Machine

def ReqKind.isRead : ReqKind → Bool
  | .read => true | .readData => true | .write => false | .partialWrite => false | .inv => true

/-- A response for a request whose outcome is lost: poison for a read, Cmp for a write (Table CTX-6). -/
def answerLost (r : Req) (s : State) : State :=
  let d := s.freeDevload
  let s := s.drawn
  if r.kind.isRead then s.emit (.readResp r.port r.tag 0 true d) else s.emit (.writeResp r.port r.tag d)

/-- An expired FROZEN hold, or one beyond the 64 of its port (R79). -/
def expireFrozen (r : Req) (s : State) : State :=
  answerLost r (raiseCtx (tierSource (portTier r.port) 39) 4 r.ctx s)

/-- A request held for a die that does not return, or a tier that does not wake, within the limit completes with poison, and each
context affected is reported once (R391, R462, R465). -/
def expireReset (r : Req) (s : State) : State :=
  let x := s.tier r.tier
  let s := if x.reported.contains r.ctx || x.pllFail || x.stFailed then s
    else raiseCtx (tierSource r.tier 46) 1 r.ctx (s.setTier r.tier { x with reported := r.ctx :: x.reported })
  match r.remote with
  | some m => sendResponse { msg := if m.msg = 1 then 4 else 5, poison := decide (m.msg = 1), rpkg := m.rpkg, txid := m.txid } s
  | none => answerLost r s

/-- Hold a request. -/
def holdReq (r : Req) (why : HoldWhy) (s : State) : State :=
  if (s.tier r.tier).holdOver && (why = .dieReset || why = .tierAsleep) then expireReset r s
  else if why = .frozen ∧ 64 ≤ (s.held.filter (fun x => x.port = r.port && x.why = .frozen)).length then expireFrozen r s
  else
    let s := { s with held := s.held ++ [{ r with why := why }] }
    if why = .token then updateCredits r.port s else s

/-- The window of a DPA: block map, then window entry (R73, R75). -/
def Port.windowAt (p : Port) (dpa : Nat) : Option (Nat × Window) :=
  match Sparse.get (fun _ => 0) p.blocks (dpa / 2 ^ 28) with
  | 0 => none
  | i + 1 =>
    let w := Sparse.get (fun _ => {}) p.windows i
    if w.valid && dpa < 2 ^ 46 then some (i, w) else none

/-- A tier cannot serve now: a die is in reset, or the tier sleeps (R46, R462). -/
def State.tierWait (s : State) (t : Nat) : Option HoldWhy :=
  let x := s.tier t
  if x.portReset || x.engReset || x.stFailed then some .dieReset
  else if x.power = 2 || x.power = 3 then some .tierAsleep else none

/-- A valid-map line as the data plane reads it: one bad copy is rewritten from the other (R96); both bad: R87. -/
def openValid (t e : Nat) (s : State) : State × Bool :=
  let v := s.validLine t e
  if v.primaryBad && v.shadowBad then (s, false)
  else if v.primaryBad || v.shadowBad then
    let gone (j : Nat) : Bool := s.get (bsnBase t j) BSN_SLICE_STATUS_WIDTH = 2
    let j := e / 512 % 16
    let v := { v with primaryBad := v.primaryBad && gone j, shadowBad := v.shadowBad && gone ((j + 8) % 16) }
    (raiseOpen (tierSource t 33) 3 (s.setValidLine t e v), true)
  else (s, true)

/-- Note a write of a page of a migrating extent (R89). -/
def markDirty (ctx index page : Nat) (s : State) : State :=
  { s with migrations := s.migrations.map (fun m =>
      if m.ctx = ctx ∧ m.index = index then { m with dirty := m.dirty ||| BitVec.ofNat 512 (2 ^ page) } else m) }

/-- The line is PRESENT in the basin or stands in a victim buffer. -/
def State.inBasin (s : State) (a : Acc) : Bool :=
  let j := s.sliceOf a.t a.off
  (match s.findWay a.t j (setNo a.off) (sectorOf a.off) with
   | some w => (s.way a.t j (setNo a.off) w).present.getLsbD (basinLine a.off)
   | none => false) || (s.slice a.t j).victims.any (fun x => x.off = a.off / 64 * 64)

/-- How a local access ended: served, lost, without response, or to wait. -/
inductive Served where
  | data (l : Line) (hit : Bool) | zeros | poison | written (bytes : Nat) (hit : Bool) | discarded | silent
  | wait (why : HoldWhy)
deriving DecidableEq, Repr

/-- Serve an access at the tier that owns the line: valid map, page fill, basin and cistern (R85, R87, Table CTX-6). -/
def serveLocal (a : Acc) (kind : ReqKind) (l : Line) (be : BitVec 64) (poison : Bool) (s : State) : State × Served :=
  let e := extOf a.off
  match openValid a.t e s with
  | (s, false) =>
    (raiseCtx (tierSource a.t 39) 2 a.ctx s, if kind.isRead then .poison else .discarded)
  | (s, true) =>
    let hit := s.inBasin a
    if !s.pageValid a.t a.off then
      match kind with
      | .write => match pageFill a l (BitVec.allOnes 64) poison s with
        | (s, .wait w) => (s, .wait w)
        | (s, _) => (s, .written 64 false)
      | .partialWrite => match pageFill a l be poison s with
        | (s, .wait w) => (s, .wait w)
        | (s, _) => (s, .written (popCount be.toNat 64) false)
      | _ => (s, .zeros)
    else
      match kind with
      | .write => match localWrite a l poison s with
        | (s, .done) => (s, .written 64 hit) | (s, .discarded) => (s, .discarded)
        | (s, .tamper) => (s, .silent) | (s, .wait w) => (s, .wait w)
      | .partialWrite =>
        if poison then match localWrite a l true s with
          | (s, .wait w) => (s, .wait w) | (s, .tamper) => (s, .silent)
          | (s, _) => (s, .written (popCount be.toNat 64) hit)
        else match localPartial a l be s with
          | (s, .done) => (s, .written (popCount be.toNat 64) hit) | (s, .discarded) => (s, .discarded)
          | (s, .tamper) => (s, .silent) | (s, .wait w) => (s, .wait w)
      | _ => match localRead a s with
        | (s, .data l _, h) => (s, .data l h) | (s, .poison, _) => (s, .poison)
        | (s, .tamper, _) => (s, .silent) | (s, .wait w, _) => (s, .wait w)

/-- Send a request to the package that owns its extent (R91, R307). -/
def serveRemote (r : Req) (c : Nat) (e : ExtEntry) (s : State) : State :=
  let x := s.ctx c
  let pkg := e.pen / 2 ^ 23
  let pa := e.pen * 2 ^ 21 + r.dpa % 2 ^ 21
  let m : AqMsg :=
    { msg := (match r.kind with | .write => 2 | .partialWrite => 3 | _ => 1), pa := pa / 64 * 64, cls := x.cls
      key := x.keyId, ctx := c, integrity := x.integrity, poison := r.poison, data := r.data, be := r.be
      rpkg := s.pkg, txid := s.nextTxid }
  match sendToward pkg m s with
  | (s, false) => answerLost r s
  | (s, true) =>
    let o : Outstanding :=
      { txid := s.nextTxid, port := r.port, tag := r.tag, read := r.kind.isRead, ctx := c, cls := x.cls, dest := pkg
        sentAt := s.us }
    { s with remote := s.remote ++ [o], nextTxid := (s.nextTxid + 1) % 65536 }

/-- The bonded even ports in increasing order: aqueduct a is the a-th of them (chapter 13). -/
def State.bondedPorts (s : State) : List Nat := s.portList.filter (fun p => decide (p % 2 = 0) && (s.port p).bonded)

/-- A granted lease that is lost covers this extent (R294). -/
def State.underLost (s : State) (t e : Nat) : Bool :=
  s.pool.granted.any (fun l => l.lost && decide (l.tier = t) && decide (l.first ≤ e) && decide (e < l.first + l.count))

/-- One attempt to serve a request that came over an aqueduct (R91, R196, R221, R294). -/
def attemptRemote (r : Req) (m : AqMsg) (s : State) : State × Option (HoldWhy × Req) :=
  let t := m.pa / 2 ^ 41 % 8
  let off := m.pa % 2 ^ 41
  let answer (poison : Bool) (l : Line) (s : State) : State :=
    sendResponse { msg := if m.msg = 1 then 4 else 5, poison := poison && decide (m.msg = 1), data := l, rpkg := m.rpkg, txid := m.txid } s
  let kind : ReqKind := match m.msg with | 1 => .read | 2 => .write | _ => .partialWrite
  let p := s.bondedPorts.getD r.aq 0
  let r := { r with port := p, ctx := m.ctx, cls := m.cls, tier := t, chan := chanOf off, off := off }
  let credit (s : State) : State :=
    if r.admitted then s
    else
      let l := s.link r.aq
      takeToken p m.cls t (s.setLink r.aq { l with retReq := l.retReq + 1, retData := l.retData + m.needs.2.2 })
  if !r.admitted && !s.hasToken p m.cls then (s, some (.token, r))
  else
    let s := credit s
    let r := { r with admitted := true }
    if s.nTiers ≤ t then (answer true 0 s, none)
    else if s.underLost t (extOf off) then
      let s := if s.pool.lostReported.contains m.ctx then s
        else raiseCtx 0x00D 4 m.ctx { s with pool := { s.pool with lostReported := m.ctx :: s.pool.lostReported } }
      (answer true 0 s, none)
    else if s.key m.key = none || (m.integrity && s.tagBase t = 0) then
      (answer true 0 (raiseCtx (tierSource t 39) 3 m.ctx s), none)
    else
      let s := wakeTier t s
      match s.tierWait t with
      | some w => (s, some (w, r))
      | none =>
        let a : Acc := { t := t, off := off, ctx := m.ctx, key := m.key, cls := m.cls, integ := m.integrity }
        match serveLocal a kind m.data m.be m.poison s with
        | (s, .data l hit) =>
          let s := remoteAdd t m.rpkg m.ctx 0 1 s
          (answer false l (if hit then remoteAdd t m.rpkg m.ctx 2 1 s else s), none)
        | (s, .zeros) => (answer false 0 (remoteAdd t m.rpkg m.ctx 0 1 s), none)
        | (s, .poison) => (answer true 0 s, none)
        | (s, .written n _) => (answer false 0 (remoteAdd t m.rpkg m.ctx 1 n s), none)
        | (s, .discarded) => (answer false 0 s, none)
        | (s, .silent) => (s, none)
        | (s, .wait w) => (s, some (w, r))

/-- Serve a host's request that has passed its translation point at a tier of this package (R20). -/
def attemptPassed (r : Req) (s : State) : State × Option (HoldWhy × Req) :=
  let t := r.tier
  let s := wakeTier t s
  match s.tierWait t with
  | some w => (s, some (w, r))
  | none =>
    let a : Acc :=
      { t := t, off := r.off, ctx := r.ctx, key := r.key, cls := r.cls, integ := r.integ
        noalloc := r.noalloc, wthru := r.wthru, dpa := r.dpa / 64 * 64 }
    let ch (hit : Bool) := if hit then none else some (chanOf r.off)
    match serveLocal a r.kind r.data r.be r.poison s with
    | (s, .data l hit) =>
      let s := leafAdd t r.ctx 0 1 s
      let s := if hit then leafAdd t r.ctx 2 1 s else s
      (s.emit (.readResp r.port r.tag l false (s.devload t r.cls (ch hit))), none)
    | (s, .zeros) =>
      ((leafAdd t r.ctx 0 1 s).emit (.readResp r.port r.tag 0 false (s.devload t r.cls none)), none)
    | (s, .poison) => (s.emit (.readResp r.port r.tag 0 true (s.devload t r.cls (ch false))), none)
    | (s, .written n hit) =>
      let s := markDirty r.ctx r.idx (pageOf r.off) (leafAdd t r.ctx 1 n s)
      (s.emit (.writeResp r.port r.tag (s.devload t r.cls (ch hit))), none)
    | (s, .discarded) => (s.emit (.writeResp r.port r.tag (s.devload t r.cls (ch false))), none)
    | (s, .silent) => (s, none)
    | (s, .wait w) => (s, some (w, r))

/-- One attempt to serve a host's request (R20, R80): at its translation point it is answered, sent on, or must wait. -/
def attempt (r : Req) (s : State) : State × Option (HoldWhy × Req) :=
  if r.passed then attemptPassed r s
  else if 2 ≤ (s.tier (portTier r.port)).power then (wakeTier (portTier r.port) s, some (.tierAsleep, { r with tier := portTier r.port }))
  else
    let t := portTier r.port
    match (s.port r.port).windowAt r.dpa with
    | none => (answerLost r (raiseOpen (tierSource t 39) 0 s), none)
    | some (_, w) =>
      if !w.opened then
        (answerLost r (if w.pendrel then s else raiseOpen (tierSource t 39) 0 s), none)
      else
        let c := w.ctx
        let x := s.ctx c
        let r := { r with ctx := c, cls := x.cls }
        if x.state = .frozen then (s, some (.frozen, r))
        else
          let idx := (r.dpa - w.wbase * 2 ^ 28) / 2 ^ 21
          let e := s.ext c idx
          if !e.valid then (answerLost r (raiseOpen (tierSource t 39) 0 s), none)
          else if e.retired then (answerLost r (raiseCtx (tierSource t 39) 1 c s), none)
          else
            let owner := e.pen / 2 ^ 20 % 8
            let off := e.pen % 2 ^ 20 * 2 ^ 21 + r.dpa % 2 ^ 21
            let r := { r with tier := owner, chan := chanOf off }
            let switching := s.migrations.any (fun m =>
              m.ctx = c && m.index = idx && decide (m.phase = .switching))
            if !e.remote && !s.reaches t owner then (answerLost r s, none)
            else if !s.hasToken r.port r.cls then (s, some (.token, r))
            else if e.migrating && switching && !r.kind.isRead then (s, some (.migration, r))
            else
              let sent := (s.portClass r.port r.cls).sent
              let s := takeToken r.port r.cls owner s
              let s := if e.remote then s.setPortClass r.port r.cls { s.portClass r.port r.cls with sent := sent } else s
              let r := { r with
                admitted := true, passed := true, off := off, idx := idx, key := x.keyId, integ := x.integrity
                noalloc := x.noalloc, wthru := x.wthru }
              if e.remote then (serveRemote r c e s, none) else attemptPassed r s

/-- Serve a request or hold it. -/
def serveReq (r : Req) (s : State) : State :=
  match (match r.remote with | some m => attemptRemote r m s | none => attempt r s) with
  | (s, none) => s
  | (s, some (why, r)) => holdReq r why s

/-- Try the held requests that `p` selects again, oldest first. -/
def retryHeld (p : Req → Bool) (s : State) : State :=
  let go := s.held.filter p
  forEach go serveReq { s with held := s.held.filter (fun r => !p r) }

/-- Try the oldest held request that `p` selects again. -/
def retryOne (p : Req → Bool) (s : State) : State :=
  match s.held.find? p with
  | none => s
  | some r => serveReq r { s with held := s.held.erase r }

/-- Host traffic is admitted: no Stop or Lockdown runs and the port's link is up with CXL (R49, R50, R350). -/
def State.admits (s : State) (p : Nat) : Bool :=
  !s.reacting && s.hostPort p && s.linkUp p && s.flag (hptBase p) HPT_LINK_STATUS_CXL_MODE

/-- A CXL.mem request at a port: HDM decode (R51), then service. -/
def hostRequest (kind : ReqKind) (p tag hpa : Nat) (l : Line) (be : BitVec 64) (poison : Bool) (s : State) : State :=
  if !s.admits p then s
  else
    let d := (s.port p).decoder
    let r : Req := { port := p, tag := tag, kind := kind, data := l, be := be, poison := poison, arrival := s.us }
    let s := wakeTier (portTier p) s
    if d.committed && d.base ≤ hpa && hpa < d.base + d.size then serveReq { r with dpa := hpa - d.base } s
    else answerLost r (raiseOpen (tierSource (portTier p) (p % 12)) 7 s)

/-! ### The request commands -/

/-- MEMRD (R80). -/
def execMemrd (p tag hpa : Nat) (s : State) : Host.Outcome State Fault Refusal :=
  .next (hostRequest .read p tag hpa 0 0 false s)

/-- MEMRDDATA (R49): served like a read. -/
def execMemrddata (p tag hpa : Nat) (s : State) : Host.Outcome State Fault Refusal :=
  .next (hostRequest .readData p tag hpa 0 0 false s)

/-- MEMWR (R37). -/
def execMemwr (p tag hpa : Nat) (l : Line) (poison : Bool) (s : State) : Host.Outcome State Fault Refusal :=
  .next (hostRequest .write p tag hpa l (BitVec.allOnes 64) poison s)

/-- MEMWRPTL (R162). -/
def execMemwrptl (p tag hpa : Nat) (be : BitVec 64) (l : Line) (poison : Bool) (s : State) :
    Host.Outcome State Fault Refusal :=
  .next (hostRequest .partialWrite p tag hpa l be poison s)

/-- MEMINV (R49): answered; it carries no data, so a request inside the decoder completes with a response alone. -/
def execMeminv (p tag hpa : Nat) (s : State) : Host.Outcome State Fault Refusal :=
  let d := (s.port p).decoder
  if !s.admits p then .next s
  else
    let r : Req := { port := p, tag := tag, kind := .write }
    if d.committed && d.base ≤ hpa && hpa < d.base + d.size then .next (answerLost r s)
    else .next (answerLost r (raiseOpen (tierSource (portTier p) (p % 12)) 7 s))

/-- WRITE_WAITS_FOR_QUEUE_ROOM (R121): the requests of a channel that waited for room or for a hold are tried again. -/
def execWriteWaitsForQueueRoom (t c : Nat) (s : State) : Host.Outcome State Fault Refusal :=
  .next (retryOne (fun r => r.tier = t && r.chan = c && (r.why = .queueFull || r.why = .rankHeld)) s)

/-- TOKEN_RELEASE_HELD_REQUEST (R202): a token arrives for a class of a port. -/
def execTokenReleaseHeldRequest (p k : Nat) (s : State) : Host.Outcome State Fault Refusal :=
  let q := s.portClass p k
  let s := s.setPortClass p k { q with used := if q.used ≤ 1 then 0 else q.used - 1 }
  .next (updateCredits p (retryOne (fun r => r.port = p && r.cls = k && r.why = .token) s))

/-- FROZEN_HOLD_EXPIRY (R79): requests of a port held for a FROZEN context for 1 ms expire. -/
def execFrozenHoldExpiry (p : Nat) (s : State) : Host.Outcome State Fault Refusal :=
  let sel (r : Req) : Bool := r.port = p && r.why = .frozen && decide (r.arrival + 1000 ≤ s.us)
  let due := s.held.filter sel
  .next (forEach due expireFrozen { s with held := s.held.filter (fun r => !sel r) })

/-- ALLOCATION_WAITS_FOR_VICTIM_ROOM (R106): allocations of a slice that waited for its victim buffer. -/
def execAllocationWaitsForVictimRoom (t j : Nat) (s : State) : Host.Outcome State Fault Refusal :=
  .next (retryOne (fun r => r.tier = t && r.why = .victimFull && s.sliceOf t r.off = j) s)

end Sys2Proof.Machine
end

