-- ==== Sys2Proof/Machine/Channels.lean ====
section
/-! DEFINITION. Commands of the cistern channels (chapter 05): scheduling, refresh, row tracking, command retry,
training, low power, fencing and operating points. -/

namespace Sys2Proof.Machine

/-! ### Places, events and bandwidth -/

/-- An event of a channel naming a rank at level code 2. -/
def raiseRank (t c k kind : Nat) (s : State) : State :=
  raise (tierSource t (12 + c)) kind 2 (poolAddr s.pkg t (rankOff c k)) 0 s

/-- Set a bit of DRC_ERR_STATUS. -/
def drcErr (t c i : Nat) (s : State) : State := s.setRegBit (drcBase t c + 0x24) i true

/-- A bit of one of the four-rank fields of DRC_RANK_STATUS. -/
def putRankBit (t c k : Nat) (f : Fld) (b : Bool) (s : State) : State :=
  s.put (drcBase t c) f (setBit (s.get (drcBase t c) f) k b)

def opPeak (op : Nat) : Nat := match op with | 0 => 1024 | 1 => 896 | 2 => 768 | _ => 512

/-- DRC_DELIV (R147). -/
def State.chanDeliv (s : State) (t c : Nat) : Nat :=
  let b := drcBase t c
  let live := ofBool (!(s.fenced t c 0 && s.fenced t c 1)) + ofBool (!(s.fenced t c 2 && s.fenced t c 3))
  let eff := s.get b DRC_SCHED_EFF - (if s.get b DRC_RANK_STATUS_DOUBLED ≠ 0 then 13 else 0)
  opPeak (s.get b DRC_OP_STATUS_CUR_OP) * live * eff / 512

/-- Recompute a channel's deliverable bandwidth and report it (R39, R147). A channel of a refused population reads 0. -/
def reportChan (t c : Nat) (s : State) : State :=
  let v := if (s.tier t).cap = 0 then 0 else s.chanDeliv t c
  reportGroup t (s.setReg (drcBase t c + 0x20) (BitVec.ofNat 64 v))

/-- The channel has a population it can train (R119). -/
def State.chanServes (s : State) (t c : Nat) : Bool := t < s.nTiers && c < 4 && (s.tier t).cap ≠ 0

/-- Requests that waited for a rank or a change of this channel are tried again. -/
def releaseChan (t c : Nat) (s : State) : State :=
  retryHeld (fun r => r.tier = t && r.chan = c && r.why = .rankHeld) s

/-! ### Fencing (R138, R139) -/

/-- Drop the cached tag lines that lie on a rank (R139). -/
def dropRankTags (t c k : Nat) (s : State) : State :=
  forEach (s.tagSets.map (·.1)) (fun key u =>
    if key / 2 ^ 21 ≠ t then u
    else
      let x := key % 2 ^ 21
      let g := u.tagSet t x
      let lost := (upto 14).filter (fun w =>
        let o := u.tagLineOff t ((g.way w).taghi * 2 ^ 21 + x)
        (g.way w).valid && decide (chanOf o = c) && decide (rankOf o = k))
      if lost = [] then u else u.setTagSet t x (lost.foldl (fun g w => g.setWay w {}) g)) s

/-- Fence a rank: its state and bit, its events, its queue entries lost, its tag lines dropped, the bandwidth reported.
Its unmapped extents are withheld by `State.withheld` (R138). -/
def fenceRank (t c k : Nat) (s : State) : State :=
  let s := putRankBit t c k DRC_RANK_STATUS_FENCED true (setRankState t c k 5 s)
  let s := s.setRank t c k { s.rank t c k with heldSince := none, due := false, reported := [] }
  let s := raiseRank t c k 3 (drcErr t c 3 s)
  let ch := s.chan t c
  let lost := ch.writes.filter (fun e => rankOf e.off = k)
  let s := s.setChan t c { ch with
    writes := ch.writes.filter (fun e => rankOf e.off ≠ k), reads := ch.reads.filter (fun e => rankOf e.off ≠ k) }
  let s := forEach lost (fun e u => lostOnFence t c k e.ctx u) s
  reportChan t c (dropRankTags t c k s)

/-- An extent whose lines lie on a fenced rank may not be mapped (R138). -/
def State.withheld (s : State) (t e : Nat) : Bool := (upto 4).any (fun c => s.fenced t c (e % 4))

/-! ### Scheduling (R123, R124) -/

def Chan.bank (ch : Chan) (b : Nat) : Bank := Sparse.get (fun _ => {}) ch.banks b
def Chan.setBank (ch : Chan) (b : Nat) (v : Bank) : Chan := { ch with banks := Sparse.set (fun _ => {}) ch.banks b v }

/-- The row is open and the OPEN_IDLE time, always below a microsecond, has not passed (R124). -/
def State.rowHit (s : State) (t c off : Nat) : Bool :=
  let b := (s.chan t c).bank (bankKey off)
  b.isOpen && b.row = rowOf off && (b.usedAt = s.us)

/-- Step of a queued request: 8 after AGE_CAP, else its weir step (R123). -/
def State.queueStep (s : State) (t c cls arrival : Nat) : Nat :=
  let cap := s.get (drcBase t c) DRC_SCHED_AGE_CAP
  if cap ≠ 0 ∧ cap ≤ (s.us - arrival) * 10 then 8 else s.stepOf t c cls

/-- A penalised context's request that needs an activation waits for the activation gap (R130). -/
def State.penalised (s : State) (t c off ctx : Nat) : Bool :=
  !s.rowHit t c off && (s.chan t c).penalties.any (fun p =>
    p.ctx = ctx && decide ((s.us - p.lastAct) * 10 < s.get (drcBase t c) DRC_HAMMER_ACT_GAP) && p.lastAct ≠ 0)

/-- The direction of the next column command (R123). -/
def State.writeDirection (s : State) (t c : Nat) : Bool :=
  let ch := s.chan t c
  let hi := s.get (drcBase t c) DRC_SCHED_DRAIN_HI
  let lo0 := s.get (drcBase t c) DRC_SCHED_DRAIN_LO
  let lo := if hi ≤ lo0 then hi - 1 else lo0
  let w := ch.writes.length
  if hi * 32 ≤ w ∨ (ch.reads = [] ∧ 0 < w) then true else if w ≤ lo * 32 then false else ch.writeMode

/-- The request the scheduler picks among the positions ready in a queue: greatest step, row hit, other bank group, and
the oldest. -/
def State.pick (s : State) (t c : Nat) (q : List (Nat × Nat × Nat × Nat)) (ready : List Nat) : Option (Nat × Nat × Nat) :=
  let ch := s.chan t c
  let ok := (q.zipIdx).filter (fun e =>
    ready.contains e.2 && s.rankState t c (rankOf e.1.1) = 1 && !s.penalised t c e.1.1 e.1.2.2.1)
  let score (e : Nat × Nat × Nat × Nat) : Nat :=
    (s.queueStep t c e.2.1 e.2.2.2 * 2 + ofBool (s.rowHit t c e.1)) * 2 + ofBool (groupOf e.1 ≠ ch.lastGroup)
  let best := ok.foldl (fun m e => max m (score e.1)) 0
  (ok.find? (fun e => score e.1 = best)).map (fun e => (e.1.1, e.1.2.1, e.1.2.2.1))

/-! ### Row activation (R128-R130) -/

/-- Renew or enter a named context in the penalty table (R130). -/
def namePenalty (t c ctx : Nat) (s : State) : State :=
  let b := drcBase t c
  let ch := s.chan t c
  let expiry := s.us + max 1 (s.get b DRC_HAMMER_PENALTY) * 1000
  let limit := max 1 (s.get b DRC_HAMMER_REPEAT)
  let old := ch.penalties.find? (fun p => p.ctx = ctx)
  let n := (old.elim 0 (·.repeats)) + 1
  let rest := ch.penalties.filter (fun p => p.ctx ≠ ctx)
  let rest := if rest.length < 16 then rest else
    let m := rest.foldl (fun m p => min m p.expiry) expiry
    match rest.findIdx? (fun p => p.expiry = m) with
    | some i => rest.eraseIdx i
    | none => rest
  let p : Penalty := { ctx := ctx, expiry := expiry, repeats := if limit ≤ n then 0 else n, lastAct := s.us }
  let s := s.setChan t c { ch with penalties := rest ++ [p] }
  if limit ≤ n then raiseCtx (tierSource t (12 + c)) 4 ctx s else s

/-- RFMsb to the bank set of a bank: its banks' counts fall by RAAIMT (R128). -/
def issueRfm (t c off : Nat) (s : State) : State :=
  let ch := s.chan t c
  let set := bankKey off - groupOf off * 4
  let ch := (upto 8).foldl (fun ch g =>
    let b := ch.bank (set + g * 4)
    ch.setBank (set + g * 4) { b with raa := b.raa - ch.raaimt }) ch
  (s.setChan t c ch).count (drcBase t c + 0x50) 1

/-- An ACT: activation count and RFM, row tracker and threshold crossing (R128, R129). -/
def activate (t c off ctx : Nat) (s : State) : State :=
  let ch := s.chan t c
  let k := bankKey off
  let row := rowOf off
  let b := ch.bank k
  let old := b.tracker.find? (fun e => e.1 = row)
  let low := b.tracker.foldl (fun m e => min m e.2) (2 ^ 62)
  let (rest, n) : List (Nat × Nat) × Nat := match old with
    | some e => (b.tracker.filter (fun x => x.1 ≠ row), e.2 + 1)
    | none => if b.tracker.length < 16 then (b.tracker, 1)
      else (match b.tracker.findIdx? (fun e => e.2 = low) with
        | some i => b.tracker.eraseIdx i
        | none => b.tracker, low + 1)
  let cross := decide (max 1 (s.get (drcBase t c) DRC_HAMMER_ROW_THRESH) * 16 ≤ n)
  let sameRow := decide (b.row = row) && b.hits ≠ []
  let hits := if sameRow then (match b.hits with | h :: l => (h + 1) :: l | [] => []) else (0 :: b.hits).take 8
  let b := { b with row := row, isOpen := true, usedAt := s.us, hits := hits, raa := b.raa + 1
                    tracker := rest ++ [(row, if cross then 0 else n)] }
  let ch := ch.setBank k b
  let s := s.setChan t c { ch with penalties := ch.penalties.map (fun p => if p.ctx = ctx then { p with lastAct := s.us } else p) }
  let s := if ch.rfmRequired && ch.raaimt ≠ 0 && ch.raaimt ≤ b.raa then issueRfm t c off s else s
  if !cross then s
  else
    let s := ((s.count (drcBase t c + 0x50) 1).count (drcBase t c + 0x58) 1).put (drcBase t c) DRC_HAMMER_LAST_CTXID ctx
    let s := drcErr t c 4 s
    if ctx = 0x3FFFF then raiseOpen (tierSource t (12 + c)) 5 s else namePenalty t c ctx s

/-- The row state of a bank after a column command (R124). -/
def afterColumn (t c off : Nat) (hit : Bool) (s : State) : State :=
  let ch := s.chan t c
  let k := bankKey off
  let b := ch.bank k
  let hits := if hit then (match b.hits with | h :: l => (h + 1) :: l | [] => []) else b.hits
  let close := match s.get (drcBase t c) DRC_SCHED_PAGE_POLICY with
    | 0 => true
    | 1 => false
    | _ => decide (hits.length = 8) && decide (hits.sum < 2)
  s.setChan t c (ch.setBank k { b with hits := hits, isOpen := !close, usedAt := s.us })

/-- The last 32 commands of a subchannel bus (R131). -/
def noteCommand (t c off : Nat) (write : Bool) (s : State) : State :=
  let ch := s.chan t c
  let bus := rankOf off / 2 * 2 + subOf off
  let old := (Sparse.get (fun _ => []) ch.retry bus).map (fun r => { r with knownGood := true })
  let new : RetryCmd := { rank := rankOf off, bank := groupOf off * 4 + bankOf off, row := rowOf off, write := write }
  let l := old ++ [new]
  s.setChan t c { ch with retry := Sparse.set (fun _ => []) ch.retry bus (l.drop (l.length - 32)), lastGroup := groupOf off }

/-- The activation a column command needs, then its effect on bank, rank, retry buffer and weir counts. -/
def runColumn (t c off cls ctx : Nat) (write : Bool) (s : State) : State :=
  let hit := s.rowHit t c off
  let s := if hit then s else activate t c off ctx s
  let s := noteCommand t c off write (afterColumn t c off hit s)
  noteServed t c cls (if write then none else some ctx) (touchRank t c (rankOf off) s)

/-- COLUMN_COMMAND_ISSUE (R123): `ready` lists the positions of the chosen queue whose bank timing is met. -/
def execColumnCommandIssue (t c : Nat) (ready : List Nat) (s : State) : Host.Outcome State Fault Refusal :=
  let wr := s.writeDirection t c
  let s := s.setChan t c { s.chan t c with writeMode := wr }
  let ch := s.chan t c
  if wr then
    match s.pick t c (ch.writes.map (fun e => (e.off, e.cls, e.ctx, e.arrival))) ready with
    | none => .next s
    | some (off, cls, ctx) =>
      match ch.entry off with
      | none => .next s
      | some e =>
        let s := s.setChan t c { ch with writes := ch.writes.filter (fun x => x.off ≠ off) }
        let s := (runColumn t c off cls ctx true s).setCline t off e.line
        .next (if e.pend then clearPend t off s else s)
  else
    match s.pick t c (ch.reads.map (fun e => (e.off, e.cls, e.ctx, e.arrival))) ready with
    | none => .next s
    | some (off, cls, ctx) =>
      match ch.reads.findIdx? (fun e => e.off = off && e.cls = cls && e.ctx = ctx) with
      | none => .next s
      | some i => .next (runColumn t c off cls ctx false (s.setChan t c { ch with reads := ch.reads.eraseIdx i }))

/-- PENALTY_EXPIRY (R130). -/
def execPenaltyExpiry (t c ctx : Nat) (s : State) : Host.Outcome State Fault Refusal :=
  let ch := s.chan t c
  .next (s.setChan t c { ch with penalties := ch.penalties.filter (fun p => !(p.ctx = ctx && decide (p.expiry ≤ s.us))) })

/-- Change every bank of a rank. -/
def Chan.mapRank (ch : Chan) (k : Nat) (f : Nat → Bank → Bank) : Chan :=
  (ch.banks.map (·.1)).foldl (fun ch b => if b / 32 % 4 = k then ch.setBank b (f b (ch.bank b)) else ch) ch

/-- ROW_TRACKER_CLEAR (R129). -/
def execRowTrackerClear (t c k : Nat) (s : State) : Host.Outcome State Fault Refusal :=
  .next (s.setChan t c ((s.chan t c).mapRank k (fun _ b => { b with tracker := [] })))

/-! ### Refresh (R125-R127) -/

/-- Refreshes of a rank: REFab closes every bank, REFsb the banks of one set; each lowers the activation counts. -/
def refreshRank (t c k : Nat) (s : State) : State :=
  let ch := s.chan t c
  let sb := s.flag (drcBase t c) DRC_CH_CFG_REF_MODE
  let r := ch.rank k
  let ch := ch.mapRank k (fun key b =>
    if !sb || key % 4 = r.refSet then { b with isOpen := false, raa := b.raa - ch.raaimt } else b)
  s.setChan t c (ch.setRank k { r with refSet := if sb then (r.refSet + 1) % 4 else r.refSet })

/-- The rank has queued requests of priority step 6 or above. -/
def State.urgent (s : State) (t c k : Nat) : Bool :=
  let ch := s.chan t c
  ch.reads.any (fun e => rankOf e.off = k && 6 ≤ s.queueStep t c e.cls e.arrival) ||
  ch.writes.any (fun e => rankOf e.off = k && 6 ≤ s.queueStep t c e.cls e.arrival)

/-- No queue entry names the rank (R140). -/
def State.rankIdle (s : State) (t c k : Nat) : Bool :=
  let ch := s.chan t c
  ch.reads.all (fun e => rankOf e.off ≠ k) && ch.writes.all (fun e => rankOf e.off ≠ k)

/-- CISTERN_REFRESH_DUE (R127): issued, postponed up to the limit, taken from those pulled in, or, on an idle rank,
pulled in ahead. -/
def execCisternRefreshDue (t c k : Nat) (s : State) : Host.Outcome State Fault Refusal :=
  let st := s.rankState t c k
  if st = 1 ∨ st = 2 ∨ st = 4 then
    let m := if s.flag (drcBase t c) DRC_CH_CFG_REF_MODE then 4 else 1
    let r := s.rank t c k
    if s.urgent t c k ∧ r.owed < 4 * m then
      .next (s.setRank t c k (if 0 < r.pulled then { r with pulled := r.pulled - 1 } else { r with owed := r.owed + 1 }))
    else if s.rankIdle t c k then
      let s := forEach (upto (1 + r.owed + (4 * m - r.pulled))) (fun _ u => refreshRank t c k u) s
      .next (s.setRank t c k { s.rank t c k with owed := 0, pulled := 4 * m })
    else if 0 < r.pulled then .next (s.setRank t c k { r with pulled := r.pulled - 1 })
    else
      let s := forEach (upto (1 + r.owed)) (fun _ u => refreshRank t c k u) s
      .next (s.setRank t c k { s.rank t c k with owed := 0 })
  else .next s

/-- One reading of the sensor for a rank (R126, R135). -/
def rankReading (t c k : Nat) (reading : Option Int) (s : State) : State :=
  let r := s.rank t c k
  let delta := s.get (drcBase t c) DRC_RETRAIN_TEMP_DELTA
  let r := match reading with
    | none => { r with failReads := r.failReads + 1, sensorFailed := r.sensorFailed || decide (8 ≤ r.failReads + 1) }
    | some v =>
      let hotN := if 850 < v then r.hotReads + 1 else 0
      let coolN := if v < 820 then r.coolReads + 1 else 0
      { r with hotReads := hotN, coolReads := coolN, failReads := 0, sensorFailed := false, temp := v
               hot := decide (4 ≤ hotN) || (r.hot && !decide (4 ≤ coolN))
               due := r.due || (delta ≠ 0 && decide (delta * 10 ≤ (v - r.trainTemp).natAbs)) }
  putRankBit t c k DRC_RANK_STATUS_DOUBLED (r.hot || r.sensorFailed) (s.setRank t c k r)

/-- DIMM_SENSOR_READ (R126): the two ranks of the RDIMM; the eighth failure in a row raises Degraded. -/
def execDimmSensorRead (t c d : Nat) (reading : Option Int) (s : State) : Host.Outcome State Fault Refusal :=
  if !s.chanServes t c then .next s
  else
    let k := d % 2 * 2
    let before := s.get (drcBase t c) DRC_RANK_STATUS_DOUBLED
    let was := (s.rank t c k).sensorFailed
    let s := rankReading t c (k + 1) reading (rankReading t c k reading s)
    let s := if (s.rank t c k).sensorFailed && !was then raiseRank t c k 6 (drcErr t c 5 s) else s
    .next (if s.get (drcBase t c) DRC_RANK_STATUS_DOUBLED = before then s else reportChan t c s)

/-! ### Training and holds (R131-R137) -/

def State.training (s : State) (t c : Nat) : Bool := s.flag (drcBase t c) DRC_OP_STATUS_TRAINING
def State.changing (s : State) (t c : Nat) : Bool := s.flag (drcBase t c) DRC_OP_STATUS_CHANGING

/-- A hold ends with the rank in service: SERVING, or SELFREF when it was (Table DRC-4). -/
def endHold (t c k : Nat) (s : State) : State :=
  let r := s.rank t c k
  let s := setRankState t c k (if r.heldFromSr then 3 else 1) s
  s.setRank t c k { r with heldSince := none, heldFromSr := false, idleSince := s.us }

/-- The channel gathers no training data any more. -/
def endTraining (t c : Nat) (s : State) : State := s.putFlag (drcBase t c) DRC_OP_STATUS_TRAINING false

/-- CA_PARITY_ALERT (R131, R132): the bus's commands are replayed; after three failed replays on a rank its CA bus is
retrained. -/
def execCaParityAlert (t c sub k : Nat) (replayPass caPass : Bool) (s : State) : Host.Outcome State Fault Refusal :=
  let st := s.rankState t c k
  if !s.chanServes t c || st = 0 || st = 5 then .next s
  else
    let ch := s.chan t c
    let bus := k / 2 * 2 + sub % 2
    let s := s.setChan t c (ch.mapRank k (fun _ b => { b with isOpen := false }))
    let r := s.rank t c k
    if replayPass then
      let ch := s.chan t c
      let good := (Sparse.get (fun _ => []) ch.retry bus).map (fun x => { x with knownGood := true })
      let s := s.setChan t c { ch with retry := Sparse.set (fun _ => []) ch.retry bus good }
      let s := s.setRank t c k { r with failedReplays := 0 }
      .next (raiseRank t c k 0 (drcErr t c 0 (s.count (drcBase t c + 0x40) 1)))
    else if r.failedReplays + 1 < 3 then .next (s.setRank t c k { r with failedReplays := r.failedReplays + 1 })
    else
      let s := s.setRank t c k { r with failedReplays := 0 }
      let s := raiseRank t c k 1 (drcErr t c 1 (s.count (drcBase t c + 0x48) 1))
      let w := s.chanWeir t c
      let s := s.setChanWeir t c { w with disturbed := true }
      .next (if caPass then s else releaseChan t c (fenceRank t c k s))

/-- A retraining of the rank is due: asked for, by temperature, after a change, or by interval (R135, R136). -/
def State.retrainDue (s : State) (t c k : Nat) : Bool :=
  let r := s.rank t c k
  let iv := s.get (drcBase t c) DRC_RETRAIN_INTERVAL * 1000000
  let iv := if r.trainSoon then iv / 8 else iv
  r.due || (iv ≠ 0 && decide (r.trainTime + iv ≤ s.us))

/-- PERIODIC_RETRAINING_DUE (R135): a SERVING rank is held and trained unless another trains or the channel changes. -/
def execPeriodicRetrainingDue (t c k : Nat) (s : State) : Host.Outcome State Fault Refusal :=
  if !s.chanServes t c || !s.retrainDue t c k then .next s
  else
    let st := s.rankState t c k
    let r := s.rank t c k
    if st ≠ 1 ∨ s.changing t c ∨ s.training t c then
      .next (if st = 0 ∨ st = 5 then s else s.setRank t c k { r with due := true })
    else
      let s := (setRankState t c k 4 s).putFlag (drcBase t c) DRC_OP_STATUS_TRAINING true
      let s := s.setRank t c k { r with due := false, heldSince := some s.us, heldFromSr := false }
      .next (s.setChanWeir t c { s.chanWeir t c with disturbed := true })

/-- A retraining found no passing setting (R136): the last-known-good set and the short check. -/
def retrainFailed (t c k : Nat) (shortPass : Bool) (s : State) : State :=
  let s := drcErr t c 2 (endTraining t c s)
  if shortPass then
    let s := putRankBit t c k DRC_RANK_STATUS_LKG_USED true (endHold t c k s)
    let s := s.setRank t c k { s.rank t c k with trainSoon := true, trainTime := s.us }
    releaseChan t c (raiseRank t c k 2 s)
  else releaseChan t c (fenceRank t c k s)

/-- The rank is held for a retraining. -/
def State.heldTraining (s : State) (t c k : Nat) : Bool :=
  s.rankState t c k = 4 && s.training t c && (s.rank t c k).heldSince.isSome

/-- RETRAINING_END (R136). -/
def execRetrainingEnd (t c k : Nat) (pass shortPass : Bool) (s : State) : Host.Outcome State Fault Refusal :=
  if !s.heldTraining t c k then .next s
  else if pass then
    let s := putRankBit t c k DRC_RANK_STATUS_LKG_USED false (endHold t c k (endTraining t c s))
    let r := s.rank t c k
    let r := { r with trainSoon := false, trainTime := s.us, trainTemp := r.temp
                      lkg := r.lkg ||| BitVec.ofNat 4 (2 ^ s.get (drcBase t c) DRC_OP_STATUS_CUR_OP) }
    .next (releaseChan t c (s.setRank t c k r))
  else .next (retrainFailed t c k shortPass s)

/-- RETRAIN_HOLD_MAX_EXPIRY (R136): failed at HOLD_MAX less 0.2 ms after the hold began. -/
def execRetrainHoldMaxExpiry (t c k : Nat) (shortPass : Bool) (s : State) : Host.Outcome State Fault Refusal :=
  let lim := max 1 (s.get (drcBase t c) DRC_RETRAIN_HOLD_MAX) * 1000 - 200
  match (s.rank t c k).heldSince with
  | some t0 => if s.heldTraining t c k && decide (t0 + lim ≤ s.us) then .next (retrainFailed t c k shortPass s) else .next s
  | none => .next s

/-! ### Low power (R140-R143) -/

/-- LP_MODE as it acts: 1 in tier state T1 (R141). -/
def State.lpMode (s : State) (t c : Nat) : Nat :=
  if (s.tier t).power = 1 then 1 else s.get (drcBase t c) DRC_CH_CFG_LP_MODE

/-- POWER_DOWN_TIMER_EXPIRY (R140). -/
def execPowerDownTimerExpiry (t c k : Nat) (s : State) : Host.Outcome State Fault Refusal :=
  let m := s.lpMode t c
  if s.rankState t c k = 1 ∧ (m = 1 ∨ m = 3) ∧ s.rankIdle t c k then .next (setRankState t c k 2 s) else .next s

/-- SELF_REFRESH_TIMER_EXPIRY (R140): from SERVING in LP_MODE 2, from POWERDOWN in LP_MODE 3. -/
def execSelfRefreshTimerExpiry (t c k : Nat) (s : State) : Host.Outcome State Fault Refusal :=
  let m := s.lpMode t c
  let st := s.rankState t c k
  let due := (s.rank t c k).idleSince + max 1 (s.get (drcBase t c) DRC_LP_TIMER_SR_TIMER) ≤ s.us
  if ((st = 1 ∧ m = 2) ∨ (st = 2 ∧ m = 3)) ∧ s.rankIdle t c k ∧ due then .next (setRankState t c k 3 s) else .next s

/-- RANK_LOW_POWER_EXIT (R142, R143): an alert at exit is replayed; an exit that cannot be completed fences the rank. -/
def execRankLowPowerExit (t c k : Nat) (alert completes : Bool) (s : State) : Host.Outcome State Fault Refusal :=
  let st := s.rankState t c k
  if (st = 2 ∨ st = 3) ∧ (s.tier t).power ≤ 1 then
    if alert && !completes then .next (releaseChan t c (fenceRank t c k s))
    else
      let s := touchRank t c k (setRankState t c k 1 s)
      .next (if alert then raiseRank t c k 0 (drcErr t c 0 (s.count (drcBase t c + 0x40) 1)) else s)
  else .next s

/-! ### Operating points (R144-R146, R483) -/

def State.pointAllowed (s : State) (t c p : Nat) : Bool := bitAt (s.get (drcBase t c) DRC_OP_STATUS_ALLOWED) p
/-- The allowed point for a request: itself or the next below, else the lowest allowed (R145). -/
def State.mapPoint (s : State) (t c op : Nat) : Option Nat :=
  match (upto 4).find? (fun p => op ≤ p && s.pointAllowed t c p) with
  | some p => some p
  | none => ((upto 4).filter (fun p => s.pointAllowed t c p)).getLast?

/-- Start a change to a point: the weir holds the channel, the ranks are held unless all are in self-refresh or fenced
(R144, R146). -/
def startChange (t c p : Nat) (s : State) : State :=
  let quiet := (upto 4).all (fun k => s.rankState t c k = 3 || s.rankState t c k = 5)
  let cur := s.get (drcBase t c) DRC_OP_STATUS_CUR_OP
  let s := (s.putFlag (drcBase t c) DRC_OP_STATUS_CHANGING true).putFlag (drcBase t c) DRC_OP_STATUS_PEND false
  let s := s.setChan t c { s.chan t c with target := some p, beforeChange := some cur }
  let s := s.setChanWeir t c { s.chanWeir t c with disturbed := true }
  if quiet then s
  else forEach (upto 4) (fun k u =>
    let st := u.rankState t c k
    if st = 5 ∨ st = 0 then u
    else (setRankState t c k 4 u).setRank t c k { u.rank t c k with heldFromSr := decide (st = 3) }) s

/-- A request for an operating point (R145). -/
def requestPoint (t c op : Nat) (s : State) : State :=
  if !s.chanServes t c then s
  else
    let b := drcBase t c
    let present := if s.changing t c then ((s.chan t c).target).getD (s.get b DRC_OP_STATUS_CUR_OP)
      else s.get b DRC_OP_STATUS_CUR_OP
    match s.mapPoint t c op with
    | none => s
    | some p =>
      if p = present then s.putFlag b DRC_OP_STATUS_PEND false
      else if s.changing t c || s.training t c then
        (s.putFlag b DRC_OP_STATUS_PEND true).put b DRC_OP_STATUS_PEND_OP p
      else startChange t c p s

/-- The more restrictive of the points OPPOINT_SET and the thermal policy ask for (R27). -/
def Chan.wanted (ch : Chan) : Nat := max (ch.reqPolicy.getD 0) (ch.reqThermal.getD 0)

/-- The controller asks a channel for the point its policy calls for. -/
def applyPolicy (t c : Nat) (s : State) : State := requestPoint t c (s.chan t c).wanted s

/-- RESULT of an OPPOINT_SET (R267): channels at the point applied in bits 3:0, channels with the request pending in bits 7:4. -/
def State.opResult (s : State) (t mask op : Nat) : Nat :=
  ((upto 4).map (fun c =>
    if !bitAt mask c || !s.chanServes t c || (upto 4).all (fun k => s.fenced t c k) then 0
    else
      let at_ := s.mapPoint t c op = some (s.get (drcBase t c) DRC_OP_STATUS_CUR_OP) && !s.flag (drcBase t c) DRC_OP_STATUS_PEND &&
        decide (((s.chan t c).reqThermal).getD 0 ≤ op) && decide ((s.tier t).power ≠ 3)
      if at_ then 2 ^ c else 16 * 2 ^ c)).sum

/-- OPPOINT_SETs none of whose channels is in a change complete (R267). -/
def finishOpWaits (s : State) : State :=
  let ready (w : OpWait) : Bool := !(upto 4).any (fun c => bitAt w.mask c && s.flag (drcBase w.tier c) DRC_OP_STATUS_CHANGING)
  let done := s.opWaits.filter ready
  forEach done (fun w u => complete w.desc 0 (u.opResult w.tier w.mask w.op) u)
    { s with opWaits := s.opWaits.filter (fun w => !ready w) }

/-- OPERATING_POINT_REQUEST (R145). -/
def execOperatingPointRequest (t c op : Nat) (s : State) : Host.Outcome State Fault Refusal := .next (requestPoint t c op s)

/-- The timing words of a point in the active set, the former active words in the shadow set (R144). -/
def exchangeSets (t c p : Nat) (s : State) : State :=
  let b := drcBase t c
  let s := forEach (upto 4) (fun w u =>
    let act := u.reg (b + 0x200 + 4 * w)
    (u.setReg (b + 0x200 + 4 * w) (u.reg (b + 0x100 + 0x10 * p + 4 * w))).setReg (b + 0x210 + 4 * w) act) s
  s.putFlag b DRC_OP_STATUS_ACTIVE_SET (!s.flag b DRC_OP_STATUS_ACTIVE_SET)

/-- FREQUENCY_CHANGE (R144, R146): the change under way completes; `burstFail` names the ranks that fail the burst
check. -/
def execFrequencyChange (t c : Nat) (burstFail : BitVec 4) (s : State) : Host.Outcome State Fault Refusal :=
  match (s.chan t c).target with
  | none => .next s
  | some p =>
    if !s.changing t c then .next s
    else
      let b := drcBase t c
      let s := (exchangeSets t c p s).put b DRC_OP_STATUS_CUR_OP p
      let s := (s.putFlag b DRC_OP_STATUS_CHANGING false).setChan t c { s.chan t c with target := none, beforeChange := none }
      let s := forEach (upto 4) (fun k u =>
        let st := u.rankState t c k
        if st = 5 ∨ st = 0 then u
        else if burstFail.getLsbD k then fenceRank t c k u
        else
          let u := if st = 4 then endHold t c k u else u
          u.setRank t c k { u.rank t c k with due := true }) s
      let s := if s.flag b DRC_OP_STATUS_PEND && !s.training t c then
          requestPoint t c (s.get b DRC_OP_STATUS_PEND_OP) (s.putFlag b DRC_OP_STATUS_PEND false) else s
      .next (finishOpWaits (releaseChan t c (reportChan t c s)))

/-- PENDING_CHANGE_APPLIED (R145). -/
def execPendingChangeApplied (t c : Nat) (s : State) : Host.Outcome State Fault Refusal :=
  let b := drcBase t c
  if s.flag b DRC_OP_STATUS_PEND && !s.changing t c && !s.training t c then
    .next (requestPoint t c (s.get b DRC_OP_STATUS_PEND_OP) (s.putFlag b DRC_OP_STATUS_PEND false))
  else .next s

/-- The effect of a write to MAX_OP: the allowed points, and a move when the present one is no longer allowed (R483). -/
def maxOpChanged (t c : Nat) (s : State) : State :=
  let b := drcBase t c
  let mx := s.get b DRC_CH_CFG_MAX_OP
  let tr := (s.chan t c).trained.toNat
  let allowed := ((upto 4).filter (fun p => bitAt tr p && mx ≤ p)).map (fun p => 2 ^ p)
  let s := s.put b DRC_OP_STATUS_ALLOWED allowed.sum
  let cur := s.get b DRC_OP_STATUS_CUR_OP
  if s.chanServes t c && !s.pointAllowed t c cur then
    match (upto 4).find? (fun p => s.pointAllowed t c p) with
    | some p => requestPoint t c p s
    | none => s
  else s

end Sys2Proof.Machine
end

