-- ==== Sys2Proof/Machine/AqueductOps.lean ====
section
/-! DEFINITION. Commands of the aqueducts (R190, R191, R300-R307): keying, received flits, replay, credits, loss. -/

namespace Sys2Proof.Machine

/-- The key exchange of a link failed: the link stays down (R190). -/
def keyingFailed (a : Nat) (s : State) : State :=
  let s := (s.put (aqdBase a) AQD_STATUS_STATE 0).putFlag (aqdBase a) AQD_ERR_KEY_FAIL true
  raiseDetail (0x010 + a) 3 a s

/-- The 256 bits of two keys of a direction: labels 4d and 4d + 1 with this end's rank in the pair. -/
def linkKeys (secret : BitVec 384) (d : Nat) : BitVec 128 × BitVec 128 := (Config.hkdf secret (2 * d), Config.hkdf secret (2 * d + 1))

/-- Send a replay buffer again, oldest first, under the present keys (R304). -/
def replayAll (a : Nat) (s : State) : State :=
  let l := s.link a
  forEach l.replay (fun f u => emitFlit a 1 f.seq (some f.msg) (u.count (aqdBase a + 0x20) 1)) s

/-- The exchange of a link that has trained to L0 (R190). Without the device secret, or with Grotto down, none is made
(R414). -/
def linkExchange (a peer : Nat) (sigOk member : Bool) (shared : BitVec 384) (s : State) : State :=
  if s.get (aqdBase a) AQD_STATUS_STATE ≠ 2 || !s.mgmt.grotto || !s.identity then s
  else if !sigOk || !member then keyingFailed a s
  else
    let up := decide (s.pkg < peer)
    let tx := linkKeys shared (if up then 0 else 1)
    let rx := linkKeys shared (if up then 1 else 0)
    let l := s.link a
    let replay := l.replay.zipIdx.map (fun f => { seq := f.2, msg := f.1.msg })
    let used (f : AqMsg → Nat) : Nat := (replay.map (fun x => f x.msg)).sum
    let l := { l with
      txMix := tx.1, txTag := tx.2, rxMix := rx.1, rxTag := rx.2, keyed := true, txSeq := replay.length, rxSeq := 0
      reqCredits := 512 - used (·.needs.1), respCredits := 512 - used (·.needs.2.1), dataCredits := 768 - used (·.needs.2.2)
      replay := replay, nakWait := false, retReq := 0, retResp := 0, retData := 0, txWrap := false, rxWrap := false }
    let s := ((s.setLink a l).put (aqdBase a) AQD_STATUS_STATE 3).put (aqdBase a) AQD_STATUS_PEER peer
    sendWaiting a (replayAll a s)

/-- AQUEDUCT_KEY_EXCHANGE (R190, R303): the exchange ends; keys of both directions, full credits, the replay buffer sent
again with the count restarted at 0, then what waits. The lower package number's transmit direction is direction 0. -/
def execAqueductKeyExchange (a peer : Nat) (sigOk member : Bool) (shared : BitVec 384) (s : State) :
    Host.Outcome State Fault Refusal :=
  .next (linkExchange a peer sigOk member shared s)

/-- AQUEDUCT_KEY_TIMEOUT (R190): no exchange within 500 ms. -/
def execAqueductKeyTimeout (a : Nat) (s : State) : Host.Outcome State Fault Refusal :=
  if s.get (aqdBase a) AQD_STATUS_STATE = 2 ∧ (s.link a).keyingSince + 500000 ≤ s.us then .next (keyingFailed a s) else .next s

/-- Drop the flits acknowledged up to the 12-bit number `ack` (R304). -/
def ackFlits (a ack : Nat) (s : State) : State :=
  let l := s.link a
  match l.replay.findIdx? (fun f => f.seq % 4096 = ack) with
  | some i => s.setLink a { l with replay := l.replay.drop (i + 1) }
  | none => s

/-- Take returned credits, up to what the receiver advertised (R303). -/
def takeCredits (a q r d : Nat) (s : State) : State :=
  let l := s.link a
  s.setLink a { l with
    reqCredits := min 512 (l.reqCredits + q), respCredits := min 512 (l.respCredits + r)
    dataCredits := min 768 (l.dataCredits + d) }

/-- The link retrains through Recovery: its keys are zeroised and the exchange is repeated; the replay buffer waits for
it. Three retrains within 1 s take it down (R304). -/
def retrainLink (a : Nat) (s : State) : State :=
  let l := s.link a
  let s := (s.count (aqdBase a + 0x28) 1).putFlag (aqdBase a) AQD_ERR_RETRAIN true
  let s := raiseDetail (0x010 + a) 1 a s
  let times := s.us :: l.retrains.filter (fun t => s.us < t + 1000000)
  if 3 ≤ times.length then
    raiseDetail (0x010 + a) 2 a (linkLeaves a 0 (s.setLink a { l with retrains := [] }))
  else
    let s := s.setLink a { retrains := times, keyingSince := s.us, replay := l.replay.map (fun f => { f with resent := 0 }), waiting := l.waiting }
    s.put (aqdBase a) AQD_STATUS_STATE 2

/-- Act on one message of a good flit: a request for this package is served, the rest is forwarded or completes here;
a reserved MSG is dropped and the link retrained (R301, R305). -/
def takeMessage (a : Nat) (m : AqMsg) (s : State) : State :=
  if m.msg = 0 then s
  else if 6 ≤ m.msg then
    retrainLink a (raiseDetail (0x010 + a) 4 a (s.putFlag (aqdBase a) AQD_ERR_RSV_MSG true))
  else
    let mine := if 4 ≤ m.msg then decide (m.rpkg = s.pkg) else decide (m.pa / 2 ^ 44 = s.pkg)
    if 4 ≤ m.msg then
      let l := s.link a
      let s := s.setLink a { l with retResp := l.retResp + 1, retData := l.retData + m.needs.2.2 }
      if mine then completeRemote m s else forwardMsg m s
    else if mine then
      serveReq { remote := some m, aq := a, kind := if m.msg = 1 then .read else .write, ctx := m.ctx, cls := m.cls, arrival := s.us } s
    else
      let l := s.link a
      forwardMsg m (s.setLink a { l with retReq := l.retReq + 1, retData := l.retData + m.needs.2.2 })

/-- AQUEDUCT_FLIT_RECEIVE (R302, R304): CRC, then tag under the flit's full count, then its acknowledgement, credits and
messages; the answer is an idle flit that acknowledges it. -/
def execAqueductFlitReceive (a : Nat) (flit : BitVec 2048) (s : State) : Host.Outcome State Fault Refusal :=
  if !s.carrying a then .next s
  else
    let v := flit.toNat
    let l := s.link a
    let fseq := bitsAt v 11 0
    let ftype := bitsAt v 27 24
    if crc32c (leBytes 252 (v % 2 ^ 2016)) ≠ v / 2 ^ 2016 then
      if l.nakWait then .next s
      else .next (emitFlit a 2 l.txSeq none (s.setLink a { l with nakWait := true }))
    else
      -- the full count: the expected one, or one of the 128 before it that carries this FSEQ
      let back := (l.rxSeq % 4096 + 4096 - fseq) % 4096
      let seq := if ftype = 1 ∧ 0 < back ∧ back ≤ 128 ∧ back ≤ l.rxSeq then l.rxSeq - back else l.rxSeq
      let seq := if ftype = 1 then seq else fseq
      let mixed := (upto 3).map (fun i => BitVec.ofNat 512 (v / 2 ^ (448 + 512 * i)))
      let ahead := decide (ftype = 1) && decide (128 < back)
      if ahead then
        if l.nakWait then .next s
        else .next (emitFlit a 2 l.txSeq none (s.setLink a { l with nakWait := true }))
      else if flitTag (v % 2 ^ 448) mixed l.rxTag seq ≠ BitVec.ofNat 32 (v / 2 ^ 1984) then
        .next (raiseDetail 0x003 0 a s)
      else
        let s := if bitAt v 28 then ackFlits a (bitsAt v 23 12) s else s
        let s := takeCredits a (bitsAt v 39 32) (bitsAt v 47 40) (bitsAt v 55 48) s
        if ftype ≠ 1 then .next (sendWaiting a s)
        else if seq ≠ l.rxSeq then .next (emitFlit a 0 (s.link a).txSeq none s)
        else
          let l := s.link a
          let s := s.setLink a { l with rxSeq := (seq + 1) % 2 ^ 30, rxWrap := decide (seq + 1 = 2 ^ 30), nakWait := false }
          let s := s.count (aqdBase a + 0x18) 1
          let blocks := mixed.zipIdx.map (fun b => unmixBlock l.rxMix seq b.2 b.1)
          let s := forEach (upto 3) (fun i u => takeMessage a (AqMsg.ofSlot (bitsAt v (191 + 128 * i) (64 + 128 * i)) blocks) u) s
          if s.carrying a then .next (sendWaiting a (emitFlit a 0 (s.link a).txSeq none s)) else .next s

/-- Retransmit from the oldest unacknowledged flit (R304). -/
def retransmit (a : Nat) (s : State) : State :=
  let l := s.link a
  if l.replay = [] then s
  else
    let s := raiseDetail (0x010 + a) 0 a s
    replayAll a (s.setLink a { s.link a with replay := (s.link a).replay.map (fun f => { f with resent := f.resent + 1 }) })

/-- AQUEDUCT_NAK (R304): ACKSEQ is the receiver's last good flit. -/
def execAqueductNak (a ack : Nat) (s : State) : Host.Outcome State Fault Refusal :=
  if s.carrying a then .next (retransmit a (ackFlits a ack s)) else .next s

/-- AQUEDUCT_REPLAY_TIMEOUT (R304). -/
def execAqueductReplayTimeout (a : Nat) (s : State) : Host.Outcome State Fault Refusal :=
  if s.carrying a then .next (retransmit a s) else .next s

/-- AQUEDUCT_RETRAIN (R304): a flit has been retransmitted 4 times in succession. -/
def execAqueductRetrain (a : Nat) (s : State) : Host.Outcome State Fault Refusal :=
  if s.carrying a && (s.link a).replay.any (fun f => 4 ≤ f.resent) then .next (retrainLink a s) else .next s

/-- AQUEDUCT_COUNT_WRAP_REKEY (R302): a direction whose count has wrapped takes keys derived from its present ones. -/
def execAqueductCountWrapRekey (a : Nat) (s : State) : Host.Outcome State Fault Refusal :=
  let l := s.link a
  let next (m t : BitVec 128) : BitVec 128 × BitVec 128 :=
    let secret : BitVec 384 := BitVec.ofNat 384 (m.toNat + t.toNat * 2 ^ 128)
    (Config.hkdf secret 4, Config.hkdf secret 5)
  let l := if l.txWrap then
      let k := next l.txMix l.txTag
      { l with txMix := k.1, txTag := k.2, txWrap := false } else l
  let l := if l.rxWrap then
      let k := next l.rxMix l.rxTag
      { l with rxMix := k.1, rxTag := k.2, rxWrap := false } else l
  .next (sendWaiting a (s.setLink a l))

/-- AQUEDUCT_LEAVES_L0 (R306). -/
def execAqueductLeavesL0 (a : Nat) (s : State) : Host.Outcome State Fault Refusal :=
  if s.get (aqdBase a) AQD_STATUS_STATE = 0 then .next s else .next (linkLeaves a 1 s)

/-- END_TO_END_TIMEOUT (R307): poison for a read; Cmp and a Contained event for a write. -/
def execEndToEndTimeout (txid : Nat) (s : State) : Host.Outcome State Fault Refusal :=
  match s.remote.find? (fun o => o.txid = txid) with
  | none => .next s
  | some o =>
    if o.sentAt + max 1 (s.get aqdRegBase AQD_CFG_E2E_TMO) * 10 ≤ s.us then
      let a := s.get (aqdRegBase + 4 * o.dest) AQD_ROUTE_PRIMARY
      let s := if o.read then s else raiseCtx (0x010 + a) 6 o.ctx s
      .next (completeRemote { msg := if o.read then 4 else 5, poison := o.read, txid := txid } s)
    else .next s

/-- AQUEDUCT_CREDIT_RETURN (R303). -/
def execAqueductCreditReturn (a q r d : Nat) (s : State) : Host.Outcome State Fault Refusal :=
  if s.carrying a then .next (sendWaiting a (takeCredits a q r d s)) else .next s

end Sys2Proof.Machine
end

