-- ==== Sys2Proof/Machine/Ports.lean ====
section
/-! DEFINITION. Host ports (chapter 02): the cascade's modules, link training and power states, port resets, the HDM
decoder, the mailbox, dynamic capacity, and the effects of writes to the port registers. -/

namespace Sys2Proof.Machine

/-! ### Windows and dynamic capacity (R53-R60, R73) -/

def Port.window (q : Port) (i : Nat) : Window := Sparse.get (fun _ => {}) q.windows i
def Port.setWindow (q : Port) (i : Nat) (w : Window) : Port := { q with windows := Sparse.set (fun _ => {}) q.windows i w }

/-- Fill the block-map entries of a window with `v` (R73). -/
def Port.mapBlocks (q : Port) (w : Window) (v : Nat) : Port :=
  { q with blocks := (upto w.wsize).foldl (fun b i => Sparse.set (fun _ => 0) b (w.wbase + i) v) q.blocks }

/-- Clear a window entry and its block-map entries (VALID = 0). -/
def clearWindow (p i : Nat) (s : State) : State :=
  let q := s.port p
  s.setPort p ((q.mapBlocks (q.window i) 0).setWindow i {})

def dcRecord (kind : Nat) (e : DcExtent) : EventRec := { kind := kind, dpa := e.base, len := e.size, ctx := e.ctx, gen := e.gen }

/-- The window of context `c` on port `p` is offered to the host: an Add Capacity event (R56). -/
def offerAdd (p i : Nat) (s : State) : State :=
  let q := s.port p
  let w := q.window i
  let e : DcExtent := { ctx := w.ctx, gen := w.gen, base := w.wbase * 2 ^ 28, size := w.wsize * 2 ^ 28, awaiting := true }
  placeEvent p 4 (dcRecord 3 e) (s.setPort p { q with dc := q.dc ++ [e] })

/-- Drop a record of an extent that no host has fetched from the Dynamic Capacity log and from the held events (R60). -/
def dropUnfetched (q : Port) (e : DcExtent) : Port :=
  let same (r : EventRec) : Bool := r.kind = 3 && r.ctx = e.ctx && r.gen = e.gen
  let lg := q.log 4
  { q.setLog 4 { lg with records := lg.records.filter (fun r => !(same r && !r.fetched)) } with
    heldDc := q.heldDc.filter (fun r => !same r) }

/-- An event of an extent is still held back from the Dynamic Capacity log (R53): the extent has not been offered. -/
def Port.holdsBack (q : Port) (kind : Nat) (e : DcExtent) : Bool :=
  q.heldDc.any (fun r => r.kind = kind && r.ctx = e.ctx && r.gen = e.gen)

/-- The window a release is offered for: the present binding's, or the one a formerly DRAINING context still has pending
after a warm recovery (Table CTX-5 n). -/
def State.leavingWindow (s : State) (p c : Nat) : Option (Nat × Window) :=
  match presentWindow (s.port p) c with
  | some r => some r
  | none => (s.port p).windows.find? (fun w =>
      w.2.valid && w.2.pendrel && w.2.ctx = c && w.2.wbase = (s.ctx c).wbase)

/-- The window of a context leaves the port: an unanswered add is withdrawn, else its release is offered and the window
shows pending release (R58, R60, Table CTX-5 e, f and n). -/
def offerRelease (p c : Nat) (s : State) : State :=
  match s.leavingWindow p c with
  | none => s
  | some (i, w) =>
    let q := s.port p
    match q.dc.find? (fun e => e.ctx = c && e.gen = w.gen) with
    | none => if w.pendrel then s else clearWindow p i s
    | some e =>
      if e.awaiting then
        clearWindow p i (s.setPort p (dropUnfetched { q with dc := q.dc.filter (fun x => x ≠ e) } e))
      else
        let due := s.us + max 1 (s.get (hptBase p) HPT_DC_CFG_REL_TMO) * 1000000
        let q := { q with dc := q.dc.map (fun x => if x = e then { x with relDeadline := some due } else x) }
        placeEvent p 4 (dcRecord 4 e) (s.setPort p (q.setWindow i { w with pendrel := true, opened := false }))

/-- Offer held Dynamic Capacity events while the log has room (R53). -/
def offerHeld (p : Nat) (s : State) : State :=
  let q := s.port p
  let room := 64 - (q.log 4).records.length
  forEach (q.heldDc.take room) (fun r u => placeEvent p 4 r u) (s.setPort p { q with heldDc := q.heldDc.drop room })

/-! ### Links (R41-R48) -/

def setLtssm (p v : Nat) (s : State) : State := s.put (hptBase p) HPT_LINK_STATUS_LTSSM v
def State.ltssm (s : State) (p : Nat) : Nat := s.get (hptBase p) HPT_LINK_STATUS_LTSSM
def portSource (p : Nat) : Nat := tierSource (portTier p) (p % 12)
/-- PERST_N of the port's group is asserted. -/
def State.inPerst (s : State) (p : Nat) : Bool := Sparse.get (fun _ => false) s.perstLow (p / 4)
/-- The aqueduct of an even port, by rank among the bonded ones. -/
def State.aqueductOf (s : State) (p : Nat) : Option Nat := s.bondedPorts.findIdx? (fun x => x = p / 2 * 2)

/-- The port's link leaves service for state `next`, with LINK_DOWN set where that is Detect (0): responses in flight are discarded, writes not yet observed are
dropped whole (R48); a bonded pair's aqueduct leaves L0. -/
def dropLink (p next : Nat) (s : State) : State :=
  let was := s.linkUp p
  let held := s.held.filter (fun r => decide (r.port ≠ p) || r.remote.isSome)
  let remote := s.remote.map (fun (o : Outstanding) => if o.port = p then { o with internal := true } else o)
  let s := { s with held := held, remote := remote }
  let s := s.setReg (hptBase p + 8) 0
  let s := updateCredits p (setLtssm p next s)
  let s := match (if (s.port (p / 2 * 2)).bonded then s.aqueductOf p else none) with
    | some a => if s.get (aqdBase a) AQD_STATUS_STATE = 0 then s else linkLeaves a 0 s
    | none => s
  if was then
    raiseOpen (portSource p) 3 (if next = 0 then s.putFlag (hptBase p) HPT_ERR_STATUS_LINK_DOWN true else s)
  else s

/-- CASCADE_MODULE_LOST (R34): link `l` joins tiers l and l + 1. -/
def execCascadeModuleLost (l : Nat) (s : State) : Host.Outcome State Fault Refusal :=
  let n := s.nTiers
  if n ≤ l ∨ s.linkLive l = 0 then .next s
  else
    let before := (upto n).filter (fun b => s.reaches l b)
    let k := if n = 2 then 0 else l
    let s := { s with modulesLost := Sparse.set (fun _ => 0) s.modulesLost k (Sparse.get (fun _ => 0) s.modulesLost k + 1) }
    let s := raise (tierSource l 40) 0 4 (poolAddr s.pkg l 0) ((l + 1) % n) s
    let cut := before.filter (fun b => !s.reaches l b)
    let s := forEach cut (fun b u => raise (tierSource l 40) 1 4 (poolAddr u.pkg b 0) b u) s
    .next (reportAll s)

/-- A port may train: SYS_READY is released, its port die is up and its tier is not in T3 (R440, Table RST-4, R388). -/
def State.mayTrain (s : State) (p : Nat) : Bool :=
  let x := s.tier (portTier p)
  s.pkgMode.sysReady && !x.portReset && !x.stFailed && x.power ≠ 3

/-- LINK_TRAINING_COMPLETE (R41, R42, R50, R64): a host port comes up at the lower rate and the width its lanes allow; a
bonded pair trains at 64 GT/s only and goes on to its key exchange. -/
def execLinkTrainingComplete (p partner : Nat) (lane0 lane1 rev : Bool) (pol : BitVec 2) (flit256 : Bool) (s : State) :
    Host.Outcome State Fault Refusal :=
  let b := hptBase p
  if !s.mayTrain p then .next s
  else if 12 * s.nTiers ≤ p || !s.portOn p || s.inPerst p || s.linkUp p || !(lane0 || lane1) then .next s
  else if (s.port (p / 2 * 2)).bonded then
    if p % 2 = 1 ∨ partner < 5 ∨ !lane0 ∨ !lane1 then .next s
    else match s.aqueductOf p with
      | none => .next s
      | some a =>
        let up (p : Nat) (u : State) : State :=
          (setLtssm p 3 u).put (hptBase p) HPT_LINK_STATUS_WIDTH 2 |>.put (hptBase p) HPT_LINK_STATUS_SPEED 5
        let s := up (p + 1) (up p s)
        let s := s.setLink a { s.link a with keyingSince := s.us }
        .next (s.put (aqdBase a) AQD_STATUS_STATE 2)
  else
    let tgt := min 5 (s.get b HPT_PORT_CFG_TGT_SPEED)
    let x1 := s.flag b HPT_PORT_CFG_X1_ONLY
    let speed := min (min 5 partner) tgt
    let width := if lane0 && lane1 && !x1 then 2 else 1
    let s := setLtssm p 3 s
    let s := (s.put b HPT_LINK_STATUS_WIDTH width).put b HPT_LINK_STATUS_SPEED speed
    let s := (s.putFlag b HPT_LINK_STATUS_LANE_REV rev).put b HPT_LINK_STATUS_POL_INV pol.toNat
    let s := s.putFlag b HPT_LINK_STATUS_CXL_MODE flit256
    let s := s.setPort p { s.port p with partnerSpeed := partner, fullWidth := width }
    let slow := decide (speed < tgt)
    let narrow := decide (width = 1) && !x1
    let s := if slow then s.putFlag b HPT_ERR_STATUS_DOWNTRAIN_SPEED true else s
    let s := if narrow then s.putFlag b HPT_ERR_STATUS_DOWNTRAIN_WIDTH true else s
    let s := if slow || narrow then raiseDetail (portSource p) 0 p s else s
    let s := if flit256 then s else raiseOpen (portSource p) 1 (s.putFlag b HPT_ERR_STATUS_CXL_NEG_FAIL true)
    -- pending dynamic-capacity events are offered again (R48)
    let q := s.port p
    let lg := q.log 4
    let s := s.setPort p (q.setLog 4 { lg with records := lg.records.map (fun r => { r with fetched := false }) })
    .next (if lg.records ≠ [] ∧ (Sparse.get (fun _ => (0 : BitVec 8)) q.intPolicy 4).toNat % 4 = 1 then s.emit (.msix p 0 5) else s)

/-- LANE_MARGINING (R44): in L0 at 16 GT/s and above. -/
def execLaneMargining (p lane : Nat) (voltage : Bool) (result : BitVec 8) (s : State) : Host.Outcome State Fault Refusal :=
  let b := hptBase p
  if s.ltssm p = 3 ∧ 3 ≤ s.get b HPT_LINK_STATUS_SPEED ∧ lane < s.get b HPT_LINK_STATUS_WIDTH then
    .next ((s.setPort p { s.port p with margin := some (lane, voltage, result) }).emit (.marginReport p lane result))
  else .next s

/-- Narrow a x2 link in L0 to x1 (R45). -/
def narrowLink (p : Nat) (s : State) : State :=
  if s.ltssm p = 3 ∧ s.get (hptBase p) HPT_LINK_STATUS_WIDTH = 2 ∧ !(s.port (p / 2 * 2)).bonded then
    (setLtssm p 4 (s.setPort p { s.port p with fullWidth := 2 })).put (hptBase p) HPT_LINK_STATUS_WIDTH 1
  else s

/-- L0P_DEVICE_REQUEST (R45): the low-utilisation time is the caller's; L0P_EN must be set. -/
def execL0pDeviceRequest (p : Nat) (s : State) : Host.Outcome State Fault Refusal :=
  .next (if s.flag (hptBase p) HPT_PORT_CFG_L0P_EN then narrowLink p s else s)

/-- L0P_PARTNER_REQUEST (R45). -/
def execL0pPartnerRequest (p : Nat) (s : State) : Host.Outcome State Fault Refusal := .next (narrowLink p s)

/-- Some class queue holds more than 8 entries. -/
def State.deepQueue (s : State) : Bool :=
  s.chans.any (fun e => (upto 64).any (fun k =>
    decide (8 < (e.2.reads.filter (fun r => r.cls = k)).length) || decide (8 < (e.2.writes.filter (fun r => r.cls = k)).length)))

/-- LINK_WIDEN (R45): a narrowed link widens when the class queue of its request holds more than 8 entries. -/
def execLinkWiden (p : Nat) (s : State) : Host.Outcome State Fault Refusal :=
  if s.ltssm p = 4 && s.deepQueue then
    .next ((setLtssm p 3 s).put (hptBase p) HPT_LINK_STATUS_WIDTH (s.port p).fullWidth)
  else .next s

/-- ASPM_L1_ENTRY (R45). -/
def execAspmL1Entry (p : Nat) (s : State) : Host.Outcome State Fault Refusal :=
  if (s.ltssm p = 3 ∨ s.ltssm p = 4) ∧ !(s.port (p / 2 * 2)).bonded then .next (setLtssm p 6 s) else .next s

/-- ASPM_L1_EXIT (R45): back to full-width L0. -/
def execAspmL1Exit (p : Nat) (s : State) : Host.Outcome State Fault Refusal :=
  if s.ltssm p = 6 then
    .next ((setLtssm p 3 s).put (hptBase p) HPT_LINK_STATUS_WIDTH (s.port p).fullWidth)
  else .next s

/-- The ports of a group. -/
def groupPorts (g : Nat) : List Nat := (upto 4).map (fun i => 4 * g + i)

/-- PERST_N_ASSERT (R47): link, configuration space and mailbox state of the group's ports. -/
def execPerstNAssert (g : Nat) (s : State) : Host.Outcome State Fault Refusal :=
  let s := forEach ((groupPorts g).filter (fun p => p < 12 * s.nTiers)) (fun p u =>
    let u := dropLink p 0 u
    u.setPort p { u.port p with decoder := {}, intPolicy := [], tsOffset := 0, margin := none, busMaster := true }) s
  .next { s with perstLow := Sparse.set (fun _ => false) s.perstLow g true }

/-- Rewrite the aqueduct numbers after a change of the bonds: each link keeps its state and registers under its new
number (chapter 13). -/
def renumberAqueducts (old new : List Nat) (s0 : State) : State :=
  forEach (upto 8) (fun a u =>
    let from_ := (new[a]?).bind (fun e => old.findIdx? (fun x => x = e))
    let u := match from_ with
      | some b => forEach [0, 4, 0x10, 0x18, 0x20, 0x28] (fun o v => v.setReg (aqdBase a + o) (s0.reg (aqdBase b + o))) (u.setLink a (s0.link b))
      | none => forEach [0, 4, 0x10, 0x18, 0x20, 0x28] (fun o v => v.setReg (aqdBase a + o) 0) (u.setLink a {})
    match new[a]? with
    | some e => (u.putFlag (aqdBase a) AQD_STATUS_PRESENT true).put (aqdBase a) AQD_STATUS_EVEN_PORT e
    | none => u) s0

/-- A port group leaves reset (R47, R63, R65): CTLFN, BOND and the clock mode take effect and the enabled ports start to train. -/
def groupUp (g : Nat) (sris : Bool) (s : State) : State :=
  let old := s.bondedPorts
  let s := forEach ((groupPorts g).filter (fun p => p < 12 * s.nTiers)) (fun p u =>
    let b := hptBase p
    let bond := decide (p % 2 = 0) && u.flag b HPT_PORT_CFG_BOND
    let u := u.setPort p { u.port p with ctlfn := u.flag b HPT_PORT_CFG_CTLFN, bonded := bond, sris := sris }
    if u.portOn p then setLtssm p 1 u else setLtssm p 8 u) s
  let new := s.bondedPorts
  let s := if old = new then s else renumberAqueducts old new s
  forEach (groupPorts g) (fun p u =>
    match (if p % 2 = 0 ∧ (u.port p).bonded then u.aqueductOf p else none) with
    | some a => if u.get (aqdBase a) AQD_STATUS_STATE = 0 then u.put (aqdBase a) AQD_STATUS_STATE 1 else u
    | none => u) s

/-- PERST_N_DEASSERT. -/
def execPerstNDeassert (g : Nat) (sris : Bool) (s : State) : Host.Outcome State Fault Refusal :=
  .next (groupUp g sris { s with perstLow := Sparse.set (fun _ => false) s.perstLow g false })

/-- LINK_DOWN (R48): hot reset or surprise loss. -/
def execLinkDown (p : Nat) (s : State) : Host.Outcome State Fault Refusal :=
  if s.linkUp p || s.ltssm p = 5 then .next (dropLink p 0 s) else .next s

/-- HDM_DECODER_COMMIT (R51). -/
def execHdmDecoderCommit (p base size ways : Nat) (s : State) : Host.Outcome State Fault Refusal :=
  let ok := decide (ways = 1) && decide (base % 2 ^ 28 = 0) && decide (size % 2 ^ 28 = 0)
  if !s.hostPort p then .next s
  else .next (s.setPort p { s.port p with decoder := { base := base, size := size, committed := ok, errNotCommitted := !ok } })

/-! ### The mailbox (R53-R60) -/

/-- Return codes of the CXL mailbox. -/
def mbSuccess : Nat := 0x0
def mbInvalidInput : Nat := 0x2
def mbUnsupported : Nat := 0x3
def mbInvalidHandle : Nat := 0xE

/-- The primary mailbox of a port answers: the port presents its memory function and its link is up. -/
def State.mailboxUp (s : State) (p : Nat) : Bool := s.hostPort p && s.linkUp p
/-- A mailbox command on a port that presents the mailbox; its completion is signalled on vector 0. -/
def mailboxDo (p : Nat) (s : State) (f : State → State × Nat × List Nat) : Host.Outcome State Fault Refusal :=
  if !s.mailboxUp p then .next s
  else
    let (s, code, payload) := f s
    .next (s.emit (.mailbox p code payload))

def EventRec.fields (r : EventRec) : List Nat := [r.handle, r.kind, r.dpa, r.len, r.ctx, r.gen, r.time]

/-- GET_EVENT_RECORDS (R53): the oldest records that fit the 2 KiB payload, 15 of 128 bytes after the 32-byte header. -/
def execGetEventRecords (p log : Nat) (s : State) : Host.Outcome State Fault Refusal :=
  mailboxDo p s (fun s =>
    let q := s.port p
    let lg := q.log log
    let got := lg.records.take 15
    let rest := lg.records.drop 15
    let s := s.setPort p (q.setLog log { lg with records := got.map (fun r => { r with fetched := true }) ++ rest })
    (s, mbSuccess, [lg.overflow, got.length, ofBool (rest ≠ [])] ++ got.flatMap EventRec.fields))

/-- CLEAR_EVENT_RECORDS (R53): every handle must name a record of the log; held Dynamic Capacity events then follow. -/
def execClearEventRecords (p log : Nat) (clearAll : Bool) (handles : List Nat) (s : State) : Host.Outcome State Fault Refusal :=
  mailboxDo p s (fun s =>
    let q := s.port p
    let lg := q.log log
    if clearAll then (offerHeld p (s.setPort p (q.setLog log {})), mbSuccess, [])
    else if handles.all (fun h => lg.records.any (fun r => r.handle = h)) then
      let lg := { lg with records := lg.records.filter (fun r => !handles.contains r.handle) }
      (offerHeld p (s.setPort p (q.setLog log lg)), mbSuccess, [])
    else (s, mbInvalidHandle, []))

/-- GET_EVENT_INTERRUPT_POLICY (R53). -/
def execGetEventInterruptPolicy (p : Nat) (s : State) : Host.Outcome State Fault Refusal :=
  mailboxDo p s (fun s =>
    (s, mbSuccess, (upto 5).map (fun l => (Sparse.get (fun _ => (0 : BitVec 8)) (s.port p).intPolicy l).toNat)))

/-- SET_EVENT_INTERRUPT_POLICY (R53): MSI-X only; a firmware setting returns Invalid Input and changes nothing. -/
def execSetEventInterruptPolicy (p : Nat) (settings : List (BitVec 8)) (s : State) : Host.Outcome State Fault Refusal :=
  mailboxDo p s (fun s =>
    if settings.any (fun x => 2 ≤ x.toNat % 4) then (s, mbInvalidInput, [])
    else
      let q := s.port p
      let pol := settings.zipIdx.foldl (fun m x => Sparse.set (fun _ => (0 : BitVec 8)) m x.2 x.1) q.intPolicy
      (s.setPort p { q with intPolicy := pol }, mbSuccess, []))

/-- GET_TIMESTAMP (R53): the time base in nanoseconds with the port's offset. -/
def execGetTimestamp (p : Nat) (s : State) : Host.Outcome State Fault Refusal :=
  mailboxDo p s (fun s => (s, mbSuccess, [(BitVec.ofNat 64 (s.us * 1000) + (s.port p).tsOffset).toNat]))

/-- SET_TIMESTAMP (R53). -/
def execSetTimestamp (p : Nat) (ts : BitVec 64) (s : State) : Host.Outcome State Fault Refusal :=
  mailboxDo p s (fun s =>
    (s.setPort p { s.port p with tsOffset := ts - BitVec.ofNat 64 (s.us * 1000) }, mbSuccess, []))

/-- Identifier of the Command Effects Log. -/
def celUuid : BitVec 128 := 0x0da9c0b5bf414b788f7996b1623b3f17#128
/-- The commands of Table HPT-4. -/
def mailboxOpcodes : List Nat :=
  [0x0100, 0x0101, 0x0102, 0x0103, 0x0300, 0x0301, 0x0400, 0x0401, 0x4000, 0x4200, 0x4300, 0x4800, 0x4801, 0x4802, 0x4803]
/-- The Command Effects Log: opcode and effect word of each command; the effects are not stated and are free. -/
def celBytes : List Nat := mailboxOpcodes.flatMap (fun o => leBytes 2 o ++ leBytes 2 (Config.freeWord o).toNat)

/-- GET_SUPPORTED_LOGS (R53). -/
def execGetSupportedLogs (p : Nat) (s : State) : Host.Outcome State Fault Refusal :=
  mailboxDo p s (fun s => (s, mbSuccess, [1, celUuid.toNat, celBytes.length]))

/-- GET_LOG (R53). -/
def execGetLog (p : Nat) (uuid : BitVec 128) (off len : Nat) (s : State) : Host.Outcome State Fault Refusal :=
  mailboxDo p s (fun s =>
    if uuid = celUuid ∧ off + len ≤ celBytes.length then (s, mbSuccess, (celBytes.drop off).take len)
    else (s, mbInvalidInput, []))

/-- IDENTIFY_MEMORY_DEVICE (R53): volatile and persistent capacity 0. -/
def execIdentifyMemoryDevice (p : Nat) (s : State) : Host.Outcome State Fault Refusal :=
  mailboxDo p s (fun s => (s, mbSuccess, [0, 0]))

/-- A zone of a tier (R394). -/
def State.zone (s : State) (t z : Nat) : Zone := Sparse.get (fun _ => {}) (Sparse.get (fun _ => {}) s.heat t : TierHeat).zones z

/-- The hottest zone of a tier, in 0.125 degrees. -/
def State.hottest (s : State) (t : Nat) : Int := max (s.zone t 0).temp (max (s.zone t 1).temp (s.zone t 2).temp)

/-- GET_HEALTH_INFO (R53): the device temperature is the hottest zone of the port's tier, here in whole degrees. -/
def execGetHealthInfo (p : Nat) (s : State) : Host.Outcome State Fault Refusal :=
  mailboxDo p s (fun s => (s, mbSuccess, [(s.hottest (portTier p) / 8).toNat]))

/-- The poison-list entries a port may see (R161). -/
def State.portPoison (s : State) (p : Nat) : List Poison :=
  s.tierList.flatMap (fun t => (s.plist t).filter (fun e =>
    match presentWindow (s.port p) e.ctx with
    | some (_, w) => w.opened
    | none => false))

/-- GET_POISON_LIST (R161): up to 32 entries from `start`. -/
def execGetPoisonList (p start : Nat) (s : State) : Host.Outcome State Fault Refusal :=
  mailboxDo p s (fun s =>
    let all := (s.portPoison p).drop start
    let got := all.take 32
    let ovf := s.tierList.filter (fun t => s.flag (eccBase t) ECC_PLIST_OVF)
    let times := ovf.map (fun t => Sparse.get (fun _ => 0) s.ovfTime t)
    let first := times.foldl min (times.headD 0)
    (s, mbSuccess, [ofBool (32 < all.length), ofBool (ovf ≠ []), first, got.length] ++
      got.flatMap (fun e => [e.dpa, if e.extent then 2 ^ 21 else 64, e.source])))

/-- GET_DYNAMIC_CAPACITY_CONFIGURATION (R54): one region of 64 TiB in 256 MiB blocks. -/
def execGetDynamicCapacityConfiguration (p : Nat) (s : State) : Host.Outcome State Fault Refusal :=
  mailboxDo p s (fun s => (s, mbSuccess, [1, 0, 2 ^ 46, 2 ^ 28]))

/-- GET_DYNAMIC_CAPACITY_EXTENT_LIST (R53): accepted extents only. -/
def execGetDynamicCapacityExtentList (p start count : Nat) (s : State) : Host.Outcome State Fault Refusal :=
  mailboxDo p s (fun s =>
    let all := (s.port p).dc.filter (fun e => e.accepted)
    let got := (all.drop start).take count
    (s, mbSuccess, [all.length, got.length] ++ got.flatMap (fun e => [e.base, e.size, e.ctx, e.gen])))

/-- A host's reference names an extent. -/
def refNames (r : DcRef) (e : DcExtent) : Bool := e.ctx = r.ctx && e.gen = r.gen && e.base = r.base && e.size = r.size

/-- ADD_DYNAMIC_CAPACITY_RESPONSE (R53, R57): listing accepts; an empty list declines the oldest offer. An add that is
held back has not been offered. -/
def execAddDynamicCapacityResponse (p : Nat) (ext : Option DcRef) (s : State) : Host.Outcome State Fault Refusal :=
  mailboxDo p s (fun s =>
    let q := s.port p
    match ext with
    | some r =>
      if q.dc.any (fun e => refNames r e && e.awaiting && !q.holdsBack 3 e) then
        let q := { q with dc := q.dc.map (fun e => if refNames r e then { e with awaiting := false, accepted := true } else e) }
        (s.setPort p q, mbSuccess, [])
      else (s, mbInvalidInput, [])
    | none =>
      match q.dc.find? (fun e => e.awaiting && !q.holdsBack 3 e) with
      | none => (s, mbInvalidInput, [])
      | some e =>
        let q := { q with dc := q.dc.map (fun x => if x = e then { x with awaiting := false } else x) }
        let q := match presentWindow q e.ctx with
          | some (i, w) => q.setWindow i { w with declined := true }
          | none => q
        (raiseOpen (portSource p) 5 (s.setPort p q), mbSuccess, []))

/-- The window of a released extent is cleared (R58, R59). -/
def endRelease (p : Nat) (e : DcExtent) (s : State) : State :=
  let q := s.port p
  let s := s.setPort p { q with dc := q.dc.filter (fun x => x ≠ e) }
  match q.windows.find? (fun w => w.2.pendrel && w.2.ctx = e.ctx && w.2.gen = e.gen) with
  | some (i, _) => clearWindow p i s
  | none => s

/-- RELEASE_DYNAMIC_CAPACITY (R58, R486): only an extent offered for release. -/
def execReleaseDynamicCapacity (p : Nat) (r : DcRef) (s : State) : Host.Outcome State Fault Refusal :=
  mailboxDo p s (fun s =>
    match (s.port p).dc.find? (fun e => refNames r e && e.relDeadline.isSome && !(s.port p).holdsBack 4 e) with
    | some e => (endRelease p e s, mbSuccess, [])
    | none => (s, mbInvalidInput, []))

/-- MAILBOX_UNSUPPORTED_COMMAND (R53). -/
def execMailboxUnsupportedCommand (p opcode : Nat) (s : State) : Host.Outcome State Fault Refusal :=
  if mailboxOpcodes.contains opcode then .next s else mailboxDo p s (fun s => (s, mbUnsupported, []))

/-- RELEASE_TIMEOUT (R58): REL_TMO passes for the extent at `base`. -/
def execReleaseTimeout (p base : Nat) (s : State) : Host.Outcome State Fault Refusal :=
  match (s.port p).dc.find? (fun e => e.base = base && (e.relDeadline.elim false (fun d => decide (d ≤ s.us)))) with
  | some e => .next (raiseOpen (portSource p) 6 (endRelease p e s))
  | none => .next s

/-- DC_EVENT_OFFER_WHEN_ROOM (R53). -/
def execDcEventOfferWhenRoom (p : Nat) (s : State) : Host.Outcome State Fault Refusal := .next (offerHeld p s)

/-! ### Port registers (R63-R68) -/

/-- A context is bound to the port. -/
def State.portBound (s : State) (p : Nat) : Bool := s.ctxs.any (fun c => c.2.ports.getLsbD p)

/-- What a write of HPT_PORT_CFG may not set is dropped with a Note (R63, R65); then ENABLE acts. `old` and `v` are the
register before the write and as the access types leave it; each is judged on the other as written. -/
def portCfgWritten (p : Nat) (old v : Nat) (s : State) : State :=
  let b := hptBase p
  let e := p / 2 * 2
  let cfg (x : Nat) (f : Fld) : Bool := s.flag (hptBase x) f
  let setsCtl := bitAt v 9 && !bitAt old 9
  let others := (s.portList.filter (fun x => x ≠ p && cfg x HPT_PORT_CFG_CTLFN)).length
  let badCtl := setsCtl && (decide (2 ≤ others) || (s.port e).bonded || (if p = e then bitAt v 8 else cfg e HPT_PORT_CFG_BOND))
  let setsBond := bitAt v 8 && !bitAt old 8
  let bonds := (s.portList.filter (fun x => x ≠ p && cfg x HPT_PORT_CFG_BOND)).length
  let badBond := setsBond && (decide (p % 2 = 1) || decide (8 ≤ bonds) || bitAt v 9 || cfg (p + 1) HPT_PORT_CFG_CTLFN ||
    s.portBound p || s.portBound (p + 1))
  let v := if badCtl then setBit v 9 false else v
  let v := if badBond then setBit v 8 false else v
  let s := s.setReg b (BitVec.ofNat 64 v)
  let s := if badCtl then noteIgnored s else s
  let s := if badBond then noteIgnored s else s
  if bitAt old 0 && !bitAt v 0 then setLtssm p 8 (dropLink p 8 s)
  else if !bitAt old 0 && s.portOn p && !s.inPerst p then setLtssm p 1 s
  else s

/-- Retrain a link from Recovery (R68). -/
def retrainPort (p : Nat) (s : State) : State := if s.linkUp p then setLtssm p 5 s else s

/-- A write of a test-loop register: ignored with a Note while the lane is in use, else the loop starts or stops and a
start clears the count (R66, R67). `fast`: the lane runs at 64 GT/s; `v` is the register as the access types leave it. -/
def loopWritten (reg errReg : Nat) (inUse fast : Bool) (old v : Nat) (s : State) : State :=
  if inUse && (v % 4 ≠ 0 || bitAt v 4) then noteIgnored s
  else
    let v := if bitsAt v 3 2 = 3 && !fast then setBits v 3 2 2 else v
    let v := if bitAt v 4 && bitAt old 4 then v else setBit v 5 false
    let s := s.setReg reg (BitVec.ofNat 64 v)
    if bitAt v 4 && !bitAt old 4 then s.setReg errReg 0 else s

/-- The effect of a write of HPT_LOOP_CTL. -/
def portLoopWritten (p : Nat) (old v : Nat) (s : State) : State :=
  let b := hptBase p
  let en := s.flag b HPT_PORT_CFG_ENABLE
  let s := loopWritten (b + 0x10) (b + 0x14) en (decide (5 ≤ s.get b HPT_PORT_CFG_TGT_SPEED)) old v s
  if en then s else setLtssm p (if s.flag b HPT_LOOP_CTL_RUN then 7 else 8) s

/-- LOOP_PARTNER_TIMEOUT (R67). -/
def execLoopPartnerTimeout (p : Nat) (s : State) : Host.Outcome State Fault Refusal :=
  let b := hptBase p
  if s.get b HPT_LOOP_CTL_MODE = 3 && s.flag b HPT_LOOP_CTL_RUN && !s.flag b HPT_LOOP_CTL_LOCK then
    .next (raiseOpen (portSource p) 4 (s.putFlag b HPT_ERR_STATUS_LOOP_FAIL true))
  else .next s

/-- PRBS_CHECKER_LOCK (R67): LOCK changes; errors count while it is 1. -/
def execPrbsCheckerLock (p : Nat) (lock : Bool) (errors : Nat) (s : State) : Host.Outcome State Fault Refusal :=
  let b := hptBase p
  if s.flag b HPT_LOOP_CTL_RUN then
    let counts := lock || s.flag b HPT_LOOP_CTL_LOCK
    let s := s.putFlag b HPT_LOOP_CTL_LOCK lock
    .next (if counts then s.put b HPT_LOOP_ERR_COUNT (satAdd 0xFFFFFFFF (s.get b HPT_LOOP_ERR_COUNT) errors) else s)
  else .next s

/-- FLIT_REPLAY_LIMIT (R68). -/
def execFlitReplayLimit (p : Nat) (s : State) : Host.Outcome State Fault Refusal :=
  if s.linkUp p then
    .next (raiseOpen (portSource p) 2 (retrainPort p (s.putFlag (hptBase p) HPT_ERR_STATUS_REPLAY_LIMIT true)))
  else .next s

end Sys2Proof.Machine
end

