-- ==== Sys2Proof/Machine/Sluice.lean ====
section
/-! DEFINITION. The sluices (chapters 10 and 11): rings, descriptor checks, the start and completion of descriptors, and
the order between them (R78, R247, R257). -/

namespace Sys2Proof.Machine

/-! ### The sluices -/

/-- The sluice of a tier runs. -/
def State.sluiceUp (s : State) (t : Nat) : Bool :=
  t < s.nTiers && (s.tier t).power ≤ 1 && !(s.tier t).portReset && !(s.tier t).engReset && !s.reacting

/-- Operand bytes each opcode's table names, as (first, last) pairs; none where the opcode is undefined (R251). -/
def opcodeBytes (op : Nat) : Option (List (Nat × Nat)) :=
  match op with
  | 0x0000 => some [] | 0x0001 => some [(8, 47)] | 0x0002 => some [(8, 9)] | 0x0003 => some [(8, 10), (12, 25)]
  | 0x0F00 => some [(8, 8)]
  | 0x0100 => some [(8, 23)] | 0x0101 => some [(8, 13)] | 0x0102 => some [(8, 11)] | 0x0103 => some [(8, 11)]
  | 0x0104 => some [(8, 11)] | 0x0105 => some [(8, 11)] | 0x0106 => some [(8, 11)] | 0x0107 => some [(8, 11), (16, 23)]
  | 0x0200 => some [(8, 27)] | 0x0201 => some [(8, 15), (20, 23)] | 0x0202 => some [(8, 19), (24, 27)]
  | 0x0203 => some [(8, 15), (20, 31)]
  | 0x0300 => some [(8, 9)] | 0x0301 => some [(8, 9)]
  | 0x0400 => some [(8, 21)] | 0x0401 => some [(8, 8), (16, 23)] | 0x0402 => some [(8, 12)]
  | 0x0500 => some [(8, 9), (12, 43)] | 0x0501 => some [(8, 27)] | 0x0502 => some [(8, 53)]
  | 0x0503 => some [(8, 10), (12, 39)] | 0x0504 => some [(8, 19)] | 0x0505 => some [(8, 19)] | 0x0506 => some [(8, 23)]
  | 0x0600 => some [(8, 12), (16, 31)] | 0x0601 => some [(8, 11), (16, 23)] | 0x0602 => some [(8, 11)]
  | 0x0700 => some [(8, 9), (16, 23)] | 0x0701 => some [(8, 11)]
  | 0x0800 => some [(8, 9)] | 0x0801 => some [(8, 8)] | 0x0802 => some [(8, 10)]
  | 0x0900 => some [(8, 13)] | 0x0901 => some [(12, 12)] | 0x0902 => some [(12, 13), (16, 19)] | 0x0903 => some [(8, 11)]
  | 0x0904 => some [(12, 12)]
  | 0x0A00 => some [(8, 23)] | 0x0A01 => some [(8, 8)] | 0x0A02 => some []
  | _ => none

/-- FLAGS bit 2 is defined for SCRUB_RANGE and FW_STAGE (Tables CMD-6 and CMD-9). -/
def flagsOk (b : BitVec 512) : Bool :=
  let f := descField b 2 1
  f / 8 = 0 && (f / 4 % 2 = 0 || descOp b = 0x0503 || descOp b = 0x0A00)

/-- Every operand byte the opcode's table does not name is 0 (R252). -/
def reservedOk (b : BitVec 512) (named : List (Nat × Nat)) : Bool :=
  ((upto 52).map (· + 8)).all (fun i =>
    named.any (fun r => decide (r.1 ≤ i) && decide (i ≤ r.2)) || decide (descField b i 1 = 0))

/-- A selector with a row of its own per value is in range: RING_MODIFY's ACTION and CTX_BIND_PORT's OP. -/
def selectorOk (b : BitVec 512) : Bool :=
  match descOp b with
  | 0x0003 => descField b 10 1 ≤ 3
  | 0x0101 => descField b 13 1 ≤ 1
  | _ => true

/-- Opcodes a tenant ring accepts (R233). -/
def tenantOpcode (op : Nat) : Bool := op / 256 = 5 || op = 0x0600 || op = 0 || op = 0x0F00

/-- The contexts a tenant descriptor names. -/
def namedContexts (b : BitVec 512) : List Nat :=
  match descOp b with
  | 0x0500 => (if descField b 8 1 = 0 then [descField b 12 4] else []) ++
              (if descField b 9 1 = 0 then [descField b 16 4] else [])
  | 0x0503 => if descField b 8 1 = 0 then [descField b 12 4] else []
  | 0x0501 => [descField b 8 4] | 0x0502 => [descField b 8 4] | 0x0504 => [descField b 8 4]
  | 0x0505 => [descField b 8 4] | 0x0506 => [descField b 8 4]
  | _ => []

/-- An own context of a tenant ring (R233). -/
def State.ownContext (s : State) (r : Ring) (c : Nat) : Bool :=
  c < 2 ^ 18 && (s.ctx c).account = r.account && (s.ctx c).ports.getLsbD r.dmaPort

/-- The check value of a descriptor in its slot (R237). -/
def descCheck (ring index : Nat) (b : BitVec 512) : Nat :=
  crc32c (leBytes 4 (ring + index * 2 ^ 16) ++ leBytes 60 b.toNat)

/-- Steps 3 to 6 of Table SLU-3: the status of a descriptor that fails, none when it goes on to execution. -/
def State.checkOpcode (s : State) (r : Ring) (b : BitVec 512) : Option Nat :=
  match opcodeBytes (descOp b) with
  | none => some 0x01
  | some named =>
    if r.tenant && !tenantOpcode (descOp b) then some 0x08
    else if !(flagsOk b && reservedOk b named && selectorOk b) then some 0x02
    else if r.tenant && !(namedContexts b).all (fun c => s.ownContext r c) then some 0x08
    else none

/-! ### Start (R78, R247, R249, R257) -/

/-- The context an opcode changes, for R78. -/
def changes (b : BitVec 512) : Option Nat :=
  let op := descOp b
  if (0x0100 ≤ op && op ≤ 0x0106) || (0x0200 ≤ op && op ≤ 0x0202) || op = 0x0402 then some (descField b 8 4) else none

/-- A started descriptor counts as executing on its context; an EXT_MIGRATE only in its start and switch (R78). -/
def State.executing (s : State) (f : Fetched) : Bool :=
  f.running && (descOp f.bytes ≠ 0x0202 ||
    s.commits.any (fun c => c.1 = some f.ref) || s.migrations.any (fun m => m.desc = f.ref && decide (m.phase = .switching)))

/-- A descriptor or the internal freeze executes on context `c`. -/
def State.ctxBusy (s : State) (c : Nat) : Bool :=
  s.fetched.any (fun f => changes f.bytes = some c && s.executing f) ||
  s.commits.any (fun x => x.2 = .faultFreeze c)

/-- The fence's scope holds a descriptor: 0 its ring, 1 its sluice (R257). -/
def inScope (fence f : Fetched) : Bool :=
  if descField fence.bytes 8 1 = 0 then fence.ref.ring = f.ref.ring else fence.tier = f.tier

/-- Completions of a fence's scope still to be written. -/
def State.scopeCpls (s : State) (fence : Fetched) : Nat :=
  (s.cplQ.filter (fun c => if descField fence.bytes 8 1 = 0 then c.ring = fence.ref.ring
    else (s.ring c.ring).tier = fence.tier)).length

/-- The descriptor `f` may start, with `before` the descriptors fetched before it that are still in a buffer. -/
def State.mayStart (s : State) (f : Fetched) (before : List Fetched) : Bool :=
  s.sluiceUp f.tier && !f.running &&
  before.all (fun e => e.ref.ring ≠ f.ref.ring || e.running) &&
  before.all (fun e => !(descOp e.bytes = 0x0F00 && inScope e f)) &&
  (descOp f.bytes ≠ 0x0F00 || (before.all (fun e => !inScope f e) && s.scopeCpls f = 0)) &&
  (s.fetched.filter (fun e => e.tier = f.tier && e.running)).length < 64 &&
  (match changes f.bytes with
   | none => true
   | some c => !s.ctxBusy c && before.all (fun e => changes e.bytes ≠ some c || e.running) && !s.flt.freezes.contains c)

/-- The fetched descriptor `d`, when its bytes hold the opcode and exactly these operands (first byte, length, value)
and it may start. -/
def State.ready (s : State) (d : DescRef) (op : Nat) (operands : List (Nat × Nat × Nat)) : Option Fetched :=
  match s.fetchedOf d with
  | none => none
  | some f =>
    if descOp f.bytes = op && operands.all (fun o => descField f.bytes o.1 o.2.1 = o.2.2) &&
        s.mayStart f (s.fetched.takeWhile (fun e => e.ref ≠ d)) then some f else none

/-- Execute a descriptor that is ready; one that is not stays as it is. -/
def onReady (d : DescRef) (op : Nat) (operands : List (Nat × Nat × Nat)) (body : Fetched → State → State) (s : State) :
    Host.Outcome State Fault Refusal :=
  match s.ready d op operands with
  | none => .next s
  | some f => .next (body f s)

end Sys2Proof.Machine
end

