-- ==== Sys2Proof/Machine/Rings.lean ====
section
/-! DEFINITION. The commands of rings (chapter 10, Table CMD-3): ring descriptors, NOP and FENCE, doorbells, fetch,
completion, interrupts, ring errors, page grants and the admin ring. -/

namespace Sys2Proof.Machine

/-! ### Ring life -/

/-- Descriptors fetched and not completed, and completions written and not consumed (R245). -/
def State.ringLoad (s : State) (r : Nat) : Nat :=
  let g := s.ring r
  (s.fetched.filter (fun f => f.ref.ring = r)).length + (s.cplQ.filter (fun c => c.ring = r)).length +
    (g.cqWrite + g.n - g.cqHead) % g.n

/-- A ring that leaves becomes ABSENT once its fetched descriptors have completed, and the RING_DELETE completes
(R248). -/
def settleRing (r : Nat) (s : State) : State :=
  let g := s.ring r
  if g.leaving && !s.fetched.any (fun f => f.ref.ring = r) && !s.cplQ.any (fun c => c.ring = r) then
    let s := s.setRing r {}
    match g.leaveDesc with
    | some d => complete d 0 0 s
    | none => s
  else s

/-- The page grant of a doorbell page: port and slot (R244). -/
def State.grant (s : State) (page : Nat) : Option (Nat × Nat) :=
  let b := sluBase + 4 * page
  if 1 ≤ page && page ≤ 127 && s.flag b SLU_DB_GRANT_VALID then
    some (s.get b SLU_DB_GRANT_PORT, s.get b SLU_DB_GRANT_SLOT)
  else none

/-- RING_CREATE's ranges that need no table (R234, R235, R246, Table SLU-6). -/
def ringRanges (ring ttype log2n prio vector dbase cbase pollAddr coalTime pollUs : Nat) : Bool :=
  let kind := ttype % 4
  let n := 2 ^ log2n
  1 ≤ ring && (kind = 1 || kind = 2) && ttype < 32 && 6 ≤ log2n && log2n ≤ 16 && prio ≤ 3 && coalTime ≤ 1023 &&
  (if kind = 2 then 6 ≤ vector && vector ≤ 63 else vector ≤ 2047) &&
  dbase % 4096 = 0 && cbase % 4096 = 0 && (dbase + 64 * n ≤ cbase || cbase + 16 * n ≤ dbase) &&
  (ttype / 4 % 2 = 0 || (1 ≤ pollUs && pollUs ≤ 1000 && pollAddr % 8 = 0))

/-- RING_CREATE's checks against the tables: the DMA port and the page grants (R234, R244, Table SLU-6). -/
def State.ringPlaceOk (s : State) (ring ttype dmaPort : Nat) : Bool :=
  if ttype % 4 = 2 then
    dmaPort < 12 * s.nTiers && (match s.grant (ring / 512) with
      | some g => g.1 = dmaPort
      | none => ttype / 4 % 2 = 1)
  else s.controlPorts.contains dmaPort && s.grant (ring / 512) = none

/-- NOP. -/
def execNop (d : DescRef) (s : State) : Host.Outcome State Fault Refusal :=
  onReady d 0x0000 [] (fun _ s => complete d 0 s.us s) s

/-- RING_CREATE (R234, R235, R243, R244, R248). -/
def execRingCreate (d : DescRef) (ring ttype log2n dmaPort prio vector dbase cbase pollAddr account coalCount startSeq
    coalTime pollUs : Nat) (s : State) : Host.Outcome State Fault Refusal :=
  onReady d 0x0001 [(8, 2, ring), (10, 1, ttype), (11, 1, log2n), (12, 1, dmaPort), (13, 1, prio), (14, 2, vector),
      (16, 8, dbase), (24, 8, cbase), (32, 8, pollAddr), (40, 2, account), (42, 1, coalCount), (43, 1, startSeq),
      (44, 2, coalTime), (46, 2, pollUs)] (fun _ s =>
    let polled := decide (ttype / 4 % 2 = 1)
    let t := portTier dmaPort
    if !ringRanges ring ttype log2n prio vector dbase cbase pollAddr coalTime pollUs then complete d 0x02 0 s
    else if !s.ringPlaceOk ring ttype dmaPort then complete d 0x02 0 s
    else if (s.ring ring).state ≠ .absent then complete d 0x0D 0 s
    else if polled && 1024 ≤ (s.rings.filter (fun r => r.2.polled && r.2.tier = t)).length then complete d 0x06 0 s
    else
      let g : Ring :=
        { state := .running, tenant := decide (ttype % 4 = 2), account := account, log2n := log2n, dmaPort := dmaPort
          prio := prio, vector := vector, intEn := decide (ttype / 16 % 2 = 1), chkEn := decide (ttype / 8 % 2 = 1)
          polled := polled, pollAddr := pollAddr, pollUs := pollUs, polledAt := s.us, coalCount := coalCount
          coalTime := coalTime, dbase := dbase, cbase := cbase, expSeq := startSeq }
      complete d 0 0 (s.setRing ring g)) s

/-- RING_DELETE (R248). -/
def execRingDelete (d : DescRef) (ring : Nat) (s : State) : Host.Outcome State Fault Refusal :=
  onReady d 0x0002 [(8, 2, ring)] (fun _ s =>
    if ring = 0 ∨ ring = d.ring then complete d 0x02 0 s
    else if (s.ring ring).state = .absent ∨ (s.ring ring).leaving then complete d 0x05 0 s
    else
      settleRing ring ((startDesc d s).setRing ring { s.ring ring with leaving := true, leaveDesc := some d })) s

/-- The operands every RING_MODIFY carries (Table CMD-3). -/
def modifyOperands (action ring mask newCi newSeq prio vector intEn coalCount coalTime pollUs : Nat) :
    List (Nat × Nat × Nat) :=
  [(8, 2, ring), (10, 1, action), (12, 2, mask), (14, 2, newCi), (16, 1, newSeq), (17, 1, prio), (18, 2, vector),
   (20, 1, intEn), (21, 1, coalCount), (22, 2, coalTime), (24, 2, pollUs)]

/-- RING_MODIFY's ranges that need no table (R248, R256): ring 0 is only stopped or resynchronised. -/
def modifyRanges (action ring mask prio intEn coalTime pollUs : Nat) : Bool :=
  mask < 64 && !(ring = 0 && (mask ≠ 0 || action = 0 || action = 2)) && (!bitAt mask 0 || prio ≤ 3) &&
  (!bitAt mask 2 || intEn ≤ 1) && (!bitAt mask 4 || coalTime ≤ 1023) &&
  (!bitAt mask 5 || (1 ≤ pollUs && pollUs ≤ 1000))

/-- Apply RING_MODIFY's masked settings to a ring (R256). -/
def Ring.modified (g : Ring) (mask prio vector intEn coalCount coalTime pollUs : Nat) : Ring :=
  { g with
    prio := if bitAt mask 0 then prio else g.prio
    vector := if bitAt mask 1 then vector else g.vector
    intEn := if bitAt mask 2 then decide (intEn = 1) else g.intEn
    coalCount := if bitAt mask 3 then coalCount else g.coalCount
    coalTime := if bitAt mask 4 then coalTime else g.coalTime
    pollUs := if bitAt mask 5 then pollUs else g.pollUs }

/-- The common course of RING_MODIFY: ranges, the ring's state, checks against the ring, then settings and action at one
point (R253, R256, Table SLU-5). -/
def ringModify (d : DescRef) (action ring mask newCi prio vector intEn coalCount coalTime pollUs : Nat)
    (legal : RingState → Bool) (act : Ring → Ring) (s : State) : State :=
  let g := s.ring ring
  if !modifyRanges action ring mask prio intEn coalTime pollUs then complete d 0x02 0 s
  else if g.state = .absent || !legal g.state then complete d 0x05 0 s
  else if (bitAt mask 1 && !(if g.tenant then 6 ≤ vector && vector ≤ 63 else vector ≤ 2047)) ||
      (action = 3 && g.n ≤ newCi) then complete d 0x02 0 s
  else complete d 0 0 (s.setRing ring (act (g.modified mask prio vector intEn coalCount coalTime pollUs)))

/-- RING_MODIFY, stop: a ring in ERROR stays there (Table SLU-5). -/
def execRingModifyStop (d : DescRef) (ring mask newCi newSeq prio vector intEn coalCount coalTime pollUs : Nat)
    (s : State) : Host.Outcome State Fault Refusal :=
  onReady d 0x0003 (modifyOperands 1 ring mask newCi newSeq prio vector intEn coalCount coalTime pollUs) (fun _ s =>
    ringModify d 1 ring mask newCi prio vector intEn coalCount coalTime pollUs (fun _ => true)
      (fun g => if g.state = .running then { g with state := .stopped, cause := 2 } else g) s) s

/-- RING_MODIFY, start. -/
def execRingModifyStart (d : DescRef) (ring mask newCi newSeq prio vector intEn coalCount coalTime pollUs : Nat)
    (s : State) : Host.Outcome State Fault Refusal :=
  onReady d 0x0003 (modifyOperands 2 ring mask newCi newSeq prio vector intEn coalCount coalTime pollUs) (fun _ s =>
    ringModify d 2 ring mask newCi prio vector intEn coalCount coalTime pollUs (fun st => st ≠ .error)
      (fun g => { g with state := .running }) s) s

/-- RING_MODIFY with RESYNC: the completion ring keeps its position and phase (R240). -/
def execRingModifyResync (d : DescRef) (ring mask newCi newSeq prio vector intEn coalCount coalTime pollUs : Nat)
    (s : State) : Host.Outcome State Fault Refusal :=
  onReady d 0x0003 (modifyOperands 3 ring mask newCi newSeq prio vector intEn coalCount coalTime pollUs) (fun _ s =>
    ringModify d 3 ring mask newCi prio vector intEn coalCount coalTime pollUs (fun st => st ≠ .running)
      (fun g => { g with state := .running, ci := newCi, expSeq := newSeq % 256 }) s) s

/-- RING_MODIFY, settings only. -/
def execRingModifyAttributes (d : DescRef) (ring mask newCi newSeq prio vector intEn coalCount coalTime pollUs : Nat)
    (s : State) : Host.Outcome State Fault Refusal :=
  onReady d 0x0003 (modifyOperands 0 ring mask newCi newSeq prio vector intEn coalCount coalTime pollUs) (fun _ s =>
    ringModify d 0 ring mask newCi prio vector intEn coalCount coalTime pollUs (fun _ => true) (fun g => g) s) s

/-- FENCE (R257): it starts once every earlier descriptor of its scope has completed, and completes at once. -/
def execFence (d : DescRef) (scope : Nat) (s : State) : Host.Outcome State Fault Refusal :=
  onReady d 0x0F00 [(8, 1, scope)] (fun f s =>
    if 1 < scope then complete d 0x02 0 s
    else if scope = 1 && (s.ring d.ring).tenant then complete d 0x08 0 s
    else complete d 0 f.waited s) s

/-! ### Doorbells (R241-R244) -/

/-- The ring of a doorbell slot, through the control function or a port's function 0 (R241). -/
def State.doorbellRing (s : State) (port fn offset : Nat) : Option Nat :=
  if fn = 1 then (if (s.port port).ctlfn && offset < 65536 * 8 then some (offset / 8) else none)
  else if fn = 0 && offset < 16 * 0x1000 then
    ((upto 127).map (· + 1)).find? (fun p => s.grant p = some (port, offset / 0x1000)) |>.map
      (fun p => p * 512 + offset % 0x1000 / 8)
  else none

/-- A doorbell the rules reject: DB_ERR and a Note (R241). -/
def doorbellErr (t : Nat) (s : State) : State := raiseOpen (sluSource t) 2 (sluStatus 0 s)

/-- Record PI and CQ_HEAD of a ring; a new index wakes its tier. -/
def recordIndices (r pi head : Nat) (s : State) : State :=
  let g := s.ring r
  s.setRing r { g with pi := pi, cqHead := head }

/-- DOORBELL_WRITE (R241): aligned 8-byte writes, and 4-byte writes to either half. -/
def execDoorbellWrite (port fn offset size : Nat) (value : BitVec 64) (s : State) : Host.Outcome State Fault Refusal :=
  if !s.linkUp port || s.reacting || !((size = 8 && offset % 8 = 0) || (size = 4 && offset % 4 = 0)) then .next s
  else match s.doorbellRing port fn offset with
    | none => .next s
    | some r =>
      let g := s.ring r
      let v := value.toNat
      let low := size = 8 || offset % 8 = 0
      let pi := if low then v % 65536 else g.pi
      let head := if size = 8 then v / 2 ^ 32 % 65536 else if low then g.cqHead else v % 65536
      if g.state = .absent || g.polled || g.n ≤ pi || g.n ≤ head then .next (doorbellErr (portTier port) s)
      else .next (wakeTier g.tier (recordIndices r pi head s))

/-- DOORBELL_POLL (R243): the host word of a polled ring, read every POLL_US. -/
def execDoorbellPoll (r : Nat) (value : BitVec 64) (s : State) : Host.Outcome State Fault Refusal :=
  let g := s.ring r
  let pi := value.toNat % 65536
  let head := value.toNat / 2 ^ 32 % 65536
  if g.state = .absent || !g.polled || s.us < g.polledAt + g.pollUs || s.reacting || !s.linkUp g.dmaPort then .next s
  else
    let s := s.setRing r { g with polledAt := s.us }
    if g.n ≤ pi || g.n ≤ head then .next (doorbellErr g.tier s)
    else
      let s := recordIndices r pi head s
      .next (if pi ≠ g.pi then wakeTier g.tier s else s)

/-! ### Fetch (R239, R242, R245, R249) -/

/-- Descriptors of a ring the sluice may read now in one read. -/
def State.readable (s : State) (t r : Nat) : Nat :=
  let g := s.ring r
  if g.state = .running && !g.leaving && g.tier = t && s.linkUp g.dmaPort then
    min (min 8 ((g.pi + g.n - g.ci) % g.n)) (min (g.n - g.ci)
      (min (g.n - 1 - s.ringLoad r) (256 - (s.fetched.filter (fun f => f.tier = t)).length)))
  else 0

/-- The next ring to fetch from: ring 0, then PRIO 3 to 0, round robin within one PRIO. -/
def State.chooseRing (s : State) (t : Nat) : Option Nat :=
  let ok := (s.rings.map (·.1)).filter (fun r => 0 < s.readable t r)
  if ok.contains 0 then some 0
  else
    ((upto 4).map (fun i => 3 - i)).findSome? (fun p =>
      let grp := ok.filter (fun r => (s.ring r).prio = p)
      let last := Sparse.get (fun _ => 0) s.sluiceRr (t * 4 + p)
      match grp.find? (fun r => last < r) with
      | some r => some r
      | none => grp.head?)

/-- Fetch one descriptor of a ring (R238, R239). A ring that left RUNNING at an earlier one fetches nothing further. -/
def fetchOne (t r : Nat) (b : BitVec 512) (s : State) : State :=
  let g := s.ring r
  if g.state ≠ .running then s
  else
    let idx := g.ci
    let next := (g.ci + 1) % g.n
    let adv := (g.expSeq + 1) % 256
    let cookie := descField b 4 4
    let cpl (status : Nat) (stopped : Bool) : Cpl :=
      { ring := r, index := idx, cookie := cookie, status := status, stopped := stopped, quiet := descFlag b 1 }
    if g.chkEn && descCheck r idx b ≠ descField b 60 4 then
      queueCpl (cpl 0x03 false) ((s.setRing r { g with ci := next, expSeq := adv }).count (sluBase + 0x48) 1)
    else if descField b 3 1 ≠ g.expSeq then
      queueCpl (cpl 0x04 true)
        ((s.setRing r { g with ci := next, state := .stopped, cause := 1 }).count (sluBase + 0x50) 1)
    else
      let s := s.setRing r { g with ci := next, expSeq := adv }
      match s.checkOpcode g b with
      | some st => queueCpl (cpl st false) s
      | none =>
        let f : Fetched := { ref := { ring := r, index := idx, cookie := cookie }, tier := t, bytes := b }
        let n := if descOp b = 0x0F00 then (s.fetched.filter (fun e => inScope f e)).length + s.scopeCpls f else 0
        { s with fetched := s.fetched ++ [{ f with waited := n }] }

/-- DESCRIPTOR_FETCH (R249). -/
def execDescriptorFetch (t : Nat) (descs : List (BitVec 512)) (s : State) : Host.Outcome State Fault Refusal :=
  if !s.sluiceUp t then .next s
  else match s.chooseRing t with
    | none => .next s
    | some r =>
      let p := (s.ring r).prio
      let s := if r = 0 then s else { s with sluiceRr := Sparse.set (fun _ => 0) s.sluiceRr (t * 4 + p) r }
      let s := wakeTier t s
      .next (forEach (descs.take (s.readable t r)) (fun b u => fetchOne t r b u) s)

/-! ### Completions and interrupts (R236, R245, R246) -/

/-- A completion that cannot be written (R248). -/
def dropCpl (t : Nat) (s : State) : State :=
  raiseOpen (sluSource t) 4 (sluStatus 3 (s.count (sluBase + 0x58) 1))

/-- The interrupt of a completion just written. -/
def cplInterrupt (r : Nat) (c : Cpl) (s : State) : State :=
  let g := s.ring r
  if r = 0 then s.emit (.msix g.dmaPort 1 (s.get sluBase SLU_ADMIN_CFG_VECTOR))
  else if !g.intEn then s
  else if c.stopped then (s.setRing r { g with counted := 0 }).emit (.msix g.dmaPort g.fn g.vector)
  else if c.quiet then s
  else if max 1 g.coalCount ≤ g.counted + 1 then
    (s.setRing r { g with counted := 0 }).emit (.msix g.dmaPort g.fn g.vector)
  else s.setRing r { g with counted := g.counted + 1, since := if g.counted = 0 then s.us else g.since }

/-- Write a completion entry with its phase (Table SLU-2). -/
def writeCpl (r : Nat) (c : Cpl) (s : State) : State :=
  let g := s.ring r
  let w0 := c.cookie % 2 ^ 32 + c.status * 2 ^ 32 + (ofBool g.phase + 2 * ofBool c.stopped) * 2 ^ 40 + c.index * 2 ^ 48
  let s := s.emit (.dmaWrite g.dmaPort (g.cbase + 16 * g.cqWrite) [BitVec.ofNat 64 w0, BitVec.ofNat 64 c.result])
  let wrap := decide (g.cqWrite + 1 = g.n)
  let s := s.setRing r { g with cqWrite := if wrap then 0 else g.cqWrite + 1, phase := if wrap then !g.phase else g.phase }
  cplInterrupt r c (s.count (sluBase + 0x40) 1)

/-- COMPLETION_WRITE (R236, R248): the oldest completion of a ring; in ERROR only that of a failed read can still be
written. -/
def execCompletionWrite (r : Nat) (s : State) : Host.Outcome State Fault Refusal :=
  match s.cplQ.find? (fun c => c.ring = r) with
  | none => .next s
  | some c =>
    let g := s.ring r
    let s := { s with cplQ := s.cplQ.erase c }
    let writable := match g.state with
      | .absent => false
      | .error => c.stopped && c.status = 0x0A && g.cause = 3 && s.linkUp g.dmaPort
      | _ => true
    .next (settleRing r (if writable then writeCpl r c s else dropCpl g.tier s))

/-- COALESCE_TIMER_EXPIRY (R246). -/
def execCoalesceTimerExpiry (r : Nat) (s : State) : Host.Outcome State Fault Refusal :=
  let g := s.ring r
  if r ≠ 0 ∧ g.state ≠ .absent ∧ g.intEn = true ∧ g.counted ≠ 0 ∧ g.coalTime ≠ 0 ∧ g.since + g.coalTime ≤ s.us then
    .next ((s.setRing r { g with counted := 0 }).emit (.msix g.dmaPort g.fn g.vector))
  else .next s

/-! ### Ring errors (Table SLU-5) -/

/-- RING_DMA_ERROR: a descriptor read or a completion write failed. The descriptor that could not be read completes
without a cookie; the completion that could not be written is dropped. -/
def execRingDmaError (r : Nat) (write : Bool) (s : State) : Host.Outcome State Fault Refusal :=
  let g := s.ring r
  if g.state = .absent then .next s
  else
    let s1 := s.setRing r { g with state := .error, cause := if write then 4 else 3 }
    let s1 := if g.state = .running then raiseOpen (sluSource g.tier) 3 (sluStatus 2 s1) else s1
    if write then
      match s.cplQ.find? (fun c => c.ring = r) with
      | some c => .next (settleRing r (dropCpl g.tier { s1 with cplQ := s1.cplQ.erase c }))
      | none => .next s1
    else if 0 < s.readable g.tier r then
      .next (queueCpl { ring := r, index := g.ci, status := 0x0A, stopped := true } s1)
    else .next s1

/-- RING_DMA_PORT_LOST: link down, PERST_N, hot or function reset, or Bus Master Enable cleared on the DMA port. -/
def execRingDmaPortLost (r : Nat) (busMasterCleared functionReset : Bool) (s : State) : Host.Outcome State Fault Refusal :=
  let g := s.ring r
  if g.state ≠ .absent && (!s.linkUp g.dmaPort || s.inPerst g.dmaPort || busMasterCleared || functionReset) then
    .next (s.setRing r { g with state := .error, cause := 5 })
  else .next s

/-! ### Page grants and the admin ring (R240, R244, R250) -/

/-- A write to SLU_DB_GRANTp. -/
def grantWritten (page : Nat) (v : BitVec 32) (s : State) : State :=
  let port := v.toNat / 16 % 128
  let slot := v.toNat % 16
  let o := sluBase + 0x400 + 4 * page
  let store := s.setReg o (BitVec.ofNat 64 (v.toNat % 2 ^ 11 + v.toNat / 2 ^ 31 % 2 * 2 ^ 31))
  if page = 0 ∨ 127 < page then s
  else if v.toNat / 2 ^ 31 % 2 = 0 then store
  else
    let clash := ((upto 127).map (· + 1)).any (fun q => decide (q ≠ page) && s.grant q = some (port, slot))
    let foreign := s.rings.any (fun r => decide (r.1 / 512 = page) && decide (r.2.state ≠ .absent) &&
      !(r.2.tenant && r.2.dmaPort = port))
    if clash || foreign then
      raiseOpen (sluSource (if portTier port < s.nTiers then portTier port else 0)) 2 (sluStatus 1 s)
    else store

/-- A write to SLU_ADMIN_CFG: while ENABLE = 1 only ENABLE and VECTOR are written. -/
def adminCfgWritten (v : BitVec 32) (s : State) : State :=
  let was := s.flag sluBase SLU_ADMIN_CFG_ENABLE
  let on := decide (v.toNat / 2 ^ 31 % 2 = 1)
  let s := if was then
      (s.putFlag sluBase SLU_ADMIN_CFG_ENABLE on).put sluBase SLU_ADMIN_CFG_VECTOR (v.toNat / 2 ^ 7 % 2 ^ 11)
    else s.setReg sluBase (BitVec.ofNat 64 (v.toNat / 2 ^ 7 * 2 ^ 7))
  if on && !was then
    s.setRing 0
      { state := .running, log2n := min 16 (max 6 (s.get sluBase SLU_ADMIN_CFG_LOG2N))
        dmaPort := s.get sluBase SLU_ADMIN_CFG_DMA_PORT, chkEn := s.flag sluBase SLU_ADMIN_CFG_CHK_EN
        dbase := (s.reg (sluBase + 8)).toNat / 4096 * 4096, cbase := (s.reg (sluBase + 0x10)).toNat / 4096 * 4096 }
  else if was && !on then settleRing 0 (s.setRing 0 { s.ring 0 with leaving := true })
  else s

end Sys2Proof.Machine
end

