-- ==== Sys2Proof/Machine/JetMem.lean ====
section
/-! DEFINITION. How jets reach memory: reads and writes of lines of extents of this package and of other packages
(R85, R109, R157, R158, R265, R279). -/

namespace Sys2Proof.Machine

/-- The package of a PEN. -/
def penPkg (pen : Nat) : Nat := pen / 2 ^ 23
def penTier (pen : Nat) : Nat := pen / 2 ^ 20 % 8
def penExt (pen : Nat) : Nat := pen % 2 ^ 20

/-- A jet's access to byte `o` of an extent of this package for context `c`. -/
def State.jetAcc (s : State) (c pen o dpa : Nat) : Acc :=
  let x := s.ctx c
  { t := penTier pen, off := penExt pen * 2 ^ 21 + o, ctx := c, key := x.keyId, cls := x.cls, integ := x.integrity
    noalloc := x.noalloc, wthru := x.wthru, dpa := dpa, force := true, psrc := 2 }

/-- Read a line through the line cache without allocating (R109). -/
def jetRead (a : Acc) (s0 : State) : State × RdOut :=
  match (if a.noalloc then (s0, Lookup.miss) else lookup a .read s0) with
  | (s, .hit _ l _) => (s, .data l false)
  | (s, .poisoned) => (s, .poison)
  | (s, .victim l) => (s, .data l false)
  | (s, .miss) => readCistern a .read s

/-- Write a whole line to a page, filling the page first when it has never been written (R85, R279); `none` writes the
poison marker. -/
def jetWrite (a : Acc) (l : Option Line) (s : State) : State :=
  let data := l.getD 0
  if s.pageValid a.t a.off then (localWrite a data l.isNone s).1
  else (pageFill a data (BitVec.allOnes 64) l.isNone s).1

/-- Send a jet's line to the package that owns its extent; the descriptor's task waits for its completion. -/
def jetSend (d : DescRef) (c pen o : Nat) (l : Option Line) (s : State) : State :=
  let x := s.ctx c
  let m : AqMsg :=
    { msg := 2, pa := pen * 2 ^ 21 + o, cls := x.cls, key := x.keyId, ctx := c, integrity := x.integrity
      poison := l.isNone, data := l.getD 0, be := BitVec.allOnes 64, rpkg := s.pkg, txid := s.nextTxid }
  match sendToward (penPkg pen) m s with
  | (s, false) => s
  | (s, true) =>
    let w : Outstanding :=
      { txid := s.nextTxid, read := false, ctx := c, cls := x.cls, dest := penPkg pen, sentAt := s.us
        internal := true, task := some d }
    { s with remote := s.remote ++ [w], nextTxid := (s.nextTxid + 1) % 65536 }

/-- An extent can be reached for a jet of tier `t`: its tier answers and is not held, or a route leads to its
package. -/
def State.penReachable (s : State) (t pen : Nat) : Bool :=
  if penPkg pen = s.pkg then s.reaches t (penTier pen) && !(s.tier (penTier pen)).portReset && !(s.tier (penTier pen)).engReset
  else (s.route (penPkg pen)).isSome

/-- A line of a REMOTE extent as its owner's answer carries it (assumption log entry 2): by line number within the
extent; what the answer does not list is zeros. `none` is poison. -/
def remoteLine (answer : List (Nat × Option Line)) (i : Nat) : Option Line :=
  match answer.find? (fun e => e.1 = i) with
  | some e => e.2
  | none => some 0

/-- Count bytes that jets of a tier wrote. -/
def jetMoved (t n : Nat) (s : State) : State := s.count (jetBase t + 0x50) n

/-- The first poisoned source line of a migration or COPY raises one Contained event (R157). -/
def poisonedSource (t c : Nat) (noted : Bool) (s : State) : State := if noted then s else raiseCtx (tierSource t 41) 3 c s

/-- A valid-map line is cleared whole and the extent's poison-list entries removed (R86, R87, R159). -/
def clearValid (t e : Nat) (s : State) : State :=
  unlistExtent t (s.pkg * 2 ^ 23 + t * 2 ^ 20 + e) (s.setValidLine t e {})

/-- Withhold an extent: its allocation bit stays 1 (R331). The configuration store records up to 2,048 of a tier; one more
is withheld only until power-on. -/
def withhold (t e : Nat) (s : State) : State :=
  let zero : Nat → Nat := fun _ => 0
  let full := decide (2048 ≤ (s.badExt.filter (fun x => x.1 / 2 ^ 20 = t && x.2 = 1)).length)
  let s := { s.setAlloc t e true with badExt := Sparse.set zero s.badExt (tierExt t e) (if full then 3 else 1) }
  if full then raiseOpen (tierSource t 43) 3 (s.putFlag (bsnBase t 0) BSN_REPAIR_STATUS_WITHHELD_FULL true) else s

/-- Return an extent's allocation bit to 0; an extent that is to be withheld keeps it (R331). -/
def freeExtent (t e : Nat) (s : State) : State :=
  if Sparse.get (fun _ => 0) s.badExt (tierExt t e) = 0 then s.setAlloc t e false else withhold t e s

/-- Extents of a tier that can be mapped end here: the tag base, or the top of populated capacity (R330). -/
def State.extTop (s : State) (t : Nat) : Nat :=
  if s.tagBase t = 0 then (s.tier t).cap / 2 ^ 21 else s.tagBase t / 2 ^ 21

end Sys2Proof.Machine
end

