-- ==== Sys2Proof/Machine/Contexts.lean ====
section
/-! DEFINITION. Contexts, extents and commit points (chapters 01, 03 and 11, Table CTX-5): what each change does at its
commit point, and what follows once the requests under the old entry have left. -/

namespace Sys2Proof.Machine

/-! ### Extent time (R219) -/

/-- A context accrues extent time in BUILDING, LIVE, DRAINING and FROZEN. -/
def CtxState.accrues : CtxState → Bool
  | .building => true | .live => true | .draining => true | .frozen => true | _ => false

/-- Bring a context's extent-microsecond accumulator up to date. -/
def accrue (c : Nat) (s : State) : State :=
  let x := s.ctx c
  let zero : Nat → Nat := fun _ => 0
  let acc := Sparse.get zero s.extAcc c
  let span := s.us - Sparse.get zero s.extAt c
  let s := if x.state.accrues then { s with extAcc := Sparse.set zero s.extAcc c (acc + x.extCount * span) } else s
  { s with extAt := Sparse.set zero s.extAt c s.us }

/-- CTX_CREATE commits in the open tick (Table MTR-2). -/
def noteCreated (c : Nat) (s : State) : State :=
  { s with meter := { s.meter with createdIn := Sparse.set (fun _ => false) s.meter.createdIn c true } }

/-- The context becomes FREE in the open tick: its account is kept for the record (R215, R217). -/
def noteReleased (c : Nat) (s : State) : State :=
  let g : Gone := { account := (s.ctx c).account, created := Sparse.get (fun _ => false) s.meter.createdIn c }
  { s with meter := { s.meter with released := Sparse.set (fun _ => none) s.meter.released c (some g) } }

/-! ### Ports, holding tiers and list copies (R71, R72) -/

/-- Ports bound to a context. -/
def Ctx.portList (x : Ctx) : List Nat := (upto 96).filter (fun p => x.ports.getLsbD p)
def Ctx.setPort (x : Ctx) (p : Nat) (b : Bool) : Ctx :=
  { x with ports := if b then x.ports ||| BitVec.ofNat 96 (2 ^ p) else x.ports &&& ~~~(BitVec.ofNat 96 (2 ^ p)) }
/-- A tier holds a copy of the context's extent list. -/
def Ctx.holds (x : Ctx) (t : Nat) : Bool := Sparse.get (fun _ => 0) x.extptr t ≠ 0

/-- Entries of a tier's extent-list region. -/
def listEntries : Nat := 1048576

/-- First fit in the extent-list region: the lowest place of a run of `len` entries. -/
def firstFit (uses : List (Nat × Nat × Nat)) (len : Nat) : Option Nat :=
  let starts := 0 :: uses.map (fun u => u.1 + u.2.1)
  let ok := starts.filter (fun a => a + len ≤ listEntries && uses.all (fun u => a + len ≤ u.1 || u.1 + u.2.1 ≤ a))
  match ok with
  | [] => none
  | a :: l => some (l.foldl min a)

/-- Claim list space for a context on a tier. -/
def claimList (t c len : Nat) (s : State) : Option (State × Nat) :=
  let uses := Sparse.get (fun _ => []) s.listUse t
  (firstFit uses len).map (fun a =>
    ({ s with listUse := Sparse.set (fun _ => []) s.listUse t (uses ++ [(a, len, c)]) }, a))

/-- Free a context's list space on a tier. -/
def freeList (t c : Nat) (s : State) : State :=
  let uses := Sparse.get (fun _ => []) s.listUse t
  { s with listUse := Sparse.set (fun _ => []) s.listUse t (uses.filter (fun u => u.2.2 ≠ c)) }

/-- Free the copies of tiers that are no longer holding tiers. -/
def dropCopies (c : Nat) (s : State) : State :=
  forEach s.tierList (fun t u =>
    let x := u.ctx c
    if x.holds t && t ≠ u.homeTier c && !x.portList.any (fun p => portTier p = t) then
      (freeList t c u).setCtx c { x with extptr := Sparse.set (fun _ => 0) x.extptr t 0 }
    else u) s

/-! ### Commit points (R21, R389, R390) -/

/-- Every tier that holds replicas can acknowledge a change made on tier `u`. -/
def State.acks (s : State) (u : Nat) : Bool :=
  s.tierList.all (fun t => (s.tier t).power = 3 || (!(s.tier t).portReset && s.reaches u t))

/-- A tier in T2 logs the replica writes; a full log is applied and begins again (R389). -/
def logReplicas (n : Nat) (s : State) : State :=
  let zero : Nat → Nat := fun _ => 0
  forEach s.tierList (fun t u =>
    if (u.tier t).power = 2 then
      let m := Sparse.get zero u.updateLog t + n
      { u with updateLog := Sparse.set zero u.updateLog t (if m ≤ 4096 then m else (m - 1) % 4096 + 1) }
    else u) s

/-- Work of a descriptor that reaches a tier in T2 wakes it (R267). -/
def wakeForWork (t : Nat) (s : State) : State :=
  if (s.tier t).power = 2 then { s with wakeReq := Sparse.set (fun _ => false) s.wakeReq t true } else s

/-- Set a context's state at a commit point. -/
def enterState (c : Nat) (st : CtxState) (s : State) : State :=
  let s := accrue c s
  s.setCtx c { s.ctx c with state := st, changed := s.us }

def completeOpt (d : Option DescRef) (result : Nat) (s : State) : State :=
  match d with
  | some d => complete d 0 result s
  | none => s

/-! ### Leaving of requests under the old entry (R22) -/

/-- Remote requests and host requests past their translation point for a context. -/
def State.under (s : State) (c : Nat) : List Nat × List (Nat × Nat) :=
  ((s.remote.filter (fun o => o.ctx = c)).map (·.txid),
   (s.held.filter (fun r => r.passed && r.remote.isNone && r.ctx = c)).map (fun r => (r.port, r.tag)))

/-- All of them have left. -/
def State.left (s : State) (txids : List Nat) (reqs : List (Nat × Nat)) : Bool :=
  txids.all (fun x => !s.remote.any (fun o => o.txid = x)) &&
  reqs.all (fun q => !s.held.any (fun r => r.passed && r.remote.isNone && decide (r.port = q.1) && decide (r.tag = q.2)))

/-- An extent returns from a lease; with its last extent the lease ends (R293). -/
def shrinkLease (num pen : Nat) (l : List Lease) : List Lease :=
  (l.map (fun x => if x.num = num then { x with returned := x.returned ++ [pen] } else x)).filter
    (fun x => x.returned.length < x.count)

/-- Removed REMOTE extents leave their leases, and their returns are queued for the manager (R92, R293). -/
def queueReturns (l : List (Nat × Nat)) (s : State) : State :=
  { s with pool := { s.pool with
      returns := s.pool.returns ++ l
      leasesHeld := l.foldl (fun h r => shrinkLease r.1 r.2 h) s.pool.leasesHeld } }

/-- The manager answers: this package is a manager with quorum, or a member that hears one (R268, R296). -/
def State.managerUp (s : State) : Bool :=
  match s.get rilBase RIL_STATUS_ROLE with
  | 0 => false
  | 3 => s.flag rilBase RIL_STATUS_QUORUM && !s.pool.handover && !s.pool.rebuilding
  | _ => (Sparse.get (fun _ => {}) s.pool.members (s.get rilBase RIL_STATUS_MGR) : Member).current

/-- `n` more lease returns fit: the manager takes them, or the queue of 4,096 holds them (R92). -/
def State.returnsFit (s : State) (n : Nat) : Bool := n = 0 || s.managerUp || s.pool.returns.length + n ≤ 4096

/-- What follows once R22 is met. -/
def finishDrain (d : DescRef) (next : AfterDrain) (s : State) : State :=
  match next with
  | .finish result => complete d 0 result s
  | .clear count locals remotes =>
    let s := queueReturns remotes s
    if locals = [] then complete d 0 count s
    else
      { forEach locals (fun pen u => wakeForWork (penTier pen) u) s with
        clears := s.clears ++ locals.map (fun pen =>
          { tier := penTier pen, ext := penExt pen, desc := some d, ctx := none })
        unmaps := s.unmaps ++ [(d, count)] }

/-- A reduction of access has committed: what follows comes at once, or when the requests `u` have left. -/
def awaitDrain (d : Option DescRef) (u : List Nat × List (Nat × Nat)) (next : AfterDrain) (s : State) : State :=
  match d with
  | none => s
  | some d =>
    if s.left u.1 u.2 then finishDrain d next s
    else { s with drains := s.drains ++ [{ desc := d, txids := u.1, reqs := u.2, next := next }] }

/-! ### Migrations: early end (R89) -/

def setMigration (m : Migration) (s : State) : State :=
  { s with migrations := s.migrations.map (fun x => if x.desc = m.desc then m else x) }

/-- The tier whose jets run a migration: the source tier, or the home tier for a REMOTE source (Table JET-1). -/
def State.migTier (s : State) (m : Migration) : Nat :=
  if penPkg m.src = s.pkg then penTier m.src else s.homeTier m.ctx

/-- RESULT of EXT_MIGRATE (Table CMD-4): pages copied, passes, and the write hold in ns, which is free. -/
def migResult (m : Migration) (hold : Nat) : Nat := m.copied % 2 ^ 32 + m.passes % 256 * 2 ^ 32 + hold % 2 ^ 24 * 2 ^ 40

/-- End a migration early: MIGRATING = 0 with PEN unchanged, the destination cleared and given back, the descriptor
completes with a status. -/
def endMigration (m : Migration) (status : Nat) (s : State) : State :=
  let e := s.ext m.ctx m.index
  let x := s.ctx m.ctx
  let s := (s.setExt m.ctx m.index { e with migrating := false, dest := 0 }).setCtx m.ctx { x with migCount := x.migCount - 1 }
  let s := if penPkg m.dest = s.pkg then
      freeExtent (penTier m.dest) (penExt m.dest) (clearValid (penTier m.dest) (penExt m.dest) s)
    else queueReturns [(m.lease, m.dest)] s
  let s := { s with migrations := s.migrations.filter (fun y => y.desc ≠ m.desc)
                    pieces := s.pieces.filter (fun p => p.desc ≠ m.desc) }
  let s := raiseOpen (tierSource (s.migTier m) 41) 2 s
  let again := s.held.filter (fun r => r.why = .migration && r.ctx = m.ctx)
  let s := forEach again serveReq { s with held := s.held.filter (fun r => !(r.why = .migration && r.ctx = m.ctx)) }
  complete m.desc status (migResult m 0) s

/-- The migrations of a context that have started and not switched. -/
def State.openMigrations (s : State) (c : Nat) : List Migration :=
  s.migrations.filter (fun m => m.ctx = c && (m.phase = .copying || m.phase = .switching))

/-! ### Held requests of FROZEN contexts (R79) -/

def State.frozenHeld (s : State) (c : Nat) : List Req := s.held.filter (fun r => r.why = .frozen && r.ctx = c)

/-- CTX_THAW: requests that arrived within the last millisecond are translated again, older ones have expired. -/
def thawHeld (c : Nat) (s : State) : State :=
  let l := s.frozenHeld c
  let s := { s with held := s.held.filter (fun r => !(r.why = .frozen && r.ctx = c)) }
  forEach l (fun r u => if u.us ≤ r.arrival + 1000 then serveReq r u else expireFrozen r u) s

/-! ### Changes at their commit point -/

/-- Open the window of a context on a port and offer it to the host (action c). -/
def openWindow (c p : Nat) (s : State) : State :=
  match presentWindow (s.port p) c with
  | none => s
  | some (i, w) => offerAdd p i (s.setPort p ((s.port p).setWindow i { w with opened := true }))

/-- Actions (f) and (g): every window is released, the migrations abort, and the requests held for FROZEN complete. -/
def drainCtx (c : Nat) (s : State) : State :=
  let held := s.frozenHeld c
  let s := { s with held := s.held.filter (fun r => !(r.why = .frozen && r.ctx = c)) }
  let s := enterState c .draining s
  let s := forEach (s.ctx c).portList (fun p u => offerRelease p c u) s
  let s := forEach (s.openMigrations c) (fun m u => endMigration m 0x0A u) s
  forEach held answerLost s

/-- Action (d) or (e): the port leaves the mask and its window is cleared or released. -/
def unbindPort (c p : Nat) (s : State) : State :=
  let s := if (s.ctx c).state = .live then offerRelease p c s
    else match presentWindow (s.port p) c with
      | some (i, _) => clearWindow p i s
      | none => s
  dropCopies c (s.setCtx c ((s.ctx c).setPort p false))

/-- A CTX_RELEASE walks the extent list: clears for local extents, lease returns for REMOTE ones (R88). -/
def startWalk (c : Nat) (d : Option DescRef) (s : State) : State :=
  let l := (s.exts.filter (fun e => e.1 / 2 ^ 20 = c && e.2.valid)).map (·.2)
  let locals := (l.filter (fun e => !e.remote)).map (·.pen)
  let remotes := (l.filter (fun e => e.remote)).map (fun e => (e.lease, e.pen))
  let s := forEach locals (fun pen u => wakeForWork (penTier pen) u) (queueReturns remotes s)
  { s with
    clears := s.clears ++ locals.map (fun pen => { tier := penTier pen, ext := penExt pen, ctx := some c })
    releases := s.releases ++ [{ ctx := c, desc := d, cleared := locals.length, returned := remotes.length }] }

/-- The change of a class's label and GROUPS at the commit point of CTX_SET_CLASS (R205, R212). -/
def relabel (c k : Nat) (s : State) : State :=
  let groups := (s.exts.filter (fun e => e.1 / 2 ^ 20 = c && e.2.valid && !e.2.remote)).foldl
    (fun g e => g ||| BitVec.ofNat 8 (2 ^ penTier e.2.pen)) (s.cls k).groups
  let s := s.setCtx c { s.ctx c with cls := k }
  reportAll { s with classes := Sparse.set (fun _ => {}) s.classes k { s.cls k with groups := groups } }

/-- Apply a change at its commit point (Table CTX-5), with what its descriptor then awaits. -/
def commitChange (d : Option DescRef) (ch : Change) (s : State) : State :=
  match ch with
  | .create c x =>
    let s := noteCreated c { s with extAt := Sparse.set (fun _ => 0) s.extAt c s.us }
    let s := s.setCtx c { x with state := .building, created := s.us, changed := s.us }
    let h := s.homeTier c
    completeOpt d ((Sparse.get (fun _ => 0) x.extptr h - 1) + h * 2 ^ 32) s
  | .bind c p _ gen =>
    let s := s.setCtx c ((s.ctx c).setPort p true)
    let t := portTier p
    let x := s.ctx c
    let s := if x.holds t then s
      else match (Sparse.get (fun _ => []) s.listUse t).find? (fun u => u.2.2 = c) with
        | some u => s.setCtx c { x with extptr := Sparse.set (fun _ => 0) x.extptr t (u.1 + 1) }
        | none => s
    completeOpt d gen (if (s.ctx c).state = .live then openWindow c p s else s)
  | .unbind c p =>
    let u := s.under c
    awaitDrain d u (.finish 0) (unbindPort c p s)
  | .activate c =>
    let s := enterState c .live s
    let l := (s.ctx c).portList
    completeOpt d l.length (forEach l (fun p u => openWindow c p u) s)
  | .drain c =>
    let u := s.under c
    let n := (s.openMigrations c).length
    awaitDrain d u (.finish n) (drainCtx c s)
  | .freeze c =>
    let u := s.under c
    let s := enterState c .frozen s
    awaitDrain d u (.finish 0) (s.setCtx c { s.ctx c with faultFrozen := false })
  | .thaw c =>
    let s := enterState c .live s
    let n := (s.frozenHeld c).filter (fun r => s.us ≤ r.arrival + 1000)
    completeOpt d n.length (thawHeld c (s.setCtx c { s.ctx c with faultFrozen := false }))
  | .release c => startWalk c d (enterState c .releasing s)
  | .map c index pen count lease =>
    let s := accrue c s
    let remote := decide (penPkg pen ≠ s.pkg)
    let s := forEach (upto count) (fun i u => u.setExt c (index + i)
      { valid := true, remote := remote, pen := pen + i, lease := if remote then lease else 0 }) s
    completeOpt d count (s.setCtx c { s.ctx c with extCount := (s.ctx c).extCount + count })
  | .unmap c index count =>
    let u := s.under c
    let sel (k : Nat) : Bool := k / 2 ^ 20 = c && index ≤ k % 2 ^ 20 && k % 2 ^ 20 < index + count
    let l := (s.exts.filter (fun e => sel e.1 && e.2.valid)).map (·.2)
    let s := accrue c s
    let s := { s with exts := s.exts.filter (fun e => !(sel e.1 && e.2.valid)) }
    let s := s.setCtx c { s.ctx c with extCount := (s.ctx c).extCount - l.length }
    awaitDrain d u (.clear l.length ((l.filter (fun e => !e.remote)).map (·.pen))
      ((l.filter (fun e => e.remote)).map (fun e => (e.lease, e.pen)))) s
  | .setClass c k =>
    let s := relabel c k s
    completeOpt d (s.cls k).groups.toNat s
  | .migStart c index dest lease =>
    let e := s.ext c index
    let x := s.ctx c
    let s := (s.setExt c index { e with migrating := true, dest := dest }).setCtx c { x with migCount := x.migCount + 1 }
    let m : Migration := { ctx := c, index := index, src := e.pen, dest := dest, lease := lease, phase := .copying
                           desc := d.getD {} }
    let s := { s with migrations := s.migrations.filter (fun (y : Migration) => y.desc ≠ m.desc) ++ [m] }
    wakeForWork (s.migTier m) { s with pieces := s.pieces ++ [({ desc := m.desc, tier := s.migTier m, len := 2 ^ 21 } : Piece)] }
  | .faultFreeze c =>
    let x := s.ctx c
    match x.state with
    | .free => s
    | .releasing => s
    | .live => let s := enterState c .frozen s
               s.setCtx c { s.ctx c with faultFrozen := true }
    | _ => s.setCtx c { x with faultFrozen := true }

/-- Replica writes of a change, in table entries (R389). -/
def Change.writes : Change → Nat
  | .map _ _ _ count _ => count
  | .unmap _ _ count => count
  | _ => 1

/-- Carry out a change: at once when every tier can acknowledge, else at a later COMMIT_POINT. -/
def change (t : Nat) (d : Option DescRef) (ch : Change) (s : State) : State :=
  let s := match d with
    | some d => startDesc d s
    | none => s
  if s.acks t && s.commits = [] then commitChange d ch (logReplicas ch.writes s)
  else { s with commits := s.commits ++ [(d, ch)] }

/-- COMMIT_POINT (R21): the last acknowledgement of the oldest waiting change arrives. -/
def execCommitPoint (s : State) : Host.Outcome State Fault Refusal :=
  match s.commits with
  | [] => .next s
  | (d, ch) :: rest =>
    let t := match d with
      | some d => (s.fetchedOf d).elim 0 (·.tier)
      | none => 0
    if s.acks t then .next (commitChange d ch (logReplicas ch.writes { s with commits := rest })) else .next s

/-- ACCESS_REDUCTION_DRAIN_DONE (R22): the oldest reduction whose requests have all left. -/
def execAccessReductionDrainDone (s : State) : Host.Outcome State Fault Refusal :=
  match s.drains.find? (fun w => s.left w.txids w.reqs) with
  | none => .next s
  | some w => .next (finishDrain w.desc w.next { s with drains := s.drains.erase w })

/-- FAULT_FREEZE (R23): the home sluice executes a freeze request after what executes on the context. -/
def execFaultFreeze (c : Nat) (s : State) : Host.Outcome State Fault Refusal :=
  if s.flt.freezes.contains c && s.sluiceUp (s.homeTier c) && !s.ctxBusy c then
    .next (change (s.homeTier c) none (.faultFreeze c) { s with flt := { s.flt with freezes := s.flt.freezes.erase c } })
  else .next s

end Sys2Proof.Machine
end

