-- ==== Sys2Proof/Machine/ContextOps.lean ====
section
/-! DEFINITION. The commands of contexts and extents: the descriptors of Table CMD-4, migrations, clears, releases and
lease returns (chapter 03). -/

namespace Sys2Proof.Machine

/-! ### Contexts (Table CTX-5) -/

/-- A CTXID field in range (R252). -/
def ctxidOk (c : Nat) : Bool := c < 2 ^ 18

/-- Complete WRONG_STATE unless the context is in one of the states, and BAD_FIELD for a CTXID out of range (R253,
R255). -/
def inState (d : DescRef) (c : Nat) (legal : List CtxState) (body : State → State) (s : State) : State :=
  if !ctxidOk c then complete d 0x02 0 s
  else if !legal.contains (s.ctx c).state then complete d 0x05 0 s
  else body s

/-- CTX_CREATE (R69, R72, R174, R217, action a). -/
def execCtxCreate (d : DescRef) (c account keyid cls cflags wbase wsize : Nat) (s : State) :
    Host.Outcome State Fault Refusal :=
  onReady d 0x0100 [(8, 4, c), (12, 2, account), (14, 2, keyid), (16, 1, cls), (17, 1, cflags), (18, 4, wbase),
      (22, 2, wsize)] (fun f s =>
    let h := s.homeTier c
    if s.commits.any (fun x => match x.2 with | .create _ y => y.keyId = keyid | _ => false) then s
    else if !ctxidOk c || c = 0x3FFFF || keyid = 0 || 4096 ≤ keyid || 64 ≤ cls || 16 ≤ cflags || cflags % 4 = 3 ||
        wsize = 0 || 8192 < wsize || 262144 < wbase + wsize then complete d 0x02 0 s
    else if (s.ctx c).state ≠ .free then complete d 0x05 0 s
    else if s.key keyid = none then complete d 0x02 0 s
    else if Sparse.get (fun _ => none) s.meter.released c ≠ none then complete d 0x0D 0 s
    else match claimList h c (wsize * 128) s with
      | none => complete d 0x06 0 s
      | some (s, a) =>
        let x : Ctx :=
          { keyId := keyid, cls := cls, account := account, wthru := bitAt cflags 0, noalloc := bitAt cflags 1
            remoteOk := bitAt cflags 2, integrity := bitAt cflags 3, wbase := wbase, wsize := wsize
            extptr := [(h, a + 1)] }
        change f.tier (some d) (.create c x) s) s

/-- CTX_BIND_PORT, bind (R54, R55, R59, R72, action b). -/
def execCtxBindPortBind (d : DescRef) (c p : Nat) (s : State) : Host.Outcome State Fault Refusal :=
  onReady d 0x0101 [(8, 4, c), (12, 1, p), (13, 1, 0)] (fun f => inState d c [.building, .live] (fun s =>
    let x := s.ctx c
    let q := s.port p
    let t := portTier p
    if !s.hostPort p || x.ports.getLsbD p then complete d 0x02 0 s
    else if (upto x.wsize).any (fun i => Sparse.get (fun _ => 0) q.blocks (x.wbase + i) ≠ 0) then complete d 0x0D 0 s
    else match (upto 8192).find? (fun i => !(q.window i).valid) with
      | none => complete d 0x06 0 s
      | some i =>
        match (if x.holds t then some s else (claimList t c (x.wsize * 128) s).map (·.1)) with
        | none => complete d 0x06 0 s
        | some s =>
          let gen := (Sparse.get (fun _ => 0) q.gens c + 1) % 2 ^ 32
          let w : Window := { valid := true, ctx := c, wbase := x.wbase, wsize := x.wsize, gen := gen }
          let q := { (q.setWindow i w).mapBlocks w (i + 1) with gens := Sparse.set (fun _ => 0) q.gens c gen }
          change f.tier (some d) (.bind c p i gen) (s.setPort p q))) s

/-- CTX_BIND_PORT, unbind (actions d and e): the last port of a LIVE context stays. -/
def execCtxBindPortUnbind (d : DescRef) (c p : Nat) (s : State) : Host.Outcome State Fault Refusal :=
  onReady d 0x0101 [(8, 4, c), (12, 1, p), (13, 1, 1)] (fun f => inState d c [.building, .live] (fun s =>
    let x := s.ctx c
    if !x.ports.getLsbD p || 96 ≤ p || (x.state = .live && x.portList.length = 1) then complete d 0x02 0 s
    else change f.tier (some d) (.unbind c p) s)) s

/-- CTX_ACTIVATE (action c). -/
def execCtxActivate (d : DescRef) (c : Nat) (s : State) : Host.Outcome State Fault Refusal :=
  onReady d 0x0102 [(8, 4, c)] (fun f => inState d c [.building] (fun s =>
    if (s.ctx c).ports = 0 then complete d 0x02 0 s else change f.tier (some d) (.activate c) s)) s

/-- CTX_DRAIN (actions f and g). -/
def execCtxDrain (d : DescRef) (c : Nat) (s : State) : Host.Outcome State Fault Refusal :=
  onReady d 0x0103 [(8, 4, c)] (fun f => inState d c [.live, .frozen] (fun s => change f.tier (some d) (.drain c) s)) s

/-- CTX_FREEZE (action h). -/
def execCtxFreeze (d : DescRef) (c : Nat) (s : State) : Host.Outcome State Fault Refusal :=
  onReady d 0x0104 [(8, 4, c)] (fun f => inState d c [.live] (fun s => change f.tier (some d) (.freeze c) s)) s

/-- CTX_THAW (action i). -/
def execCtxThaw (d : DescRef) (c : Nat) (s : State) : Host.Outcome State Fault Refusal :=
  onReady d 0x0105 [(8, 4, c)] (fun f => inState d c [.frozen] (fun s => change f.tier (some d) (.thaw c) s)) s

/-- CTX_RELEASE (R78, R88, R92, action j): it aborts the data tasks of the context as it begins. -/
def execCtxRelease (d : DescRef) (c : Nat) (s : State) : Host.Outcome State Fault Refusal :=
  onReady d 0x0106 [(8, 4, c)] (fun f => inState d c [.building, .draining] (fun s =>
    if !s.returnsFit (s.exts.filter (fun e => e.1 / 2 ^ 20 = c && e.2.valid && e.2.remote)).length then
      complete d 0x0C 0 s
    else
      let tasks := s.tasks.filter (fun k => k.ctxs.contains c)
      change f.tier (some d) (.release c) (forEach tasks (fun k u => stopTask k.desc 0x0A u) s))) s

/-- RELEASE_FINISHED (R88, action p): FREE commits. Windows that do not wait for a host's release go with it. -/
def execReleaseFinished (c : Nat) (s : State) : Host.Outcome State Fault Refusal :=
  match s.releases.find? (fun r => r.ctx = c) with
  | none => .next s
  | some r =>
    if s.clears.any (fun j => j.ctx = some c) || !s.acks (s.homeTier c) then .next s
    else
      let s := forEach s.portList (fun p u => forEach (u.port p).windows (fun w v =>
        if w.2.ctx = c && w.2.valid && !w.2.pendrel then clearWindow p w.1 v else v) u) s
      let s := forEach s.tierList (fun t u => freeList t c u) s
      let s := noteReleased c s
      let s := logReplicas 1 (s.setCtx c {})
      let s := { s with
        exts := s.exts.filter (fun e => e.1 / 2 ^ 20 ≠ c), releases := s.releases.erase r }
      .next (completeOpt r.desc (r.cleared + r.returned * 2 ^ 32) s)

/-! ### Queries (R258, R262) -/

/-- The word CTL (Table CTX-2). -/
def Ctx.ctl (x : Ctx) : Nat :=
  (match x.state with | .free => 0 | .building => 1 | .live => 2 | .draining => 3 | .frozen => 4 | .releasing => 5) +
  ofBool x.wthru * 2 ^ 5 + ofBool x.noalloc * 2 ^ 6 + ofBool x.remoteOk * 2 ^ 7 + ofBool x.integrity * 2 ^ 8 +
  ofBool x.faultFrozen * 2 ^ 9 + x.cls % 64 * 2 ^ 10 + x.keyId % 4096 * 2 ^ 16

/-- A context entry as 256 bytes, little-endian (Table CTX-1). -/
def Ctx.entry (x : Ctx) : Nat :=
  x.ctl + x.account * 2 ^ 32 + x.wbase * 2 ^ 64 + x.wsize * 2 ^ 96 + x.ports.toNat * 2 ^ 128 +
  ((upto 8).map (fun t => match Sparse.get (fun _ => 0) x.extptr t with
    | 0 => 0
    | a + 1 => (2 ^ 31 + a) * 2 ^ (8 * (32 + 4 * t)))).sum +
  x.extCount * 2 ^ (8 * 64) + x.migCount * 2 ^ (8 * 68) + x.created * 2 ^ (8 * 72) + x.changed * 2 ^ (8 * 80)

/-- A mask of ports. -/
def portMask (l : List Nat) : Nat := (l.map (fun p => 2 ^ p)).sum

/-- The 320 bytes of CTX_QUERY. -/
def State.ctxBlock (s : State) (c : Nat) : Nat :=
  let x := s.ctx c
  let bound := s.portList.filter (fun p => x.ports.getLsbD p)
  let has (g : Window → Bool) (p : Nat) : Bool := match presentWindow (s.port p) c with
    | some (_, w) => g w
    | none => false
  let pend := s.portList.filter (fun p => (s.port p).windows.any (fun w => w.2.valid && w.2.pendrel && w.2.ctx = c))
  x.entry + portMask (bound.filter (has (·.opened))) * 2 ^ (8 * 256) +
    portMask (bound.filter (has (·.declined))) * 2 ^ (8 * 268) + portMask pend * 2 ^ (8 * 280)

/-- CTX_QUERY (R258): legal in every state, and it waits behind nothing. -/
def execCtxQuery (d : DescRef) (c haddr : Nat) (s : State) : Host.Outcome State Fault Refusal :=
  onReady d 0x0107 [(8, 4, c), (16, 8, haddr)] (fun f s =>
    if !ctxidOk c || haddr % 64 ≠ 0 then complete d 0x02 0 s
    else
      let x := s.ctx c
      complete d 0 (x.ctl + x.extCount * 2 ^ 32) (dmaOut f haddr (dwords 40 (s.ctxBlock c)) s)) s

/-- An extent-list entry (Table CTX-4). -/
def ExtEntry.word (e : ExtEntry) : Nat :=
  ofBool e.valid + 2 * ofBool e.remote + 4 * ofBool e.migrating + 8 * ofBool e.retired + e.pen * 2 ^ 4 +
  e.dest * 2 ^ 32 + e.lease * 2 ^ 64

/-- COUNT in range. -/
def countOk (n : Nat) : Bool := 1 ≤ n && n ≤ 65536

/-- EXT_QUERY (R262). -/
def execExtQuery (d : DescRef) (c index count haddr : Nat) (s : State) : Host.Outcome State Fault Refusal :=
  onReady d 0x0203 [(8, 4, c), (12, 4, index), (20, 4, count), (24, 8, haddr)] (fun f s =>
    if !countOk count || haddr % 16 ≠ 0 then complete d 0x02 0 s
    else inState d c [.building, .live, .draining, .frozen, .releasing] (fun s =>
      if (s.ctx c).wsize * 128 < index + count then complete d 0x02 0 s
      else
        let words := (upto count).flatMap (fun i => dwords 2 (s.ext c (index + i)).word)
        complete d 0 count (s.emit (.dmaWrite (s.ring f.ref.ring).dmaPort haddr words))) s) s

/-! ### Extents (R76, R81, R90, R184, R259-R261) -/

/-- A local PEN is in range: its tier is there, it is backed, and it is not in the tag region (R76, R81). -/
def State.penInRange (s : State) (pen : Nat) : Bool :=
  let t := penTier pen
  let off := penExt pen * 2 ^ 21
  t < s.nTiers && off < (s.tier t).cap && (s.tagBase t = 0 || off < s.tagBase t)

/-- A local PEN may be mapped at all: it is in range, and its tier has tags where the context asks for them (R184). -/
def State.penBacked (s : State) (pen : Nat) (integ : Bool) : Bool :=
  s.penInRange pen && (!integ || s.flag (scrBase (penTier pen)) SCR_TIER_CFG_TAG_EN)

/-- A local run fails the checks that need no table: a PEN out of range, or a LEASE that is not 0 (R76, R253, R259). -/
def State.runOutside (s : State) (pen count lease : Nat) : Bool :=
  penPkg pen = s.pkg && (lease ≠ 0 || !(upto count).all (fun i => s.penInRange (pen + i)))

/-- A local PEN is taken: its allocation bit is 1, or it lies on a fenced rank (R76, R138). -/
def State.penTaken (s : State) (pen : Nat) : Bool :=
  s.allocBit (penTier pen) (penExt pen) || s.withheld (penTier pen) (penExt pen)

/-- A held lease shows this PEN granted to this package (R90). -/
def State.leaseCovers (s : State) (lease pen : Nat) : Bool :=
  !s.pool.ops.any (fun o => o.opcode = 0x0903 && o.arg = lease) && s.pool.leasesHeld.any (fun l => l.num = lease && l.owner = penPkg pen && l.tier = penTier pen &&
    l.first ≤ penExt pen && penExt pen < l.first + l.count && !l.returned.contains pen && !l.lost)

/-- A PEN of another package is mapped or is a migration's destination here. -/
def State.remoteTaken (s : State) (pen : Nat) : Bool :=
  s.exts.any (fun e => e.2.valid && (e.2.pen = pen || (e.2.migrating && e.2.dest = pen)))

/-- The destination's checks that need tables, before IN_USE: status 2 when the run is out of range, unbacked or not
leased. -/
def State.destBad (s : State) (x : Ctx) (pen count lease : Nat) : Bool :=
  if penPkg pen = s.pkg then lease ≠ 0 || !(upto count).all (fun i => s.penBacked (pen + i) x.integrity)
  else x.remoteOk && !(upto count).all (fun i => s.leaseCovers lease (pen + i))

/-- Some PEN of the run is taken. -/
def State.destTaken (s : State) (pen count : Nat) : Bool :=
  if penPkg pen = s.pkg then (upto count).any (fun i => s.penTaken (pen + i))
  else (upto count).any (fun i => s.remoteTaken (pen + i))

/-- The destination lies on a local tier in T3 (R253, R267). -/
def State.destOff (s : State) (pen : Nat) : Bool :=
  penPkg pen = s.pkg && penTier pen < s.nTiers && (s.tier (penTier pen)).power = 3

/-- Set the allocation bits of a local run (R76). -/
def claimRun (pen count : Nat) (s : State) : State :=
  if penPkg pen = s.pkg then
    forEach (upto count) (fun i u => u.setAlloc (penTier pen) (penExt pen + i) true) (wakeForWork (penTier pen) s)
  else s

/-- EXT_MAP (R259). -/
def execExtMap (d : DescRef) (c index pen count lease : Nat) (s : State) : Host.Outcome State Fault Refusal :=
  onReady d 0x0200 [(8, 4, c), (12, 4, index), (16, 4, pen), (20, 4, count), (24, 4, lease)] (fun f s =>
    if !countOk count || 2 ^ 27 ≤ pen || 2 ^ 20 < penExt pen + count || s.runOutside pen count lease then
      complete d 0x02 0 s
    else inState d c [.building, .live, .frozen] (fun s =>
      let x := s.ctx c
      if s.destOff pen then complete d 0x05 0 s
      else if x.wsize * 128 < index + count || s.destBad x pen count lease then complete d 0x02 0 s
      else if (upto count).any (fun i => (s.ext c (index + i)).valid) || s.destTaken pen count then complete d 0x0D 0 s
      else if penPkg pen ≠ s.pkg && !x.remoteOk then complete d 0x08 0 s
      else change f.tier (some d) (.map c index pen count lease) (claimRun pen count s)) s) s

/-- EXT_UNMAP (R260). -/
def execExtUnmap (d : DescRef) (c index count : Nat) (s : State) : Host.Outcome State Fault Refusal :=
  onReady d 0x0201 [(8, 4, c), (12, 4, index), (20, 4, count)] (fun f s =>
    if !countOk count then complete d 0x02 0 s
    else inState d c [.building, .live, .frozen] (fun s =>
      let l := s.exts.filter (fun e => e.1 / 2 ^ 20 = c && index ≤ e.1 % 2 ^ 20 && e.1 % 2 ^ 20 < index + count && e.2.valid)
      if (s.ctx c).wsize * 128 < index + count then complete d 0x02 0 s
      else if l.any (fun e => e.2.migrating) then complete d 0x0D 0 s
      else if !s.returnsFit (l.filter (fun e => e.2.remote)).length then complete d 0x0C 0 s
      else change f.tier (some d) (.unmap c index count) s) s) s

/-! ### Migrations (R89, R261, R274) -/

/-- Migrations in their copy phase with a tier as source. -/
def State.copying (s : State) (t : Nat) : Nat :=
  (s.migrations.filter (fun m => m.phase = .copying && s.migTier m = t)).length

/-- The start step of a migration: its checks, a RETIRED extent's among them (R332), then its destination is claimed
and cleared. -/
def startMigration (t : Nat) (d : DescRef) (c index dest lease : Nat) (s : State) : State :=
  let s := { s with migrations := s.migrations.filter (fun m => !(m.desc = d && m.phase = .waiting)) }
  if 2 ^ 27 ≤ dest || s.runOutside dest 1 lease then complete d 0x02 0 s
  else inState d c [.live, .frozen] (fun s =>
    let x := s.ctx c
    let e := s.ext c index
    if s.destOff dest then complete d 0x05 0 s
    else if x.wsize * 128 ≤ index || !e.valid || e.retired || s.destBad x dest 1 lease then complete d 0x02 0 s
    else if e.migrating || s.destTaken dest 1 then complete d 0x0D 0 s
    else if 255 ≤ x.migCount then complete d 0x06 0 s
    else if penPkg dest ≠ s.pkg && !x.remoteOk then complete d 0x08 0 s
    else if !s.returnsFit (ofBool e.remote) then complete d 0x0C 0 s
    else
      let s := claimRun dest 1 s
      let s := if penPkg dest = s.pkg then clearValid (penTier dest) (penExt dest) s else s
      change t (some d) (.migStart c index dest lease) s) s

/-- EXT_MIGRATE: a 33rd migration of a source tier waits before its start step (R274). -/
def execExtMigrate (d : DescRef) (c index dest lease : Nat) (s : State) : Host.Outcome State Fault Refusal :=
  onReady d 0x0202 [(8, 4, c), (12, 4, index), (16, 4, dest), (24, 4, lease)] (fun f s =>
    let e := s.ext c index
    let m : Migration := { ctx := c, index := index, src := e.pen, dest := dest, lease := lease, phase := .waiting, desc := d }
    if e.valid && 32 ≤ s.copying (s.migTier m) then { startDesc d s with migrations := s.migrations ++ [m] }
    else startMigration f.tier d c index dest lease s) s

/-- MIGRATION_WAITS_FOR_COPY_SLOT (R274): the oldest waiting migration of a source tier makes its start step. -/
def execMigrationWaitsForCopySlot (t : Nat) (s : State) : Host.Outcome State Fault Refusal :=
  match s.migrations.find? (fun m => m.phase = .waiting && s.migTier m = t) with
  | none => .next s
  | some m =>
    match s.fetchedOf m.desc with
    | none => .next s
    | some f =>
      if s.copying t < 32 && !s.ctxBusy m.ctx && s.sluiceUp f.tier && !s.flt.freezes.contains m.ctx then
        .next (startMigration f.tier m.desc m.ctx m.index m.dest m.lease s)
      else .next s

/-- Copy one page of a migrating extent; a line read as poison is written as the marker (R89, R157). -/
def copyPage (m : Migration) (retired : Bool) (answer : List (Nat × Option Line)) (page : Nat) (s : State) : State :=
  let x := s.ctx m.ctx
  let dpa := x.wbase * 2 ^ 28 + m.index * 2 ^ 21
  let jt := s.migTier m
  forEach (upto 64) (fun i s =>
    let o := page * 4096 + i * 64
    let (s, l) : State × Option Line :=
      if retired then (s, none)
      else if penPkg m.src = s.pkg then
        (match jetRead (s.jetAcc m.ctx m.src o (dpa + o)) s with
         | (s, .data l _) => (s, some l)
         | (s, _) => (s, none))
      else (s, remoteLine answer (page * 64 + i))
    let cur := s.migrations.find? (fun y => y.desc = m.desc)
    let s := if l.isNone then
        { poisonedSource jt m.ctx (cur.elim true (·.poisonNoted)) s with
          migrations := s.migrations.map (fun y => if y.desc = m.desc then { y with poisonNoted := true } else y) }
      else s
    if penPkg m.dest = s.pkg then
      jetWrite { s.jetAcc m.ctx m.dest o (dpa + o) with noalloc := true } l s
    else jetSend m.desc m.ctx m.dest o l s) (jetMoved jt 4096 s)

/-- Pages of the source whose valid bit is set; of a REMOTE source, those its owner's answer lists. -/
def State.sourcePages (s : State) (m : Migration) (answer : List (Nat × Option Line)) : List Nat :=
  if penPkg m.src = s.pkg then
    (upto 512).filter (fun p => (s.validLine (penTier m.src) (penExt m.src)).bits.getLsbD p)
  else (upto 512).filter (fun p => answer.any (fun e => e.1 / 64 = p))

/-- Copy pages of a migration. -/
def copyPages (m : Migration) (pages : List Nat) (answer : List (Nat × Option Line)) (s : State) : State :=
  let retired := (s.ext m.ctx m.index).retired
  forEach pages (fun p u => copyPage m retired answer p u) s

/-- Source and destination can be reached by the migration's jet. -/
def State.migReachable (s : State) (m : Migration) : Bool :=
  s.penReachable (s.migTier m) m.src && s.penReachable (s.migTier m) m.dest

/-- The number of dirty pages of a migration. -/
def Migration.dirtyCount (m : Migration) : Nat := ((upto 512).filter (fun p => m.dirty.getLsbD p)).length

/-- A pass has ended: with 8 or fewer dirty pages, after 16 passes or for a FROZEN context the switch begins, else a pass
over the dirty pages (R89). -/
def afterPass (m : Migration) (s : State) : State :=
  if m.dirtyCount ≤ 8 || 16 ≤ m.passes || decide ((s.ctx m.ctx).state = .frozen) then
    setMigration { m with phase := .switching } s
  else
    let s := setMigration { m with pass := m.dirty, dirty := 0 } s
    { s with pieces := s.pieces ++ [({ desc := m.desc, tier := s.migTier m, len := 2 ^ 21 } : Piece)] }

/-- The migration as the state now holds it. -/
def State.migNow (s : State) (m : Migration) : Migration := (s.migrations.find? (fun y => y.desc = m.desc)).getD m

/-- MIGRATION_COPY_PASS_END (R89): the pass has copied its pages. -/
def execMigrationCopyPassEnd (c index : Nat) (answer : List (Nat × Option Line)) (s : State) :
    Host.Outcome State Fault Refusal :=
  match s.migrations.find? (fun m => m.ctx = c && m.index = index && m.phase = .copying) with
  | none => .next s
  | some m =>
    if !s.migReachable m || s.reacting || 2 ≤ (s.tier (s.migTier m)).power then .next s
    else
      let pages := if m.passes = 0 then s.sourcePages m answer else (upto 512).filter (fun p => m.pass.getLsbD p)
      let s := copyPages m pages answer s
      let s := { s with pieces := s.pieces.filter (fun p => p.desc ≠ m.desc) }
      let n := s.migNow m
      .next (afterPass { n with passes := n.passes + 1, copied := n.copied + pages.length } s)

/-- MIGRATION_SWITCH (R89): the remaining dirty pages are copied and PEN = DEST commits; held writes are translated
again. It waits for another descriptor that executes on the context (R78) and for the writes sent to another package. -/
def execMigrationSwitch (c index : Nat) (answer : List (Nat × Option Line)) (s : State) : Host.Outcome State Fault Refusal :=
  match s.migrations.find? (fun m => m.ctx = c && m.index = index && m.phase = .switching) with
  | none => .next s
  | some m =>
    let busy := s.fetched.any (fun f => f.ref ≠ m.desc && changes f.bytes = some c && s.executing f)
    if busy || !s.migReachable m || s.reacting || !s.acks (s.migTier m) || s.commits ≠ [] ||
        s.remote.any (fun o => o.task = some m.desc) then .next s
    else
      let pages := (upto 512).filter (fun p => m.dirty.getLsbD p)
      let s := copyPages m pages answer s
      let m := s.migNow m
      let u := s.under c
      let remote := decide (penPkg m.dest ≠ s.pkg)
      let old := s.ext c index
      let s := s.setExt c index { valid := true, remote := remote, pen := m.dest, lease := if remote then m.lease else 0 }
      let x := s.ctx c
      let s := logReplicas 1 (s.setCtx c { x with migCount := x.migCount - 1 })
      let s := setMigration { m with
        phase := .finishing, copied := m.copied + pages.length, dirty := 0, txids := u.1, reqs := u.2
        lease := old.lease } s
      .next (retryHeld (fun r => r.why = .migration && r.ctx = c) s)

/-- MIGRATION_FINISH (R89): once the requests under the source entry have left, the source is cleared and freed, or
returned, and the descriptor completes. -/
def execMigrationFinish (c index : Nat) (s : State) : Host.Outcome State Fault Refusal :=
  match s.migrations.find? (fun m => m.ctx = c && m.index = index && m.phase = .finishing) with
  | none => .next s
  | some m =>
    if !s.left m.txids m.reqs || s.remote.any (fun o => o.task = some m.desc) then .next s
    else
      let s := if penPkg m.src = s.pkg then
          freeExtent (penTier m.src) (penExt m.src) (clearValid (penTier m.src) (penExt m.src) s)
        else queueReturns [(m.lease, m.src)] s
      let hold := (Config.freeWord s.fresh).toNat
      let s := { s.drawn with migrations := s.migrations.filter (fun y => y.desc ≠ m.desc) }
      .next (complete m.desc 0 (migResult m hold) s)

/-- MIGRATION_ABORT (R89): the destination can no longer be reached. -/
def execMigrationAbort (c index : Nat) (s : State) : Host.Outcome State Fault Refusal :=
  match (s.openMigrations c).find? (fun m => m.index = index) with
  | none => .next s
  | some m =>
    let gone := if penPkg m.dest = s.pkg then !s.reaches (s.migTier m) (penTier m.dest)
      else (s.route (penPkg m.dest)).isNone
    if gone then .next (endMigration m 0x0A s) else .next s

/-! ### Clears and lease returns (R86, R88, R92) -/

/-- VALID_LINE_CLEAR (R86): a jet of the owning tier clears the line, then the allocation bit; an EXT_UNMAP completes
with its last clear. -/
def execValidLineClear (t e : Nat) (s : State) : Host.Outcome State Fault Refusal :=
  match s.clears.find? (fun j => j.tier = t && j.ext = e) with
  | none => .next s
  | some j =>
    if 2 ≤ (s.tier t).power || (s.tier t).portReset || (s.tier t).engReset || s.reacting then .next s
    else
      let s := freeExtent t e (clearValid t e { s with clears := s.clears.erase j })
      match j.desc with
      | none => .next s
      | some d =>
        if s.clears.any (fun x => x.desc = some d) then .next s
        else match s.unmaps.find? (fun u => u.1 = d) with
          | none => .next s
          | some u => .next (complete d 0 u.2 { s with unmaps := s.unmaps.erase u })

end Sys2Proof.Machine
end

