-- ==== Sys2Proof/Machine/JetTasks.lean ====
section
/-! DEFINITION. The work of the pieces of data tasks (chapter 12): COPY, ZERO, CRC_RANGE, SCRUB_RANGE, PROMOTE, DEMOTE
and HEAT_REPORT, and the check-value units. -/

namespace Sys2Proof.Machine

/-! ### Check-value units (R281-R283) -/

/-- One byte through the register, most significant bit first. -/
def cvuByte (width poly : Nat) (refin : Bool) (reg byte : Nat) : Nat :=
  let b := if refin then reflect 8 byte else byte
  (upto 8).foldl (fun r i =>
    let top := (r / 2 ^ (width - 1) + b / 2 ^ (7 - i)) % 2
    (r * 2 % 2 ^ width) ^^^ (if top = 1 then poly else 0)) reg

/-- The running value after a list of bytes (run_bytes of R281). -/
def cvuRun (running : Nat) (bytes : List Nat) (width poly : Nat) (refin refout : Bool) : Nat :=
  let reg := if refout then reflect width running else running
  let reg := bytes.foldl (cvuByte width poly refin) reg
  if refout then reflect width reg else reg

/-- The bytes of a line of CRC_RANGE at a context offset, with the fold word of R283. -/
def crcLineBytes (fold : Bool) (off : Nat) (l : Line) : List Nat :=
  (if fold && off % 4096 = 0 then leBytes 8 off else []) ++ leBytes 64 l.toNat

/-! ### A task's access to a context (R265, R279) -/

/-- How a piece ends. -/
inductive PieceEnd where
  | done | stop (status : Nat) | wait
deriving DecidableEq, Repr

def extIndex (off : Nat) : Nat := off / 2 ^ 21
def State.extOn (s : State) (c off : Nat) : ExtEntry := s.ext c (extIndex off)
def State.ctxDpa (s : State) (c off : Nat) : Nat := (s.ctx c).wbase * 2 ^ 28 + off
/-- A jet's access to the line at a context offset of a local extent. -/
def State.ctxAcc (s : State) (c off : Nat) : Acc := s.jetAcc c (s.extOn c off).pen (off % 2 ^ 21) (s.ctxDpa c off)

/-- Whether a task of tier `t` can work on the extent at an offset now: its VALID has gone (ABORTED), or its tier cannot
be reached, or its writes are held during a migration's switch. -/
def State.extGate (s : State) (t c off : Nat) (write : Bool) : PieceEnd :=
  let e := s.extOn c off
  let switching := s.migrations.any (fun m => m.ctx = c && m.index = extIndex off && decide (m.phase = .switching))
  if !e.valid then .stop 0x0A
  else if !e.remote && !s.penReachable t e.pen then .wait
  else if write && e.migrating && switching then .wait
  else .done

/-- Read the line at a context offset: `none` is poison; a page never written reads as zeros (R85, R87, R280). -/
def ctxRead (c off : Nat) (answer : List (Nat × Option Line)) (s : State) : State × Option Line :=
  let e := s.extOn c off
  if e.retired then (s, none)
  else if e.remote then
    if (s.route (penPkg e.pen)).isNone then (s, none) else (s, remoteLine answer (off % 2 ^ 21 / 64))
  else
    let a := s.ctxAcc c off
    match openValid a.t (extOf a.off) s with
    | (s, false) => (raiseCtx (tierSource a.t 39) 2 c s, none)
    | (s, true) =>
      if !s.pageValid a.t a.off then (s, some 0)
      else match jetRead a s with
        | (s, .data l _) => (s, some l)
        | (s, _) => (s, none)

/-- Write a full line at a context offset; `none` writes the poison marker, listed with media-error source `psrc`. A
write to a RETIRED extent is discarded; a local page's dirty bit is set for a migration (R89, R265). -/
def ctxWrite (d : DescRef) (c off psrc : Nat) (l : Option Line) (s : State) : State :=
  let e := s.extOn c off
  if e.retired then s
  else if e.remote then jetSend d c e.pen (off % 2 ^ 21) l s
  else
    let a := { s.ctxAcc c off with psrc := psrc }
    match openValid a.t (extOf a.off) s with
    | (s, false) => raiseCtx (tierSource a.t 39) 2 c s
    | (s, true) => markDirty c (extIndex off) (pageOf a.off) (jetWrite a l s)

/-- The page at a context offset has its valid bit set; of a REMOTE extent, its owner's answer lists a line of it. -/
def State.ctxPageValid (s : State) (c off : Nat) (answer : List (Nat × Option Line)) : Bool :=
  let e := s.extOn c off
  if e.remote then answer.any (fun x => x.1 / 64 = off % 2 ^ 21 / 4096)
  else s.pageValid (penTier e.pen) (penExt e.pen * 2 ^ 21 + off % 2 ^ 21)

/-- The task as it stands. -/
def State.taskNow (s : State) (d : DescRef) : Task := (s.taskOf d).getD { desc := d }

/-- A poisoned source at an address: the first is kept for RESULT, and a context source raises its event once (R157). -/
def notePoison (t : Nat) (d : DescRef) (addr : Nat) (ctx : Option Nat) (s : State) : State :=
  let k := s.taskNow d
  let s := match ctx with
    | some c => poisonedSource t c k.poisonNoted s
    | none => s
  mapTask d (fun k => { k with
    firstPoison := some (k.firstPoison.getD addr), poisonNoted := k.poisonNoted || ctx.isSome }) s

/-! ### COPY, ZERO and CRC_RANGE -/

/-- Operands of a data task's descriptor. -/
def srcHost (b : BitVec 512) : Bool := descField b 8 1 = 1
def dstHost (b : BitVec 512) : Bool := descField b 9 1 = 1

/-- The line of COPY at distance `x` from the start. -/
def copyLine (f : Fetched) (t x hostIdx : Nat) (host remote : List (Nat × Option Line)) (s : State) : State :=
  let b := f.bytes
  let d := f.ref
  let src := descField b 20 8 + x
  let dst := descField b 28 8 + x
  let sc := descField b 12 4
  let (s, l) : State × Option Line :=
    if srcHost b then (s, remoteLine host hostIdx) else ctxRead sc src remote s
  let s := if l.isNone then notePoison t d src (if srcHost b then none else some sc) s else s
  let s :=
    if dstHost b then
      (match l with
       | some l => s.emit (.dmaWrite (s.ring d.ring).dmaPort dst (dwords 8 l.toNat))
       | none => s.emit (.dmaPoison (s.ring d.ring).dmaPort dst))
    else ctxWrite d (descField b 16 4) dst (if srcHost b then 1 else 2) l s
  jetMoved t 64 (mapTask d (fun k => { k with done := k.done + 1 }) s)

/-- What a piece of COPY may do now. -/
def State.copyGate (s : State) (f : Fetched) (p : Piece) (dmaOk : Bool) : PieceEnd :=
  let b := f.bytes
  let src := if srcHost b then .done else s.extGate p.tier (descField b 12 4) (descField b 20 8 + p.start) false
  let dst := if dstHost b then .done else s.extGate p.tier (descField b 16 4) (descField b 28 8 + p.start) true
  if src ≠ .done then src else if dst ≠ .done then dst
  else if (srcHost b || dstHost b) && !dmaOk then .stop 0x0B else .done

/-- A piece of COPY: its lines in ascending address (R279). -/
def copyPiece (f : Fetched) (p : Piece) (host remote : List (Nat × Option Line)) (dmaOk : Bool) (s : State) :
    State × PieceEnd :=
  match s.copyGate f p dmaOk with
  | .done => (forEach (upto (p.len / 64)) (fun i u => copyLine f p.tier (p.start + i * 64) i host remote u) s, .done)
  | e => (s, e)

/-- A piece of ZERO: full zero lines to the pages whose valid bit is set (R279). -/
def zeroPiece (f : Fetched) (p : Piece) (remote : List (Nat × Option Line)) (s : State) : State × PieceEnd :=
  let c := descField f.bytes 8 4
  match s.extGate p.tier c p.start true with
  | .done =>
    let lines := ((upto (p.len / 64)).map (fun i => p.start + i * 64)).filter (fun o =>
      s.ctxPageValid c o remote && !(s.extOn c o).retired)
    (forEach lines (fun o u => jetMoved p.tier 64
      (mapTask f.ref (fun k => { k with done := k.done + 1 }) (ctxWrite f.ref c o 2 (some 0) u))) s, .done)
  | e => (s, e)

/-- A piece of CRC_RANGE: the running value over its lines; a poisoned line ends the task (R280, R282). -/
def crcPiece (f : Fetched) (p : Piece) (remote : List (Nat × Option Line)) (s : State) : State × PieceEnd :=
  let b := f.bytes
  let c := descField b 8 4
  let mode := descField b 53 1
  match s.extGate p.tier c p.start false with
  | .done =>
    (upto (p.len / 64)).foldl (fun (r : State × PieceEnd) i =>
      if r.2 ≠ .done then r
      else
        let o := p.start + i * 64
        match ctxRead c o remote r.1 with
        | (s, some l) =>
          (mapTask f.ref (fun k => { k with
            crc := cvuRun k.crc (crcLineBytes (bitAt mode 3) o l) (descField b 52 1) (descField b 36 8)
              (bitAt mode 0) (bitAt mode 1) }) s, .done)
        | (s, none) => (mapTask f.ref (fun k => { k with firstPoison := some o }) s, .stop 0x09)) (s, .done)
  | e => (s, e)

/-! ### PROMOTE and DEMOTE (R112) -/

/-- Bring a page's lines that are not PRESENT into the basin. Answers the state and whether both sectors have a way; a
full victim buffer makes the jet wait. -/
def promotePage (a : Acc) (s : State) : Except HoldWhy (State × Bool) :=
  let base := a.off / 4096 * 4096
  (upto 64).foldl (fun (r : Except HoldWhy (State × Bool)) i =>
    match r with
    | .error e => .error e
    | .ok (s, ok) =>
      let b := { a with off := base + i * 64, dpa := a.dpa / 4096 * 4096 + i * 64, force := true }
      if s.inBasin b then .ok (s, ok)
      else match allocWay b s with
        | .error e => .error e
        | .ok (s, none) => .ok (s, false)
        | .ok (s, some w) =>
          match readCistern b .read s with
          | (s, .data l _) => .ok (putBasin b w l false false s, ok)
          | (s, _) => .ok (s, ok)) (.ok (s, true))

/-- A piece of PROMOTE. -/
def promotePiece (f : Fetched) (p : Piece) (s : State) : State × PieceEnd :=
  let c := descField f.bytes 8 4
  let e := s.extOn c p.start
  let skip (n : Nat) (s : State) : State := mapTask f.ref (fun k => { k with skipped := k.skipped + n }) s
  match s.extGate p.tier c p.start false with
  | .done =>
    if e.remote || e.retired then (skip (p.len / 4096) s, .done)
    else
      let r := (upto (p.len / 4096)).foldl (fun (r : Except HoldWhy State) i =>
        match r with
        | .error e => .error e
        | .ok s =>
          let a := s.ctxAcc c (p.start + i * 4096)
          if !s.pageValid a.t a.off then .ok (skip 1 s)
          else match promotePage a s with
            | .error e => .error e
            | .ok (s, true) => .ok (mapTask f.ref (fun k => { k with done := k.done + 1 }) s)
            | .ok (s, false) => .ok (skip 1 s)) (.ok s)
      match r with
      | .ok s => (s, .done)
      | .error _ => (s, .wait)
  | e => (s, e)

/-- Empty the way of a sector into the victim buffer. Answers the dirty lines moved, none where no way held it. -/
def demoteSector (t off : Nat) (s : State) : Except HoldWhy (State × Option Nat) :=
  let j := s.sliceOf t off
  let n := setNo off
  let s := openSet t j n s
  match s.findWay t j n (sectorOf off) with
  | none => .ok (s, none)
  | some w =>
    let before := (s.slice t j).victims.length
    match evictWay t j n w s with
    | .error e => .error e
    | .ok s => .ok (s, some ((s.slice t j).victims.length - before))

/-- A piece of DEMOTE; RESULT counts lines moved and sectors invalidated. -/
def demotePiece (f : Fetched) (p : Piece) (s : State) : State × PieceEnd :=
  let c := descField f.bytes 8 4
  let e := s.extOn c p.start
  match s.extGate p.tier c p.start false with
  | .done =>
    if e.remote then (s, .done)
    else
      let r := (upto (p.len / 2048)).foldl (fun (r : Except HoldWhy State) i =>
        match r with
        | .error e => .error e
        | .ok s =>
          match demoteSector (penTier e.pen) (penExt e.pen * 2 ^ 21 + (p.start + i * 2048) % 2 ^ 21) s with
          | .error e => .error e
          | .ok (s, none) => .ok s
          | .ok (s, some m) => .ok (mapTask f.ref (fun k => { k with done := k.done + m, skipped := k.skipped + 1 }) s)) (.ok s)
      match r with
      | .ok s => (s, .done)
      | .error _ => (s, .wait)
  | e => (s, e)

/-! ### HEAT_REPORT (R111, R113) -/

/-- Key of a page of a context in a heat table. -/
def heatKey (c page : Nat) : Nat := c * 2 ^ 29 + page

/-- The pages of a context with their summed counts, hottest first, ties in page order. -/
def State.heatOf (s : State) (c : Nat) : List (Nat × Nat) :=
  let all := s.slices.flatMap (fun x => x.2.heat.filter (fun e => e.1 / 2 ^ 29 = c))
  -- a heat table holds each count plus 1
  let sums := all.foldl (fun (m : Sparse Nat) e =>
    Sparse.set (fun _ => 0) m (e.1 % 2 ^ 29) (Sparse.get (fun _ => 0) m (e.1 % 2 ^ 29) + (e.2 - 1) + ofBool (decide (Sparse.get (fun _ => 0) m (e.1 % 2 ^ 29) = 0)))) []
  (sums.map (fun e => (e.1, e.2 - 1))).mergeSort (fun a b => decide (b.2 ≤ a.2))

/-- The piece of HEAT_REPORT: its entries written to host memory. -/
def heatPiece (f : Fetched) (p : Piece) (dmaOk : Bool) (s : State) : State × PieceEnd :=
  let l := (s.heatOf (descField f.bytes 8 4)).take (descField f.bytes 12 4)
  if !dmaOk then (s, .stop 0x0B)
  else
    let words := l.flatMap (fun e => [BitVec.ofNat 64 (e.1 + e.2 * 2 ^ 32), 0])
    let s := if words = [] then s else s.emit (.dmaWrite (s.ring f.ref.ring).dmaPort (descField f.bytes 16 8) words)
    (jetMoved p.tier (16 * l.length) (mapTask f.ref (fun k => { k with done := l.length }) s), .done)

/-! ### SCRUB_RANGE (R169-R172, R487) -/

/-- Change the counts of a scrub. -/
def mapScrub (d : DescRef) (g : ScrubSum → ScrubSum) (s : State) : State :=
  mapTask d (fun k => { k with scrub := g k.scrub }) s

/-- A line read, with what was found. -/
def tally (d : DescRef) (addr : Nat) (code : Code) (rewritten : Bool) (s : State) : State :=
  mapScrub d (fun q => { q with
    read := q.read + 1
    corrected := q.corrected + ofBool (decide (code = .correctable))
    uncorrectable := q.uncorrectable + ofBool (decide (code = .uncorrectable))
    poisoned := q.poisoned + ofBool (decide (code = .marker))
    rewritten := q.rewritten + ofBool rewritten
    bad := if code = .clean then q.bad else addr :: q.bad }) s

/-- Scrub one cistern line. -/
def scrubLine (d : DescRef) (wb : Bool) (a : Acc) (s : State) : State :=
  let fencedRank := s.fenced a.t (chanOf a.off) (rankOf a.off)
  let (l, _) := s.stored a.t a.off
  let (s, _) := readCistern a .scrub s
  if fencedRank then tally d (s.pa a) .uncorrectable false s
  else match l.code with
    | .correctable =>
      tally d (s.pa a) .correctable wb (if wb then putStored a.t a.off { l with code := .clean } s else s)
    | .uncorrectable =>
      tally d (s.pa a) .uncorrectable wb
        (if wb then putStored a.t a.off { data := markerLine, code := .marker } s else s)
    | code => tally d (s.pa a) code false s

/-- The 16 lines that tag line `x` covers, when it is unverifiable: listed, or swept under WRITEBACK (R169, R487). -/
def scrubUnverified (d : DescRef) (wb : Bool) (a : Acc) (x : Nat) (s : State) : State :=
  let sweep := wb && !s.tagFenced a.t x
  let codes := (upto 16).map (fun i => (i, (s.stored a.t (x * 1024 + i * 64)).1.code))
  let s := if sweep then sweepTag a x none s else
    (listCovered a x (if s.listed a.t (s.pa a) then s else raiseCtx (tierSource a.t 38) 3 a.ctx s))
  let s := tally d (poolAddr s.pkg a.t (s.tagLineOff a.t x)) .uncorrectable false s
  forEach codes (fun c u =>
    let addr := poolAddr u.pkg a.t (x * 1024 + c.1 * 64)
    if c.2 = .marker then tally d addr .marker false u else tally d addr .uncorrectable sweep u) s

/-- Scrub the 64 lines of a valid page, with its tag lines for an INTEGRITY context. -/
def scrubPage (d : DescRef) (wb : Bool) (a : Acc) (s : State) : State :=
  let base := a.off / 4096 * 4096
  forEach (upto 4) (fun g s =>
    let x := tagIndex base + g
    let b := { a with off := x * 1024, dpa := a.dpa / 4096 * 4096 + g * 1024 }
    let lines (s : State) : State :=
      forEach (upto 16) (fun i u => scrubLine d wb { b with off := b.off + i * 64, dpa := b.dpa + i * 64 } u) s
    if !a.integ then lines s
    else match readTag b x s with
      | (s', .bad) => scrubUnverified d wb b x s'
      | (_, _) => lines (tally d (poolAddr s.pkg a.t (s.tagLineOff a.t x)) .clean false s)) s

/-- A piece of a context-range scrub. -/
def scrubContextPiece (f : Fetched) (p : Piece) (s : State) : State × PieceEnd :=
  let c := descField f.bytes 12 4
  let e := s.extOn c p.start
  let pages := p.len / 4096
  let skip (n : Nat) (s : State) : State := mapScrub f.ref (fun q => { q with skipped := q.skipped + 64 * n }) s
  if !e.valid || e.remote || e.retired then (skip pages s, .done)
  else if !s.penReachable p.tier e.pen then (s, .wait)
  else
    (forEach (upto pages) (fun i u =>
      let a := u.ctxAcc c (p.start + i * 4096)
      match openValid a.t (extOf a.off) u with
      | (u, false) => skip 1 (raiseCtx (tierSource a.t 39) 2 c u)
      | (u, true) => if u.pageValid a.t a.off then scrubPage f.ref (descFlag f.bytes 2) a u else skip 1 u) s, .done)

/-- Bit fields that a place at a level fixes (R16, R17): equal for the lines of one place. Both subchannels of a rank's
bank belong to one place. -/
def cisternPlace (level off : Nat) : List Nat :=
  match level with
  | 0 => [chanOf off, rankOf off, groupOf off, bankOf off] | 1 => [chanOf off, rankOf off, groupOf off]
  | 2 => [chanOf off, rankOf off] | 3 => [chanOf off] | _ => []

/-- A tier offset is the lowest of its place. -/
def cisternLowest (level off : Nat) : Bool :=
  let x := chanLocal off
  off % 64 = 0 && (match level with
    | 0 => x < 2 ^ 21 && x % 2 ^ 14 = 0 | 1 => x < 2 ^ 21 && x % 2 ^ 14 = 0 && bitsAt x 18 17 = 0
    | 2 => x < 2 ^ 21 && x % 2 ^ 19 = 0 | 3 => x = 0 | _ => off = 0)

/-- Runnel, die and row of a basin row by number (R95). -/
def basinPlace (level m : Nat) : List Nat :=
  let r := m / 128
  match level with
  | 0 => [m % 16, m / 16 % 8, r / 4 % 4, r % 4] | 1 => [m % 16, m / 16 % 8, r / 4 % 4]
  | 2 => [m % 16, m / 16 % 8] | 3 => [m % 16] | _ => []

/-- A basin address is the lowest of its place. -/
def basinLowest (level ba : Nat) : Bool :=
  let m := ba / 2 ^ 15
  let r := m / 128
  ba % 2 ^ 15 = 0 && (match level with
    | 0 => decide (r < 16) | 1 => decide (r < 16) && decide (r % 4 = 0) | 2 => decide (r = 0)
    | 3 => decide (m < 16) | _ => decide (m = 0))

/-- A piece of a physical cistern scrub: lines of valid pages in the place, under CTXID 0x3FFFF. -/
def scrubCisternPiece (f : Fetched) (p : Piece) (s : State) : State × PieceEnd :=
  let b := f.bytes
  let level := descField b 9 1
  let key := cisternPlace level (descField b 24 8 % 2 ^ 41)
  let offs := ((upto 32768).map (fun i => p.start + i * 64)).filter (fun o => cisternPlace level o = key && s.pageValid p.tier o)
  (forEach offs (fun o u => scrubLine f.ref (descFlag b 2)
    { t := p.tier, off := o, ctx := 0x3FFFF, key := 0, cls := descField b 10 1, integ := false, force := true } u) s, .done)

/-- Scrub one line held in the line cache; a clean line's copy that is uncorrectable is dropped as on a host read. -/
def scrubBasinLine (d : DescRef) (wb : Bool) (t j n w i : Nat) (s : State) : State :=
  let v := s.way t j n w
  let l := v.line i
  let addr := lineAddr t j n w i
  let a : Acc := { t := t, off := v.tag * 2048 + i * 64, ctx := l.ctx, key := l.key, cls := v.cls, integ := l.integrity }
  let put (l : BLine) (s : State) : State :=
    let v := s.way t j n w
    s.setWay t j n w { v with lines := Sparse.set (fun _ => {}) v.lines i l }
  match l.code with
  | .correctable =>
    let s := watchRow t true (basinRow j n) addr false (corrected t (4 + j) (64 + j * 8 + setDie n) 33 2 addr true true s)
    tally d addr .correctable wb (if wb then put { l with code := .clean } s else s)
  | .uncorrectable =>
    let s := watchRow t true (basinRow j n) addr true (sawUncorrectable t (4 + j) addr true s)
    let s := if v.dirty.getLsbD i then firstDetected 33 1 a s else raise (tierSource t 33) 4 2 addr 0 s
    tally d addr .uncorrectable wb (if wb then put { l with data := markerLine, code := .marker } s else s)
  | code => tally d addr code false s

/-- Scrub a row of the basin: the lines of a set and its tag block, or a row of the metadata regions. -/
def scrubBasinRow (d : DescRef) (wb : Bool) (t m : Nat) (s : State) : State :=
  let j := m % 16
  let r := m / 128
  if 652 ≤ r then
    let n := (r - 652) * 8 + m / 16 % 8
    let s := openSet t j n s
    let held := (upto 16).flatMap (fun w => ((s.way t j n w).lines.map (fun e => (w, e.1))))
    let s := mapScrub d (fun q => { q with read := q.read + 520 - held.length }) s
    forEach held (fun e u => scrubBasinLine d wb t j n e.1 e.2 u) s
  else
    let s := mapScrub d (fun q => { q with read := q.read + 512 }) s
    let bad := (s.valid.filter (fun e => e.1 / 2 ^ 20 = t && e.1 % 2 ^ 20 / 512 = m && e.2.primaryBad)).map (fun e => e.1 % 2 ^ 20)
    forEach bad (fun e u =>
      let u := mapScrub d (fun q => { q with
        uncorrectable := q.uncorrectable + 1, bad := (t * 2 ^ 36 + e * 64) :: q.bad }) u
      (openValid t e u).1) s

/-- A piece of a physical basin scrub: every row of the place in 2 MiB of basin addresses. -/
def scrubBasinPiece (f : Fetched) (p : Piece) (s : State) : State × PieceEnd :=
  let b := f.bytes
  let level := descField b 9 1
  let key := basinPlace level (descField b 24 8 % 2 ^ 36 / 2 ^ 15)
  let rows := ((upto 64).map (fun i => p.start / 2 ^ 15 + i)).filter (fun m => basinPlace level m = key)
  (forEach rows (fun m u => scrubBasinRow f.ref (descFlag b 2) p.tier m u) s, .done)

/-! ### Any piece -/

/-- Run a piece of a data task to its end. -/
def runPiece (f : Fetched) (p : Piece) (host remote : List (Nat × Option Line)) (dmaOk : Bool) (s : State) :
    State × PieceEnd :=
  match descOp f.bytes with
  | 0x0500 => copyPiece f p host remote dmaOk s
  | 0x0501 => zeroPiece f p remote s
  | 0x0502 => crcPiece f p remote s
  | 0x0503 => match descField f.bytes 8 1 with
    | 0 => scrubContextPiece f p s
    | 1 => scrubCisternPiece f p s
    | _ => scrubBasinPiece f p s
  | 0x0504 => promotePiece f p s
  | 0x0505 => demotePiece f p s
  | _ => heatPiece f p dmaOk s

end Sys2Proof.Machine
end

