-- ==== Sys2Proof/Machine/Jets.lean ====
section
/-! DEFINITION. Data-task descriptors, pieces and jets (chapter 12, Table CMD-6). -/

namespace Sys2Proof.Machine

/-! ### Placing pieces (R272, R274) -/

def State.jet (s : State) (t j : Nat) : Jet := Sparse.get (fun _ => {}) s.jets (t * 16 + j)
def State.setJet (s : State) (t j : Nat) (v : Jet) : State := { s with jets := Sparse.set (fun _ => {}) s.jets (t * 16 + j) v }

/-- Pieces of descriptors in a tier's piece queue. -/
def State.queuedPieces (s : State) (t : Nat) : Nat :=
  (s.pieces.filter (fun p => p.tier = t && p.jet.isNone && (s.taskOf p.desc).isSome)).length

/-- Place the pieces that wait for room on a tier, oldest task first. -/
def placeOn (t : Nat) (s : State) : State :=
  forEach s.tasks (fun k u =>
    let mine := k.toPlace.filter (fun p => p.tier = t)
    let room := 4096 - u.queuedPieces t
    if mine = [] || room = 0 then u
    else
      let u := mapTask k.desc (fun k => { k with toPlace := k.toPlace.filter (fun p => p.tier ≠ t) ++ mine.drop room }) u
      wakeForWork t { u with pieces := u.pieces ++ mine.take room }) s

/-- Start a data task: its descriptor executes and its pieces reach the tiers; one without pieces completes. -/
def beginTask (k : Task) (s : State) : State :=
  let s := { startDesc k.desc s with tasks := s.tasks ++ [k] }
  settleTask k.desc (forEach s.tierList placeOn s)

/-- The tier that owns the extent at a context offset; the home tier for a REMOTE one or one not mapped (Table JET-1). -/
def State.ownerTier (s : State) (c off : Nat) : Nat :=
  let e := s.extOn c off
  if e.valid && !e.remote then penTier e.pen else s.homeTier c

/-- Cut `len` bytes from `x` on at each multiple of 2 MiB of the distances `f` gives. -/
def cuts (fuel x stop : Nat) (bases : List Nat) : List (Nat × Nat) :=
  match fuel with
  | 0 => []
  | fuel + 1 =>
    if stop ≤ x then []
    else
      let next := bases.foldl (fun n b => min n (x + (2 ^ 21 - (b + x) % 2 ^ 21))) stop
      (x, next - x) :: cuts fuel next stop bases

/-- The pieces of `len` bytes from context offset `off`, one per extent, on the tiers that `tierOf` gives. -/
def contextPieces (d : DescRef) (tierOf : Nat → Nat) (off len : Nat) : List Piece :=
  (cuts (len / 2 ^ 21 + 2) off (off + len) [0]).map (fun x => ({ desc := d, tier := tierOf x.1, start := x.1, len := x.2 } : Piece))

/-- A context range lies inside the window (R252). -/
def State.rangeIn (s : State) (c off len : Nat) : Bool := off + len ≤ (s.ctx c).wsize * 2 ^ 28

/-- Every extent a range touches has VALID = 1 (R264). -/
def State.rangeMapped (s : State) (c off len : Nat) : Bool :=
  (upto ((off % 2 ^ 21 + len + 2 ^ 21 - 1) / 2 ^ 21)).all (fun i => (s.ext c (off / 2 ^ 21 + i)).valid)

/-! ### The descriptors (R264, R255) -/

/-- COPY. -/
def execCopy (d : DescRef) (srcKind dstKind srcCtx dstCtx src dst length : Nat) (s : State) :
    Host.Outcome State Fault Refusal :=
  onReady d 0x0500 [(8, 1, srcKind), (9, 1, dstKind), (12, 4, srcCtx), (16, 4, dstCtx), (20, 8, src), (28, 8, dst),
      (36, 8, length)] (fun _ s =>
    let fromCtx := srcKind = 0
    let toCtx := dstKind = 0
    let same := fromCtx && toCtx && srcCtx = dstCtx && src < dst + length && dst < src + length
    if 1 < srcKind || 1 < dstKind || (!fromCtx && !toCtx) || src % 64 ≠ 0 || dst % 64 ≠ 0 || length % 64 ≠ 0 ||
        length = 0 || (fromCtx && !ctxidOk srcCtx) || (toCtx && !ctxidOk dstCtx) || same then complete d 0x02 0 s
    else if (fromCtx && !(([CtxState.building, .live, .draining, .frozen] : List CtxState).contains (s.ctx srcCtx).state)) ||
        (toCtx && !(([CtxState.building, .live, .frozen] : List CtxState).contains (s.ctx dstCtx).state)) then complete d 0x05 0 s
    else if (fromCtx && !(s.rangeIn srcCtx src length && s.rangeMapped srcCtx src length)) ||
        (toCtx && !(s.rangeIn dstCtx dst length && s.rangeMapped dstCtx dst length)) then complete d 0x02 0 s
    else
      let bases := (if fromCtx then [src] else []) ++ (if toCtx then [dst] else [])
      let tierOf (x : Nat) : Nat := if fromCtx then s.ownerTier srcCtx (src + x) else s.ownerTier dstCtx (dst + x)
      let pieces := (cuts (2 * (length / 2 ^ 21) + 4) 0 length bases).map (fun x =>
        ({ desc := d, tier := tierOf x.1, start := x.1, len := x.2 } : Piece))
      beginTask { desc := d, op := 0x0500, toPlace := pieces
                  ctxs := (if fromCtx then [srcCtx] else []) ++ (if toCtx then [dstCtx] else []) } s) s

/-- ZERO. -/
def execZero (d : DescRef) (c offset length : Nat) (s : State) : Host.Outcome State Fault Refusal :=
  onReady d 0x0501 [(8, 4, c), (12, 8, offset), (20, 8, length)] (fun _ s =>
    if offset % 64 ≠ 0 || length % 64 ≠ 0 || length = 0 then complete d 0x02 0 s
    else inState d c [.building, .live, .frozen] (fun s =>
      if !(s.rangeIn c offset length && s.rangeMapped c offset length) then complete d 0x02 0 s
      else beginTask { desc := d, op := 0x0501, ctxs := [c]
                       toPlace := contextPieces d (s.ownerTier c) offset length } s) s) s

/-- CRC_RANGE: its pieces run on the context's home tier (R272, R280, R282). -/
def execCrcRange (d : DescRef) (c offset length running poly xorout width mode : Nat) (s : State) :
    Host.Outcome State Fault Refusal :=
  onReady d 0x0502 [(8, 4, c), (12, 8, offset), (20, 8, length), (28, 8, running), (36, 8, poly), (44, 8, xorout),
      (52, 1, width), (53, 1, mode)] (fun _ s =>
    if offset % 64 ≠ 0 || length % 64 ≠ 0 || length = 0 || width < 8 || 64 < width || poly = 0 || 2 ^ width ≤ poly ||
        2 ^ width ≤ running || 2 ^ width ≤ xorout || 16 ≤ mode then complete d 0x02 0 s
    else inState d c [.building, .live, .draining, .frozen] (fun s =>
      if !(s.rangeIn c offset length && s.rangeMapped c offset length) then complete d 0x02 0 s
      else beginTask { desc := d, op := 0x0502, ctxs := [c], crc := running
                       toPlace := contextPieces d (fun _ => s.homeTier c) offset length } s) s) s

/-- The pieces of a physical scrub: every 2 MiB of the place's medium that holds part of it. -/
def State.placePieces (s : State) (d : DescRef) (kind level addr : Nat) : List Piece :=
  let t := if kind = 1 then addr / 2 ^ 41 % 8 else addr / 2 ^ 36
  let tiers := if 5 ≤ level then s.tierList.filter (fun t => (s.tier t).power ≠ 3) else [t]
  tiers.flatMap (fun t =>
    let pieceAt (i : Nat) : Piece := { desc := d, tier := t, start := i * 2 ^ 21, len := 2 ^ 21 }
    if kind = 1 then
      ((upto ((s.tier t).cap / 2 ^ 21)).filter (fun e => 3 ≤ level || e % 4 = rankOf (addr % 2 ^ 41))).map pieceAt
    else
      let key := basinPlace level (addr % 2 ^ 36 / 2 ^ 15)
      ((upto 32768).filter (fun b => (upto 64).any (fun i => basinPlace level (b * 64 + i) = key))).map pieceAt)

/-- ADDR is the lowest address of a place of this package at LEVEL (R17, R264). -/
def State.placeOk (s : State) (kind level addr : Nat) : Bool :=
  if kind = 1 then
    if level = 6 then addr = 0
    else if level = 5 then addr = s.pkg * 2 ^ 44
    else addr / 2 ^ 44 = s.pkg && addr / 2 ^ 41 % 8 < s.nTiers && cisternLowest level (addr % 2 ^ 41)
  else if 5 ≤ level then addr = 0
  else addr / 2 ^ 36 < s.nTiers && basinLowest level (addr % 2 ^ 36)

/-- SCRUB_RANGE. -/
def execScrubRange (d : DescRef) (kind level cls c firstPage pages addr haddr : Nat) (s : State) :
    Host.Outcome State Fault Refusal :=
  onReady d 0x0503 [(8, 1, kind), (9, 1, level), (10, 1, cls), (12, 4, c), (16, 4, firstPage), (20, 4, pages),
      (24, 8, addr), (32, 8, haddr)] (fun f s =>
    let k : Task := { desc := d, op := 0x0503 }
    if 2 < kind || haddr % 64 ≠ 0 then complete d 0x02 0 s
    else if kind = 0 then
      if level ≠ 0 || cls ≠ 0 || addr ≠ 0 || pages = 0 then complete d 0x02 0 s
      else inState d c [.building, .live, .draining, .frozen] (fun s =>
        if !s.rangeIn c (firstPage * 4096) (pages * 4096) then complete d 0x02 0 s
        else beginTask { k with ctxs := [c], toPlace := contextPieces d (s.ownerTier c) (firstPage * 4096) (pages * 4096) } s) s
    else if 6 < level || 64 ≤ cls || c ≠ 0 || firstPage ≠ 0 || pages ≠ 0 then complete d 0x02 0 s
    else if !s.placeOk kind level addr then complete d 0x02 0 s
    else if level ≤ 4 && (s.tier (if kind = 1 then addr / 2 ^ 41 % 8 else addr / 2 ^ 36)).power = 3 then complete d 0x05 0 s
    else if (s.ring f.ref.ring).tenant then complete d 0x08 0 s
    else beginTask { k with toPlace := s.placePieces d kind level addr } s) s

/-- PROMOTE. -/
def execPromote (d : DescRef) (c firstPage pages : Nat) (s : State) : Host.Outcome State Fault Refusal :=
  onReady d 0x0504 [(8, 4, c), (12, 4, firstPage), (16, 4, pages)] (fun _ s =>
    if pages = 0 then complete d 0x02 0 s
    else inState d c [.live] (fun s =>
      if (s.ctx c).noalloc || !(s.rangeIn c (firstPage * 4096) (pages * 4096) &&
          s.rangeMapped c (firstPage * 4096) (pages * 4096)) then complete d 0x02 0 s
      else beginTask { desc := d, op := 0x0504, ctxs := [c]
                       toPlace := contextPieces d (s.ownerTier c) (firstPage * 4096) (pages * 4096) } s) s) s

/-- DEMOTE. -/
def execDemote (d : DescRef) (c firstPage pages : Nat) (s : State) : Host.Outcome State Fault Refusal :=
  onReady d 0x0505 [(8, 4, c), (12, 4, firstPage), (16, 4, pages)] (fun _ s =>
    if pages = 0 then complete d 0x02 0 s
    else inState d c [.building, .live, .draining, .frozen] (fun s =>
      if !(s.rangeIn c (firstPage * 4096) (pages * 4096) && s.rangeMapped c (firstPage * 4096) (pages * 4096)) then
        complete d 0x02 0 s
      else beginTask { desc := d, op := 0x0505, ctxs := [c]
                       toPlace := contextPieces d (s.ownerTier c) (firstPage * 4096) (pages * 4096) } s) s) s

/-- HEAT_REPORT. -/
def execHeatReport (d : DescRef) (c maxPages haddr : Nat) (s : State) : Host.Outcome State Fault Refusal :=
  onReady d 0x0506 [(8, 4, c), (12, 4, maxPages), (16, 8, haddr)] (fun _ s =>
    if maxPages = 0 || 65536 < maxPages || haddr % 16 ≠ 0 then complete d 0x02 0 s
    else inState d c [.live, .draining, .frozen] (fun s =>
      beginTask { desc := d, op := 0x0506, ctxs := [c], toPlace := [{ desc := d, tier := s.homeTier c }] } s) s) s

/-! ### Pieces (R272-R275) -/

/-- The piece a jet runs. -/
def State.pieceOf (s : State) (t j : Nat) : Option Piece := s.pieces.find? (fun p => p.tier = t && p.jet = some j)
def State.retiredJet (s : State) (t j : Nat) : Bool := bitAt (s.get (jetBase t) JET_STATUS_RETIRED) j

/-- Jet `j` is idle and may take work. -/
def State.jetFree (s : State) (t j : Nat) : Bool :=
  let v := s.jet t j
  j < 16 && s.sluiceUp t && !s.retiredJet t j && !v.reload && !v.testing && !v.halted && v.resetTill ≤ s.us &&
  (s.pieceOf t j).isNone

/-- A tier's jets fold (R222). -/
def State.foldingTier (s : State) (t : Nat) : Bool := s.meter.ticks.any (fun k => k.folding.contains t)

/-- Work a tier's jets take before descriptor pieces: clears and the switch steps of migrations (R273). -/
def State.urgentWork (s : State) (t : Nat) : Nat :=
  (s.clears.filter (fun c => c.tier = t)).length +
  (s.migrations.filter (fun m => m.phase = .switching && s.migTier m = t)).length

/-- Order number of the last piece of a piece's task to start. -/
def State.lastStartOf (s : State) (p : Piece) : Nat :=
  match s.taskOf p.desc with
  | some k => k.lastStart
  | none => ((s.migrations.find? (fun m => m.desc = p.desc)).map (·.lastStart)).getD 0

/-- A jet may take a queued piece: the pieces of CRC_RANGE run one after another on one jet, one such task a jet. -/
def State.takeable (s : State) (t j : Nat) (p : Piece) : Bool :=
  p.tier = t && p.jet.isNone &&
  (match s.taskOf p.desc with
   | some k => k.op ≠ 0x0502 || (match k.crcJet with
      | some i => i = j && !s.pieces.any (fun q => q.desc = p.desc && q.jet.isSome)
      | none => !s.tasks.any (fun x => x.op = 0x0502 && x.crcJet = some j && s.homeTier (x.ctxs.headD 0) = t))
   | none => true)

/-- PIECE_START (R273): an idle jet takes the next piece of the task whose last piece started longest ago. -/
def execPieceStart (t j : Nat) (s : State) : Host.Outcome State Fault Refusal :=
  let idle := ((upto 16).filter (s.jetFree t)).length
  let ready := s.pieces.filter (s.takeable t j)
  if !s.jetFree t j || s.foldingTier t || idle ≤ s.urgentWork t then .next s
  else
    let oldest := ready.foldl (fun m p => min m (s.lastStartOf p)) (ready.headD {} |> s.lastStartOf)
    match ready.find? (fun p => s.lastStartOf p = oldest) with
    | none => .next s
    | some q =>
      match (ready.filter (fun p => p.desc = q.desc)).foldl (fun (m : Option Piece) p =>
          match m with
          | none => some p
          | some m => if p.start < m.start then some p else some m) none with
      | none => .next s
      | some p =>
        let n := s.pieceSeq + 1
        let s := { s with
          pieceSeq := n
          pieces := s.pieces.map (fun x => if x = p then { x with jet := some j, startedAt := s.us } else x)
          migrations := s.migrations.map (fun m => if m.desc = p.desc then { m with lastStart := n } else m) }
        let s := mapTask p.desc (fun k => { k with lastStart := n, crcJet := if k.op = 0x0502 then some j else none }) s
        .next (placeOn t (s.setJet t j { s.jet t j with gated := false }))

/-- PIECE_END (R265, R272): the piece has done its work; a task completes with its last piece. -/
def execPieceEnd (t j : Nat) (host remote : List (Nat × Option Line)) (dmaOk : Bool) (s : State) :
    Host.Outcome State Fault Refusal :=
  match s.pieceOf t j with
  | none => .next s
  | some p =>
    match s.taskOf p.desc, s.fetchedOf p.desc with
    | some _, some f =>
      if !s.sluiceUp t then .next s
      else
        let finish (s : State) : State :=
          let s := { s with pieces := s.pieces.filter (fun x => x ≠ p) }
          s.setJet t j { s.jet t j with idleSince := s.us }
        (match runPiece f p host remote dmaOk s with
         | (_, .wait) => .next s
         | (s, .done) => .next (settleTask p.desc (placeOn t ((finish s).count (jetBase t + 0x40) 1)))
         | (s, .stop status) => .next (stopTask p.desc status (finish s)))
    | _, _ => .next s

/-- PIECE_QUEUED_WHEN_ROOM (R274). -/
def execPieceQueuedWhenRoom (t : Nat) (s : State) : Host.Outcome State Fault Refusal := .next (placeOn t s)

/-! ### Jets (R276-R278) -/

/-- The watchdog's time in microseconds (Table JET-5). -/
def State.wdog (s : State) (t : Nat) : Nat := max 1 (s.get (jetBase t) JET_TIER_CFG_WDOG) * 1000

/-- A descriptor's task or migration ends with a status. -/
def endWork (d : DescRef) (status : Nat) (s : State) : State :=
  match s.migrations.find? (fun m => m.desc = d) with
  | some m => endMigration m status s
  | none => stopTask d status s

/-- A jet is reset and reloads its firmware, about 1 ms. -/
def resetJet (t j : Nat) (s : State) : State :=
  s.setJet t j { s.jet t j with resetTill := s.us + 1000, gated := false, idleSince := s.us }

/-- A jet with three trips is retired (R277). -/
def retireJet (t j : Nat) (s : State) : State :=
  let b := jetBase t
  let s := s.put b JET_STATUS_RETIRED (setBit (s.get b JET_STATUS_RETIRED) j true)
  let s := s.putFlag (bsnBase t j) BSN_SLICE_STATUS_JET_RET true
  let s := s.setRegBit (b + 0xC) 2 true
  let s := s.setJet t j { s.jet t j with retired := true, testing := false }
  let s := s.setSlice t j { s.slice t j with heat := [] }
  raise (tierSource t (16 + j)) 6 3 (j * 2 ^ 15) 0 s

/-- JET_WATCHDOG (R277). -/
def execJetWatchdog (t j : Nat) (s : State) : Host.Outcome State Fault Refusal :=
  match s.pieceOf t j with
  | none => .next s
  | some p =>
    if s.us < p.startedAt + s.wdog t || (s.jet t j).halted then .next s
    else
      let s := (s.setRegBit (jetBase t + 0xC) 0 true).count (jetBase t + 0x48) 1
      let s := raiseOpen (tierSource t 41) 0 s
      let trips := (s.jet t j).trips + 1
      let s := resetJet t j (s.setJet t j { s.jet t j with trips := trips })
      let s := { s with pieces := s.pieces.map (fun x => if x = p then { x with jet := none, trips := p.trips + 1 } else x) }
      let s := mapTask p.desc (fun k => { k with crcJet := none }) s
      let s := if 2 ≤ p.trips + 1 then endWork p.desc 0x0A s else s
      .next (if trips = 3 then retireJet t j s else s)

/-- JET_CLOCK_GATE (R276). -/
def execJetClockGate (t j : Nat) (s : State) : Host.Outcome State Fault Refusal :=
  let work := s.pieces.any (s.takeable t j) || s.clears.any (fun c => c.tier = t) || s.foldingTier t
  if j < 16 && (s.pieceOf t j).isNone && !work && (s.jet t j).idleSince + 1 ≤ s.us then
    .next (s.setJet t j { s.jet t j with gated := true })
  else .next s

/-- JET_WAKE (R276): a gated jet wakes when work arrives. -/
def execJetWake (t j : Nat) (s : State) : Host.Outcome State Fault Refusal :=
  let work := s.pieces.any (s.takeable t j) || s.clears.any (fun c => c.tier = t) || s.foldingTier t
  if (s.jet t j).gated && work && !s.retiredJet t j then
    .next (s.setJet t j { s.jet t j with gated := false, idleSince := s.us })
  else .next s

/-- JET_SRAM_UNCORRECTABLE (R278): the jet's task ends with MEDIA_ERROR. -/
def execJetSramUncorrectable (t j : Nat) (s : State) : Host.Outcome State Fault Refusal :=
  match s.pieceOf t j with
  | none => .next (if j < 16 && t < s.nTiers then resetJet t j s else s)
  | some p =>
    let c := match s.taskOf p.desc with
      | some k => k.ctxs.headD 0x3FFFF
      | none => ((s.migrations.find? (fun m => m.desc = p.desc)).map (·.ctx)).getD 0x3FFFF
    let s := raiseCtx (tierSource t 41) 1 c (s.setRegBit (jetBase t + 0xC) 1 true)
    .next (endWork p.desc 0x09 (resetJet t j s))

/-! ### The check-value unit's registers (R285) -/

/-- CVU_TEST reads 1: jet 0 has finished its piece. -/
def State.cvuOpen (s : State) (t : Nat) : Bool :=
  (s.jet t 0).testing && (s.pieceOf t 0).isNone && !s.retiredJet t 0

/-- A write of CVU_TEST. -/
def cvuTestWritten (t : Nat) (v : BitVec 32) (s : State) : State :=
  if v.getLsbD 31 && s.retiredJet t 0 then s
  else s.setJet t 0 { s.jet t 0 with testing := v.getLsbD 31 }

/-- WIDTH as it acts (Table JET-8). -/
def State.cvuWidth (s : State) (t : Nat) : Nat := max 8 (min 64 (s.get (jetBase t) JET_CVU_CFG_WIDTH))

/-- JET_CVU_VAL, POLY or XOROUT as they read: bits at or above WIDTH are 0. -/
def State.cvuReg (s : State) (t off : Nat) : Nat := (s.reg (jetBase t + off)).toNat % 2 ^ s.cvuWidth t

/-- A write of one of them. -/
def cvuRegWritten (t off : Nat) (v : BitVec 64) (s : State) : State :=
  if s.cvuOpen t then s.setReg (jetBase t + off) (BitVec.ofNat 64 (v.toNat % 2 ^ s.cvuWidth t)) else s

/-- A write of JET_CVU_DATA: its low DLEN + 1 bytes pass through the unit, byte 0 first. -/
def cvuDataWritten (t : Nat) (v : BitVec 32) (s : State) : State :=
  if s.cvuOpen t then
    let b := jetBase t
    let bytes := leBytes (s.get b JET_CVU_CFG_DLEN + 1) v.toNat
    let r := cvuRun (s.cvuReg t 0x118) bytes (s.cvuWidth t) (s.cvuReg t 0x108) (s.flag b JET_CVU_CFG_REFIN)
      (s.flag b JET_CVU_CFG_REFOUT)
    s.setReg (b + 0x118) (BitVec.ofNat 64 r)
  else s

end Sys2Proof.Machine
end

