-- ==== Sys2Proof/Machine/BasinOps.lean ====
section
/-! DEFINITION. The commands of the basin (chapter 04): heat, victim buffers, refresh and self-refresh. -/

namespace Sys2Proof.Machine

/-! ### Heat (R111) -/

/-- The dpa-independent promotion of a page of a context: both sectors, at the class's insertion age. -/
def autoPromote (c page : Nat) (s : State) : State :=
  let off := page * 4096
  let e := s.extOn c off
  let x := s.ctx c
  if !e.valid || e.remote || e.retired || x.noalloc || (s.cls x.cls).ways = 0 then s
  else
    let a := s.ctxAcc c off
    if !s.pageValid a.t a.off then s
    else match promotePage a s with
      | .ok (s, _) => s
      | .error _ => s

def zeroOf : Nat → Nat := fun _ => 0

/-- A page whose count reaches the threshold is promoted and its count halved (R111). -/
def promoteHot (t j key : Nat) (s : State) : State :=
  let sl := s.slice t j
  let n := Sparse.get zeroOf sl.heat key - 1
  let x := s.ctx (key / 2 ^ 29)
  if Sparse.get zeroOf sl.heat key ≠ 0 && s.flag (bsnBase t 0) BSN_TIER_CFG_AUTO_PROMOTE && !x.noalloc &&
      (s.cls x.cls).ways ≠ 0 && decide (max 1 (s.get (bsnBase t 0) BSN_TIER_CFG_PROMOTE_THRESH) ≤ n) then
    let s := autoPromote (key / 2 ^ 29) (key % 2 ^ 29) s
    let sl := s.slice t j
    s.setSlice t j { sl with heat := Sparse.set zeroOf sl.heat key (n / 2 + 1) }
  else s

/-- HEAT_SAMPLE: a sampled access reaches the heat table of the slice's jet. -/
def execHeatSample (t j c page : Nat) (s : State) : Host.Outcome State Fault Refusal :=
  if !s.flag (bsnBase t 0) BSN_TIER_CFG_HEAT_EN || (s.tier t).power ≠ 0 || s.nTiers ≤ t || 16 ≤ j || s.retiredJet t j then .next s
  else
    let sl := s.slice t j
    let key := heatKey c page
    let have_ := Sparse.get zeroOf sl.heat key
    let put (h : Sparse Nat) (v : Nat) : State := s.setSlice t j { sl with heat := Sparse.set zeroOf h key v }
    if have_ ≠ 0 then .next (promoteHot t j key (put sl.heat (min 256 (have_ + 1))))
    else if sl.heat.length < 8192 then .next (promoteHot t j key (put sl.heat 2))
    else
      let low := sl.heat.foldl (fun m e => min m e.2) 256
      match sl.heat.find? (fun e => e.2 = low) with
      | some e =>
        if low ≤ 2 then .next (promoteHot t j key (put (Sparse.erase sl.heat e.1) 2))
        else .next (s.count (bsnBase t j + 0x30) 1)
      | none => .next s

/-- HEAT_DECAY: every count of a jet's table is halved each HEAT_DECAY × 10 ms. -/
def execHeatDecay (t j : Nat) (s : State) : Host.Outcome State Fault Refusal :=
  let period := max 1 (s.get (bsnBase t 0) BSN_TIER_CFG_HEAT_DECAY) * 10000
  if 16 ≤ j || s.nTiers ≤ t || s.us < (s.jet t j).heatAt + period then .next s
  else
    let sl := s.slice t j
    let s := s.setSlice t j { sl with heat := sl.heat.map (fun e => (e.1, (e.2 - 1) / 2 + 1)) }
    let s := s.setJet t j { s.jet t j with heatAt := s.us }
    .next (forEach (sl.heat.map (·.1)) (fun k u => promoteHot t j k u) s)

/-! ### Victim buffers (R106) -/

/-- The access of a write-back: the attribute the line was written under. -/
def victimAcc (t : Nat) (v : Victim) : Acc :=
  { t := t, off := v.off, ctx := v.line.ctx, key := v.line.key, cls := v.cls, integ := v.line.integrity }

/-- Write a buffered line to its channel, unless its page's valid bit has been cleared. -/
def offerVictim (t : Nat) (v : Victim) (s : State) : Except HoldWhy State :=
  if !s.pageValid t v.off then .ok s
  else writeCistern (victimAcc t v) v.line.data (v.line.code = .marker || v.line.code = .uncorrectable) s

/-- A way with WBP = 1: its dirty lines are written back again and WBP is cleared (R106). -/
def rewriteWay (t j n w : Nat) (s : State) : Except HoldWhy State :=
  let v := s.way t j n w
  let lines := (upto 32).filter (fun i => v.dirty.getLsbD i)
  let r := lines.foldl (fun (r : Except HoldWhy State) i => match r with
    | .error e => .error e
    | .ok s =>
      if !s.pageValid t (v.tag * 2048 + i * 64) then .ok s
      else
        let (s, l) := readDirty t j n w i s
        offerVictim t { off := v.tag * 2048 + i * 64, cls := v.cls, line := l } s) (.ok s)
  match r with
  | .error e => .error e
  | .ok s => .ok (s.setWay t j n w { s.way t j n w with dirty := 0, wbp := false })

/-- The first way of a slice with WBP = 1: its set and number. -/
def State.wbpWay (s : State) (t j : Nat) : Option (Nat × Nat) :=
  (s.slice t j).sets.findSome? (fun e => (e.2.find? (fun w => w.2.wbp)).map (fun w => (e.1, w.1)))

/-- VICTIM_BUFFER_OFFER: the oldest buffered line is offered to its channel; with the buffer empty, the write-backs
that a reset interrupted are issued again. -/
def execVictimBufferOffer (t j : Nat) (s : State) : Host.Outcome State Fault Refusal :=
  if (s.tier t).portReset || (s.tier t).engReset || s.reacting then .next s
  else
    let sl := s.slice t j
    match sl.victims with
    | v :: rest =>
      match offerVictim t v s with
      | .error _ => .next s
      | .ok u => .next (u.setSlice t j { u.slice t j with victims := rest })
    | [] =>
      match s.wbpWay t j with
      | none => .next s
      | some (n, w) => match rewriteWay t j n w s with
        | .error _ => .next s
        | .ok s => .next s

/-! ### Refresh and self-refresh (R114-R116) -/

/-- BASIN_BANK_REFRESH: a per-bank refresh of a die that is not in self-refresh. -/
def execBasinBankRefresh (t j die bank : Nat) (s : State) : Host.Outcome State Fault Refusal :=
  let sl := s.slice t j
  if sl.dieSr.getLsbD die || 8 ≤ die || 16 ≤ bank then .next s
  else .next (s.setSlice t j { sl with
    refreshes := Sparse.set zeroOf sl.refreshes (die * 16 + bank) (Sparse.get zeroOf sl.refreshes (die * 16 + bank) + 1) })

/-- Put a slice's eight dies into self-refresh. -/
def sliceToSr (t j : Nat) (s : State) : State :=
  (s.setSlice t j { s.slice t j with dieSr := 0xFF }).putFlag (bsnBase t j) BSN_SLICE_STATUS_SR true

/-- Take them out of it. -/
def sliceFromSr (t j : Nat) (s : State) : State :=
  (s.setSlice t j { s.slice t j with dieSr := 0, dieLoss := 0 }).putFlag (bsnBase t j) BSN_SLICE_STATUS_SR false

/-- A tier's basin belongs in self-refresh: T2 or T3, a Stop, or an engine-die reset by command (R115). -/
def State.basinSleeps (s : State) (t : Nat) : Bool :=
  2 ≤ (s.tier t).power || (s.tier t).engReset || s.reacting

/-- BASIN_SELF_REFRESH_ENTRY. -/
def execBasinSelfRefreshEntry (t j : Nat) (s : State) : Host.Outcome State Fault Refusal :=
  .next (if s.basinSleeps t && t < s.nTiers && j < 16 then sliceToSr t j s else s)

/-- BASIN_SELF_REFRESH_EXIT. -/
def execBasinSelfRefreshExit (t j : Nat) (s : State) : Host.Outcome State Fault Refusal :=
  .next (if !s.basinSleeps t && t < s.nTiers && j < 16 then sliceFromSr t j s else s)

/-- DIE_CLOCK_LOSS_SELF_REFRESH (R116): one die enters self-refresh by itself and stays there. -/
def execDieClockLossSelfRefresh (t j die : Nat) (s : State) : Host.Outcome State Fault Refusal :=
  let sl := s.slice t j
  if 8 ≤ die || sl.dieSr.getLsbD die then .next s
  else .next (s.setSlice t j { sl with
    dieSr := sl.dieSr ||| BitVec.ofNat 8 (2 ^ die), dieLoss := sl.dieLoss ||| BitVec.ofNat 8 (2 ^ die) })

/-- BSN_SLICE_CTL.CLR_CNT: the slice's counters are cleared. -/
def clearSliceCounters (t j : Nat) (s : State) : State :=
  forEach (upto 6) (fun i u => u.setReg (bsnBase t j + 8 + 8 * i) 0) s

end Sys2Proof.Machine
end

