-- ==== Sys2Proof/Machine/Thermal.lean ====
section
/-! DEFINITION. Sensors, zones, the ladder and the trip (R394-R401, Tables THM-1 to THM-4, and R114 for the dies). -/

namespace Sys2Proof.Machine

/-! ### Pins and the end of service -/

def State.tierHeat (s : State) (t : Nat) : TierHeat := Sparse.get (fun _ => {}) s.heat t
def State.setHeat (s : State) (t : Nat) (h : TierHeat) : State := { s with heat := Sparse.set (fun _ => {}) s.heat t h }
def State.sensor (s : State) (t k : Nat) : Sensor := Sparse.get (fun _ => {}) s.sensors (t * 16 + k)
def State.setSensor (s : State) (t k : Nat) (x : Sensor) : State :=
  { s with sensors := Sparse.set (fun _ => {}) s.sensors (t * 16 + k) x }

/-- Drive SYS_READY (R440). -/
def setSysReady (b : Bool) (s : State) : State :=
  if s.pkgMode.sysReady = b then s
  else { s with pkgMode := { s.pkgMode with sysReady := b } }.emit (.pin "SYS_READY" b)

/-- Drive RAIL_EN (R442, R443), noting when. -/
def setRailEn (b : Bool) (s : State) : State :=
  let s := { s with pkgMode := { s.pkgMode with railAt := s.us } }
  if s.pkgMode.railEn = b then s
  else { s with pkgMode := { s.pkgMode with railEn := b } }.emit (.pin "RAIL_EN" b)

/-- Drive THERMTRIP_N, low when tripped (R400). -/
def setThermtrip (b : Bool) (s : State) : State :=
  if s.pkgMode.thermtrip = b then s
  else { s with pkgMode := { s.pkgMode with thermtrip := b } }.emit (.pin "THERMTRIP_N" (!b))

/-- Work in flight that leaves nothing behind when fast logic stops: held and outstanding requests, descriptors, tasks. -/
def dropWork (s : State) : State :=
  { s with held := [], remote := [], fetched := [], cplQ := [], tasks := [], pieces := [], meter := { s.meter with waits := [] }
           opWaits := [], tierReqs := [] }

/-- The master key table, every tier copy and every link key are zeroised (Table SCR-1). -/
def zeroKeys (s : State) : State :=
  { s with keys := [], links := Sparse.mapVals (fun _ => {}) (fun _ (l : AqLink) =>
      { l with txMix := 0, txTag := 0, rxMix := 0, rxTag := 0, keyed := false }) s.links }

/-! ### Shutdown records (R378) -/

/-- The lowest erased slot. -/
def Flash.freeSlot (f : Flash) : Option Nat := (upto 64).find? (fun i => Sparse.get (fun _ => none) f.slots i = none)

/-- The always-on domain writes a record into the lowest erased slot, naming a flash operation in progress; with none erased
nothing is written. -/
def writeShutdown (cause : Nat) (event : List Nat) (s : State) : State :=
  match s.flash.freeSlot with
  | none => s
  | some i =>
    let r : ShutRec :=
      { cause := cause, boots := s.flash.boots, time := s.us, event := event, flashOff := s.flash.busyOff, flashOp := s.flash.busy }
    { s with flash := { s.flash with slots := Sparse.set (fun _ => none) s.flash.slots i (some r) } }

/-! ### The trip (R399, R400) -/

/-- A trip: fast domains stop, keys are zeroised, memory is lost, a Stop in progress is abandoned, the shutdown record is
written and THERMTRIP_N asserted. It acts in every state but shutdown itself (R27, R386). -/
def tripNow (s : State) : State :=
  if s.pkgMode.mode = .shutdown then s
  else
    let stopped : List Nat := match s.flt.reaction with | .stop n _ => [n] | _ => []
    let s := zeroKeys (dropWork s)
    let s := forEach s.portList (fun p u => u.setReg (hptBase p + 8) 0) s
    let s := { s with
      cistern := [], slices := [], tagSets := []
      flt := { s.flt with stopped := false, reaction := match s.flt.reaction with | .stop _ _ => .none | r => r }
      mgmt := { s.mgmt with grotto := false, services := false } }
    let s := writeShutdown 1 stopped (setSysReady false s)
    let s := setThermtrip true s
    { s with pkgMode := { s.pkgMode with mode := .shutdown, tripped := true } }

/-! ### Sensors (R394, R396) -/

/-- Neighbours (Table THM-1). -/
def sensorNeighbours (k : Nat) : List Nat :=
  if k < 4 then ((upto 4).filter (· ≠ k)) ++ [k + 4]
  else if k < 8 then (([4, 5, 6, 7]).filter (· ≠ k)) ++ [k - 4, 8]
  else ((upto 16).filter (fun i => 8 ≤ i && i ≠ k && i ≤ k + 2 && k ≤ i + 2))

/-- Zone of a sensor (Table THM-1). -/
def sensorZone (k : Nat) : Nat := if k < 4 then 0 else if k < 8 then 1 else 2
def zoneSensors (z : Nat) : List Nat := (upto 16).filter (fun k => sensorZone k = z)

/-- Warm, Warn, Warn + 3, Hot and Trip of a zone in 0.125 degrees (Table THM-2). -/
def thresholds (z : Nat) : List Int := if z = 2 then [680, 760, 784, 800, 840] else [680, 760, 784, 816, 880]
def hotOf (z : Nat) : Int := (thresholds z).getD 3 0

/-- Insertion into a rising list. -/
def insertRising (x : Int) : List Int → List Int
  | [] => [x]
  | y :: l => if x ≤ y then x :: y :: l else y :: insertRising x l

/-- The median; of an even count the mean of the two middle values (R396). -/
def median (l : List Int) : Option Rat :=
  let a := l.foldl (fun acc x => insertRising x acc) []
  let n := a.length
  if n = 0 then none
  else if n % 2 = 1 then some ((a.getD (n / 2) 0 : Int) : Rat)
  else some (((a.getD (n / 2 - 1) 0 + a.getD (n / 2) 0 : Int) : Rat) / 2)

/-- The greatest of a list. -/
def greatest (l : List Int) : Option Int := l.foldl (fun m x => match m with | none => some x | some y => some (max x y)) none

/-- Readings of the non-suspect neighbours. -/
def State.soundReadings (s : State) (t k : Nat) : List Int :=
  ((sensorNeighbours k).filter (fun i => !(s.sensor t i).suspect)).map (fun i => (s.sensor t i).reading)

/-- A sensor's effective value (R394, R396): its reading, or its substitute while suspect. -/
def State.effTemp (s : State) (t k : Nat) : Int :=
  let x := s.sensor t k
  if !x.suspect then x.reading
  else match greatest (s.soundReadings t k) with
    | some g => ((g : Rat) + x.offset).floor
    | none => hotOf (sensorZone k)

/-- The learned offset after a sample (R396). -/
def learn (x : Sensor) (around : List Int) : Rat :=
  match greatest around with
  | none => x.offset
  | some g => max (-48) (min 48 (x.offset + ((x.reading - g : Int) : Rat) / 64 - x.offset / 64))

/-- One flag with debounce and hysteresis (R395): four samples at or above `x`, four below `x` less 3 degrees. -/
def debounce (on : Bool) (run : Nat) (v x : Int) : Bool × Nat :=
  let toward := if on then decide (v < x - 24) else decide (x ≤ v)
  if !toward then (on, 0) else if run + 1 < 4 then (on, run + 1) else (!on, 0)

/-- Suspicion and offset of a sensor at a sample; the state before the round is `s0`. -/
def judgeSensor (t k : Nat) (s0 s : State) : State :=
  let x := s.sensor t k
  let around := (sensorNeighbours k).map (fun i => (s0.sensor t i).reading)
  match median (s0.soundReadings t k) with
  | none => s
  | some m =>
    let far := decide (48 < ((x.reading : Int) : Rat) - m) || decide (48 < m - ((x.reading : Int) : Rat))
    if x.suspect then
      let n := if far then 0 else x.okRun + 1
      s.setSensor t k (if 64 ≤ n then { x with suspect := false, okRun := 0, badRun := 0 } else { x with okRun := n })
    else
      let n := if far then x.badRun + 1 else 0
      let x := { x with offset := learn x around }
      if 8 ≤ n then
        let s := s.setSensor t k { x with suspect := true, badRun := 0, okRun := 0 }
        raiseOpen (tierSource t 44) 2 (s.putFlag thmBase THM_STATUS_SUSPECT true)
      else s.setSensor t k { x with badRun := n }

/-! ### The dies' refresh (R114, R484) -/

/-- Refresh-rate code of a die: 0 below 45 degrees with TCR_EN, 2 above 85, else 1. -/
def State.dieRate (s : State) (t d : Nat) : Nat :=
  let x := s.sensor t (8 + d)
  if x.above85 then 2 else if x.above45 || !s.flag (bsnBase t 0) BSN_TIER_CFG_TCR_EN then 1 else 0

/-- REFRATE of every slice follows the hottest die. -/
def setRefrate (t : Nat) (s : State) : State :=
  let r := (upto 8).foldl (fun m d => max m (s.dieRate t d)) 0
  forEach (upto 16) (fun j u => u.put (bsnBase t j) BSN_SLICE_STATUS_REFRATE r) s

/-- A sample moves a die's refresh flags. -/
def debounceDie (t k : Nat) (s : State) : State :=
  let x := s.sensor t k
  let v := s.effTemp t k
  let (a, i) := debounce x.above85 x.run85 v 680
  let (b, j) := debounce x.above45 x.run45 v 360
  s.setSensor t k { x with above85 := a, run85 := i, above45 := b, run45 := j }

/-- FIRST_SENSOR_READING (R484): the first reading after power-on or T3 sets the dies' refresh rate directly. -/
def execFirstSensorReading (t : Nat) (dies : List Int) (s : State) : Host.Outcome State Fault Refusal :=
  if (s.tierHeat t).sensed || s.nTiers ≤ t || s.pkgMode.mode ≠ .up || (s.tier t).power = 3 || dies.length ≠ 8 then .next s
  else
    let s := forEach dies.zipIdx (fun (e : Int × Nat) u =>
      u.setSensor t (8 + e.2) { u.sensor t (8 + e.2) with
        reading := e.1, above85 := decide (680 < e.1), above45 := decide (360 ≤ e.1), run85 := 0, run45 := 0 }) s
    .next (setRefrate t (s.setHeat t { s.tierHeat t with sensed := true }))

/-! ### Zones (R395, R397) -/

def zoneFld (z : Nat) : Fld := match z with | 0 => THM_ZONE_Z0 | 1 => THM_ZONE_Z1 | _ => THM_ZONE_Z2
def State.zoneState (s : State) (t z : Nat) : Nat := s.get (thmBase + 4 * t) (zoneFld z)

/-- A Memory Module record of a temperature change in the Warning log of the tier's ports (R397). -/
def tellHeat (t : Nat) (s : State) : State :=
  forEach (s.portList.filter (fun p => portTier p = t && s.hostPort p)) (fun p u => placeEvent p 1 { kind := 2 } u) s

/-- A crossing asks for the thermal MSI-X (R397). -/
def askThermal (s : State) : State := if s.flag thmBase THM_CFG_INT_EN then { s with thmMsixPending := true } else s

/-- The thermal policy asks every channel of a tier for a point, or withdraws its request (R397). -/
def thermalPoint (t : Nat) (op : Option Nat) (s : State) : State :=
  let s := s.put (thmBase + 4 * t) THM_ZONE_OPREQ (op.getD 4)
  forEach (upto 4) (fun c u => applyPolicy t c (u.setChan t c { u.chan t c with reqThermal := op })) s

/-- A zone after a sample: its temperature and crossings; its state is the highest crossed, or Hot when every sensor of it is
suspect (R395, R396). -/
def zoneSample (t z : Nat) (s : State) : State :=
  let h := s.tierHeat t
  let x : Zone := Sparse.get (fun _ => {}) h.zones z
  let ks := zoneSensors z
  let temp := ((greatest (ks.map (s.effTemp t))).getD 0)
  let r := (thresholds z).zipIdx.map (fun (e : Int × Nat) => debounce (x.crossed.getD e.2 false) (x.run.getD e.2 0) temp e.1)
  let x : Zone := { temp := temp, crossed := r.map (·.1), run := r.map (·.2) }
  let on (i : Nat) : Bool := x.crossed.getD i false
  let blind := ks.all (fun k => (s.sensor t k).suspect)
  let st := if blind then 3 else if on 4 then 4 else if on 3 then 3 else if on 1 then 2 else if on 0 then 1 else 0
  (s.setHeat t { h with zones := Sparse.set (fun _ => {}) h.zones z x }).put (thmBase + 4 * t) (zoneFld z) st

def State.zoneOf (s : State) (t z : Nat) : Zone := Sparse.get (fun _ => {}) (s.tierHeat t).zones z
/-- The hottest zone's temperature. -/
def State.hottestZone (s : State) (t : Nat) : Int := max (s.zoneOf t 0).temp (max (s.zoneOf t 1).temp (s.zoneOf t 2).temp)

/-- THM_MAX: the hottest effective value of the package with its tier. -/
def noteMax (s : State) : State :=
  let all := s.tierList.map (fun t => (t, s.hottestZone t))
  match all with
  | [] => s
  | a :: l =>
    let m := l.foldl (fun (m : Nat × Int) x => if m.2 < x.2 then x else m) a
    (s.put thmBase THM_MAX_TIER m.1).put thmBase THM_MAX_TEMP (m.2 % 4096).toNat

/-- What a zone's crossings do (R397). `was`, `now`: the zone's states. -/
def noteCrossing (t was now : Nat) (s : State) : State :=
  let s := if was < 2 && 2 ≤ now then
      askThermal (raiseOpen (tierSource t 44) 0 (tellHeat t (s.putFlag thmBase THM_STATUS_WARN true))) else s
  if was < 3 && 3 ≤ now then
    askThermal (raiseOpen (tierSource t 44) 1 (tellHeat t (s.putFlag thmBase THM_STATUS_HOT true))) else s

/-- GRACE as it acts, in microseconds. -/
def State.grace (s : State) : Nat := max 1 (min 1000 (s.get thmBase THM_CFG_GRACE)) * 1000

/-- The tier's zones after a sample: crossings, requests, the start and the end of the ladder (R397, R398). -/
def tierSample (t : Nat) (s : State) : State :=
  let was := (upto 3).map (s.zoneState t)
  let was3 := (upto 3).any (fun z => (s.zoneOf t z).crossed.getD 2 false)
  let wasWarn := was.any (2 ≤ ·)
  let wasBlind := (upto 3).map (fun z => (zoneSensors z).all (fun k => (s.sensor t k).suspect))
  let s := forEach (upto 3) (zoneSample t) s
  let s := forEach (upto 3) (fun z u => noteCrossing t (was.getD z 0) (u.zoneState t z) u) s
  let blind := wasBlind.any id
  let s := if blind && !(s.tierHeat t).blind then
      raiseOpen (tierSource t 44) 3 (s.putFlag thmBase THM_STATUS_ZONE_SUSPECT true) else s
  let s := s.setHeat t { s.tierHeat t with blind := blind }
  let warn := (upto 3).any (fun z => 2 ≤ s.zoneState t z)
  let now3 := (upto 3).any (fun z => (s.zoneOf t z).crossed.getD 2 false)
  let s :=
    if warn && !wasWarn then
      let s := (s.putFlag (thmBase + 4 * t) THM_ZONE_GRACE true).setHeat t
        { s.tierHeat t with warnSince := some s.us, base := none }
      thermalPoint t (some (if now3 then 3 else s.get thmBase THM_CFG_WARN_OP)) s
    else if warn && now3 && !was3 then thermalPoint t (some 3) s
    else if !warn && wasWarn then
      let s := ((tellHeat t s).putFlag (thmBase + 4 * t) THM_ZONE_GRACE false).put (thmBase + 4 * t) THM_ZONE_L 8
      thermalPoint t none (s.setHeat t { s.tierHeat t with warnSince := none, base := none })
    else s
  let h := s.tierHeat t
  let s := match h.warnSince, h.base with
    | some w, none => if w + s.grace ≤ s.us + 10000 then s.setHeat t { h with base := some (s.hottestZone t), baseAt := s.us } else s
    | _, _ => s
  let s := noteMax (setFactor t s)
  if (upto 3).any (fun z => s.zoneState t z = 4) then tripNow s else s

/-- SENSOR_SAMPLE (R395, R396): a round of the tier's 16 sensors. In thermal shutdown only the readings are taken (R401);
in P4 none are (Table THM-3). -/
def execSensorSample (t : Nat) (readings : List Int) (s : State) : Host.Outcome State Fault Refusal :=
  if s.nTiers ≤ t || s.pkgMode.mode = .aon || s.pkgMode.mode = .rails || readings.length ≠ 16 then .next s
  else
    let s := forEach readings.zipIdx (fun (e : Int × Nat) u => u.setSensor t e.2 { u.sensor t e.2 with reading := e.1 }) s
    if s.pkgMode.mode = .shutdown then .next s
    else
      let s := forEach (upto 16) (fun k u => judgeSensor t k s u) s
      let s := forEach (upto 8) (fun d u => debounceDie t (8 + d) u) s
      let s := if (s.tierHeat t).sensed then setRefrate t s else s
      .next (tierSample t s)

/-- THERMAL_LADDER_TEST (R398): after the grace, every 10 ms; a rise of at least STEP_DELTA lowers L_t. -/
def execThermalLadderTest (t : Nat) (s : State) : Host.Outcome State Fault Refusal :=
  let h := s.tierHeat t
  match h.warnSince, h.base with
  | some w, some b =>
    if s.us < w + s.grace || s.us < h.baseAt + 10000 || s.pkgMode.mode ≠ .up then .next s
    else
      let now := s.hottestZone t
      let delta : Int := (max 1 (s.get thmBase THM_CFG_STEP_DELTA) : Nat)
      let s := (s.setHeat t { h with base := some now, baseAt := s.us }).putFlag (thmBase + 4 * t) THM_ZONE_GRACE false
      let l := s.get (thmBase + 4 * t) THM_ZONE_L
      .next (setFactor t (if delta ≤ now - b then s.put (thmBase + 4 * t) THM_ZONE_L (max 1 (l - 1)) else s))
  | _, _ => .next s

/-- THERMAL_MSIX (R397): at most once per 10 ms. -/
def execThermalMsix (s : State) : Host.Outcome State Fault Refusal :=
  let soon := match s.thmMsixLast with | some a => decide (s.us < a + 10000) | none => false
  if !s.thmMsixPending || soon || s.reacting then .next s
  else .next ({ s.signalControl (s.get thmBase THM_CFG_VEC) with thmMsixPending := false, thmMsixLast := some s.us })

/-- THERMAL_TRIP (R400). -/
def execThermalTrip (s : State) : Host.Outcome State Fault Refusal := .next (tripNow s)

/-- TRIP_COMPARATOR (R399): a comparator asserted for 2 microseconds trips the package unless its sensor is suspect. -/
def execTripComparator (t k : Nat) (s : State) : Host.Outcome State Fault Refusal :=
  .next (if s.nTiers ≤ t || 16 ≤ k || (s.sensor t k).suspect then s else tripNow s)

end Sys2Proof.Machine
end

