-- ==== Sys2Proof/Machine/Flash.lean ====
section
/-! DEFINITION. The flash: event log, log RAM, configuration store, shutdown records and calibration set (R373-R382), and
the copy of event records into the log (R346, R349). -/

namespace Sys2Proof.Machine

def State.flashSet (s : State) (f : Flash) : State := { s with flash := f }
def State.mgmtSet (s : State) (m : Mgmt) : State := { s with mgmt := m }

/-- Services runs: it has started, its hart is not halted (R431), the package is up and not locked down. -/
def State.servicesRun (s : State) : Bool :=
  s.mgmt.services && !(Sparse.get (fun _ => {}) s.dbg.harts 0 : Hart).halted && s.pkgMode.mode = .up && !s.flt.lockedDown

/-! ### The event log (R374-R377) -/

def State.sector (s : State) (p : Nat) : Sector := Sparse.get (fun _ => {}) s.flash.sectors p
def State.setSector (s : State) (p : Nat) (v : Sector) : State :=
  s.flashSet { s.flash with sectors := Sparse.set (fun _ => {}) s.flash.sectors p v }
def State.ramLog (s : State) : Bool := s.flag mgtBase MGT_FLASH_STATUS_RAM_LOG
def flashErased (n : Nat) (s : State) : State := s.count (mgtBase + 0x50) n

/-- The lowest free spare takes a retired sector's place; with none free the log continues in RAM (R376, R377). -/
def retireSector (p : Nat) (s : State) : State :=
  let s := raiseOpen 0x007 0 (s.putFlag mgtBase MGT_ERR_STATUS_SECTOR_RETIRED true)
  let f := s.flash
  let entry := if p = f.place then 0 else f.entry
  let s := s.flashSet { f with log := f.log.filter (fun e => e.place ≠ p), entry := entry }
  if f.spared.length < 256 then
    (s.flashSet { s.flash with spared := f.spared ++ [(p, f.spared.length)] }).setSector p {}
  else
    raiseOpen 0x007 1 ((s.setSector p { state := 4, erases := (s.sector p).erases }).putFlag mgtBase MGT_FLASH_STATUS_RAM_LOG true)

/-- Erase a sector of the circle; its entries are gone. A sector that fails or is worn is retired. -/
def eraseSector (p : Nat) (ok : Bool) (s : State) : State :=
  let n := (s.sector p).erases + 1
  let s := s.flashSet { s.flash with log := s.flash.log.filter (fun e => e.place ≠ p) }
  let s := flashErased 1 (s.setSector p { state := 0, erases := n })
  if !ok || 100000 ≤ n then retireSector p s else s

/-- An entry of the log RAM, a circle of 1,024. -/
def logRam (e : LogEntry) (s : State) : State :=
  let l := s.flash.ram ++ [e]
  s.flashSet { s.flash with ram := l.drop (l.length - 1024), seq := s.flash.seq + 1 }

/-- Write a log entry at the write position, then keep the sector after the open one erased. -/
def appendLog (kind : Nat) (words : List Nat) (progOk eraseOk : Bool) (s : State) : State :=
  let s := if s.ramLog || progOk then s else retireSector s.flash.place s
  let f := s.flash
  let e : LogEntry := { place := f.place, words := words, seq := f.seq, boots := f.boots, kind := kind }
  let s := s.count (mgtBase + 0x48) 1
  if s.ramLog then logRam e s
  else
    let last := decide (f.entry = 62)
    let s := s.setSector f.place { s.sector f.place with state := if last then 2 else 1 }
    let next := (f.place + 1) % 4096
    let s := s.flashSet { s.flash with
      log := s.flash.log ++ [e], seq := f.seq + 1, entry := if last then 0 else f.entry + 1, place := if last then next else f.place }
    let ahead := (next + 1) % 4096
    if last && (s.sector ahead).state ≠ 0 then eraseSector ahead eraseOk s else s

/-- Shutdown records not yet copied hold back the log (R378). -/
def State.slotsToCopy (s : State) : Bool :=
  s.flash.slots.any (fun e => match e.2 with | some r => !r.copied | none => false)

/-- A platform event of class Degraded or above goes to the event receiver (R349, R369). -/
def platformEvent (r : FRec) (s : State) : State :=
  if (3 ≤ r.cls || r.marked 5) && s.mgmt.receiver.isSome then s.emit (.platformEvent r.recnum r.cls) else s

/-- Services copies a record into the log (R346, R349). -/
def copyRecord (n : Nat) (progOk eraseOk : Bool) (s : State) : State :=
  if !s.servicesRun || s.slotsToCopy then s
  else match s.flt.queue.find? (fun r => r.recnum = n && !r.marked 4) with
    | none => s
    | some r =>
      let s := appendLog 0 (r.words ++ r.tail) progOk eraseOk s
      platformEvent r (mapRecord n (fun r => r.mark 4) s)

/-- RECORD_FLASH_COPY (R349). -/
def execRecordFlashCopy (n : Nat) (s : State) : Host.Outcome State Fault Refusal := .next (copyRecord n true true s)

/-- LOG_ENTRY_WRITE (R375): an event record, or a note of Services; a program and an erase may fail verification (R376). -/
def execLogEntryWrite (recnum : Option Nat) (note : List Nat) (progOk eraseOk : Bool) (s : State) :
    Host.Outcome State Fault Refusal :=
  match recnum with
  | some n => .next (copyRecord n progOk eraseOk s)
  | none => .next (if s.servicesRun && !s.slotsToCopy then appendLog 2 (note.take 8) progOk eraseOk s else s)

/-- SECTOR_RETIRE (R376): a log sector that is worn or failed; places 4,096 to 5,119 are the configuration store's. -/
def execSectorRetire (p : Nat) (failed : Bool) (s : State) : Host.Outcome State Fault Refusal :=
  if !s.servicesRun then .next s
  else if p < 4096 then
    .next (if (failed || 100000 ≤ (s.sector p).erases) && (s.sector p).state ≠ 4 then retireSector p s else s)
  else if p < 5120 && failed && !s.flash.cfgBad.contains (p - 4096) then
    .next (raiseOpen 0x007 0 ((s.flashSet { s.flash with cfgBad := (p - 4096) :: s.flash.cfgBad }).putFlag mgtBase
      MGT_ERR_STATUS_SECTOR_RETIRED true))
  else .next s

/-! ### The configuration store (R379) -/

/-- Good sectors of the half in use. -/
def State.cfgGood (s : State) : Nat := 512 - (s.flash.cfgBad.filter (fun p => p / 512 = s.flash.half)).length

/-- A write to the configuration store; with fewer than 64 good sectors it is refused. -/
def storeWrite (f : Flash → Flash) (s : State) : State :=
  if s.cfgGood < 64 then raiseOpen 0x007 1 s
  else s.flashSet { f s.flash with records := s.flash.records + 1 }

/-- CONFIG_STORE_COMPACTION: the live records, one for each key, go to the other half and the full one is erased. -/
def execConfigStoreCompaction (s : State) : Host.Outcome State Fault Refusal :=
  if !s.servicesRun then .next s
  else
    let f := s.flash
    let live := f.overrides.length + f.sris.length + f.regulators.length + 2
    .next (flashErased s.cfgGood (s.flashSet { f with half := 1 - f.half, records := live }))

/-! ### Shutdown records (R378) -/

/-- Erased slots. -/
def State.slotsFree (s : State) : Nat := ((upto 64).filter (fun i => Sparse.get (fun _ => none) s.flash.slots i = none)).length

/-- Words of a record for its log entry. -/
def ShutRec.words (r : ShutRec) : List Nat := ([r.cause, r.boots, r.time % 2 ^ 32, r.time / 2 ^ 32] ++ r.event).take 8

/-- A sector that a power loss left partly erased is erased again, its count taken from the mirror (R375). -/
def redoErase (p : Nat) (s : State) : State :=
  raiseOpen 0x007 3 ((eraseSector p true s).putFlag mgtBase MGT_ERR_STATUS_ERASE_REDONE true)

/-- At boot every sector in ERASE_PENDING, or whose header fails its CRC, is erased again. -/
def redoErases (s : State) : State :=
  forEach ((s.flash.sectors.filter (fun e => e.2.state = 3 || !e.2.headerOk)).map (·.1)) redoErase s

/-- Grotto erases a slot. -/
def eraseSlot (i : Nat) (s : State) : State :=
  flashErased 1 (s.flashSet { s.flash with slots := Sparse.set (fun _ => none) s.flash.slots i none })

/-- SHUTDOWN_RECORD_COPY (R378): each used slot is copied into the log, a log sector named with an erase in progress is
erased again, and Grotto erases the slot; while Grotto runs another gate the slot waits for SLOT_ERASE. -/
def execShutdownRecordCopy (s : State) : Host.Outcome State Fault Refusal :=
  if !s.servicesRun then .next s
  else .next (forEach s.flash.slots (fun (e : Nat × Option ShutRec) u =>
    match e.2 with
    | none => u
    | some r =>
      if r.copied then u
      else
        let u := appendLog 1 r.words true true u
        let u := if r.flashOp = 2 && 0x2000000 ≤ r.flashOff && decide (r.flashOff < 0x3000000) then
            redoErase ((r.flashOff - 0x2000000) / 4096) u else u
        let done : ShutRec := { r with copied := true }
        let u := u.flashSet { u.flash with slots := Sparse.set (fun _ => none) u.flash.slots e.1 (some done) }
        if u.mgmt.gateDone.isNone then eraseSlot e.1 u else u) s)

/-! ### The calibration set (R380-R382) -/

/-- The factory's set: format 1, origin 1, and its CRC-32C; the rest reads 0 (assumption log entry 7). -/
def calFactory (i : Nat) : BitVec 8 :=
  match i with
  | 0 => 1 | 1 => 1 | 0xFFFC => 0x0E | 0xFFFD => 0x73 | 0xFFFE => 0x7B | 0xFFFF => 0xA6
  | _ => 0

def State.calByte (s : State) (i : Nat) : BitVec 8 := Sparse.get calFactory s.flash.cal i

/-- Format and CRC of a set of bytes. -/
def calChecks (m : Sparse (BitVec 8)) : Bool :=
  let b (i : Nat) : Nat := (Sparse.get calFactory m i).toNat
  let crc := b 0xFFFC + b 0xFFFD * 2 ^ 8 + b 0xFFFE * 2 ^ 16 + b 0xFFFF * 2 ^ 24
  b 0 = 1 && crc32c ((upto 65532).map b) = crc

/-- At power-on the set is loaded; a corrupt one gives generic defaults (R382). -/
def loadCal (s : State) : State :=
  if s.flash.calGood then s.put mgtBase MGT_FLASH_STATUS_CAL (s.calByte 1).toNat
  else raiseOpen 0x007 2 ((s.put mgtBase MGT_FLASH_STATUS_CAL 0).putFlag mgtBase MGT_ERR_STATUS_CAL_DEFAULT true)

/-- Grotto writes the imported set whole. -/
def writeCal (m : Sparse (BitVec 8)) (s : State) : State :=
  flashErased 16 (s.flashSet { s.flash with cal := m, calGood := calChecks m, calNew := none })

/-- A loss of power, or a Lockdown, during the write of the set leaves it corrupt (R381). -/
def tearFlash (s : State) : State :=
  let s := if s.flash.busy ≠ 0 && s.flash.busyOff = 0x3100000 then s.flashSet { s.flash with calGood := false } else s
  s.flashSet { s.flash with busy := 0 }

end Sys2Proof.Machine
end

