-- ==== Sys2Proof/Machine/Meter.lean ====
section
/-! DEFINITION. Minute metering (chapter 09): ticks, folding, roll-ups, nodes, history, snapshots and seals. -/

namespace Sys2Proof.Machine

/-! ### Counts and records (R215, R216, R218, R224) -/

/-- A count at its field's maximum (R218). -/
def capCount (width n : Nat) : Nat := min n (2 ^ width - 1)
/-- The counts as they fit their fields: BYTES_READ is 64 times the lines, MISSES has 32 bits. -/
def Counts.capped (c : Counts) : Counts :=
  { lines := min c.lines ((2 ^ 64 - 1) / 64), bytes := capCount 64 c.bytes, hits := capCount 64 c.hits
    misses := capCount 32 c.misses, throttled := capCount 64 c.throttled, hammer := capCount 64 c.hammer }
def Counts.plus (a b : Counts) : Counts :=
  { lines := a.lines + b.lines, bytes := a.bytes + b.bytes, hits := a.hits + b.hits, misses := a.misses + b.misses
    throttled := a.throttled + b.throttled, hammer := a.hammer + b.hammer }
def Counts.ofList (l : List Nat) : Counts :=
  { lines := l.getD 0 0, bytes := l.getD 1 0, hits := l.getD 2 0, misses := l.getD 3 0, throttled := l.getD 4 0
    hammer := l.getD 5 0 }
def Counts.toList (c : Counts) : List Nat := [c.lines, c.bytes, c.hits, c.misses, c.throttled, c.hammer]

/-- FLAGS (Table MTR-2). -/
def flagBits (indet overflow unsync created released : Bool) : Nat :=
  ofBool indet + 2 * ofBool overflow + 4 * ofBool unsync + 8 * ofBool created + 16 * ofBool released
def MRec.flags (r : MRec) : Nat := flagBits r.indet r.overflow r.unsync r.created r.released
def MNode.flags (r : MNode) : Nat := flagBits r.indet r.overflow r.unsync r.created r.released

/-- Bytes 0 to 119 of a record or node, with its CRC (Table MTR-1, R216). -/
def recordBytes (tick start duration ident account flags : Nat) (c : Counts) (extSec sources pkgs : Nat) : Nat :=
  let v := tick % 2 ^ 32 + ident * 2 ^ 32 + account * 2 ^ 64 + flags * 2 ^ 80 + duration % 2 ^ 32 * 2 ^ 96 +
    start * 2 ^ 128 + 64 * c.lines * 2 ^ 192 + c.bytes * 2 ^ 256 + extSec * 2 ^ 320 + c.hits * 2 ^ 384 +
    c.misses * 2 ^ 448 + sources * 2 ^ 480 + c.throttled * 2 ^ 512 + c.hammer * 2 ^ 576 + pkgs * 2 ^ 640
  v + crc64 (leBytes 4 ident ++ leBytes 4 tick ++ leBytes 120 v) * 2 ^ 960

def MRec.bytes (k : Tick) (r : MRec) : Nat :=
  recordBytes k.num k.start k.duration r.ctx r.account r.flags r.counts r.extSec (r.tiers.toNat + r.pkgs.toNat * 2 ^ 8) 0

/-- The NODE word (R224). -/
def MNode.word (pkg : Nat) (n : MNode) : Nat := n.kind * 2 ^ 30 + pkg * 2 ^ 26 + (if n.kind = 1 then n.id else 0)
def MNode.bytes (k : Tick) (pkg : Nat) (n : MNode) : Nat :=
  recordBytes k.num k.start k.duration (n.word pkg) 0 n.flags n.counts n.extSec n.children n.pkgs.toNat

/-! ### The meter's state -/

def State.meterSet (s : State) (m : Meter) : State := { s with meter := m }
def State.tickOf (s : State) (n : Nat) : Option Tick := s.meter.ticks.find? (fun k => k.num = n)
def mapTick (n : Nat) (f : Tick → Tick) (s : State) : State :=
  s.meterSet { s.meter with ticks := s.meter.ticks.map (fun k => if k.num = n then f k else k) }
/-- The last tick closed. -/
def State.lastTick (s : State) : Nat := s.get mtrBase ⟨0x8, 31, 0⟩
def State.mInterval (s : State) : Nat := s.get mtrBase MTR_CFG_INTERVAL
/-- ROLL_WAIT in microseconds. -/
def State.rollWait (s : State) : Nat := s.get mtrBase MTR_CFG_ROLL_WAIT * 100000
def State.role (s : State) : Nat := s.get rilBase RIL_STATUS_ROLE
/-- A worker or standby in a pool (R227). -/
def State.isWorker (s : State) : Bool := s.role = 1 || s.role = 2

/-- MTR_OLDEST and MTR_DEPTH. -/
def showDepth (s : State) : State :=
  let s := s.setReg (mtrBase + 0x18) (BitVec.ofNat 64 s.meter.ticks.length)
  s.setReg (mtrBase + 0xC) (BitVec.ofNat 64 ((s.meter.ticks.head?.map (·.num)).getD 0))

/-! ### Indeterminate marking (R228, R229) -/

/-- One record is marked INDET: its metering-gap event, GAP and MTR_GAP_CNT. -/
def gapEvent (c : Nat) (s : State) : State :=
  raiseCtx 0x008 0 c ((s.putFlag mtrBase MTR_STATUS_GAP true).count (mtrBase + 0x40) 1)

/-- Mark the records of a tick that `p` selects; `zero` rewrites them with zero counts. A sealed tick is sealed anew. -/
def markRecords (n : Nat) (p : MRec → Bool) (zero : Bool) (s : State) : State :=
  match s.tickOf n with
  | none => s
  | some k =>
    let hit := k.records.filter (fun r => p r && (zero || !r.indet))
    let f (r : MRec) : MRec :=
      if p r && (zero || !r.indet) then
        (if zero then { r with indet := true, counts := {}, extSec := 0, tiers := 0, pkgs := 0 } else { r with indet := true })
      else r
    let s := mapTick n (fun k => { k with
      records := k.records.map f, reseal := k.reseal || (k.sealed.isSome && decide (hit ≠ [])) }) s
    forEach hit (fun r u => gapEvent r.ctx u) s

/-! ### Waiting descriptors (R230, R231) -/

/-- RESULT of METER_SNAPSHOT for the identifiers at or above FIRST and those left. -/
def snapResult (written : Nat) (rest : List Nat) : Nat :=
  written + (match rest with | [] => 0 | i :: _ => i % 2 ^ 18 * 2 ^ 32 + 2 ^ 63)

/-- Write records or nodes of a final tick to host memory (R230, R266). -/
def snapshot (f : Fetched) (k : Tick) (w : MeterWait) (s : State) : State :=
  let g := s.ring f.ref.ring
  let items : List (Nat × Nat) := match w.scope with
    | 0 => (k.records.filter (fun r => w.first ≤ r.ctx && (!g.tenant || r.account = g.account))).map (fun r => (r.ctx, r.bytes k))
    | 1 => (k.accounts.filter (fun n => w.first ≤ n.id)).map (fun n => (n.id, n.bytes k s.pkg))
    | 2 => (k.node.map (fun n => [(0, n.bytes k s.pkg)])).getD []
    | _ => (k.poolNode.map (fun n => [(0, n.bytes k s.pkg)])).getD []
  let now := items.take w.count
  let s := if now = [] then s else s.emit (.dmaWrite g.dmaPort w.haddr (now.flatMap (fun x => dwords 16 x.2)))
  complete f.ref 0 (snapResult now.length ((items.drop w.count).map (·.1))) s

/-- The tick is final for a scope. -/
def Tick.readyFor (k : Tick) (scope : Nat) : Bool := if scope = 3 then k.poolNode.isSome else k.finished

/-- A seal record's first 32 bytes. -/
def sealHead (k : Tick) (pkg gen : Nat) : Nat :=
  k.num % 2 ^ 32 + pkg * 2 ^ 32 + gen % 256 * 2 ^ 40 + ((k.node.map (·.flags)).getD 0) * 2 ^ 48 + k.records.length * 2 ^ 64 +
  k.duration % 2 ^ 32 * 2 ^ 96 + k.start * 2 ^ 128
/-- The seal input (R231). -/
def sealInput (k : Tick) (pkg gen : Nat) : List Nat :=
  leBytes 32 (sealHead k pkg gen) ++ k.records.flatMap (fun r => leBytes 128 (r.bytes k)) ++
  ((k.node.map (fun n => leBytes 128 (n.bytes k pkg))).getD [])
/-- The seal record as a number; the signature's r and s are big-endian. -/
def sealBytes (k : Tick) (pkg : Nat) (z : Seal) : Nat :=
  let be (n v : Nat) : Nat := ((upto n).map (fun i => v / 2 ^ (8 * i) % 256 * 2 ^ (8 * (n - 1 - i)))).sum
  sealHead k pkg z.gen + z.digest.toNat * 2 ^ 256 +
  (be 48 (z.signature.toNat / 2 ^ 384) + be 48 (z.signature.toNat % 2 ^ 384) * 2 ^ 384) * 2 ^ 640 +
  Config.keyDigest.toNat * 2 ^ 1408

/-- Write a tick's seal record and complete METER_SEAL. -/
def answerSeal (f : Fetched) (k : Tick) (z : Seal) (haddr : Nat) (s : State) : State :=
  complete f.ref 0 z.gen (s.emit (.dmaWrite (s.ring f.ref.ring).dmaPort haddr (dwords 32 (sealBytes k s.pkg z))))

/-- Serve the waiting descriptors of a tick that can be served now. -/
def serveWaits (n : Nat) (s : State) : State :=
  match s.tickOf n with
  | none => s
  | some k =>
    let go := s.meter.waits.filter (fun w => w.tick = n && (if w.toSeal then k.sealed.isSome else k.readyFor w.scope))
    let s := s.meterSet { s.meter with waits := s.meter.waits.filter (fun w => !go.contains w) }
    forEach go (fun w u => match u.fetchedOf w.desc with
      | none => u
      | some f => match w.toSeal, k.sealed with
        | true, some z => answerSeal f k z w.haddr u
        | _, _ => snapshot f k w u) s

/-- Grotto makes a tick's seal. -/
def makeSeal (n gen : Nat) (s : State) : State :=
  match s.tickOf n with
  | none => s
  | some k =>
    let digest := Config.sha384 (sealInput k s.pkg gen)
    let z : Seal := { gen := gen, records := k.records.length, digest := digest, signature := Config.sign digest s.fresh }
    let s := mapTick n (fun k => { k with sealed := some z, reseal := false }) s.drawn
    serveWaits n (s.setReg (mtrBase + 0x1C) (BitVec.ofNat 64 n))

/-- With AUTOSEAL = 0 Grotto makes the seals that METER_SEAL descriptors wait for. -/
def sealForWaits (s : State) : State :=
  if s.mgmt.grotto && s.identity && !s.flag mtrBase MTR_CFG_AUTOSEAL then
    forEach s.meter.ticks (fun k u =>
      if k.finished && k.sealed.isNone && u.meter.waits.any (fun w => w.toSeal && w.tick = k.num) then makeSeal k.num 0 u else u) s
  else s

/-! ### History (R226) -/

/-- Slots a tick takes on a tier. -/
def Tick.slots (k : Tick) (n t : Nat) : Nat :=
  (k.records.filter (fun r => r.ctx % n = t)).length +
  (((k.records.map (·.account)).dedup).filter (fun a => a % n = t)).length

/-- Slots of a tier's ring; lost runnels' rows are gone. -/
def State.slotRoom (s : State) (t : Nat) : Nat :=
  2326528 * ((upto 16).filter (fun j => s.get (bsnBase t j) BSN_SLICE_STATUS_WIDTH ≠ 2)).length / 16

/-- A history fits on every tier and holds at most 64 ticks. -/
def State.historyFits (s : State) (l : List Tick) : Bool :=
  l.length ≤ 64 && s.tierList.all (fun t => decide ((l.map (fun k => k.slots s.nTiers t)).sum ≤ s.slotRoom t))

/-- Discard the oldest ticks until the rest fits. -/
def State.trim (s : State) : List Tick → List Tick
  | [] => []
  | k :: l => if s.historyFits (k :: l) then k :: l else s.trim l

/-- Trim the history; descriptors that wait for a discarded tick complete with BAD_FIELD. -/
def trimHistory (s : State) : State :=
  let l := s.trim s.meter.ticks
  let gone := s.meter.waits.filter (fun w => !l.any (fun k => k.num = w.tick))
  let s := s.meterSet { s.meter with ticks := l, waits := s.meter.waits.filter (fun w => l.any (fun k => k.num = w.tick)) }
  showDepth (forEach gone (fun w u => complete w.desc 0x02 0 u) s)

/-! ### Closing a tick (R219, R222, R227, R228) -/

/-- Owners of the REMOTE extents of a context. -/
def State.ownersOf (s : State) (c : Nat) : List Nat :=
  ((s.exts.filter (fun e => e.1 / 2 ^ 20 = c && e.2.valid && e.2.remote)).map (fun e => penPkg e.2.pen)).dedup

/-- The record of a context as the mark finds it: its extent-seconds, with the counts to be folded in. -/
def State.openRecord (s : State) (unsync : Bool) (c : Nat) : MRec :=
  let gone := Sparse.get (fun _ => none) s.meter.released c
  let sec := Sparse.get (fun _ => 0) s.extAcc c / 1000000
  { ctx := c, account := (gone.map (·.account)).getD (s.ctx c).account, released := gone.isSome, unsync := unsync
    created := (gone.map (·.created)).getD (Sparse.get (fun _ => false) s.meter.createdIn c)
    extSec := capCount 64 sec, waitOn := s.ownersOf c }

/-- Take the whole extent-seconds from a context's accumulator; a FREE context's remainder is discarded. -/
def keepRemainder (c : Nat) (s : State) : State :=
  let zero : Nat → Nat := fun _ => 0
  let r := if (s.ctx c).state = .free then 0 else Sparse.get zero s.extAcc c % 1000000
  { s with extAcc := Sparse.set zero s.extAcc c r }

/-- A mark closes the open tick under a number and opens the next (R24, R222, R227). -/
def closeTick (num : Nat) (unsync : Bool) (s : State) : State :=
  let live := (s.ctxs.filter (fun e => e.2.state ≠ .free)).map (·.1)
  let ids := ((live ++ s.meter.released.map (·.1)).dedup).mergeSort (· ≤ ·)
  let s := forEach live accrue s
  let uns := s.meter.openUnsync || unsync
  let start := (s.reg (mtrBase + 0x10)).toNat
  let folding := s.tierList.filter (fun t => (s.tier t).power ≠ 3)
  let busy := folding.filter (fun t => s.meter.ticks.any (fun k => k.folding.contains t))
  let k : Tick :=
    { num := num, start := start, duration := s.us - start, unsync := uns, markAt := s.us, folding := folding
      late := (busy ++ s.meter.openLate).dedup, records := ids.map (s.openRecord uns) }
  let indet := s.meter.openIndet
  let all := s.meter.openIndetAll
  let s := forEach ids keepRemainder s
  let s := { s with leafBank := (folding.filter (fun t => !busy.contains t)).foldl (fun m t =>
    Sparse.set (fun _ => 0) m t (1 - Sparse.get (fun _ => 0) m t)) s.leafBank }
  let s := match s.meter.config with
    | none => s
    | some (i, r, a) => ((s.put mtrBase MTR_CFG_INTERVAL i).put mtrBase MTR_CFG_ROLL_WAIT r).putFlag mtrBase MTR_CFG_AUTOSEAL a
  let s := s.meterSet { s.meter with
    ticks := s.meter.ticks ++ [k], openUnsync := unsync, openIndet := [], openIndetAll := false, openLate := busy
    createdIn := [], released := [], config := none }
  let s := s.setReg (mtrBase + 0x8) (BitVec.ofNat 64 (num % 2 ^ 32))
  let s := s.setReg (mtrBase + 0x10) (BitVec.ofNat 64 s.us)
  let s := s.putFlag mtrBase MTR_STATUS_UNSYNC unsync
  let s := if unsync then s.count (mtrBase + 0x58) 1 else s
  trimHistory (markRecords num (fun r => all || indet.contains r.ctx) false s)

/-! ### Folding (R222, R223) -/

/-- Fold a leaf's counts into a record. -/
def MRec.fold (r : MRec) (c : Counts) (full : Bool) : MRec :=
  let sum := r.counts.plus c
  { r with counts := sum.capped, overflow := r.overflow || full || decide (sum.capped ≠ sum) }

/-- OVERFLOW of a record shows in MTR_STATUS with a Note. -/
def noteOverflow (was now : Bool) (s : State) : State :=
  if now && !was then raiseOpen 0x009 3 (s.putFlag mtrBase MTR_STATUS_OVERFLOW true) else s

/-- Fold counts into the record of a context in a tick. -/
def foldInto (n c : Nat) (counts : Counts) (full : Bool) (mark : MRec → MRec) (s : State) : State :=
  match (s.tickOf n).bind (fun k => k.records.find? (fun r => r.ctx = c)) with
  | none => s
  | some r =>
    let r' := mark (r.fold counts full)
    noteOverflow r.overflow r'.overflow
      (mapTick n (fun k => { k with records := k.records.map (fun x => if x.ctx = c then r' else x) }) s)

/-- A record becomes final when every tier has folded and every owner it waits for is done (R222). -/
def Tick.doneBy (k : Tick) (o : Nat) : Bool :=
  k.dones.any (fun d => d.1 = o && d.2 ≤ Sparse.get (fun _ => 0) k.rollups o)
def Tick.finalize (k : Tick) : Tick :=
  if k.folding ≠ [] then k
  else { k with records := k.records.map (fun r => { r with final := r.final || r.waitOn.all k.doneBy }) }

/-- Counts kept as six consecutive keys of a leaf map. -/
def leafCounts (m : Sparse Nat) (key : Nat) : Counts :=
  Counts.ofList ((upto 6).map (fun n => Sparse.get (fun _ => 0) m (key * 8 + n)))
/-- A leaf counter of the six stands at its maximum. -/
def leafFull (m : Sparse Nat) (key : Nat) : Bool :=
  (upto 6).any (fun n => Sparse.get (fun _ => 0) m (key * 8 + n) = 2 ^ leafWidth n - 1)

/-- Fold the closed leaves of a tier into a tick. -/
def foldLeaves (n t : Nat) (s : State) : State :=
  let b := 1 - Sparse.get (fun _ => 0) s.leafBank t
  let mine (k : Nat) : Bool := k / 2 ^ 21 = b * 8 + t
  let m := s.leaves.filter (fun e => mine e.1)
  let keys := (m.map (fun e => e.1 / 8)).dedup
  let s := { s with leaves := s.leaves.filter (fun e => !mine e.1) }
  forEach keys (fun k u => foldInto n (k % 2 ^ 18) (leafCounts m k) (leafFull m k)
    (fun r => { r with tiers := r.tiers ||| BitVec.ofNat 8 (2 ^ t) }) u) s

/-- Send the roll-ups of a tier's closed remote leaves; catch-all leaves wait for the done frame. -/
def foldRemote (n t : Nat) (s : State) : State :=
  let b := 1 - Sparse.get (fun _ => 0) s.leafBank t
  let mine (k : Nat) : Bool := k / 2 ^ 25 = b * 8 + t
  let m := s.remoteLeaves.filter (fun e => mine e.1)
  let keys := (m.map (fun e => e.1 / 8)).dedup
  let s := { s with remoteLeaves := s.remoteLeaves.filter (fun e => !mine e.1) }
  forEach keys (fun k u =>
    let pkg := k / 2 ^ 18 % 16
    let c := k % 2 ^ 18
    let x := leafCounts m k
    if c = 0x3FFFF then
      mapTick n (fun k =>
        let sum := (Sparse.get (fun _ => {}) k.unattributed pkg).plus x
        { k with unattributed := Sparse.set (fun _ => {}) k.unattributed pkg sum }) u
    else
      rillSend pkg 0x20 ([n, c] ++ x.toList) (mapTick n (fun k => { k with
        sent := Sparse.set (fun _ => 0) k.sent pkg (Sparse.get (fun _ => 0) k.sent pkg + 1) }) u)) s

/-- Packages that hold a lease from this one. -/
def State.borrowers (s : State) : List Nat := (s.pool.granted.map (·.borrower)).dedup

/-- After the last tier's fold: the done frames, once, and the records that are final. -/
def afterFold (n : Nat) (s : State) : State :=
  match s.tickOf n with
  | none => s
  | some k =>
    if k.folding ≠ [] then s
    else
      let s := if k.donesSent then s else forEach s.borrowers (fun p u =>
        rillSend p 0x21 ([n, Sparse.get (fun _ => 0) k.sent p] ++ (Sparse.get (fun _ => {}) k.unattributed p).toList) u) s
      mapTick n (fun k => { k.finalize with donesSent := true }) s

/-- LOCAL_FOLD_END (R222): the tier's closed bank is folded into the oldest tick that awaits it; a tier that did not
switch at a later mark switches now. -/
def execLocalFoldEnd (t : Nat) (s : State) : Host.Outcome State Fault Refusal :=
  match s.meter.ticks.find? (fun k => k.folding.contains t) with
  | none => .next s
  | some k =>
    if (s.tier t).engReset then .next s
    else
      let n := k.num
      let s := s.setTier t { s.tier t with idleSince := s.us }
      let s := foldRemote n t (foldLeaves n t s)
      let s := if k.late.contains t then markRecords n (fun r => r.tiers.getLsbD t) false s else s
      let s := mapTick n (fun k => { k with folding := k.folding.erase t }) s
      let s := if s.foldingTier t then
          { s with leafBank := Sparse.set (fun _ => 0) s.leafBank t (1 - Sparse.get (fun _ => 0) s.leafBank t) }
        else s
      .next (afterFold n s)

/-- A roll-up arrives (R223). -/
def takeRollUp (src n c : Nat) (counts : List Nat) (s : State) : State :=
  let ok := match s.tickOf n with
    | some k => !k.finished && k.records.any (fun r => r.ctx = c && !r.final)
    | none => false
  if ok then
    let s := foldInto n c (Counts.ofList counts) false (fun r => { r with pkgs := r.pkgs ||| BitVec.ofNat 16 (2 ^ src) }) s
    (mapTick n (fun k => ({ k with
      rollups := Sparse.set (fun _ => 0) k.rollups src (Sparse.get (fun _ => 0) k.rollups src + 1) } : Tick).finalize) s)
  else (raiseOpen 0x009 1 ((s.putFlag mtrBase MTR_STATUS_ROLL_LATE true).count (mtrBase + 0x50) 1))

/-- ROLL_UP_FRAME (R223). -/
def execRollUpFrame (src n c : Nat) (counts : List Nat) (s : State) : Host.Outcome State Fault Refusal :=
  .next (takeRollUp src n c counts s)

/-- A done frame arrives (R223). -/
def takeDone (src n frames : Nat) (unattributed : List Nat) (s : State) : State :=
  match s.tickOf n with
  | none => s
  | some k =>
    if k.finished then s
    else
      let s := if unattributed.any (fun x => x ≠ 0) then markRecords n (fun r => r.waitOn.contains src) false s else s
      (mapTick n (fun k => ({ k with dones := k.dones ++ [(src, frames)] } : Tick).finalize) s)

/-- DONE_FRAME (R223). -/
def execDoneFrame (src n frames : Nat) (unattributed : List Nat) (s : State) : Host.Outcome State Fault Refusal :=
  .next (takeDone src n frames unattributed s)

/-- ROLL_WAIT_EXPIRY (R222): records that still wait for an owner are marked INDET and wait no longer. -/
def execRollWaitExpiry (n : Nat) (s : State) : Host.Outcome State Fault Refusal :=
  match s.tickOf n with
  | none => .next s
  | some k =>
    if s.us < k.markAt + s.rollWait || k.finished then .next s
    else
      let missing (r : MRec) : Bool := !r.final && !r.waitOn.all k.doneBy
      let s := markRecords n missing false s
      .next (mapTick n (fun k => ({ k with records := k.records.map (fun r =>
        if missing r then { r with waitOn := [] } else r) } : Tick).finalize) s)

/-! ### Nodes (R222, R224) -/

/-- A node's sums over its children's counts, flags and extent-seconds. -/
def sumNode (kind id : Nat) (l : List (Counts × Nat × Nat)) : MNode :=
  let sum := l.foldl (fun (c : Counts) x => c.plus x.1) {}
  let sec := (l.map (fun x => x.2.1)).sum
  let flag (i : Nat) : Bool := l.any (fun x => bitAt x.2.2 i)
  { kind := kind, id := id, counts := sum.capped, extSec := capCount 64 sec, children := l.length, indet := flag 0
    overflow := flag 1 || decide (sum.capped ≠ sum) || decide (2 ^ 64 ≤ sec), unsync := flag 2 }

def Tick.accountNodes (k : Tick) : List MNode :=
  (((k.records.map (·.account)).dedup).mergeSort (· ≤ ·)).map (fun a =>
    sumNode 1 a ((k.records.filter (fun r => r.account = a)).map (fun r => (r.counts, r.extSec, r.flags))))

def Tick.packageNode (k : Tick) (pkg : Nat) : MNode :=
  sumNode 2 pkg (k.accountNodes.map (fun r => (r.counts, r.extSec, r.flags)))

/-- TICK_FOLDING_FINISHED (R222, R224): the nodes are built; the package node goes to the manager. -/
def execTickFoldingFinished (n : Nat) (s : State) : Host.Outcome State Fault Refusal :=
  match s.tickOf n with
  | none => .next s
  | some k =>
    if k.finished || k.folding ≠ [] || !k.records.all (·.final) then .next s
    else
      let node := k.packageNode s.pkg
      let own := if s.role = 3 then [node] else []
      let s := mapTick n (fun k => { k with
        finished := true, accounts := k.accountNodes, node := some node, nodes := k.nodes ++ own }) s
      let s := if s.isWorker then
          rillSend (s.get rilBase RIL_STATUS_MGR) 0x22 ([n, node.flags, node.extSec] ++ node.counts.toList) s
        else s
      .next (sealForWaits (serveWaits n s))

/-- A package node arrives (R224): on the manager, before the pool node is built. -/
def takeNode (src n : Nat) (f : NodeFields) (s : State) : State :=
  match s.tickOf n with
  | none => s
  | some k =>
    if s.role ≠ 3 || k.poolNode.isSome then s
    else
      let node : MNode :=
        { kind := 2, id := src, indet := f.flags.getLsbD 0, overflow := f.flags.getLsbD 1, unsync := f.flags.getLsbD 2
          extSec := f.extSec
          counts := { lines := f.lines, bytes := f.bytes, hits := f.hits, misses := f.misses, throttled := f.throttled
                      hammer := f.hammer } }
      (mapTick n (fun k => { k with nodes := k.nodes.filter (fun x => x.id ≠ src) ++ [node] }) s)

/-- PACKAGE_NODE_FRAME (R224). -/
def execPackageNodeFrame (src n : Nat) (f : NodeFields) (s : State) : Host.Outcome State Fault Refusal :=
  .next (takeNode src n f s)

/-- Members of the pool, this package among them. -/
def State.poolMembers (s : State) : List Nat :=
  (upto 16).filter (fun p => p = s.pkg || (s.member p).member)

/-- POOL_NODE_DEADLINE (R224): the pool node of the package nodes that have arrived. -/
def execPoolNodeDeadline (n : Nat) (s : State) : Host.Outcome State Fault Refusal :=
  match s.tickOf n with
  | none => .next s
  | some k =>
    if s.role ≠ 3 || k.poolNode.isSome || s.us < k.markAt + s.rollWait + 1000000 then .next s
    else
      let node := sumNode 3 s.pkg (k.nodes.map (fun r => (r.counts, r.extSec, r.flags)))
      let missing := s.poolMembers.any (fun p => !k.nodes.any (fun x => x.id = p))
      let pkgs := k.nodes.foldl (fun (m : BitVec 16) x => m ||| BitVec.ofNat 16 (2 ^ x.id)) 0
      let node := { node with indet := node.indet || missing, pkgs := pkgs }
      .next (serveWaits n (mapTick n (fun k => { k with poolNode := some node }) s))

/-! ### Marks (R227, R480) -/

/-- The manager's mark goes out on both rings with its control frame (R227, R228, R311). -/
def sendMark (n : Nat) (s : State) : State := rillSend 0xFF 0x02 [s.mInterval] (s.emit (.tickMark n))

/-- The named standby becomes the manager with the mark it sends (R298). -/
def becomeManager (s : State) : State :=
  let e := s.pool.epoch + 1
  let old := s.get rilBase RIL_STATUS_MGR
  let s := ((s.put rilBase RIL_STATUS_ROLE 3).put rilBase RIL_STATUS_MGR s.pkg).put rilBase RIL_STATUS_EPOCH e
  let stored := s.pool.stored.map (fun x => { x with role := 3, epoch := e })
  { s with pool := { s.pool with
      epoch := e, managerNext := false, standby := some old, standbyActive := true, stored := stored } }

/-- OWN_TIMER_MARK (R480): the own timer of a package in no pool, of the manager, which sends the mark on, or of a worker
that ticks on its own. -/
def execOwnTimerMark (s : State) : Host.Outcome State Fault Refusal :=
  let span := s.mInterval * 1000000
  if s.isWorker && s.pool.managerNext then
    if s.us < s.meter.lastMark + span then .next s
    else
      let n := s.lastTick + 1
      .next (sendMark n (closeTick n false (becomeManager (s.meterSet { s.meter with markAt := some (s.meter.lastMark + span) }))))
  else if s.isWorker then
    if s.flag mtrBase MTR_STATUS_UNSYNC && s.meter.lastMark + span ≤ s.us then
      .next (closeTick (s.lastTick + 1) true (s.meterSet { s.meter with lastMark := s.us }))
    else .next s
  else match s.meter.markAt with
    | none => .next s
    | some m =>
      if s.us < m + span then .next s
      else
        let n := s.lastTick + 1
        let s := closeTick n false (s.meterSet { s.meter with markAt := some (m + span) })
        .next (if s.role = 3 then sendMark n s else s)

/-- A mark of the manager reaches a worker (R227). -/
def takeMark (n : Nat) (s : State) : State :=
  if !s.isWorker then s
  else
    let s := (s.meterSet { s.meter with lastMark := s.us }).putFlag mtrBase MTR_STATUS_UNSYNC false
    if n ≤ s.lastTick then s else closeTick n false s

/-- TICK_MARK (R227). -/
def execTickMark (n : Nat) (s : State) : Host.Outcome State Fault Refusal := .next (takeMark n s)

/-- The interval of the manager's control frame takes effect at the next mark (R228). -/
def takeInterval (i : Nat) (s : State) : State :=
  if s.isWorker then
    let now := s.meter.config.getD (s.mInterval, s.get mtrBase MTR_CFG_ROLL_WAIT, s.flag mtrBase MTR_CFG_AUTOSEAL)
    s.meterSet { s.meter with config := some (i, now.2) }
  else s

/-- MISSING_MARK_DETECTED (R227): a worker without a mark for INTERVAL + 1 ms. -/
def execMissingMarkDetected (s : State) : Host.Outcome State Fault Refusal :=
  if s.isWorker && !s.flag mtrBase MTR_STATUS_UNSYNC && s.meter.lastMark + s.mInterval * 1000000 + 1000 ≤ s.us then
    .next (closeTick (s.lastTick + 1) true (s.meterSet { s.meter with lastMark := s.us }))
  else .next s

/-! ### Seals (R231) -/

/-- AUTOSEAL: Grotto seals the oldest tick whose folding has finished. -/
def execAutoseal (n : Nat) (s : State) : Host.Outcome State Fault Refusal :=
  match s.meter.ticks.find? (fun k => k.finished && k.sealed.isNone) with
  | none => .next s
  | some k =>
    if k.num = n && s.mgmt.grotto && s.identity && s.flag mtrBase MTR_CFG_AUTOSEAL then .next (makeSeal n 0 s) else .next s

/-- SEAL_LATE: a tick without a seal 5 s after its mark. -/
def execSealLate (n : Nat) (s : State) : Host.Outcome State Fault Refusal :=
  match s.tickOf n with
  | none => .next s
  | some k =>
    if k.sealed.isSome || k.sealLate || s.us < k.markAt + 5000000 || !s.flag mtrBase MTR_CFG_AUTOSEAL then .next s
    else
      let s := mapTick n (fun k => { k with sealLate := true }) s
      .next (raiseOpen 0x009 0 (s.putFlag mtrBase MTR_STATUS_SEAL_LATE true))

/-- RESEAL: a sealed tick with a record marked since. -/
def execReseal (n : Nat) (s : State) : Host.Outcome State Fault Refusal :=
  match s.tickOf n with
  | none => .next s
  | some k =>
    match k.sealed with
    | none => .next s
    | some z => if k.reseal && s.mgmt.grotto && s.identity then .next (makeSeal n (z.gen + 1) s) else .next s

/-! ### Storage errors (Table MTR-6) -/

/-- Records of the open tick to be marked at its mark. -/
def openGap (c : Nat) (s : State) : State := s.meterSet { s.meter with openIndet := (c :: s.meter.openIndet).dedup }

/-- Counts of a leaf are gone. -/
def clearLeaf (b t c : Nat) (s : State) : State :=
  { s with leaves := s.leaves.filter (fun e => e.1 / 8 ≠ (b * 8 + t) * 2 ^ 18 + c) }

/-- The tick whose closed bank a tier folds. -/
def State.foldTick (s : State) (t : Nat) : Option Nat := (s.meter.ticks.find? (fun k => k.folding.contains t)).map (·.num)

/-- METERING_STORAGE_ERROR (R229). -/
def execMeteringStorageError (x : MeterStore) (s : State) : Host.Outcome State Fault Refusal :=
  match x with
  | .leaf t c closed =>
    let b := Sparse.get (fun _ => 0) s.leafBank t
    if closed then match s.foldTick t with
      | some n => .next (markRecords n (fun r => r.ctx = c) false (clearLeaf (1 - b) t c s))
      | none => .next s
    else .next (openGap c (clearLeaf b t c s))
  | .leafNoCtx t closed =>
    let degraded (s : State) : State :=
      acceptRaised 0x008 0 3 (Config.eventLevel 0x008 0).toNat (Config.eventAddr 0x008 0).toNat 0 s
    if closed then match s.foldTick t with
      | some n => .next (degraded (markRecords n (fun _ => true) false s))
      | none => .next s
    else .next (degraded (s.meterSet { s.meter with openIndetAll := true }))
  | .accumulator c =>
    .next (openGap c { s with extAcc := Sparse.set (fun _ => 0) s.extAcc c 0, extAt := Sparse.set (fun _ => 0) s.extAt c s.us })
  | .record n c => .next (markRecords n (fun r => r.ctx = c) true s)
  | .presence n t => .next (markRecords n (fun r => r.ctx % s.nTiers = t) false s)
  | .node n kind id =>
    let t := if kind = 1 then id % s.nTiers else 0
    if (s.tickOf n).isSome then .next (raiseOpen (tierSource t 33) 0 s) else .next s
  | .directory n t => if (s.tickOf n).isSome then .next (raiseOpen (tierSource t 33) 0 s) else .next s

/-- A reset that takes tiers with it (Table MTR-6): records of the open tick and of ticks not yet final with counts on
those tiers are marked, and the counts are gone. -/
def resetMeters (tiers : List Nat) (s : State) : State :=
  let onTier (k : Nat) : Bool := tiers.contains (k / 2 ^ 21 % 8)
  let hit := s.leaves.filter (fun e => onTier e.1)
  let s := forEach s.meter.ticks (fun k u =>
    if k.finished then u
    else
      let old := hit.filter (fun e => k.folding.contains (e.1 / 2 ^ 21 % 8) &&
        e.1 / 2 ^ 24 ≠ Sparse.get (fun _ => 0) s.leafBank (e.1 / 2 ^ 21 % 8))
      markRecords k.num (fun r => !r.final && (old.any (fun e => e.1 / 8 % 2 ^ 18 = r.ctx) ||
        tiers.any (fun t => r.tiers.getLsbD t))) false u) s
  let now := hit.filter (fun e => e.1 / 2 ^ 24 = Sparse.get (fun _ => 0) s.leafBank (e.1 / 2 ^ 21 % 8))
  let s := forEach ((now.map (fun e => e.1 / 8 % 2 ^ 18)).dedup) openGap s
  { s with leaves := s.leaves.filter (fun e => !onTier e.1)
           remoteLeaves := s.remoteLeaves.filter (fun e => !tiers.contains (e.1 / 2 ^ 25 % 8)) }

/-! ### The descriptors (Table CMD-7) -/

/-- METER_SNAPSHOT (R230, R266). -/
def execMeterSnapshot (d : DescRef) (tick scope first count haddr : Nat) (s : State) : Host.Outcome State Fault Refusal :=
  onReady d 0x0600 [(8, 4, tick), (12, 1, scope), (16, 4, first), (20, 4, count), (24, 8, haddr)] (fun f s =>
    let w : MeterWait := { desc := d, tick := tick, scope := scope, first := first, count := count, haddr := haddr, since := s.us }
    if 3 < scope || !countOk count || haddr % 128 ≠ 0 || (scope = 0 && 2 ^ 18 ≤ first) || (scope = 1 && 2 ^ 16 ≤ first) ||
        (2 ≤ scope && first ≠ 0) then complete d 0x02 0 s
    else if scope = 3 && s.role ≠ 3 then complete d 0x02 0 s
    else match s.tickOf tick with
      | none => complete d 0x02 0 s
      | some k =>
        if (s.ring f.ref.ring).tenant && scope ≠ 0 then complete d 0x08 0 s
        else if k.readyFor scope then snapshot f k w s
        else (startDesc d s).meterSet { s.meter with waits := s.meter.waits ++ [w] }) s

/-- METER_SEAL (R231). -/
def execMeterSeal (d : DescRef) (tick haddr : Nat) (s : State) : Host.Outcome State Fault Refusal :=
  onReady d 0x0601 [(8, 4, tick), (16, 8, haddr)] (fun f s =>
    if haddr % 256 ≠ 0 then complete d 0x02 0 s
    else match s.tickOf tick with
      | none => complete d 0x02 0 s
      | some k =>
        match k.sealed with
        | some z => answerSeal f k z haddr s
        | none =>
          let w : MeterWait := { desc := d, toSeal := true, tick := tick, haddr := haddr, since := s.us }
          sealForWaits ((startDesc d s).meterSet { s.meter with waits := s.meter.waits ++ [w] })) s

/-- METER_SEAL_TIMEOUT (R231): no seal 30 s after it was posted. -/
def execMeterSealTimeout (d : DescRef) (s : State) : Host.Outcome State Fault Refusal :=
  match s.meter.waits.find? (fun w => w.toSeal && w.desc = d) with
  | none => .next s
  | some w =>
    if s.us < w.since + 30000000 then .next s
    else .next (complete d 0x0B 0 (s.meterSet { s.meter with waits := s.meter.waits.filter (fun x => x ≠ w) }))

/-- METER_CONFIG (R228): the values take effect at the next mark; a worker's INTERVAL comes from the manager. -/
def execMeterConfig (d : DescRef) (interval rollWait autoseal : Nat) (s : State) : Host.Outcome State Fault Refusal :=
  onReady d 0x0602 [(8, 2, interval), (10, 1, rollWait), (11, 1, autoseal)] (fun _ s =>
    let bad := if s.isWorker then false else interval = 0 || 3600 < interval
    if bad || rollWait = 0 || 40 < rollWait || 1 < autoseal then complete d 0x02 0 s
    else
      let i := if s.isWorker then s.mInterval else interval
      complete d 0 0 (s.meterSet { s.meter with config := some (i, rollWait, decide (autoseal = 1)) })) s

end Sys2Proof.Machine
end

