-- ==== Sys2Proof/Machine/Pool.lean ====
section
/-! DEFINITION. Pools (chapter 13): membership, leases, the manager's operations and the delivery of rill frames. The payload
layouts of frames other than roll-ups are the model's (DESIGN CHOICE, assumption log). -/

namespace Sys2Proof.Machine

/-! ### Membership and quorum (R287-R289, R296) -/

def State.poolSet (s : State) (p : Pool) : State := { s with pool := p }
def State.mgrNum (s : State) : Nat := s.get rilBase RIL_STATUS_MGR
/-- The manager takes pool operations (R296-R298). -/
def State.managing (s : State) : Bool := s.role = 3 && s.managerUp
/-- Fields of RIL_HB in effect (Table RIL-4), in microseconds. -/
def State.hbPeriod (s : State) : Nat := max 1 (s.get rilBase RIL_HB_PERIOD) * 1000
def State.hbTimeout (s : State) : Nat := max (s.get rilBase RIL_HB_TIMEOUT * 1000) (3 * s.hbPeriod)

/-- QUORUM (R296); its loss raises an event. -/
def showQuorum (s : State) : State :=
  let l := s.poolMembers
  let heard := l.filter (fun p => p = s.pkg || (s.member p).current)
  let q := s.role ≠ 0 && decide (l.length < 2 * heard.length)
  let was := s.flag rilBase RIL_STATUS_QUORUM
  let s := setLive 0x00D (l.any (fun p => (s.member p).lost)) (s.putFlag rilBase RIL_STATUS_QUORUM q)
  if was && !q && s.role ≠ 0 then raiseOpen 0x00D 3 s else s

/-- The membership list of the manager is taken over: new members are yet to be heard (R290). -/
def takeMembers (l : List Nat) (s : State) : State :=
  showQuorum (forEach (upto 16) (fun p u =>
    if l.contains p && p ≠ u.pkg then
      (if (u.member p).member then u else u.setMember p { u.member p with member := true, hbAt := u.us })
    else u.setMember p {}) s)

/-- A PEN of this package under its new number (R288). -/
def renumberPen (old new pen : Nat) : Nat := if penPkg pen = old then new * 2 ^ 23 + pen % 2 ^ 23 else pen

/-- Every table that names this package's own extents by pool address takes its new number (R288). -/
def renumber (new : Nat) (s : State) : State :=
  let old := s.pkg
  let f := renumberPen old new
  let entry (e : ExtEntry) : ExtEntry :=
    { e with pen := (if e.remote then e.pen else f e.pen), dest := (if e.migrating then f e.dest else e.dest) }
  let place (q : Poison) : Poison := { q with pa := new * 2 ^ 44 + q.pa % 2 ^ 44 }
  let exts : Sparse ExtEntry := s.exts.map (fun (e : Nat × ExtEntry) => (e.1, if e.2.valid then entry e.2 else e.2))
  let lists : Sparse (List Poison) := s.poison.map (fun (e : Nat × List Poison) => (e.1, e.2.map place))
  let migs := s.migrations.map (fun (m : Migration) => { m with src := f m.src, dest := f m.dest })
  let granted := s.pool.granted.map (fun (l : Lease) => { l with owner := new })
  let s := { s with exts := exts, migrations := migs, poison := lists, pool := { s.pool with granted := granted } }
  s.put rilBase RIL_STATUS_PKG new

/-- The waiting membership takes effect (R287-R289); its descriptor completes with the number. -/
def takeMembership (m : Membership) (s : State) : State :=
  let s := if m.number = s.pkg then s else renumber m.number s
  let s := ((s.put rilBase RIL_STATUS_ROLE m.role).put rilBase RIL_STATUS_MGR m.mgr).put rilBase RIL_STATUS_EPOCH m.epoch
  let s := if m.role = 0 then s else s.setReg (rilBase + 4) (BitVec.ofNat 64 m.poolId)
  let stored : Option StoredPool :=
    if m.role = 0 then none else some { poolId := m.poolId, number := m.number, role := m.role, epoch := m.epoch }
  let s := s.poolSet { s.pool with
    members := [], epoch := m.epoch, standby := m.standby, standbyActive := false, change := none, stored := stored
    mgrOps := [], handover := false, managerNext := false }
  let s := if m.role = 0 then
      (s.meterSet { s.meter with markAt := some (max s.meter.lastMark (s.meter.markAt.getD 0)) }).putFlag mtrBase MTR_STATUS_UNSYNC false
    else s.meterSet { s.meter with lastMark := s.us }
  let s := match m.interval with
    | some i => takeInterval i s
    | none => s
  let s := takeMembers m.members s
  match m.op with
  | some d => complete d 0 (if m.role = 0 then 0 else m.number) s
  | none => s

/-- A membership is taken at once when the number stays, else with the rewrite of the extent lists (R288). -/
def changeMembership (m : Membership) (s : State) : State :=
  if m.number = s.pkg then takeMembership m s else s.poolSet { s.pool with change := some m }

/-- RIL_POOL_CFG.FORM (R287). -/
def formPool (number : Nat) (s : State) : State :=
  let id := (s.reg (rilBase + 4)).toNat
  if s.wired.mgr && s.role = 0 && s.pool.change.isNone && id ≠ 0 then
    changeMembership { number := number, role := 3, mgr := number, epoch := 1, members := [number], poolId := id } s
  else noteIgnored s

/-! ### Pool descriptors that wait (R268) -/

def State.opOf (s : State) (opcode tag : Nat) : Option PoolOp :=
  s.pool.ops.find? (fun o => o.opcode = opcode && o.tag = tag)
/-- The operation with a tag completes. -/
def endOp (opcode tag status result : Nat) (s : State) : State :=
  match s.opOf opcode tag with
  | none => s
  | some o => complete o.desc status result (s.poolSet { s.pool with ops := s.pool.ops.filter (fun x => x.desc ≠ o.desc) })

/-- The descriptor's operation begins, under the tag of its request's frame. -/
def beginOp (d : DescRef) (opcode arg : Nat) (s : State) : State :=
  let o : PoolOp := { desc := d, opcode := opcode, since := s.us, tag := s.pool.nextFseq, arg := arg }
  (startDesc d s).poolSet { s.pool with ops := s.pool.ops ++ [o] }

/-! ### Owners and borrowers (R292-R294) -/

/-- The lowest free run of a tier. Spares hold their allocation bits. -/
def State.freeRun (s : State) (t count : Nat) : Option Nat :=
  let taken := ((s.alloc.filter (fun e => e.1 / 2 ^ 20 = t)).map (fun e => e.1 % 2 ^ 20))
  let starts := (0 :: taken.map (· + 1)).flatMap (fun a => [a, a + 1, a + 2, a + 3])
  let ok := starts.filter (fun a => a + count ≤ s.extTop t && !taken.any (fun e => a ≤ e && e < a + count) &&
    !(upto (min count 4)).any (fun i => s.withheld t (a + i)))
  match ok with
  | [] => none
  | a :: l => some (l.foldl min a)

/-- An owner claims a run for a lease (step 3 of R292): status and first PEN. -/
def claimLease (lease otier count borrower : Nat) (s : State) : State × Nat × Nat :=
  if otier ≠ 0xFF && s.nTiers ≤ otier then (s, 0x02, 0)
  else if 4096 ≤ s.pool.granted.length then (s, 0x06, 0)
  else
    let tiers := (if otier = 0xFF then s.tierList else [otier]).filter (fun t => (s.tier t).power ≠ 3)
    match tiers.findSome? (fun t => (s.freeRun t count).map (fun a => (t, a))) with
    | none => (s, 0x06, 0)
    | some (t, a) =>
      let s := forEach (upto count) (fun i u => u.setAlloc t (a + i) true) s
      let l : Lease := { num := lease, owner := s.pkg, tier := t, first := a, count := count, borrower := borrower }
      (s.poolSet { s.pool with granted := s.pool.granted ++ [l] }, 0, s.pkg * 2 ^ 23 + t * 2 ^ 20 + a)

/-- An owner takes back an extent: its valid line is cleared, then its allocation bit (R293). -/
def ownerReturn (num pen : Nat) (s : State) : State :=
  match s.pool.granted.find? (fun l => l.num = num) with
  | none => s
  | some l =>
    if penTier pen = l.tier && l.first ≤ penExt pen && penExt pen < l.first + l.count && !l.returned.contains pen then
      let job : ClearJob := { tier := l.tier, ext := penExt pen }
      wakeForWork l.tier ({ s with clears := s.clears ++ [job] }.poolSet
        { s.pool with granted := shrinkLease num pen s.pool.granted })
    else s

/-- An owner takes back every remaining extent of a lease (R293). -/
def ownerReturnAll (num : Nat) (s : State) : State :=
  match s.pool.granted.find? (fun l => l.num = num) with
  | none => s
  | some l => forEach (upto l.count) (fun i u => ownerReturn num (s.pkg * 2 ^ 23 + l.tier * 2 ^ 20 + l.first + i) u) s

/-- The borrower's grant (step 5 of R292). A grant whose descriptor has ended goes back. -/
def takeGrant (tag status lease pen count : Nat) (s : State) : State :=
  match s.opOf 0x0902 tag with
  | none => if status = 0 && s.mgrNum ≠ s.pkg then rillSend s.mgrNum 0x14 [0, 65536, lease] s else s
  | some _ =>
    if status = 0 then
      let l : Lease := { num := lease, owner := penPkg pen, tier := penTier pen, first := penExt pen, count := count, borrower := s.pkg }
      endOp 0x0902 tag 0 (lease + pen * 2 ^ 32) (s.poolSet { s.pool with leasesHeld := s.pool.leasesHeld ++ [l] })
    else endOp 0x0902 tag status 0 s

/-- The answer to a LEASE_RETURN. -/
def takeReturned (tag status : Nat) (s : State) : State :=
  match s.opOf 0x0903 tag with
  | none => s
  | some o =>
    let held := s.pool.leasesHeld.filter (fun l => l.num ≠ o.arg)
    endOp 0x0903 tag status 0 (if status = 0 then s.poolSet { s.pool with leasesHeld := held } else s)

/-- A frame of the manager for a member, which may be itself. -/
def sendOut (x : Nat × Nat × List Nat) (s : State) : State :=
  let p := x.2.2
  if x.1 ≠ s.pkg then rillSend x.1 x.2.1 p s
  else match x.2.1, p with
    | 0x11, [0, tag, status, lease, pen, count] => takeGrant tag status lease pen count s
    | 0x13, [lease, pen] => ownerReturn lease pen s
    | 0x14, [1, lease] => ownerReturnAll lease s
    | 0x14, [2, tag, status] => takeReturned tag status s
    | _, _ => s

/-! ### The manager's directory (R292-R295, R297) -/

/-- A change of the directory or the membership list, on the manager and on its standby: 0 a lease is entered, 1 an extent
leaves it, 2 it ends, 3 a member comes or goes. -/
def applyChange (c : List Nat) (s : State) : State :=
  match c with
  | [0, num, owner, tier, first, count, borrower] =>
    let l : Lease := { num := num, owner := owner, tier := tier, first := first, count := count, borrower := borrower }
    s.poolSet { s.pool with
      directory := s.pool.directory.filter (fun x => x.num ≠ num) ++ [l], nextLease := max s.pool.nextLease (num + 1) }
  | [1, num, pen] => s.poolSet { s.pool with directory := shrinkLease num pen s.pool.directory }
  | [2, num] => s.poolSet { s.pool with directory := s.pool.directory.filter (fun x => x.num ≠ num) }
  | [3, p, present] =>
    if present = 0 then showQuorum (s.setMember p {})
    else if (s.member p).member then s
    else showQuorum (s.setMember p { s.member p with member := true, hbAt := s.us })
  | _ => s

/-- The manager makes a change, mirrors it to an ACTIVE standby, and sends the answers once that acknowledges (R295). -/
def mirrorThen (c : List Nat) (sends : List (Nat × Nat × List Nat)) (s : State) : State :=
  let s := applyChange c s
  match s.pool.standby with
  | some p =>
    if s.pool.standbyActive then
      let n := s.pool.nextFseq
      let s := rillSend p 0x12 c s
      s.poolSet { s.pool with mgrOps := s.pool.mgrOps ++ [.mirroring n s.us sends] }
    else forEach sends sendOut s
  | none => forEach sends sendOut s

/-- A free lease number: never 0, and not of a lease that exists. -/
def State.leaseNumber (s : State) : Nat :=
  let used (n : Nat) : Bool := n = 0 || s.pool.directory.any (fun l => l.num = n) ||
    s.pool.mgrOps.any (fun o => match o with | .asking l _ _ _ _ => l = n | _ => false)
  ((upto (s.pool.directory.length + s.pool.mgrOps.length + 2)).map (fun i => (s.pool.nextLease + i) % 2 ^ 32)).find? (fun n => !used n)
    |>.getD 1

/-- The owner has answered a lease request (steps 3 to 5 of R292). -/
def gotClaim (lease status pen count : Nat) (src : Nat) (s : State) : State :=
  let mine (o : MgrOp) : Bool := match o with | .asking l _ _ _ _ => l = lease | _ => false
  match s.pool.mgrOps.find? mine with
  | some (.asking _ borrower tag owner _) =>
    let s := s.poolSet { s.pool with mgrOps := s.pool.mgrOps.filter (fun o => !mine o) }
    if status ≠ 0 then sendOut (borrower, 0x11, [0, tag, status, 0, 0, 0]) s
    else mirrorThen [0, lease, owner, penTier pen, penExt pen, count, borrower]
      [(borrower, 0x11, [0, tag, 0, lease, pen, count])] s
  | _ => if status = 0 then rillSend src 0x14 [1, lease] s else s

/-- A lease request at the manager (step 2 of R292). A manager that may not grant, and an owner that is not ACTIVE, leave it
without an answer (R268, R296). -/
def managerGrant (src tag owner otier count : Nat) (s : State) : State :=
  let refuse (status : Nat) : State := sendOut (src, 0x11, [0, tag, status, 0, 0, 0]) s
  let asking := (s.pool.mgrOps.filter (fun o => match o with | .asking _ _ _ _ _ => true | _ => false)).length
  if !s.managing then s
  else if owner = src || !s.poolMembers.contains owner then refuse 0x02
  else if 16384 ≤ s.pool.directory.length + asking then refuse 0x06
  else if owner ≠ s.pkg && !(s.member owner).current then s
  else
    let lease := s.leaseNumber
    let s := s.poolSet { s.pool with
      nextLease := lease + 1, mgrOps := s.pool.mgrOps ++ [.asking lease src tag owner s.us] }
    if owner = s.pkg then
      let (s, status, pen) := claimLease lease otier count src s
      gotClaim lease status pen count owner s
    else rillSend owner 0x10 [1, lease, otier, count, src] s

/-- An extent return at the manager: the directory shrinks the lease and the owner is told (R293). -/
def managerReturn (lease pen : Nat) (s : State) : State :=
  if s.managing && (penPkg pen = s.pkg || (s.member (penPkg pen)).current) then
    mirrorThen [1, lease, pen] [(penPkg pen, 0x13, [lease, pen])] s
  else s.poolSet { s.pool with returns := s.pool.returns ++ [(lease, pen)] }

/-- A LEASE_RETURN at the manager (R293); with the owner lost it stays without an answer. -/
def managerReturnAll (src tag lease : Nat) (s : State) : State :=
  match s.pool.directory.find? (fun l => l.num = lease) with
  | none => sendOut (src, 0x14, [2, tag, 0]) s
  | some l =>
    if s.managing && (l.owner = s.pkg || (s.member l.owner).current) then
      mirrorThen [2, lease] [(l.owner, 0x14, [1, lease]), (src, 0x14, [2, tag, 0])] s
    else s

/-- The manager answers a join (R287): the number asked for, the present number when free, else the lowest free one. A
second standby joins as worker (DESIGN CHOICE). -/
def managerJoin (src tag poolId pkg role : Nat) (s : State) : State :=
  if s.role ≠ 3 || s.pool.handover || poolId ≠ (s.reg (rilBase + 4)).toNat then s
  else
    let l := s.poolMembers
    let want : Option Nat :=
      if pkg ≠ 0xFF then (if l.contains pkg then none else some pkg)
      else if !l.contains src then some src else (upto 16).find? (fun p => !l.contains p)
    match want with
    | none => rillSend 0xFF 0x03 [1, poolId, src, tag, 0x0D] s
    | some n =>
      let standby := role = 1 && s.pool.standby.isNone
      let s := if standby then s.poolSet { s.pool with standby := some n, standbyActive := false } else s
      let mask := ((n :: l).map (fun p => 2 ^ p)).sum
      mirrorThen [3, n, 1] [(0xFF, 0x03, [1, poolId, src, tag, 0, n, if standby then 2 else 1, s.pkg, s.pool.epoch, s.mInterval, mask])] s

/-- The joining package takes the answer (R287). -/
def takeJoinAnswer (p : List Nat) (s : State) : State :=
  match p with
  | [_, _, src, tag, status] => if s.role = 0 && src = s.pkg then endOp 0x0900 tag status 0 s else s
  | [_, id, src, tag, _, n, role, mgr, epoch, interval, mask] =>
    match s.opOf 0x0900 tag with
    | none => s
    | some o =>
      if s.role ≠ 0 || src ≠ s.pkg || o.arg ≠ id then s
      else
        let s := s.poolSet { s.pool with ops := s.pool.ops.filter (fun x => x.desc ≠ o.desc) }
        changeMembership { number := n, role := role, mgr := mgr, epoch := epoch, interval := some interval
                           members := (upto 16).filter (fun i => bitAt mask i), poolId := id, op := some o.desc } s
  | _ => s

/-! ### Leaving (R268, R288) -/

/-- Something ties the package to its pool. -/
def State.poolTied (s : State) : Bool :=
  s.pool.leasesHeld ≠ [] || s.pool.granted ≠ [] || s.exts.any (fun e => e.2.valid && e.2.remote)

/-- The package leaves: number 0 and no pool. -/
def leavePool (op : Option DescRef) (s : State) : State :=
  changeMembership { number := 0, role := 0, mgr := 0, epoch := 0, op := op } s

/-- A member leaves the manager's list. -/
def dropMember (p : Nat) (sends : List (Nat × Nat × List Nat)) (s : State) : State :=
  let s := if s.pool.standby = some p then s.poolSet { s.pool with standby := none, standbyActive := false } else s
  mirrorThen [3, p, 0] sends s

/-! ### Handover (R298) -/

/-- With the operations begun finished and the mirror complete, the handover frame goes out. -/
def tryHandover (s : State) : State :=
  match s.pool.ops.find? (fun o => o.opcode = 0x0904) with
  | none => s
  | some o =>
    if s.pool.handover && s.pool.mgrOps = [] && !s.pool.frames.any (fun f => f.ftype = 0x41) then
      rillSendFor (some o.desc) o.arg 0x41 [s.pool.epoch + 1] s
    else s

/-- The handover frame is acknowledged: this package is the standby of the new manager. -/
def handoverDone (s : State) : State :=
  match s.pool.ops.find? (fun o => o.opcode = 0x0904) with
  | none => s
  | some o =>
    let e := s.pool.epoch + 1
    let s := ((s.put rilBase RIL_STATUS_ROLE 2).put rilBase RIL_STATUS_MGR o.arg).put rilBase RIL_STATUS_EPOCH e
    let s := s.meterSet { s.meter with lastMark := s.meter.markAt.getD s.us }
    let stored := s.pool.stored.map (fun x => { x with role := 2, epoch := e })
    let s := s.poolSet { s.pool with
      epoch := e, handover := false, standby := none, standbyActive := false, stored := stored
      ops := s.pool.ops.filter (fun x => x.desc ≠ o.desc) }
    complete o.desc 0 0 s

/-- A handover frame names this standby (R298). -/
def takeHandover (src epoch : Nat) (s : State) : State :=
  if s.role = 2 && src = s.mgrNum && s.pool.epoch < epoch then s.poolSet { s.pool with managerNext := true } else s

/-- The frames that waited for a mirror frame go out. -/
def mirrored (n : Nat) (s : State) : State :=
  let mine (o : MgrOp) : Bool := match o with | .mirroring m _ _ => m = n | _ => false
  match s.pool.mgrOps.find? mine with
  | some (.mirroring _ _ sends) =>
    tryHandover (forEach sends sendOut (s.poolSet { s.pool with mgrOps := s.pool.mgrOps.filter (fun o => !mine o) }))
  | _ => s

/-- The standby is LOST: the manager goes on without it (R295). -/
def standbyLost (s : State) : State :=
  let ns := s.pool.mgrOps.filterMap (fun o => match o with | .mirroring m _ _ => some m | _ => none)
  let s := raiseOpen 0x00D 1 (s.poolSet { s.pool with standbyActive := false })
  forEach ns mirrored s

/-! ### Heartbeats (R296, R297) -/

/-- The package obeys a manager of a higher epoch, or the one it has (R297). -/
def obey (src epoch : Nat) (members : BitVec 16) (s : State) : State :=
  let yields := s.role = 3
  let s := (s.put rilBase RIL_STATUS_MGR src).put rilBase RIL_STATUS_EPOCH epoch
  let s := if yields then
      (s.put rilBase RIL_STATUS_ROLE 2).meterSet { s.meter with lastMark := s.meter.markAt.getD s.us }
    else s
  let stored := s.pool.stored.map (fun x => { x with epoch := epoch, role := if yields then 2 else x.role })
  let s := s.poolSet { s.pool with
    epoch := epoch, stored := stored, standby := none, standbyActive := false
    mgrOps := (if yields then [] else s.pool.mgrOps), handover := false, rebuilding := false }
  takeMembers ((upto 16).filter (fun p => members.getLsbD p)) s

/-- A heartbeat arrives on a ring: hop distances, members, a higher epoch (R296, R297, R311). -/
def takeHeartbeat (ring src hops epoch poolId role : Nat) (members : BitVec 16) (s : State) : State :=
  if s.role = 0 || poolId ≠ (s.reg (rilBase + 4)).toNat || src = s.pkg then s
  else
    let m := s.member src
    let m := { m with hbAt := s.us, current := true, lost := false, role := role }
    let s := s.setMember src (if ring = 0 then { m with hopsA := hops + 1 } else { m with hopsB := hops + 1 })
    let s := if role = 3 && (s.pool.epoch < epoch || (s.role ≠ 3 && s.pool.epoch = epoch)) then obey src epoch members s else s
    let s := if s.role = 3 && role = 2 && s.pool.standby ≠ some src then
        s.poolSet { s.pool with standby := some src, standbyActive := false } else s
    showQuorum s

/-! ### Audit and cold owners (R294, R297) -/

def leaseOf (x : LeaseInfo) : Lease :=
  { num := x.num, owner := x.owner, tier := x.tier, first := x.first, count := x.count, borrower := x.borrower }
def Lease.fields (x : Lease) : List Nat := [x.num, x.owner, x.tier, x.first, x.count, x.borrower]

/-- The lease audit over every member's held and granted tables (R297). -/
def audit (tables : List (Nat × List Lease × List Lease)) (s : State) : State :=
  let held := tables.flatMap (fun x => x.2.1)
  let named (n : Nat) : Bool := s.pool.directory.any (fun l => l.num = n) || held.any (fun l => l.num = n)
  let orphans := tables.flatMap (fun x => (x.2.2.filter (fun l => !named l.num)).map (fun l => (x.1, l.num)))
  let s := forEach orphans (fun o u => sendOut (o.1, 0x14, [1, o.2]) u) s
  let missing := held.filter (fun l => !s.pool.directory.any (fun x => x.num = l.num))
  forEach missing (fun l u => applyChange (0 :: l.fields) u) s

/-- The directory's leases as the owner granted them are set again, lost (R294). -/
def takeLost (l : Lease) (s : State) : State :=
  let s := forEach (upto l.count) (fun i u => u.setAlloc l.tier (l.first + i) true) s
  s.poolSet { s.pool with
    granted := s.pool.granted.filter (fun x => x.num ≠ l.num) ++ [{ l with owner := s.pkg, lost := true }], lostReported := [] }

/-- A member reports its tables to a new manager (R297). -/
def reportTables (src : Nat) (s : State) : State :=
  let s := forEach s.pool.leasesHeld (fun l u => rillSend src 0x50 (1 :: l.fields) u) s
  forEach s.pool.granted (fun l u => rillSend src 0x50 (3 :: l.fields) u) s

/-! ### Escalations (R349) -/

/-- A fault escalation of another member is queued on the manager: it starts no reaction here (R349). -/
def takeEscalation (pkg src kind cls level addr detail time : Nat) (s : State) : State :=
  if s.role ≠ 3 then s
  else
    let n := s.flt.nextRec
    let r : FRec := { src, kind, cls, level, addr, detail, time, recnum := n, pkg := pkg, last := s.us }
    let r := (r.mark 5).mark 0
    let (s, _) := enqueue r s
    let queued := s.flt.queue.any (fun x => x.recnum = n)
    let s := if queued then { s with flt := { s.flt with nextRec := (if n = 2 ^ 32 - 1 then 1 else n + 1), ovfNext := false } } else s
    if s.toMsix r then { s with flt := { s.flt with msixPending := true } } else s

/-! ### Delivery (R309, R310) -/

/-- Frame types that Services handles; the rill hardware and the tiers take the others. -/
def needsServices (ftype : Nat) : Bool := [0x03, 0x10, 0x11, 0x12, 0x13, 0x14, 0x30, 0x31, 0x41, 0x50].contains ftype

/-- The relayed descriptor of another member's removal (R268, R290). -/
def takeRelay (src tag opcode : Nat) (s : State) : State :=
  if opcode ≠ 0x0901 || s.role = 0 then rillSend src 0x31 [tag, 0x05, 0] s
  else if s.poolTied then rillSend src 0x31 [tag, 0x0D, 0] s
  else leavePool none (rillSend src 0x31 [tag, 0, 0] s)

/-- The answer of the member a descriptor was relayed to. -/
def takeRelayed (src tag status result : Nat) (s : State) : State :=
  let s := if status = 0 && (s.opOf 0x0901 tag).isSome then dropMember src [] s else s
  endOp 0x0901 tag status result s

/-- An acknowledgement of this package's frame `fseq` (R310). -/
def takeAck (src fseq : Nat) (s : State) : State :=
  match s.pool.frames.find? (fun f => f.dst = src && f.fseq = fseq) with
  | none => s
  | some f =>
    let s := s.poolSet { s.pool with frames := s.pool.frames.filter (fun x => !(x.dst = src && x.fseq = fseq)) }
    if f.ftype = 0x41 then handoverDone s else mirrored fseq s

/-- What a frame does at its destination. -/
def process (ring src ftype fseq hops : Nat) (p : List Nat) (s : State) : State :=
  match ftype, p with
  | 0x01, [poolId, role, epoch, members] => takeHeartbeat ring src hops epoch poolId role (BitVec.ofNat 16 members) s
  | 0x02, [i] => if src = s.mgrNum then takeInterval i s else s
  | 0x03, [0, poolId, pkg, role, _] => managerJoin src fseq poolId pkg role s
  | 0x03, [2, tag] => if s.role = 3 then dropMember src [(src, 0x03, [3, tag, 0])] s else s
  | 0x03, [3, tag, _] => match s.opOf 0x0901 tag with
    | some o => leavePool (some o.desc) (s.poolSet { s.pool with ops := s.pool.ops.filter (fun x => x.desc ≠ o.desc) })
    | none => s
  | 0x03, [4, _] => forEach (s.pool.directory.filter (fun l => l.owner = src && decide (s.role = 3)))
      (fun l u => rillSend src 0x50 (2 :: l.fields) u) s
  | 0x03, 1 :: l => takeJoinAnswer (1 :: l) s
  | 0x10, [0, tag, owner, otier, count] => managerGrant src tag owner otier count s
  | 0x10, [1, lease, otier, count, borrower] =>
    let (s, status, pen) := claimLease lease otier count borrower s
    rillSend src 0x11 [1, lease, status, pen, count] s
  | 0x11, [0, tag, status, lease, pen, count] => takeGrant tag status lease pen count s
  | 0x11, [1, lease, status, pen, count] => tryHandover (gotClaim lease status pen count src s)
  | 0x12, c => if s.role = 2 then applyChange c s else s
  | 0x13, [lease, pen] => if s.role = 3 then managerReturn lease pen s else ownerReturn lease pen s
  | 0x14, [0, tag, lease] => managerReturnAll src tag lease s
  | 0x14, [1, lease] => ownerReturnAll lease s
  | 0x14, [2, tag, status] => takeReturned tag status s
  | 0x20, n :: c :: l => takeRollUp src n c l s
  | 0x21, n :: k :: l => takeDone src n k l s
  | 0x22, n :: flags :: sec :: l =>
    let c := Counts.ofList l
    takeNode src n { flags := BitVec.ofNat 16 flags, lines := c.lines, bytes := c.bytes, hits := c.hits, misses := c.misses
                     throttled := c.throttled, hammer := c.hammer, extSec := sec } s
  | 0x30, [tag, opcode] => takeRelay src tag opcode s
  | 0x31, [tag, status, result] => takeRelayed src tag status result s
  | 0x40, [w0, w1, w2, w3, _, w5, _, _] =>
    takeEscalation (w5 / 2 ^ 24) (w0 % 2 ^ 9) (bitsAt w0 14 9) (bitsAt w0 17 15) (bitsAt w0 20 18)
      (w1 + w2 % 2 ^ 16 * 2 ^ 32) (w2 / 2 ^ 16 + bitsAt w0 31 26 * 2 ^ 16) w3 s
  | 0x41, [epoch] => takeHandover src epoch s
  | 0x50, [0] => reportTables src s
  | 0x50, [2, num, owner, tier, first, count, borrower] =>
    takeLost { num := num, owner := owner, tier := tier, first := first, count := count, borrower := borrower } s
  | 0x7F, [n] => takeAck src n s
  | _, _ => s

/-- Services takes the frames the hardware held for it (R310). -/
def drainInbox (s : State) : State :=
  let l := s.pool.inbox
  forEach l (fun f u => process (ofBool f.ringB) f.src f.ftype f.fseq f.hops f.payload u) (s.poolSet { s.pool with inbox := [] })

end Sys2Proof.Machine
end

