-- ==== Sys2Proof/Machine/PoolOps.lean ====
section
/-! DEFINITION. The commands of pools and of the rill (chapter 13, Table CMD-8). -/

namespace Sys2Proof.Machine

/-! ### Descriptors (R268, R287, R292, R293, R298) -/

/-- POOL_JOIN (R268, R287): the request is broadcast on both rings. -/
def execPoolJoin (d : DescRef) (poolId pkg role : Nat) (s : State) : Host.Outcome State Fault Refusal :=
  onReady d 0x0900 [(8, 4, poolId), (12, 1, pkg), (13, 1, role)] (fun _ s =>
    if (16 ≤ pkg && pkg ≠ 0xFF) || 1 < role then complete d 0x02 0 s
    else if s.role ≠ 0 || s.pool.change.isSome || s.pool.ops.any (fun o => o.opcode = 0x0900) then complete d 0x0D 0 s
    else if role = 1 && !s.wired.mgr then complete d 0x08 0 s
    else rillSend 0xFF 0x03 [0, poolId, pkg, role, s.pkg] (beginOp d 0x0900 poolId s)) s

/-- POOL_LEAVE (R268, R288). A manager leaves without asking; on the manager, PKG may name another member, to which the
opcode is relayed. -/
def execPoolLeave (d : DescRef) (pkg : Nat) (s : State) : Host.Outcome State Fault Refusal :=
  onReady d 0x0901 [(12, 1, pkg)] (fun _ s =>
    let self : Bool := pkg = 0xFF || pkg = s.pkg
    if 16 ≤ pkg && pkg ≠ 0xFF then complete d 0x02 0 s
    else if s.role = 0 then complete d 0x05 0 s
    else if !self then
      (if s.role ≠ 3 || !s.poolMembers.contains pkg then complete d 0x02 0 s
       else
        let tag := s.pool.nextFseq
        let s := beginOp d 0x0901 pkg s
        if s.managing then rillSendFor (some d) pkg 0x30 [tag, 0x0901] s else s)
    else if s.poolTied then complete d 0x0D 0 s
    else if s.role = 3 then leavePool (some d) (startDesc d s)
    else
      let tag := s.pool.nextFseq
      rillSendFor (some d) s.mgrNum 0x03 [2, tag] (beginOp d 0x0901 s.pkg s)) s

/-- LEASE_GRANT (R268, R292). -/
def execLeaseGrant (d : DescRef) (owner otier count : Nat) (s : State) : Host.Outcome State Fault Refusal :=
  onReady d 0x0902 [(12, 1, owner), (13, 1, otier), (16, 4, count)] (fun _ s =>
    if count = 0 || 4096 < count || 16 ≤ owner || (8 ≤ otier && otier ≠ 0xFF) then complete d 0x02 0 s
    else if s.role = 0 then complete d 0x05 0 s
    else if owner = s.pkg || !s.poolMembers.contains owner then complete d 0x02 0 s
    else if 4096 ≤ s.pool.leasesHeld.length + (s.pool.ops.filter (fun o => o.opcode = 0x0902)).length then complete d 0x06 0 s
    else
      let tag := s.pool.nextFseq
      let s := beginOp d 0x0902 owner s
      if s.role = 3 then
        managerGrant s.pkg tag owner otier count (s.poolSet { s.pool with nextFseq := (tag + 1) % 65536 })
      else rillSendFor (some d) s.mgrNum 0x10 [0, tag, owner, otier, count] s) s

/-- LEASE_RETURN (R268, R293). -/
def execLeaseReturn (d : DescRef) (lease : Nat) (s : State) : Host.Outcome State Fault Refusal :=
  onReady d 0x0903 [(8, 4, lease)] (fun _ s =>
    if s.role = 0 then complete d 0x05 0 s
    else match s.pool.leasesHeld.find? (fun l => l.num = lease) with
      | none => complete d 0x02 0 s
      | some l =>
        let mine (p : Nat) : Bool := penPkg p = l.owner && penTier p = l.tier && l.first ≤ penExt p && penExt p < l.first + l.count
        if s.exts.any (fun e => e.2.valid && ((e.2.remote && e.2.lease = lease) || (e.2.migrating && mine e.2.dest))) then complete d 0x0D 0 s
        else
          let tag := s.pool.nextFseq
          let s := beginOp d 0x0903 lease s
          if s.role = 3 then managerReturnAll s.pkg tag lease (s.poolSet { s.pool with nextFseq := (tag + 1) % 65536 })
          else rillSendFor (some d) s.mgrNum 0x14 [0, tag, lease] s) s

/-- MANAGER_HANDOVER (R298): the operations begun are finished first, and new ones refused. -/
def execManagerHandover (d : DescRef) (pkg : Nat) (s : State) : Host.Outcome State Fault Refusal :=
  onReady d 0x0904 [(12, 1, pkg)] (fun _ s =>
    if 16 ≤ pkg then complete d 0x02 0 s
    else if s.role ≠ 3 || s.pool.handover || s.pool.standby ≠ some pkg || !s.pool.standbyActive then complete d 0x05 0 s
    else
      let s := beginOp d 0x0904 pkg s
      tryHandover (s.poolSet { s.pool with handover := true })) s

/-- REMOTE_ANSWER_TIMEOUT (R268): a pool operation without an answer for 1 s. -/
def execRemoteAnswerTimeout (d : DescRef) (s : State) : Host.Outcome State Fault Refusal :=
  match s.pool.ops.find? (fun o => o.desc = d) with
  | none => .next s
  | some o =>
    if s.us < o.since + 1000000 then .next s
    else
      let mine (m : MgrOp) : Bool := match m with
        | .asking _ borrower tag _ _ => borrower = s.pkg && tag = o.tag
        | .mirroring _ _ _ => false
      let s := s.poolSet { s.pool with
        ops := s.pool.ops.filter (fun x => x.desc ≠ d), mgrOps := s.pool.mgrOps.filter (fun m => !mine m)
        frames := s.pool.frames.filter (fun f => f.op ≠ some d)
        handover := s.pool.handover && decide (o.opcode ≠ 0x0904) }
      .next (complete d 0x0C 0 s)

/-! ### Membership (R287-R289) -/

/-- JOIN_FRAME (R287): the manager answers a join broadcast. -/
def execJoinFrame (src tag poolId pkg role : Nat) (s : State) : Host.Outcome State Fault Refusal :=
  .next (if s.mgmt.services then managerJoin src tag poolId pkg role s else s)

/-- PACKAGE_NUMBER_REWRITE (R288): every local extent-list entry changes at one commit point. -/
def execPackageNumberRewrite (s : State) : Host.Outcome State Fault Refusal :=
  match s.pool.change with
  | none => .next s
  | some m => if s.commits = [] && s.acks 0 then .next (takeMembership m (logReplicas s.exts.length s)) else .next s

/-- POOL_REJOIN (R289): warm with the tables kept, or cold. A cold manager audits before it answers lease requests (R297); a
cold owner asks the manager for the leases it granted (R294). -/
def execPoolRejoin (s : State) : Host.Outcome State Fault Refusal :=
  match s.pool.rejoin, s.pool.stored with
  | some cold, some k =>
    let s := ((((s.put rilBase RIL_STATUS_ROLE k.role).put rilBase RIL_STATUS_PKG k.number).put rilBase RIL_STATUS_EPOCH k.epoch).put
      rilBase RIL_STATUS_MGR (if k.role = 3 then k.number else s.mgrNum)).setReg (rilBase + 4) (BitVec.ofNat 64 k.poolId)
    let s := s.poolSet { s.pool with rejoin := none, epoch := k.epoch, rebuilding := cold && decide (k.role = 3) }
    let s := showQuorum (s.meterSet { s.meter with lastMark := s.us })
    .next (if cold && decide (k.role ≠ 3) then rillSend 0xFF 0x03 [4, k.poolId] s else s)
  | some _, none => .next (s.poolSet { s.pool with rejoin := none })
  | none, _ => .next s

/-! ### Frames of leases (R292-R295) -/

/-- LEASE_REQUEST_FRAME (R292, step 2). -/
def execLeaseRequestFrame (src tag owner otier count : Nat) (s : State) : Host.Outcome State Fault Refusal :=
  .next (if s.mgmt.services then managerGrant src tag owner otier count s else s)

/-- LEASE_CLAIM_AT_OWNER (R292, step 3). -/
def execLeaseClaimAtOwner (src lease otier count borrower : Nat) (s : State) : Host.Outcome State Fault Refusal :=
  if s.mgmt.services && s.role ≠ 0 then
    let (s, status, pen) := claimLease lease otier count borrower s
    .next (rillSend src 0x11 [1, lease, status, pen, count] s)
  else .next s

/-- EXTENT_RETURN_FRAME (R293): the manager forwards it to the owner, which clears the extent. -/
def execExtentReturnFrame (src lease pen : Nat) (s : State) : Host.Outcome State Fault Refusal :=
  if !s.mgmt.services || src = s.pkg then .next s
  else .next (if s.role = 3 then managerReturn lease pen s else ownerReturn lease pen s)

/-- LEASE_RETURN_HANDOVER (R92): the oldest queued return is handed to the manager. -/
def execLeaseReturnHandover (s : State) : Host.Outcome State Fault Refusal :=
  match s.pool.returns with
  | [] => .next s
  | (lease, pen) :: rest =>
    if !s.managerUp then .next s
    else
      let t := s.poolSet { s.pool with returns := rest }
      .next (if s.role = 3 then managerReturn lease pen t else rillSend s.mgrNum 0x13 [lease, pen] t)

/-- COLD_OWNER_REJOIN (R294): the leases the directory shows this owner granted. -/
def execColdOwnerRejoin (leases : List LeaseInfo) (s : State) : Host.Outcome State Fault Refusal :=
  if s.role = 0 then .next s else .next (forEach leases (fun l u => takeLost (leaseOf l) u) s)

/-- MIRROR_FRAME (R295): the standby applies a change and acknowledges it. -/
def execMirrorFrame (src : Nat) (c : List Nat) (s : State) : Host.Outcome State Fault Refusal :=
  if s.role = 2 && s.mgmt.services && src = s.mgrNum then .next (applyChange c s) else .next s

/-- STANDBY_ACK_TIMEOUT (R295): a mirror frame without an acknowledgement for 1 ms. -/
def execStandbyAckTimeout (n : Nat) (s : State) : Host.Outcome State Fault Refusal :=
  if s.pool.mgrOps.any (fun o => match o with | .mirroring m at_ _ => decide (m = n) && decide (at_ + 1000 ≤ s.us) | _ => false)
  then .next (standbyLost s) else .next s

/-- STANDBY_RESYNC (R295): the whole directory is copied to the standby and mirroring resumes. -/
def execStandbyResync (s : State) : Host.Outcome State Fault Refusal :=
  match s.pool.standby with
  | none => .next s
  | some p =>
    if s.role ≠ 3 || s.pool.standbyActive || !(s.member p).current || !s.mgmt.services then .next s
    else
      let s := forEach s.poolMembers (fun q u => rillSend p 0x12 [3, q, 1] u) s
      let s := forEach s.pool.directory (fun l u =>
        forEach l.returned (fun pen v => rillSend p 0x12 [1, l.num, pen] v) (rillSend p 0x12 (0 :: l.fields) u)) s
      .next (s.poolSet { s.pool with standbyActive := true })

/-! ### Heartbeats and takeover (R296, R297) -/

/-- HEARTBEAT_SEND (R296): the manager's carries the epoch and the membership list. -/
def execHeartbeatSend (s : State) : Host.Outcome State Fault Refusal :=
  if s.role = 0 || s.us < s.pool.hbSentAt + s.hbPeriod then .next s
  else
    let mask := if s.role = 3 then (s.poolMembers.map (fun p => 2 ^ p)).sum else 0
    let s := s.poolSet { s.pool with hbSentAt := s.us }
    .next (rillSend 0xFF 0x01 [(s.reg (rilBase + 4)).toNat, s.role, s.pool.epoch, mask] s)

/-- HEARTBEAT_RECEIVE (R296, R297, R311). -/
def execHeartbeatReceive (ring src hops epoch poolId role : Nat) (members : BitVec 16) (s : State) :
    Host.Outcome State Fault Refusal :=
  .next (takeHeartbeat ring src hops epoch poolId role members s)

/-- HEARTBEAT_TIMEOUT (R296): a member not heard for TIMEOUT is LOST. -/
def execHeartbeatTimeout (p : Nat) (s : State) : Host.Outcome State Fault Refusal :=
  let m := s.member p
  if s.role = 0 || !m.member || m.lost || p = s.pkg || s.us < m.hbAt + s.hbTimeout then .next s
  else
    let s := s.setMember p { m with current := false, lost := true, hopsA := 0, hopsB := 0 }
    let s := raiseDetail 0x00D 0 p (s.setRegBit (rilBase + 0x18) 3 true)
    let s := if s.role = 3 && s.pool.standby = some p && s.pool.standbyActive then standbyLost s else s
    .next (showQuorum s)

/-- TAKEOVER (R297): a standby with quorum whose manager is LOST becomes manager and audits the leases; a cold manager
rebuilds its directory by the same audit. `tables`: the held and granted tables each other member reports. -/
def execTakeover (tables : List (Nat × List LeaseInfo × List LeaseInfo)) (s : State) : Host.Outcome State Fault Refusal :=
  let all (s : State) : List (Nat × List Lease × List Lease) :=
    (s.pkg, s.pool.leasesHeld, s.pool.granted) ::
      tables.map (fun x => (x.1, x.2.1.map leaseOf, x.2.2.map leaseOf))
  if s.role = 2 && s.wired.mgr && (s.member s.mgrNum).lost && s.flag rilBase RIL_STATUS_QUORUM then
    let e := s.pool.epoch + 1
    let s := ((s.put rilBase RIL_STATUS_ROLE 3).put rilBase RIL_STATUS_MGR s.pkg).put rilBase RIL_STATUS_EPOCH e
    let s := s.meterSet { s.meter with markAt := some s.meter.lastMark }
    let s := s.putFlag mtrBase MTR_STATUS_UNSYNC false
    let stored := s.pool.stored.map (fun x => { x with role := 3, epoch := e })
    let s := s.poolSet { s.pool with epoch := e, standby := none, standbyActive := false, managerNext := false, stored := stored }
    let s := raiseOpen 0x00D 2 (s.setRegBit (rilBase + 0x18) 4 true)
    .next (audit (all s) (rillSend 0xFF 0x50 [0] s))
  else if s.role = 3 && s.pool.rebuilding then
    .next (audit (all s) (rillSend 0xFF 0x50 [0] (s.poolSet { s.pool with rebuilding := false })))
  else .next s

/-- HANDOVER_FRAME (R298). -/
def execHandoverFrame (src epoch : Nat) (s : State) : Host.Outcome State Fault Refusal :=
  .next (if s.mgmt.services then takeHandover src epoch s else s)

/-! ### The rill (R308-R311) -/

/-- Pass a frame of another package on, one hop further. -/
def forwardFrame (ring : Nat) (f : RillFrame) (s : State) : State :=
  let on := s.flag rilBase (if ring = 0 then RIL_POOL_CFG_RING_A_EN else RIL_POOL_CFG_RING_B_EN)
  if f.hops < 15 && on then s.emit (.rillForward ring f.dst f.src f.ftype f.fseq (f.hops + 1) f.epoch f.payload) else s

/-- Deliver a frame: repeats are discarded, unicast frames acknowledged, and what Services handles waits for it (R310). -/
def deliver (ring : Nat) (f : RillFrame) (s : State) : State :=
  let unicast := decide (f.dst ≠ 0xFF)
  let repeated := f.ftype ≠ 0x01 && s.pool.seen.contains (f.src, f.fseq)
  let waits := needsServices f.ftype && !s.mgmt.services
  if repeated then (if unicast && f.ftype ≠ 0x7F then rillSend f.src 0x7F [f.fseq] s else s)
  else if waits && 64 ≤ s.pool.inbox.length then s
  else
    let s := s.count (rilBase + 0x48) 1
    let s := if f.ftype = 0x01 then s else s.poolSet { s.pool with seen := ((f.src, f.fseq) :: s.pool.seen).take 1024 }
    let s := if unicast && f.ftype ≠ 0x7F then rillSend f.src 0x7F [f.fseq] s else s
    if waits then s.poolSet { s.pool with inbox := s.pool.inbox ++ [{ f with ringB := decide (ring = 1) }] }
    else process ring f.src f.ftype f.fseq f.hops f.payload s

/-- RILL_FRAME_RECEIVE (R309, R310). A package in no pool is addressed by no unicast frame (DESIGN CHOICE). -/
def execRillFrameReceive (ring : Nat) (crcOk : Bool) (dst src ftype fseq hops epoch : Nat) (payload : List Nat)
    (s : State) : Host.Outcome State Fault Refusal :=
  let f : RillFrame := { dst := dst, src := src, ftype := ftype, fseq := fseq, hops := hops, epoch := epoch, payload := payload }
  if !crcOk then
    .next (raiseOpen (0x00B + ring % 2) 1 ((s.count (rilBase + 0x50) 1).setRegBit (rilBase + 0x18) 0 true))
  else
    let own := if s.role ≠ 0 then decide (src = s.pkg)
      else ftype = 0x03 && payload.head? = some 0 && (s.opOf 0x0900 fseq).isSome
    if own then .next s
    else if s.role ≠ 0 && dst = s.pkg then .next (deliver ring f s)
    else
      let s := forwardFrame ring f s
      .next (if dst = 0xFF then deliver ring f s else s)

/-- RILL_RESEND (R310): a frame not acknowledged for 100 µs is sent again on the other ring. -/
def execRillResend (fseq : Nat) (s : State) : Host.Outcome State Fault Refusal :=
  match s.pool.frames.find? (fun f => f.fseq = fseq) with
  | none => .next s
  | some f =>
    if s.us < f.lastAt + 100 || f.sentAt + 1000000 ≤ s.us then .next s
    else
      let g := { f with ringB := !f.ringB, lastAt := s.us, resends := f.resends + 1 }
      let s := s.poolSet { s.pool with frames := s.pool.frames.map (fun x => if x = f then g else x) }
      let s := (s.count (rilBase + 0x58) 1).count (rilBase + 0x40) 1
      .next (s.emit (.rillFrame (ofBool g.ringB) g.ftype g.dst g.payload))

/-- RILL_FRAME_UNACKNOWLEDGED (R310): after 1 s the frame is given up and its operation ends. -/
def execRillFrameUnacknowledged (fseq : Nat) (s : State) : Host.Outcome State Fault Refusal :=
  match s.pool.frames.find? (fun f => f.fseq = fseq) with
  | none => .next s
  | some f =>
    if s.us < f.sentAt + 1000000 then .next s
    else
      let s := s.poolSet { s.pool with frames := s.pool.frames.filter (fun x => x ≠ f) }
      let s := raiseOpen (0x00B + ofBool f.ringB) 2 (s.setRegBit (rilBase + 0x18) 5 true)
      match f.op with
      | none => .next s
      | some d =>
        let s := s.poolSet { s.pool with
          ops := s.pool.ops.filter (fun o => o.desc ≠ d), handover := s.pool.handover && decide (f.ftype ≠ 0x41) }
        .next (complete d 0x0C 0 s)

/-- RILL_TICK_MARK (R311): the mark is forwarded at once and applied at the hop-corrected time, below a microsecond later
than the mark's arrival (assumption log). -/
def execRillTickMark (n ring : Nat) (s : State) : Host.Outcome State Fault Refusal :=
  let on := s.flag rilBase (if ring = 0 then RIL_POOL_CFG_RING_A_EN else RIL_POOL_CFG_RING_B_EN)
  let s := if on && s.role ≠ 3 then s.emit (.tickMark n) else s
  .next (takeMark n s)

def ringUp (ring : Nat) : Fld := if ring = 0 then RIL_STATUS_A_UP else RIL_STATUS_B_UP

/-- RILL_INPUT_DOWN (R308). -/
def execRillInputDown (ring : Nat) (s : State) : Host.Outcome State Fault Refusal :=
  if !s.flag rilBase (ringUp ring) then .next s
  else
    let s := (s.putFlag rilBase (ringUp ring) false).setRegBit (rilBase + 0x18) (if ring = 0 then 1 else 2) true
    let s := forEach (upto 16) (fun p u =>
      let m := u.member p
      u.setMember p (if ring = 0 then { m with hopsA := 0 } else { m with hopsB := 0 })) s
    .next (setLive (0x00B + ring % 2) true (raiseOpen (0x00B + ring % 2) 0 s))

/-- RILL_INPUT_UP (R308): an inverted comma corrects the polarity. -/
def execRillInputUp (ring : Nat) (inverted : Bool) (s : State) : Host.Outcome State Fault Refusal :=
  if s.flag rilBase (ringUp ring) then .next s
  else
    let s := (s.putFlag rilBase (ringUp ring) true).putFlag rilBase (if ring = 0 then RIL_STATUS_A_POL else RIL_STATUS_B_POL) inverted
    .next (setLive (0x00B + ring % 2) false s)

/-- The effect of a write of RIL_LOOP_CTL (R66, R67, Table RIL-5); `v`: the register as the access types leave it. -/
def rilLoopWritten (old v : Nat) (s : State) : State :=
  let en := s.flag rilBase (if bitAt v 6 then RIL_POOL_CFG_RING_B_EN else RIL_POOL_CFG_RING_A_EN)
  loopWritten (rilBase + 0x20) (rilBase + 0x24) en false old v s

/-- FAULT_ESCALATION_FRAME (R349, R481): on the manager. -/
def execFaultEscalationFrame (pkg src kind cls level addr detail time : Nat) (s : State) :
    Host.Outcome State Fault Refusal :=
  .next (takeEscalation pkg src kind cls level addr detail time s)

end Sys2Proof.Machine
end

