-- ==== Sys2Proof/Machine/Mgmt.lean ====
section
/-! DEFINITION. The management processor: secure boot, resets, firmware update, clock and PMBus (R355-R367, R372, and the
firmware opcodes of R269). -/

namespace Sys2Proof.Machine

/-! ### Images and the boot record (R359-R361) -/

def State.bankImage (s : State) (b : Nat) : Option Image := if b = 0 then s.mgmt.bankA else s.mgmt.bankB
def setBank (b : Nat) (i : Option Image) (s : State) : State :=
  s.mgmtSet (if b = 0 then { s.mgmt with bankA := i } else { s.mgmt with bankB := i })

/-- An image is valid (R360). -/
def State.imageValid (s : State) (i : Image) : Bool :=
  i.headerOk && i.digestOk && s.keyTrusted i.keyDigest && i.sigOk && s.arbCount ≤ i.sv && i.sv ≤ 127
def State.bankValid (s : State) (b : Nat) : Bool := match s.bankImage b with | some i => s.imageValid i | none => false

/-- The boot record in force: the higher SEQ with a good CRC. -/
def State.bootRec (s : State) : BootRec :=
  if !s.mgmt.boot1.good then s.mgmt.boot0
  else if !s.mgmt.boot0.good then s.mgmt.boot1
  else if s.mgmt.boot0.seq < s.mgmt.boot1.seq then s.mgmt.boot1 else s.mgmt.boot0

/-- Grotto writes the copy with the older SEQ. -/
def writeBoot (f : BootRec → BootRec) (s : State) : State :=
  let r := s.bootRec
  let n := { f r with seq := (r.seq + 1) % 2 ^ 32, good := true }
  flashErased 1 (s.mgmtSet (if r = s.mgmt.boot0 then { s.mgmt with boot1 := n } else { s.mgmt with boot0 := n }))

/-- The bank the management processor runs, and the bank that is staged: in recovery, bank A (R362). -/
def State.runBank (s : State) : Nat := s.get mgtBase MGT_STATUS_BANK
def State.recovery (s : State) : Bool := s.get mgtBase MGT_STATUS_MODE = 3
def State.stageBank (s : State) : Nat := if s.recovery then 0 else 1 - s.runBank
def State.runSv (s : State) : Nat := match s.mgmt.running with | some i => i.sv | none => 0

/-- A verified image is staged, or none. -/
def setStaged (b : Bool) (s : State) : State :=
  let sv := if b then (match s.bankImage s.stageBank with | some i => i.sv | none => 0) else 0
  (s.mgmtSet { s.mgmt with staged := b }).put mgtBase MGT_FW_VER_STAGED_SV sv

/-! ### Management-only reset and the ROM (R362-R364) -/

/-- The firmware descriptor that executes ends. -/
def endFw (status result : Nat) (s : State) : State :=
  match s.mgmt.fwDesc with
  | some d => complete d status result (s.mgmtSet { s.mgmt with fwDesc := none })
  | none => s

/-- An activation did not start its image: FW_ACTIVATE completes with ABORTED. -/
def abortActivation (s : State) : State :=
  if s.mgmt.activation.isSome then endFw 0x0A 0 (s.mgmtSet { s.mgmt with activation := none }) else s

/-- The management processor is powered and may be reset. -/
def State.mpPowered (s : State) : Bool := s.pkgMode.mode = .up && !s.flt.lockedDown

/-- A management-only reset (R363, Table MGT-5): staging is cancelled, what waits for the processor waits; the data plane, keys,
EID, boot record, fuses and flash stay. The ROM runs next (ROM_BOOT). -/
def mgmtReset (s : State) : State :=
  let s := s.count (mgtBase + 0x40) 1
  let s := raiseOpen 0x006 1 (setStaged false s)
  let m := s.mgmt
  let hart : Hart := Sparse.get (fun _ => {}) s.dbg.harts 0
  let s := { s with
    mgmt := { m with
      grotto := false, services := false, staging := none, gateDone := none, updating := false, spdm := 0, tid := 0
      receiver := none, isReady := false, resetAt := s.us, pllAt := none }
    flash := { s.flash with calNew := none, busy := 0 }
    dbg := { s.dbg with harts := Sparse.set (fun _ => {}) s.dbg.harts 0 { hart with halted := false } } }
  (s.put mgtBase MGT_STATUS_MODE 2).putFlag mgtBase MGT_STATUS_PLL false

/-- Services starts from a bank: status registers, what waited for Grotto or Services is done, and an activation whose bank was
left ends. -/
def startServices (b : Nat) (i : Image) (s : State) : State :=
  let s := storeWrite (fun f => { f with boots := f.boots + 1 }) s
  let s := s.mgmtSet { s.mgmt with running := some i, grotto := true, services := true, readyAt := s.us, isReady := false }
  let s := s.put mgtBase MGT_STATUS_MODE 1
  let s := (s.put mgtBase MGT_STATUS_BANK b).putFlag mgtBase MGT_STATUS_TRIAL s.bootRec.trial
  let s := (s.put mgtBase MGT_FW_VER_SV i.sv).setReg (mgtBase + 8) (BitVec.ofNat 64 (i.version % 2 ^ 32))
  let s := if s.bootRec.trial then s else s.mgmtSet { s.mgmt with activated := false }
  let s := match s.mgmt.activation with
    | some a =>
      if a.bank = b && s.bootRec.trial then s.mgmtSet { s.mgmt with activation := some { a with since := s.us } }
      else abortActivation s
    | none => s
  let s := redoErases s
  let s := if s.pkgMode.tripped then
      let s := { s with pkgMode := { s.pkgMode with tripped := false } }
      raiseOpen 0x018 0 (s.putFlag thmBase THM_STATUS_TRIP_PREV true)
    else s
  sealForWaits (drainInbox s)

/-- The ROM booted another bank than the record says (R362). -/
def bankReverted (s : State) : State := raiseOpen 0x006 2 (s.putFlag mgtBase MGT_ERR_STATUS_BANK_REVERT true)

/-- The Grotto ROM (R362). A checker that fails leaves the processor in the ROM with a shutdown record (R167, R378). No image
boots in BLANK or SCRAPPED (Table OTP-2). -/
def bootRom (mpOk : Bool) (s : State) : State :=
  let s := s.mgmtSet { s.mgmt with resetAt := s.us }
  if !mpOk then abortActivation (writeShutdown 3 [] (s.put mgtBase MGT_STATUS_MODE 0))
  else if s.lifeCycle = 0 || s.lifeCycle = 5 then abortActivation (s.put mgtBase MGT_STATUS_MODE 0)
  else
    let r := s.bootRec
    let s :=
      if r.trial && 1 ≤ r.tried then
        bankReverted (writeBoot (fun r => { r with active := r.prev, trial := false, tried := 0 }) s)
      else if r.trial then writeBoot (fun r => { r with tried := r.tried + 1 }) s
      else s
    let b := s.bootRec.active
    if s.bankValid b then (match s.bankImage b with | some i => startServices b i s | none => s)
    else if s.bankValid (1 - b) then
      let s := bankReverted (writeBoot (fun r => { r with active := 1 - b, trial := false, tried := 0 }) s)
      match s.bankImage (1 - b) with
      | some i => startServices (1 - b) i s
      | none => s
    else
      let s := s.mgmtSet { s.mgmt with running := none, activated := false }
      abortActivation (s.put mgtBase MGT_STATUS_MODE 3)

/-- ROM_BOOT (R362): after a management-only reset. -/
def execRomBoot (mpOk : Bool) (s : State) : Host.Outcome State Fault Refusal :=
  .next (if s.mpPowered && s.get mgtBase MGT_STATUS_MODE = 2 then bootRom mpOk s else s)

/-- MANAGEMENT_ONLY_RESET (R363). -/
def execManagementOnlyReset (s : State) : Host.Outcome State Fault Refusal := .next (if s.mpPowered then mgmtReset s else s)

/-- The effect of a write of MGT_CTL (Table MGT-15, R477). -/
def mgtCtlWritten (v : BitVec 32) (s : State) : State :=
  if !v.getLsbD 0 then s else if s.locked then noteIgnored s else if s.mpPowered then mgmtReset s else s

/-! ### Services faults (R358) -/

/-- A Services fault. -/
def servicesFault (s : State) : State := mgmtReset (raiseOpen 0x006 0 (s.putFlag mgtBase MGT_ERR_STATUS_SVC_FAULT true))

/-- SERVICES_WATCHDOG_MISS: no READY for a second. The watchdog stands still while the hart is halted (R431), and a new image
has 10 s for its first READY (R364). -/
def execServicesWatchdogMiss (s : State) : Host.Outcome State Fault Refusal :=
  .next (if s.servicesRun && s.mgmt.isReady && s.mgmt.readyAt + 1000000 < s.us then servicesFault s else s)

/-- SERVICES_TRAP: a user-mode trap other than ECALL, or a PMP violation. -/
def execServicesTrap (s : State) : Host.Outcome State Fault Refusal := .next (if s.servicesRun then servicesFault s else s)

/-- MACHINE_MODE_TRAP: Grotto's integrity has failed. -/
def execMachineModeTrap (s : State) : Host.Outcome State Fault Refusal :=
  .next (if s.mpPowered && s.mgmt.grotto then raiseOpen 0x002 3 s else s)

/-- ACTIVATION_READY_TIMEOUT (R364): the new Services has not called READY within 10 s of its start. -/
def execActivationReadyTimeout (s : State) : Host.Outcome State Fault Refusal :=
  match s.mgmt.activation with
  | some a => .next (if s.servicesRun && !s.mgmt.isReady && a.since + 10000000 ≤ s.us then servicesFault s else s)
  | none => .next s

/-! ### The clock (R355, R445) -/

/-- A cause to run from the PLL. -/
def askPll (s : State) : State := s.mgmtSet { s.mgmt with pllAt := some s.us }
/-- Such a cause came within the last 10 ms. -/
def State.pllWanted (s : State) : Bool := match s.mgmt.pllAt with | some a => decide (s.us < a + 10000) | none => false

/-- MP_PLL_SWITCH: without the reference the processor stays on the RC oscillator. -/
def execMpPllSwitch (s : State) : Host.Outcome State Fault Refusal :=
  .next (if s.mpPowered && s.pllWanted && s.refPresent then s.putFlag mgtBase MGT_STATUS_PLL true else s)

/-- MP_IDLE_RETURN: after 10 ms with none of the causes. -/
def execMpIdleReturn (s : State) : Host.Outcome State Fault Refusal :=
  .next (if s.flag mgtBase MGT_STATUS_PLL && !s.pllWanted then s.putFlag mgtBase MGT_STATUS_PLL false else s)

/-! ### Firmware update (R269, R278, R364-R367) -/

/-- A firmware operation runs that excludes another (R269). -/
def State.fwBusy (s : State) : Bool := s.mgmt.fwDesc.isSome || s.mgmt.activation.isSome

/-- `length` bytes at `offset` are programmed into the bank that is staged; offset 0 starts it anew. -/
def stageBytes (pldm : Bool) (offset length : Nat) (s : State) : State :=
  let s := if offset = 0 then setBank s.stageBank none (setStaged false s) else s
  let st : Staging := { bytes := offset + length, pldm := pldm }
  flashErased ((length + 65535) / 65536) (s.mgmtSet { s.mgmt with staging := some st })

/-- The last bytes: the image is verified (R360). Answers whether it may be activated. -/
def stageLast (image : Option Image) (s : State) : State × Bool :=
  let s := setBank s.stageBank image (s.mgmtSet { s.mgmt with staging := none })
  let ok := s.bankValid s.stageBank
  (setStaged ok s, ok)

/-- The bytes staged so far. -/
def State.stagedBytes (s : State) : Nat := match s.mgmt.staging with | some x => x.bytes | none => 0

/-- FW_STAGE (R269). An image is at most a bank (R359). -/
def execFwStage (d : DescRef) (haddr offset length : Nat) (last : Bool) (image : Option Image) (progOk : Bool) (s : State) :
    Host.Outcome State Fault Refusal :=
  onReady d 0x0A00 [(8, 8, haddr), (16, 4, offset), (20, 4, length)] (fun f s =>
    if descFlag f.bytes 2 ≠ last || !s.servicesRun then s
    else if haddr % 4096 ≠ 0 || length < 4096 || 2 ^ 20 < length || (!last && length % 4096 ≠ 0) ||
        (offset ≠ 0 && offset ≠ s.stagedBytes) || 2 ^ 24 < offset + length then complete d 0x02 0 s
    else if s.fwBusy || s.mgmt.updating then complete d 0x0D 0 s
    else if !progOk then complete d 0x09 0 s
    else
      let s := stageBytes false offset length s
      if !last then complete d 0 (offset + length) s
      else match stageLast image s with
        | (s, true) => complete d 0 (offset + length) s
        | (s, false) => complete d 0x08 0 s) s

/-- The boot record of an activation, and the reset (R364). -/
def activateBank (desc : Option DescRef) (s : State) : State :=
  let b := s.stageBank
  let prev := s.runBank
  let s := writeBoot (fun r => { r with active := b, prev := prev, trial := true, tried := 0 }) s
  mgmtReset (s.mgmtSet { s.mgmt with activation := some { bank := b, desc := desc, since := s.us }, fwDesc := desc })

/-- Every jet that is not retired is to reload; those of a tier in T3 load with its exit. -/
def askReload (s : State) : State :=
  forEach s.tierList (fun t u => forEach (upto 16) (fun j v =>
    if v.retiredJet t j || (v.tier t).power = 3 then v else v.setJet t j { v.jet t j with reload := true }) u) s

/-- No jet is still to reload: the jets run the image of the management processor, and the FW_ACTIVATE ends (R278). -/
def reloadDone (s : State) : State :=
  if s.jets.any (fun e => e.2.reload) then s
  else
    let s := s.mgmtSet { s.mgmt with jetImage := s.mgmt.running }
    if s.mgmt.activation.isNone then endFw 0 s.runSv s else s

/-- FW_ACTIVATE (R269, R364, R365): it ends at the new Services' READY, or when every jet has reloaded. -/
def execFwActivate (d : DescRef) (target : Nat) (s : State) : Host.Outcome State Fault Refusal :=
  onReady d 0x0A01 [(8, 1, target)] (fun _ s =>
    if !s.servicesRun then s
    else if 1 < target then complete d 0x02 0 s
    else if s.fwBusy || s.mgmt.updating then complete d 0x0D 0 s
    else if target = 0 then (if s.mgmt.staged then activateBank (some d) (startDesc d s) else complete d 0x05 0 s)
    else if !s.mgmt.activated then complete d 0x05 0 s
    else
      let s := startDesc d s
      reloadDone (askReload (s.mgmtSet { s.mgmt with fwDesc := some d }))) s

/-- JET_FIRMWARE_RELOAD (R278): once its present piece ends. -/
def execJetFirmwareReload (t j : Nat) (s : State) : Host.Outcome State Fault Refusal :=
  if !(s.jet t j).reload || (s.pieceOf t j).isSome then .next s
  else .next (reloadDone (s.setJet t j { s.jet t j with reload := false }))

/-- FW_COMMIT may run: the image was activated since the last commit, in a state that lets the counter advance (R366). -/
def State.mayCommit (s : State) : Bool := s.mgmt.activated && 1 ≤ s.lifeCycle && s.lifeCycle ≤ 3

/-- Commit the running image: jets first, then the counter, then TRIAL (R366, R367). -/
def commitImage (short : List Nat) (s : State) : State :=
  let s := { s with jets := Sparse.mapVals (fun _ => {}) (fun _ (j : Jet) => { j with reload := false }) s.jets }
  let s := s.mgmtSet { s.mgmt with jetImage := s.mgmt.running }
  let s := advanceArb short 127 s.runSv s
  let s := writeBoot (fun r => { r with trial := false, tried := 0 }) s
  (s.mgmtSet { s.mgmt with activated := false }).putFlag mgtBase MGT_STATUS_TRIAL false

/-- FW_COMMIT: RESULT is the count. -/
def execFwCommit (d : DescRef) (short : List Nat) (s : State) : Host.Outcome State Fault Refusal :=
  onReady d 0x0A02 [] (fun _ s =>
    if !s.servicesRun then s
    else if s.fwBusy || s.mgmt.updating then complete d 0x0D 0 s
    else if !s.mayCommit then complete d 0x05 0 s
    else
      let s := commitImage short s
      complete d 0 s.arbCount s) s

/-! ### PMBus (R372, R438) -/

/-- A status word shows a fault. -/
def noteStatus (w : Nat) (s : State) : State := if w ≠ 0 then raiseOpen 0x00F 1 s else s

/-- A regulator after a poll: what was read, and a step of its setpoint of 5 mV on VDD_PORT or VDD_ENG. -/
def Regulator.polled (r : Regulator) (us : Nat) (x : Option (Nat × Nat × Nat × Nat)) (step : Int) : Regulator :=
  let r : Regulator := match x with
    | none => { r with fails := min 3 (r.fails + 1) }
    | some (v, i, t, w) => { r with fails := 0, vout := v, iout := i, temp := t, status := w }
  let next : Int := r.offset + (if 0 < step then 5 else -5)
  if (r.rail = 1 || r.rail = 2) && r.fails < 3 && decide (step ≠ 0) && decide (-40 ≤ next) && decide (next ≤ 20) &&
      r.stepAt + 1000 ≤ us then { r with offset := next, stepAt := us } else r

/-- PMBUS_POLL (R372): every 10 ms; reads in the order of the regulators, none for one that did not answer. -/
def execPmbusPoll (reads : List (Option (Nat × Nat × Nat × Nat))) (steps : List Int) (s : State) :
    Host.Outcome State Fault Refusal :=
  if !s.servicesRun then .next s
  else
    let old := s.flash.regulators
    let now : List Regulator := old.zipIdx.map (fun (e : Regulator × Nat) =>
      e.1.polled s.us ((reads[e.2]?).getD none) ((steps[e.2]?).getD 0))
    let s := s.flashSet { s.flash with regulators := now }
    .next (forEach (old.zip now) (fun (e : Regulator × Regulator) u =>
      if e.1.fails < 3 && e.2.fails = 3 then raiseOpen 0x00F 1 u else if e.2.fails = 0 then noteStatus e.2.status u else u) s)

/-- PMB_ALERT (R438): STATUS_WORD of every regulator is read. -/
def execPmbAlert (status : List (Option Nat)) (s : State) : Host.Outcome State Fault Refusal :=
  if !s.servicesRun then .next s
  else
    let now : List Regulator := s.flash.regulators.zipIdx.map (fun (e : Regulator × Nat) =>
      match (status[e.2]?).getD none with
      | some w => { e.1 with status := w }
      | none => e.1)
    let s := s.flashSet { s.flash with regulators := now }
    .next (forEach now.zipIdx (fun (e : Regulator × Nat) u =>
      if ((status[e.2]?).getD none).isSome then noteStatus e.1.status u else u) s)

end Sys2Proof.Machine
end

