-- ==== Sys2Proof/Machine/Debug.lean ====
section
/-! DEFINITION. The TAP, the debug module's access rules, unlocking and harts (R418-R431). -/

namespace Sys2Proof.Machine

def State.dbgSet (s : State) (d : Debug) : State := { s with dbg := d }

/-! ### Access (R425, R426, Table DBG-2) -/

def State.mpOpen (s : State) : Bool :=
  !s.flt.lockedDown && (match s.lifeCycle with
    | 0 => true
    | 1 | 2 => !s.permOff
    | 3 | 4 => s.dbg.unlocked && !s.permOff
    | _ => false)
def State.jetsOpen (s : State) : Bool :=
  !s.flt.lockedDown && (match s.lifeCycle with
    | 0 => true
    | 1 | 2 => !s.permOff
    | 3 => s.dbg.unlocked && s.jetDbg && !s.permOff
    | 4 => s.dbg.unlocked && !s.permOff
    | _ => false)
/-- The pin-driving instructions and DIE_SCAN are permitted by state and policy. -/
def State.scanOpen (s : State) : Bool :=
  !s.flt.lockedDown && (match s.lifeCycle with
    | 0 | 1 | 2 => true
    | 3 => s.scanDeployed || s.dbg.unlocked
    | 4 => s.dbg.unlocked
    | _ => false)
/-- dmstatus.authenticated: the module is open. -/
def State.authenticated (s : State) : Bool := !s.flt.lockedDown && (s.mpOpen || s.jetsOpen || s.dbg.unlocked)
/-- DBG_STATUS.ACCESS. -/
def State.accessCode (s : State) : Nat :=
  if s.flt.lockedDown then 4
  else if s.lifeCycle = 5 || (s.permOff && s.lifeCycle ≠ 0) then 3
  else if s.lifeCycle ≤ 2 then 0
  else if s.dbg.unlocked then 2 else 1

/-! ### The TAP (R418-R423) -/

/-- The port die that holds the TAP is powered. -/
def State.tapPowered (s : State) : Bool := s.pkgMode.mode = .up || s.pkgMode.mode = .shutdown

/-- Select an instruction and put out what is shifted. -/
def tapSelect (code bits out : Nat) (s : State) : State :=
  (s.dbgSet { s.dbg with ir := code }).emit (.tdo bits (out % 2 ^ bits))
/-- An instruction that acts as BYPASS. -/
def tapBypass (s : State) : State := tapSelect 0xFF 1 0 s
/-- A refused instruction acts as BYPASS and sets REFUSED. -/
def tapRefuse (s : State) : State := tapBypass (s.putFlag dbgBase DBG_STATUS_REFUSED true)
/-- An instruction that Lockdown refuses. -/
def tapDo (f : State → State) (s : State) : Host.Outcome State Fault Refusal :=
  .next (if !s.tapPowered then s else if s.flt.lockedDown then tapRefuse s else f s)
/-- An instruction that needs scan mode. -/
def tapScan (f : State → State) (s : State) : Host.Outcome State Fault Refusal :=
  tapDo (fun s => if s.pkgMode.scan && s.scanOpen then f s else tapRefuse s) s

/-- TAP_RESET (R418): the TAP alone. -/
def execTapReset (s : State) : Host.Outcome State Fault Refusal :=
  .next (if s.tapPowered then s.dbgSet { s.dbg with ir := 1, dieCfg := 0 } else s)

/-- IDCODE (R420): usable under Lockdown too. -/
def execIdcode (s : State) : Host.Outcome State Fault Refusal :=
  .next (if s.tapPowered then tapSelect 0x01 32 (2 ^ 28 + 0xD808 * 2 ^ 12 + Config.jedecMfr.toNat * 2 + 1) s else s)

/-- Shift the boundary register: what was captured goes out and the shifted cells are kept. -/
def shiftBoundary (code captured shifted : Nat) (s : State) : State :=
  let n := Config.boundaryLength s.nTiers
  tapSelect code n captured (s.dbgSet { s.dbg with boundary := shifted % 2 ^ n })

/-- SAMPLE_PRELOAD (Table DBG-1). -/
def execSamplePreload (captured shifted : Nat) (s : State) : Host.Outcome State Fault Refusal :=
  tapDo (shiftBoundary 0x02 captured shifted) s
/-- EXTEST (R421): while it is selected the boundary register drives the balls. -/
def execExtest (captured shifted : Nat) (s : State) : Host.Outcome State Fault Refusal :=
  tapScan (shiftBoundary 0x03 captured shifted) s
/-- EXTEST_PULSE (R422). -/
def execExtestPulse (captured shifted : Nat) (s : State) : Host.Outcome State Fault Refusal :=
  tapScan (shiftBoundary 0x04 captured shifted) s
/-- EXTEST_TRAIN (R422). -/
def execExtestTrain (captured shifted : Nat) (s : State) : Host.Outcome State Fault Refusal :=
  tapScan (shiftBoundary 0x05 captured shifted) s
/-- CLAMP. -/
def execClamp (s : State) : Host.Outcome State Fault Refusal := tapScan (tapSelect 0x06 1 0) s
/-- HIGHZ. -/
def execHighz (s : State) : Host.Outcome State Fault Refusal := tapScan (tapSelect 0x07 1 0) s

/-- BYPASS, and every code that Table DBG-1 does not list. -/
def execBypass (code : Nat) (s : State) : Host.Outcome State Fault Refusal :=
  let listed := [0x01, 0x02, 0x03, 0x04, 0x05, 0x06, 0x07, 0x10, 0x11, 0x20, 0x21].contains code
  .next (if s.tapPowered && !listed then tapBypass s else s)

/-- DTMCS (RISC-V debug 0.13.2): version 1, abits 7, the sticky status; bits 16 and 17 reset it. -/
def execDtmcs (value : BitVec 32) (s : State) : Host.Outcome State Fault Refusal :=
  tapDo (fun s =>
    let s := tapSelect 0x10 32 (1 + 7 * 2 ^ 4 + s.dbg.dmiStat * 2 ^ 10) s
    if value.getLsbD 16 || value.getLsbD 17 then s.dbgSet { s.dbg with dmiStat := 0 } else s) s

/-- DIE_CFG (R423): bits of absent tiers stay 0. -/
def execDieCfg (value : BitVec 16) (s : State) : Host.Outcome State Fault Refusal :=
  tapDo (fun s =>
    let mask := BitVec.ofNat 16 (2 ^ (2 * s.nTiers) - 1)
    tapSelect 0x20 16 s.dbg.dieCfg.toNat (s.dbgSet { s.dbg with dieCfg := value &&& mask })) s

/-- DIE_SCAN (R423): the wrappers DIE_CFG selects, in order; with none it acts as BYPASS. -/
def execDieScan (captured shifted : Nat) (s : State) : Host.Outcome State Fault Refusal :=
  tapScan (fun s =>
    if s.dbg.dieCfg = 0 then tapBypass s
    else
      let n := Config.wrapperLength s.dbg.dieCfg
      tapSelect 0x21 n captured (s.dbgSet { s.dbg with wrapper := shifted % 2 ^ n })) s

/-! ### Harts (R429-R431) -/

def State.hart (s : State) (h : Nat) : Hart := Sparse.get (fun _ => {}) s.dbg.harts h
def State.setHart (s : State) (h : Nat) (v : Hart) : State :=
  s.dbgSet { s.dbg with harts := Sparse.set (fun _ => {}) s.dbg.harts h v }
/-- Tier and jet of hart `h` above 0. -/
def hartTier (h : Nat) : Nat := (h - 1) / 16
def hartJet (h : Nat) : Nat := (h - 1) % 16
def State.hartExists (s : State) (h : Nat) : Bool := h < 1 + 16 * s.nTiers
/-- The hart answers: opened under R425, powered and not retired. -/
def State.hartReady (s : State) (h : Nat) : Bool :=
  if h = 0 then s.mpOpen && s.mpPowered
  else s.hartExists h && s.jetsOpen && s.mpPowered && !s.retiredJet (hartTier h) (hartJet h) &&
    (s.tier (hartTier h)).power ≤ 1

/-- A hart stops; its registers are what the firmware left. A clock-gated jet is woken. -/
def haltHart (h : Nat) (s : State) : State :=
  let v := s.hart h
  let s := s.drawn.setHart h { v with halted := true, haltReq := false, epoch := s.fresh, since := s.us, regs := [], resumeAck := false }
  if h = 0 then s
  else s.setJet (hartTier h) (hartJet h) { s.jet (hartTier h) (hartJet h) with halted := true, gated := false }

/-- A halt request: the management processor stops only in user mode outside BLANK; else the request waits (R430). -/
def requestHalt (h : Nat) (user : Bool) (s : State) : State :=
  if !s.hartReady h || (s.hart h).halted then s
  else if h = 0 && !user && s.lifeCycle ≠ 0 then s.setHart h { s.hart h with haltReq := true }
  else haltHart h s

/-- HART_HALT: a request, or the return to user mode that a waiting request meets. -/
def execHartHalt (h : Nat) (user : Bool) (s : State) : Host.Outcome State Fault Refusal := .next (requestHalt h user s)

/-- A halted hart runs again; the watchdogs stood still (R431). -/
def resumeHart (h : Nat) (s : State) : State :=
  let v := s.hart h
  if !v.halted then s
  else
    let stood := s.us - v.since
    let s := s.setHart h { v with halted := false, resumeAck := true, regs := [] }
    if h = 0 then
      let m := s.mgmt
      s.mgmtSet { m with readyAt := m.readyAt + stood, activation := m.activation.map (fun a => { a with since := a.since + stood }) }
    else
      let t := hartTier h
      let j := hartJet h
      let s := s.setJet t j { s.jet t j with halted := false }
      { s with pieces := s.pieces.map (fun p =>
          if p.tier = t && p.jet = some j then { p with startedAt := p.startedAt + stood } else p) }

/-- Every halted hart runs again. -/
def resumeAll (s : State) : State := forEach (s.dbg.harts.map (·.1)) (fun h u => resumeHart h u) s

/-- HART_RESUME; with dcsr.step the hart executes one instruction and halts again. -/
def execHartResume (h : Nat) (s : State) : Host.Outcome State Fault Refusal :=
  if !s.hartReady h || !(s.hart h).halted then .next s
  else
    let again := (s.hart h).step
    let s := resumeHart h s
    .next (if again then
      let s := haltHart h s
      s.setHart h { s.hart h with resumeAck := true }
    else s)

/-- HART_SINGLE_STEP: dcsr.step is set, one instruction is executed and the hart is halted again. -/
def execHartSingleStep (h : Nat) (s : State) : Host.Outcome State Fault Refusal :=
  if !s.hartReady h || !(s.hart h).halted then .next s
  else
    let s := haltHart h (resumeHart h (s.setHart h { s.hart h with step := true }))
    .next (s.setHart h { s.hart h with resumeAck := true })

/-- Register numbers of Access Register: GPRs, and CSRs of the hart's privilege level; the debug and trigger CSRs belong to the
debugger. Outside BLANK the management processor is debugged in user mode (R430). -/
def State.regAllowed (s : State) (h regno : Nat) : Bool :=
  (0x1000 ≤ regno && regno < 0x1020) ||
  (regno < 0x1000 && (regno / 256 % 4 = 0 || h ≠ 0 || s.lifeCycle = 0 || (0x7A0 ≤ regno && regno < 0x7A4) ||
    (0x7B0 ≤ regno && regno < 0x7B4)))

/-- The trigger tselect names. -/
def Hart.selected (v : Hart) : Nat := match Sparse.get (fun _ => none) v.regs 0x7A0 with | some x => x.toNat % 4 | none => 0

/-- A register of a halted hart: x0 reads 0; dcsr shows version 4 and step, and ebreakm 0 outside BLANK; tdata1 is of type 2;
what the debugger has not written is what the firmware left. -/
def State.hartReg (s : State) (h regno : Nat) : Word :=
  let v := s.hart h
  let x := match Sparse.get (fun _ => none) v.regs regno with | some w => w | none => Config.hartReg v.epoch regno
  if regno = 0x1000 then 0
  else if regno = 0x7A0 then BitVec.ofNat 32 v.selected
  else if regno = 0x7A1 then (Sparse.get (fun _ => ((0x20000000 : Word), (0 : Word))) v.triggers v.selected).1
  else if regno = 0x7A2 then (Sparse.get (fun _ => ((0x20000000 : Word), (0 : Word))) v.triggers v.selected).2
  else if regno = 0x7B0 then
    let n := setBits (setBit x.toNat 2 v.step) 31 28 4
    BitVec.ofNat 32 (if s.lifeCycle = 0 then n else setBit n 15 false)
  else x

/-- Write a register of a halted hart. -/
def setHartReg (h regno : Nat) (w : Word) (s : State) : State :=
  let v := s.hart h
  let kept := { v with regs := Sparse.set (fun _ => none) v.regs regno (some w) }
  let trig := Sparse.get (fun _ => ((0x20000000 : Word), (0 : Word))) v.triggers v.selected
  let put (p : Word × Word) : Hart := { v with triggers := Sparse.set (fun _ => ((0x20000000 : Word), (0 : Word))) v.triggers v.selected p }
  s.setHart h (
    if regno = 0x7A1 then put (BitVec.ofNat 32 (setBits w.toNat 31 28 2), trig.2)
    else if regno = 0x7A2 then put (trig.1, w)
    else if regno = 0x7B0 then { kept with step := w.getLsbD 2 }
    else kept)

/-- ACCESS_REGISTER: cmderr 4 when the hart is not halted, 3 for a register it does not offer. -/
def accessReg (h regno : Nat) (write : Bool) (value : Word) (s : State) : State :=
  if s.dbg.cmderr ≠ 0 then s
  else if !s.hartReady h || !(s.hart h).halted then s.dbgSet { s.dbg with cmderr := 4 }
  else if !s.regAllowed h regno || (write && regno < 0x1000 && decide (3 ≤ regno / 1024)) then
    s.dbgSet { s.dbg with cmderr := 3 }
  else if write then setHartReg h regno value s
  else s.dbgSet { s.dbg with data0 := s.hartReg h regno }

/-- ACCESS_REGISTER (R429): the debugger's abstract command; a read leaves its value in data0. -/
def execAccessRegister (h regno : Nat) (write : Bool) (value : BitVec 32) (s : State) : Host.Outcome State Fault Refusal :=
  if !s.authenticated then .next s
  else
    let t := accessReg h regno write value s
    .next (if write || t.dbg.cmderr ≠ 0 then t else t.emit (.tdo 32 t.dbg.data0.toNat))

/-- NDMRESET (R429): a management-only reset. -/
def execNdmreset (s : State) : Host.Outcome State Fault Refusal :=
  .next (if s.authenticated && s.mpPowered then mgmtReset s else s)

/-- TRIGGER_MATCH: an mcontrol trigger that is set for an access and for the hart's mode halts it; on the management processor
only user-mode accesses match outside BLANK (R430). -/
def execTriggerMatch (h k : Nat) (user : Bool) (s : State) : Host.Outcome State Fault Refusal :=
  let v := s.hart h
  let x := (Sparse.get (fun _ => ((0x20000000 : Word), (0 : Word))) v.triggers k).1.toNat
  let mode := if user then bitAt x 3 else bitAt x 6
  if 4 ≤ k || !s.hartReady h || v.halted || x % 8 = 0 || !mode || (h = 0 && !user && s.lifeCycle ≠ 0) then .next s
  else .next (haltHart h s)

/-! ### Unlocking (R427, R428) -/

/-- Grotto can answer the debugger. -/
def State.grottoRuns (s : State) : Bool := s.mgmt.grotto && s.mpPowered && !(s.hart 0).halted
def State.refusals (s : State) : Nat := s.get dbgBase DBG_STATUS_REFUSALS
/-- No nonce can be issued now. -/
def State.inBackoff (s : State) : Bool := 8 ≤ s.refusals || s.dbg.backoffTill.isSome
/-- A response is complete and not yet decided. -/
def State.authBusy (s : State) : Bool := match s.dbg.response with | some l => decide (l.length = 49) | none => false

/-- Command 1: a nonce replaces the one outstanding; in back-off four zero words are read. -/
def giveNonce (s : State) : State :=
  if !s.grottoRuns || s.authBusy then s
  else if s.inBackoff then s.dbgSet { s.dbg with nonce := none, nonceReads := 0, response := none }
  else
    let n := BitVec.ofNat 128 (Config.randomBits s.fresh).toNat
    s.drawn.dbgSet { s.dbg with nonce := some (n, s.us), nonceReads := 0, response := none }

/-- AUTHDATA_NONCE_REQUEST. -/
def execAuthdataNonceRequest (s : State) : Host.Outcome State Fault Refusal := .next (giveNonce s)

/-- The response is acceptable (R427). -/
def State.responseOk (s : State) (key : BitVec 384) (sigOk : Bool) : Bool :=
  sigOk && (match s.dbg.nonce with | some (_, at_) => decide (s.us < at_ + 60000000) | none => false) &&
  (match s.lifeCycle with
    | 3 => s.ownerKey && s.ownerDigest = key
    | 4 => s.slotUsable 0 && s.slotDigest 0 = key
    | _ => true)

/-- Grotto decides a response; each nonce allows one attempt (R427, R428). -/
def decideUnlock (key : BitVec 384) (sigOk : Bool) (s : State) : State × Bool :=
  let ok := s.responseOk key sigOk
  let s := s.dbgSet { s.dbg with nonce := none, nonceReads := 4, response := none }
  if ok then (raiseOpen 0x004 0 (s.dbgSet { s.dbg with unlocked := true, succeeded := true }), true)
  else
    let s := s.put dbgBase DBG_STATUS_REFUSALS (min 8 (s.refusals + 1))
    (raiseOpen 0x004 1 (s.dbgSet { s.dbg with backoffTill := some (s.us + 10000000) }), false)

/-- AUTHDATA_RESPONSE: command 2 and its 49 words, and Grotto's decision. -/
def execAuthdataResponse (key : BitVec 384) (sigOk : Bool) (s : State) : Host.Outcome State Fault Refusal :=
  .next (if s.grottoRuns && !s.authBusy then (decideUnlock key sigOk s).1 else s)

/-- UNLOCK_BACKOFF_EXPIRY: 10 s after a refusal. -/
def execUnlockBackoffExpiry (s : State) : Host.Outcome State Fault Refusal :=
  match s.dbg.backoffTill with
  | some a => .next (if a ≤ s.us then s.dbgSet { s.dbg with backoffTill := none } else s)
  | none => .next s

/-- The effect of a write of DBG_CTL.RELOCK: the unlock ends and halted harts run again. -/
def relockWritten (v : BitVec 32) (s : State) : State :=
  if v.getLsbD 0 then resumeAll (s.dbgSet { s.dbg with unlocked := false }) else s

end Sys2Proof.Machine
end

