-- ==== Sys2Proof/Machine/Keys.lean ====
section
/-! DEFINITION. The commands of keys and service classes (Table CMD-5, R174-R176, R194, R205, R206). -/

namespace Sys2Proof.Machine

/-! ### Keys -/

/-- Draw fresh key material; the DRBG is reseeded after every 4,096 keys (R176). -/
def drawKey (k : Nat) (s : State) : State :=
  let m := Config.randomBits s.fresh
  { (s.setKey k (some m)).drawn with drbgDraws := (s.drbgDraws + 1) % 4096 }

/-- KEY_CREATE (R174-R176): KEYID 0 asks for the lowest EMPTY key ID. -/
def execKeyCreate (d : DescRef) (keyid : Nat) (s : State) : Host.Outcome State Fault Refusal :=
  onReady d 0x0300 [(8, 2, keyid)] (fun _ s =>
    if 4096 ≤ keyid then complete d 0x02 0 s
    else if keyid ≠ 0 ∧ s.key keyid ≠ none then complete d 0x0D 0 s
    else
      let k := if keyid ≠ 0 then some keyid else ((upto 4095).map (· + 1)).find? (fun i => s.key i = none)
      match k with
      | none => complete d 0x06 0 s
      | some k => if s.entropyFailed then complete d 0x0A 0 s else complete d 0 k (drawKey k s)) s

/-- KEY_RETIRE (R175, R263): it waits for a CTX_CREATE of the same key ID that holds the key lock. -/
def execKeyRetire (d : DescRef) (keyid : Nat) (s : State) : Host.Outcome State Fault Refusal :=
  onReady d 0x0301 [(8, 2, keyid)] (fun _ s =>
    if s.commits.any (fun x => match x.2 with | .create _ y => y.keyId = keyid | _ => false) then s
    else if keyid = 0 ∨ 4096 ≤ keyid then complete d 0x02 0 s
    else if s.key keyid = none then complete d 0x05 0 s
    else if s.ctxs.any (fun x => decide (x.2.state ≠ .free) && x.2.keyId = keyid) then complete d 0x0D 0 s
    else complete d 0 0 (s.setKey keyid none)) s

/-! ### Classes -/

/-- Groups whose commitment rises under a new class table and then exceeds K_t (R205). -/
def State.overGroups (s : State) (new : Nat → ClassParams) : List Nat :=
  s.tierList.filter (fun t => commitment s.cls t < commitment new t && s.commitCeil t < commitment new t)

/-- Groups whose commitment is above K_t. -/
def State.committedOver (s : State) : List Nat := s.tierList.filter (fun t => s.commitCeil t < commitment s.cls t)

/-- The class table with one entry replaced. -/
def State.withClass (s : State) (k : Nat) (p : ClassParams) (c : Nat) : ClassParams := if c = k then p else s.cls c

/-- A CTX_SET_CLASS holds the admission lock to its commit point (R206). -/
def State.admissionLocked (s : State) : Bool := s.commits.any (fun x => match x.2 with | .setClass _ _ => true | _ => false)

def tierMask (l : List Nat) : Nat := (l.map (fun t => 2 ^ t)).sum

/-- R194's ranges. -/
def classOk (n cls rankStep ways groups guar ceil maxq rsv missFact missN : Nat) : Bool :=
  cls < 64 && rankStep < 128 && ways ≤ 16 && 1 ≤ maxq && maxq ≤ 64 && rsv ≤ maxq && (ceil = 0 || guar ≤ ceil) &&
  8 ≤ missFact && 1 ≤ missN && groups < 2 ^ n

/-- CLASS_SET (R194, R205, R206). -/
def execClassSet (d : DescRef) (cls rankStep ways groups target guar ceil maxq rsv missFact missN : Nat) (s : State) :
    Host.Outcome State Fault Refusal :=
  onReady d 0x0400 [(8, 1, cls), (9, 1, rankStep), (10, 1, ways), (11, 1, groups), (12, 2, target), (14, 2, guar),
      (16, 2, ceil), (18, 1, maxq), (19, 1, rsv), (20, 1, missFact), (21, 1, missN)] (fun f s =>
    let p : ClassParams :=
      { target := target, guar := guar, ceil := ceil, rank := rankStep % 16, minStep := rankStep / 16, ways := ways
        groups := BitVec.ofNat 8 groups, maxq := maxq, rsv := rsv, missFact := missFact, missN := missN }
    let over_ := s.overGroups (s.withClass cls p)
    if s.admissionLocked then s
    else if !classOk s.nTiers cls rankStep ways groups guar ceil maxq rsv missFact missN then complete d 0x02 0 s
    else if 384 < s.rsvSum - (s.cls cls).rsv + rsv then complete d 0x06 0 s
    else if over_ ≠ [] && !descFlag f.bytes 0 then complete d 0x07 (tierMask over_) s
    else
      let s := { s with classes := Sparse.set (fun _ => {}) s.classes cls p }
      let s := reportAll s
      let s := if over_ ≠ [] then raiseOpen 0x00A 0 s else s
      complete d 0 (tierMask s.committedOver) s) s

/-- The class entry in the layout of Table WEIR-10, 16 bytes. -/
def ClassParams.words (p : ClassParams) : List Nat :=
  [p.guar + p.target * 2 ^ 16, p.ways + p.minStep * 2 ^ 8 + p.rank * 2 ^ 12 + p.ceil * 2 ^ 16,
   p.rsv + p.maxq * 2 ^ 16 + p.groups.toNat * 2 ^ 24, p.missN + p.missFact * 2 ^ 8]

/-- CLASS_QUERY (Table CMD-5). -/
def execClassQuery (d : DescRef) (cls haddr : Nat) (s : State) : Host.Outcome State Fault Refusal :=
  onReady d 0x0401 [(8, 1, cls), (16, 8, haddr)] (fun f s =>
    if 64 ≤ cls || haddr % 32 ≠ 0 then complete d 0x02 0 s
    else
      let w := (s.cls cls).words
      let entry := (w.zipIdx.map (fun e => e.1 * 2 ^ (32 * e.2))).sum
      let eff := ((upto 8).map (fun t => s.eff t cls * 2 ^ (16 * t))).sum
      let scaled := s.tierList.any (fun t => s.scaledOn t cls)
      let miss := s.tierList.any (fun t => (upto 4).any (fun c => (s.chanClass t c cls).miss))
      complete d 0 (ofBool scaled + 2 * ofBool miss) (dmaOut f haddr (dwords 2 entry ++ dwords 2 eff) s)) s

/-- CTX_SET_CLASS (R205, R206, action k). -/
def execCtxSetClass (d : DescRef) (c cls : Nat) (s : State) : Host.Outcome State Fault Refusal :=
  onReady d 0x0402 [(8, 4, c), (12, 1, cls)] (fun f s =>
    if s.admissionLocked then s
    else if 64 ≤ cls then complete d 0x02 0 s
    else inState d c [.building, .live, .frozen] (fun s =>
      let new := (relabel c cls s).cls
      let over_ := s.overGroups new
      if over_ ≠ [] && !descFlag f.bytes 0 then complete d 0x07 0 s
      else
        let s := if over_ ≠ [] then raiseOpen 0x00A 0 s else s
        change f.tier (some d) (.setClass c cls) s) s) s

end Sys2Proof.Machine
end

