-- ==== Sys2Proof/Machine/Repair.lean ====
section
/-! DEFINITION. Stack health and repair (chapter 14): coil spares, runnel widths, the field self-test, row repair, spare
extents and repair fuses. -/

namespace Sys2Proof.Machine

def State.rep (s : State) (t : Nat) : Repair := Sparse.get (fun _ => {}) s.repair t
def State.setRep (s : State) (t : Nat) (r : Repair) : State := { s with repair := Sparse.set (fun _ => {}) s.repair t r }
def groupKey (j h g : Nat) : Nat := (j * 8 + h) * 4 + g
def State.coil (s : State) (t j h g : Nat) : CoilGroup := Sparse.get (fun _ => {}) (s.rep t).groups (groupKey j h g)
def State.setCoil (s : State) (t j h g : Nat) (v : CoilGroup) : State :=
  s.setRep t { s.rep t with groups := Sparse.set (fun _ => {}) (s.rep t).groups (groupKey j h g) v }
def repBit (t : Nat) (f : Fld) (s : State) : State := s.putFlag (bsnBase t 0) f true
/-- WIDTH of a runnel: 0 full, 1 half, 2 lost, 3 uncalibrated (R99). -/
def State.width (s : State) (t j : Nat) : Nat := s.get (bsnBase t j) BSN_SLICE_STATUS_WIDTH
/-- An event at level code 3 that names a runnel. -/
def raiseRunnel (t j kind : Nat) (s : State) : State := raise (tierSource t (16 + j)) kind 3 (j * 2 ^ 15) 0 s

/-! ### Coil groups (Table BSN-3, R316, R321) -/

def active (g : Nat) : Nat := match g with | 0 => 64 | 1 => 32 | _ => 12
def spares (g : Nat) : Nat := match g with | 0 => 8 | 1 => 4 | _ => 2
/-- Clock pairs are kept with the read group, whose spares carry them. -/
def clockPair (c : Nat) : Nat := 80 + c % 2
def isClock (p : Nat) : Bool := 80 ≤ p
/-- Group and pair of an eye as the coil groups keep it. -/
def eyePlace (e : PairEye) : Nat × Nat := if e.group = 3 then (0, clockPair e.pair) else (e.group, e.pair)

/-- The lowest free spare. -/
def CoilGroup.freeSpare (c : CoilGroup) (g : Nat) : Option Nat :=
  (upto (spares g)).find? (fun i => !c.bad.contains (active g + i) && !c.taken.any (fun x => x.2 = i))

/-- A pair carries traffic. -/
def CoilGroup.inUse (c : CoilGroup) (g : Nat) (half : Bool) (p : Nat) : Bool :=
  if isClock p then true
  else if p < active g then !half || (decide (active g / 2 ≤ p) == c.upper)
  else c.taken.any (fun x => x.2 = p - active g)

/-- The pair whose place a failing pair holds: itself, or the one a failing spare serves. -/
def CoilGroup.served (c : CoilGroup) (g p : Nat) : Nat :=
  if isClock p || p < active g then p
  else ((c.taken.find? (fun x => x.2 = p - active g)).map (·.1)).getD p

/-- A group at half width (R322): the half with more good pairs, its failed pairs and the clocks on the spares left;
none when these do not suffice. -/
def CoilGroup.narrow (c : CoilGroup) (g : Nat) : Option CoilGroup :=
  let badIn (u : Bool) := c.bad.filter (fun p => p < active g && (decide (active g / 2 ≤ p) == u))
  let u := decide ((badIn true).length < (badIn false).length)
  let need := badIn u ++ c.bad.filter isClock
  let free := (upto (spares g)).filter (fun i => !c.bad.contains (active g + i))
  if need.length ≤ free.length then some { c with taken := need.zip free, upper := u } else none

/-- BSN_HOPh of a hop but MIN_W (Table RPR-5). -/
def showHop (t j h : Nat) (s : State) : State :=
  let b := bsnBase t j + 4 * h
  let c (g : Nat) := s.coil t j h g
  let weak := min 63 ((c 0).weak.length + (c 1).weak.length + (c 2).weak.length)
  let s := (((s.put b BSN_HOP_RD_SPARE_USED (c 0).taken.length).put b BSN_HOP_WR_SPARE_USED (c 1).taken.length).put b
    BSN_HOP_CA_SPARE_USED (c 2).taken.length).put b BSN_HOP_WEAK weak
  s.putFlag b BSN_HOP_CLK_ON_SPARE ((c 0).taken.any (fun x => isClock x.1))

/-- BSN_FUSE_USE. -/
def showFuses (t : Nat) (s : State) : State :=
  let r := s.rep t
  s.setReg (bsnBase t 0 + 0x27C) (BitVec.ofNat 64 (r.fuses.length + min 511 r.queued.length * 2 ^ 16))

/-- Queue a repair entry for the tier's fuses (R333). -/
def queueFuse (t entry : Nat) (s : State) : State :=
  let r := s.rep t
  showFuses t (s.setRep t { r with queued := r.queued ++ [BitVec.ofNat 64 (entry + s.us / 2 ^ 20 % 2 ^ 32)] })

/-- A coil entry (Table RPR-4). -/
def coilEntry (j h g p spare : Nat) : Nat :=
  2 ^ 62 + j * 2 ^ 58 + h * 2 ^ 55 + g * 2 ^ 53 + p % 128 * 2 ^ 46 + spare % 128 * 2 ^ 39
/-- A basin-row entry. -/
def rowEntry (j die r spare : Nat) : Nat :=
  2 ^ 63 + j * 2 ^ 58 + die * 2 ^ 55 + r / 4 % 4 * 2 ^ 53 + r % 4 * 2 ^ 51 + r / 16 * 2 ^ 41 + spare * 2 ^ 39

/-! ### Runnel loss (R100, R324, R325) -/

/-- Give the slice-map entries of a lost runnel to the surviving runnels (R100). -/
def rewriteMap (t j : Nat) (s : State) : State :=
  let alive := (upto 16).filter (fun r => s.width t r ≠ 2 && r ≠ j)
  let next (a : Nat) : Option Nat := ((upto 16).map (fun i => (a + 1 + i) % 16)).find? alive.contains
  let reg (v : Nat) : Nat := bsnBase t 0 + 0x210 + 4 * (v / 8)
  let named := (upto 64).filter (fun v => bitsAt (s.reg (reg v)).toNat (4 * (v % 8) + 3) (4 * (v % 8)) = j)
  (forEach named (fun v (x : State × Nat) =>
    match next x.2 with
    | none => x
    | some r => (x.1.setReg (reg v) (BitVec.ofNat 64 (setBits (x.1.reg (reg v)).toNat (4 * (v % 8) + 3) (4 * (v % 8)) r)), r))
    (s, j)).1

/-- Sets of a slice in which an extent's sectors fall (R325). -/
def extSets (e : Nat) : List Nat := (upto 64).map (fun i => (e * 64 + i) % 125856)

/-- Poison every line of valid pages that a marked extent places in the lost slice; answers the lines written. -/
def poisonExtent (t j e : Nat) (s : State) : State :=
  let offs := ((upto 1024).filter (fun i => s.sliceOf t (e * 2 ^ 21 + i * 2048) = j)).flatMap
    (fun i => (upto 32).map (fun l => e * 2 ^ 21 + i * 2048 + l * 64))
  let lines := offs.filter (fun o => s.pageValid t o)
  let own := s.ownerOf t e
  let s := forEach lines (fun o u =>
    let dpa := match own with
      | some (c, idx) => (u.ctx c).wbase * 2 ^ 28 + idx * 2 ^ 21 + o % 2 ^ 21
      | none => 0
    writeMarker { t := t, off := o, ctx := (own.map (·.1)).getD 0, key := 0, cls := 0, integ := false, dpa := dpa } u) s
  s.count (bsnBase t 0 + 0x298) lines.length

/-- DIRTY_EXTENT_POISON (R325): marked extents with a set at or above the flush's position. -/
def poisonMarked (t j : Nat) (s : State) : State :=
  let sl := s.slice t j
  let pos := sl.flush.getD 0
  let hit := (sl.dirtyExt.map (·.1)).filter (fun e => (extSets e).any (fun n => pos ≤ n))
  let s := forEach hit (fun e u => poisonExtent t j e u) s
  let ctxs := (hit.filterMap (fun e => (s.ownerOf t e).map (·.1))).dedup
  forEach ctxs (fun c u => raiseCtx (tierSource t (16 + j)) 7 c u) s

/-- Victims of the lost slice go to their channels, or wait in the slice that now serves their sector. -/
def moveVictims (t : Nat) (l : List Victim) (s : State) : State :=
  forEach l (fun v u =>
    let a := { victimAcc t v with force := true }
    let marker := v.line.code = .marker || v.line.code = .uncorrectable
    let sent := if u.pageValid t v.off then writeCistern a v.line.data marker u else .ok u
    match sent with
    | .ok u => u
    | .error _ =>
      let j := u.sliceOf t v.off
      u.setSlice t j { u.slice t j with victims := (u.slice t j).victims ++ [v] }) s

/-- A runnel is lost (R324). -/
def loseRunnel (t j : Nat) (s : State) : State :=
  if s.width t j = 2 then s
  else
    let victims := (s.slice t j).victims
    let s := poisonMarked t j s
    let s := s.put (bsnBase t j) BSN_SLICE_STATUS_WIDTH 2
    let s := s.setSlice t j { s.slice t j with sets := [], victims := [], dirtyExt := [], flush := none }
    let s := moveVictims t victims (rewriteMap t j (if (s.jet t j).retired then s else retireJet t j s))
    let valid : Sparse ValidLine := s.valid.map (fun (e : Nat × ValidLine) =>
      let m := e.1 % 2 ^ 20 / 512 % 16
      if e.1 / 2 ^ 20 = t then
        (e.1, { e.2 with primaryBad := e.2.primaryBad || decide (m = j), shadowBad := e.2.shadowBad || decide ((m + 8) % 16 = j) })
      else e)
    let tags : Sparse TagSet := s.tagSets.map (fun (e : Nat × TagSet) =>
      if e.1 / 2 ^ 21 = t && e.1 % 2 ^ 21 / 32 % 16 = j then (e.1, { e.2 with copy0Bad := true, copy1Bad := true }) else e)
    let s := reportGroup t { s with valid := valid, tagSets := tags }
    let s := raiseRunnel t j 3 (repBit t BSN_REPAIR_STATUS_LOST s)
    let migs := s.migrations.filter (fun m => (m.phase = .copying || m.phase = .switching) && penPkg m.dest = s.pkg && penTier m.dest = t)
    trimHistory (forEach migs (fun m u => endMigration m 0x0A u) s)

/-! ### Narrowing and spares (R321-R324) -/

/-- A runnel narrows to half width and its slice begins to write through; it is lost when a group's half finds too few
spares (R322, R323). -/
def narrowRunnel (t j : Nat) (s : State) : State :=
  let keys := (upto 8).flatMap (fun h => (upto 3).map (fun g => (h, g)))
  let r : Option State := keys.foldl (fun (r : Option State) k => match r with
    | none => none
    | some u => ((u.coil t j k.1 k.2).narrow k.2).map (fun c => u.setCoil t j k.1 k.2 c)) (some s)
  match r with
  | none => loseRunnel t j s
  | some s =>
    let s := forEach (upto 8) (fun h u => showHop t j h u) s
    let s := s.put (bsnBase t j) BSN_SLICE_STATUS_WIDTH 1
    let s := s.setSlice t j { s.slice t j with flush := some 0 }
    raiseRunnel t j 2 (reportGroup t (repBit t BSN_REPAIR_STATUS_NARROW s))

/-- What a failing pair brings about: nothing, a spare, half width, or the loss of the runnel (R321, R322, R324). -/
inductive PairFate where
  | none | spare (i : Nat) | narrow | lose
deriving DecidableEq, Repr

def State.fate (s : State) (t j h g p : Nat) : PairFate :=
  let c := s.coil t j h g
  let w := s.width t j
  if 2 ≤ w || c.bad.contains p || !c.inUse g (w = 1) p then .none
  else match c.freeSpare g with
    | some i => if w = 0 || isClock p then .spare i else .lose
    | none => if w = 0 then .narrow else .lose

/-- A pair has failed. -/
def failPair (t j h g p : Nat) (s : State) : State :=
  let fate := s.fate t j h g p
  let c := s.coil t j h g
  let q := c.served g p
  let bad := if c.bad.contains p then c.bad else c.bad ++ [p]
  let s := s.setCoil t j h g { c with bad := bad, weak := c.weak.filter (fun x => x ≠ p) }
  match fate with
  | .none => showHop t j h s
  | .spare i =>
    let c := s.coil t j h g
    let s := s.setCoil t j h g { c with taken := c.taken.filter (fun x => x.1 ≠ q) ++ [(q, i)] }
    let s := (showHop t j h (repBit t BSN_REPAIR_STATUS_COIL_SPARE s)).count (bsnBase t 0 + 0x280) 1
    queueFuse t (coilEntry j h g p i) (raiseRunnel t j 0 s)
  | .narrow => narrowRunnel t j (queueFuse t (coilEntry j h g p 0x7F) s)
  | .lose => loseRunnel t j (queueFuse t (coilEntry j h g p 0x7F) s)

/-- COIL_SPARE_REPLACE (R321): a failed pair with a free spare. -/
def execCoilSpareReplace (t j h g p : Nat) (s : State) : Host.Outcome State Fault Refusal :=
  match s.fate t j h g p with
  | .spare _ => .next (failPair t j h g p s)
  | _ => .next s

/-- RUNNEL_NARROW (R322). -/
def execRunnelNarrow (t j h g p : Nat) (s : State) : Host.Outcome State Fault Refusal :=
  match s.fate t j h g p with
  | .narrow => .next (failPair t j h g p s)
  | _ => .next s

/-- RUNNEL_LOST (R324). -/
def execRunnelLost (t j h g p : Nat) (s : State) : Host.Outcome State Fault Refusal :=
  match s.fate t j h g p with
  | .lose => .next (failPair t j h g p s)
  | _ => .next s

/-- SLICE_FLUSH (R323): the walk moves the dirty lines of its next set into the victim buffer, as far as there is room. -/
def execSliceFlush (t j : Nat) (s : State) : Host.Outcome State Fault Refusal :=
  let sl := s.slice t j
  match sl.flush with
  | none => .next s
  | some pos =>
    if !(upto 16).any (s.jetFree t) || s.reacting then .next s
    else match sl.sets.find? (fun e => pos ≤ e.1 && e.2.any (fun w => w.2.dirty ≠ 0)) with
      | none => .next (s.setSlice t j { sl with flush := none, dirtyExt := [] })
      | some (n, ways) =>
        let all := ways.flatMap (fun w => ((upto 32).filter (fun i => w.2.dirty.getLsbD i)).map (fun i => (w.1, i)))
        let now := all.take (64 - sl.victims.length)
        let s := forEach now (fun x u =>
          let v := u.way t j n x.1
          let off := v.tag * 2048 + x.2 * 64
          let u := if u.pageValid t off then bufferLine t j n x.1 x.2 u else u
          dropLine t j n x.1 x.2 u) s
        let pos := if now.length = all.length then n + 1 else n
        .next (s.setSlice t j { s.slice t j with flush := some pos })

/-! ### Grading (R315-R319, R326) -/

/-- FAIL_W and WEAK_W as they act (Table RPR-6). -/
def State.failW (s : State) (t : Nat) : Nat := max 1 (s.get (bsnBase t 0) BSN_FST_CFG_FAIL_W)
def State.weakW (s : State) (t : Nat) : Nat := max (s.failW t + 1) (s.get (bsnBase t 0) BSN_FST_CFG_WEAK_W)

/-- Grade a measured pair (Table RPR-1) and act on a new FAIL or WEAK. -/
def gradePair (t : Nat) (e : PairEye) (s : State) : State :=
  let (g, p) := eyePlace e
  let c := s.coil t e.runnel e.hop g
  if e.width < s.failW t || e.height < 6 then (if c.bad.contains p then s else failPair t e.runnel e.hop g p s)
  else if e.width < s.weakW t then
    (if c.weak.contains p || c.bad.contains p then s
     else raiseRunnel t e.runnel 1 (showHop t e.runnel e.hop (s.setCoil t e.runnel e.hop g { c with weak := c.weak ++ [p] })))
  else if c.weak.contains p then
    showHop t e.runnel e.hop (s.setCoil t e.runnel e.hop g { c with weak := c.weak.filter (fun x => x ≠ p) })
  else s

/-- Grade the measured pairs; MIN_W shows the least width at each hop that was measured. -/
def gradeTier (t : Nat) (eyes : List PairEye) (s : State) : State :=
  let s := forEach eyes (gradePair t) s
  let hops := (eyes.map (fun e => (e.runnel, e.hop))).dedup
  forEach hops (fun k u =>
    let ws := (eyes.filter (fun e => e.runnel = k.1 && e.hop = k.2 && e.group ≠ 3)).map (·.width)
    if ws = [] then u else u.put (bsnBase t k.1 + 4 * k.2) BSN_HOP_MIN_W (ws.foldl min 255)) s

/-- Bond chains and power vias (R326): the worst drifts are shown and acted on; 0xFF: no baseline. -/
def noteDrift (t bond via : Nat) (s : State) : State :=
  let b := bsnBase t 0
  let reg := b + 0x2A0
  let generic := decide (s.get mgtBase MGT_FLASH_STATUS_CAL = 0)
  let bond := if generic then 255 else bond
  let via := if generic then 255 else via
  let s := s.setReg reg (BitVec.ofNat 64 (setBits (s.reg reg).toNat 15 0 (bond % 256 + via % 256 * 256)))
  let warn := bitsAt (s.reg reg).toNat 23 16
  let fail := bitsAt (s.reg reg).toNat 31 24
  let r := s.rep t
  if bond = 255 && via = 255 then s.setRep t { r with drifting := false }
  else
    let drifts := decide (warn ≤ bond) || decide (warn ≤ via)
    let s := setFactor t (s.setRep t { r with drifting := drifts, viaFail := r.viaFail || decide (fail ≤ via) })
    let s := if drifts then
        raise (tierSource t 43) 4 4 (Config.eventAddr (tierSource t 43) 4).toNat 0 (repBit t BSN_REPAIR_STATUS_DRIFT s)
      else s
    let s := if fail ≤ via then raiseOpen (tierSource t 43) 4 s else s
    if fail ≤ bond then raiseOpen (tierSource t 43) 4 s else s

/-! ### The field self-test (R317, R318) -/

/-- A scheduled test is due. -/
def State.fstScheduled (s : State) (t : Nat) : Bool :=
  let hours := s.get (bsnBase t 0) BSN_FST_CFG_INTERVAL
  let last := (s.reg (bsnBase t 0 + 0x268)).toNat
  (decide (hours ≠ 0) && decide (last + hours * 3600000000 ≤ s.us)) ||
  ((s.rep t).drifting && decide (last + 6 * 3600000000 ≤ s.us))

/-- FIELD_SELF_TEST (R317, R318): the pairs are regraded; in T2 or T3 the test waits. A bond chain at DRIFT_FAIL has the
coils graded again at once. -/
def execFieldSelfTest (t : Nat) (eyes : List PairEye) (bond via : Nat) (s : State) : Host.Outcome State Fault Refusal :=
  let b := bsnBase t 0
  let busy := s.flag b BSN_FST_STATUS_BUSY
  if s.nTiers ≤ t || !(busy || s.fstScheduled t) then .next s
  else if 2 ≤ (s.tier t).power then .next ((s.putFlag b BSN_FST_STATUS_BUSY false).putFlag b BSN_FST_STATUS_DEFERRED true)
  else if (s.tier t).engReset || (s.tier t).portReset then .next s
  else
    let s := gradeTier t (eyes.mergeSort (fun x y => x.runnel ≤ y.runnel)) s
    let s := noteDrift t bond via s
    let s := (s.putFlag b BSN_FST_STATUS_BUSY false).putFlag b BSN_FST_STATUS_DEFERRED false
    let s := s.setReg (b + 0x268) (BitVec.ofNat 64 s.us)
    let again := bond ≠ 255 && decide (bitsAt (s.reg (b + 0x2A0)).toNat 31 24 ≤ bond) && !busy
    .next (if again then s.putFlag b BSN_FST_STATUS_BUSY true else s)

/-- BSN_FST_CFG.RUN (R317): ignored while a test runs; deferred in T2 and T3. -/
def fstRun (t : Nat) (s : State) : State :=
  let b := bsnBase t 0
  if s.flag b BSN_FST_STATUS_BUSY then s
  else if (s.tier t).power ≤ 1 then s.putFlag b BSN_FST_STATUS_BUSY true
  else s.putFlag b BSN_FST_STATUS_DEFERRED true

/-- FIELD_SELF_TEST_DEFERRED_START (R317). -/
def execFieldSelfTestDeferredStart (t : Nat) (s : State) : Host.Outcome State Fault Refusal :=
  let b := bsnBase t 0
  if s.flag b BSN_FST_STATUS_DEFERRED && (s.tier t).power = 0 then
    .next ((s.putFlag b BSN_FST_STATUS_DEFERRED false).putFlag b BSN_FST_STATUS_BUSY true)
  else .next s

/-! ### Monitoring in service (R319) -/

/-- GUARD_BAND_WINDOW (R319): a 1 ms window ends. `counts`: samples near the eye edge by runnel, hop, group and pair; a
command whose parity failed counts as an excess of every command pair of its hop. -/
def execGuardBandWindow (t : Nat) (counts : List (Nat × Nat × Nat × Nat × Nat)) (s : State) :
    Host.Outcome State Fault Refusal :=
  let lim := max 1 (s.get (bsnBase t 0) BSN_REPAIR_CFG_GB_THRESH)
  let past := (counts.filter (fun x => lim < x.2.2.2.2)).map (fun x => (x.1, x.2.1, x.2.2.1, x.2.2.2.1))
  let par := (s.rep t).parity.flatMap (fun x => (upto 12).map (fun p => (x.1, x.2, 2, p)))
  let key (x : Nat × Nat × Nat × Nat) : Nat := groupKey x.1 x.2.1 x.2.2.1 * 128 + x.2.2.2
  let all := (past ++ par).dedup
  let old := (s.rep t).gb
  let run (x : Nat × Nat × Nat × Nat) : Nat := Sparse.get (fun _ => 0) old (key x) + 1
  let bad := all.filter (fun x => 4 ≤ run x)
  let gb := (all.filter (fun x => run x < 4)).foldl (fun m x => Sparse.set (fun _ => 0) m (key x) (run x)) []
  let s := s.setRep t { s.rep t with gb := gb, parity := [] }
  .next (forEach bad (fun x u => failPair t x.1 x.2.1 x.2.2.1 x.2.2.2 u) s)

/-- RELAY_COMMAND_PARITY_ERROR (R319): the relay discards the command and the controller reissues it. -/
def execRelayCommandParityError (t j h : Nat) (s : State) : Host.Outcome State Fault Refusal :=
  let r := s.rep t
  if r.parity.contains (j, h) || 2 ≤ s.width t j then .next s else .next (s.setRep t { r with parity := r.parity ++ [(j, h)] })

/-! ### Row repair (R149, R327-R329) -/

def State.watched (s : State) (t : Nat) (basin : Bool) (row : Nat) : Option RowWatch :=
  (Sparse.get (fun _ => []) s.rowWatch t).find? (fun w => w.basin = basin && w.row = row)
def unwatch (t : Nat) (basin : Bool) (row : Nat) (s : State) : State :=
  let l := (Sparse.get (fun _ => []) s.rowWatch t).filter (fun w => !(w.basin = basin && w.row = row))
  { s with rowWatch := Sparse.set (fun _ => []) s.rowWatch t l }

/-- A row has been repaired. -/
def rowRepaired (t : Nat) (s : State) : State := (repBit t BSN_REPAIR_STATUS_ROW_REPAIR s).count (bsnBase t 0 + 0x288) 1

/-- Retire a line-cache set (R329): dirty lines go to the cistern, the ways are emptied. -/
def retireSet (t j n : Nat) (s : State) : Except HoldWhy State :=
  let ways := (s.slice t j).set n
  let lines := ways.flatMap (fun w => ((upto 32).filter (fun i => w.2.dirty.getLsbD i)).map (fun i => (w.2, i)))
  let r := lines.foldl (fun (r : Except HoldWhy State) x => match r with
    | .error e => .error e
    | .ok u =>
      let v : Victim := { off := x.1.tag * 2048 + x.2 * 64, cls := x.1.cls, line := x.1.line x.2 }
      if !u.pageValid t v.off then .ok u
      else writeCistern { victimAcc t v with force := true } v.line.data (v.line.code = .marker || v.line.code = .uncorrectable) u) (.ok s)
  match r with
  | .error e => .error e
  | .ok s =>
    let l := Sparse.get (fun _ => []) s.retiredSets (t * 16 + j)
    let s := s.setSlice t j { s.slice t j with sets := Sparse.erase (s.slice t j).sets n }
    .ok { s with retiredSets := Sparse.set (fun _ => []) s.retiredSets (t * 16 + j) (l ++ [n]) }

/-- BASIN_ROW_REPAIR (R329): a failing row goes to a spare row of its bank; without one its set is retired, or it stays. -/
def execBasinRowRepair (t j die r : Nat) (s : State) : Host.Outcome State Fault Refusal :=
  let row := (j * 8 + die) * 16384 + r
  match s.watched t true row with
  | none => .next s
  | some w =>
    if !w.failing || (s.tier t).engReset || 2 ≤ s.width t j then .next s
    else
      let key := (j * 8 + die) * 16 + r % 16
      let used := Sparse.get (fun _ => []) (s.rep t).rows key
      let n := (r - 652) * 8 + die
      let cache := decide (652 ≤ r)
      let addr := ((r * 8 + die) * 16 + j) * 32768
      if used.length < 2 then
        let fix (l : BLine) : BLine := if l.code = .correctable then { l with code := .clean } else l
        let sets : Sparse (Sparse Way) := (s.slice t j).sets.map (fun (e : Nat × Sparse Way) =>
          if cache && e.1 = n then
            (e.1, e.2.map (fun (x : Nat × Way) =>
              (x.1, { x.2 with lines := Sparse.mapVals (fun _ => {}) (fun _ l => fix l) x.2.lines })))
          else e)
        let s := s.setSlice t j { s.slice t j with sets := sets }
        let s := s.setRep t { s.rep t with rows := Sparse.set (fun _ => []) (s.rep t).rows key (used ++ [r]) }
        .next (unwatch t true row (rowRepaired t (queueFuse t (rowEntry j die r used.length) s)))
      else if cache && (Sparse.get (fun _ => []) s.retiredSets (t * 16 + j)).length < 32 then
        match retireSet t j n s with
        | .error _ => .next s
        | .ok s => .next (unwatch t true row (raise (tierSource t 43) 5 0 addr 0 (repBit t BSN_REPAIR_STATUS_SET_RETIRED s)))
      else .next (unwatch t true row (raise (tierSource t (16 + j)) 5 0 addr 0 s))

/-- SOFT_POST_PACKAGE_REPAIR (R149, R328): the row's lines are read, corrected, and written back after sPPR. With the
bank group's resource used the row is left to a spare extent. -/
def execSoftPostPackageRepair (t c sub k group bank r : Nat) (device : Option Nat) (s : State) :
    Host.Outcome State Fault Refusal :=
  let row := (c * 128 + ((sub * 4 + k) * 8 + group) * 4 + bank) * 2 ^ 18 + r
  match s.watched t false row with
  | none => .next s
  | some w =>
    if !w.failing || w.noPpr || s.fenced t c k || s.rankHeld t c k then .next s
    else
      let rk := s.rank t c k
      if rk.spprUsed.getLsbD group then
        let l := (Sparse.get (fun _ => []) s.rowWatch t).map (fun x => if x.basin = false && x.row = row then { x with noPpr := true } else x)
        .next (raise (tierSource t (12 + c)) 7 2 (poolAddr s.pkg t (rankOff c k)) 0
          (drcErr t c 6 { s with rowWatch := Sparse.set (fun _ => []) s.rowWatch t l }))
      else
        let mine (key : Nat) : Bool := key / 2 ^ 35 = t && cisternRow (key % 2 ^ 35 * 64) = row
        let fix (l : CLine) : CLine := match l.code with
          | .correctable => { l with code := .clean }
          | .uncorrectable => { data := markerLine, code := .marker }
          | _ => l
        let lines : Sparse (Option CLine) := s.cistern.map (fun (e : Nat × Option CLine) =>
          if mine e.1 then (e.1, e.2.map fix) else e)
        let s := { s with cistern := lines }
        let s := s.setRank t c k { rk with spprUsed := rk.spprUsed ||| BitVec.ofNat 8 (2 ^ group) }
        let p : PprRow := { chan := c, sub := sub, rank := k, group := group, bank := bank, row := r, device := device }
        let s := s.setRep t { s.rep t with hard := (s.rep t).hard ++ [p] }
        .next (unwatch t false row (rowRepaired t (s.count (drcBase t c + 0x60) 1)))

/-! ### Spare extents (R330, R331) -/

/-- The spares of a tier as BSN_SPARE_EXT counts them. -/
def State.spareCount (s : State) (t : Nat) : Nat := bitsAt (s.reg (bsnBase t 0 + 0x278)).toNat 31 16
def State.isSpare (s : State) (t e : Nat) : Bool := s.extTop t - s.spareCount t ≤ e && e < s.extTop t

/-- BSN_SPARE_EXT. -/
def showSpares (t n : Nat) (s : State) : State :=
  s.setReg (bsnBase t 0 + 0x278) (BitVec.ofNat 64 (n * 2 ^ 16 + (n - (s.rep t).sparesUsed.length)))

/-- Reserve the spares of a tier (R330). -/
def reserveSpares (t : Nat) (s : State) : State :=
  let top := s.extTop t
  let n := top * min 50 (s.get (bsnBase t 0) BSN_REPAIR_CFG_SPARE_PERMIL) / 1000
  let s := s.setRep t { s.rep t with sparesUsed := [] }
  showSpares t n (forEach (upto n) (fun i u => u.setAlloc t (top - n + i) true) s)

/-- The lowest free spare of a tier. -/
def State.freeSpareExt (s : State) (t : Nat) : Option Nat :=
  let n := s.spareCount t
  ((upto n).map (fun i => s.extTop t - n + i)).find? (fun e => !(s.rep t).sparesUsed.contains e && !s.withheld t e)

/-- Lines of an extent that lie in a watched cistern row. -/
def rowLines (e row : Nat) : List Nat :=
  ((upto 32768).map (fun i => e * 2 ^ 21 + i * 64)).filter (fun o => cisternRow o = row)

/-- The failing row's lines of valid pages become the marker. -/
def poisonRow (t e row : Nat) (own : Option (Nat × Nat)) (s : State) : State :=
  forEach ((rowLines e row).filter (fun o => s.pageValid t o)) (fun o u =>
    let dpa := match own with
      | some (c, idx) => (u.ctx c).wbase * 2 ^ 28 + idx * 2 ^ 21 + o % 2 ^ 21
      | none => 0
    writeMarker { t := t, off := o, ctx := (own.map (·.1)).getD 0, key := 0, cls := 0, integ := false, dpa := dpa } u) s

/-- The extent is withheld once it is free again. -/
def withholdLater (t e : Nat) (s : State) : State :=
  { s with badExt := Sparse.set (fun _ => 0) s.badExt (tierExt t e) 2 }

/-- A jet moves a local extent to a spare, and the switch replaces PEN (R331). -/
def remapExtent (t e spare c idx : Nat) (s : State) : State :=
  let base := s.pkg * 2 ^ 23 + t * 2 ^ 20
  let m : Migration := { ctx := c, index := idx, src := base + e, dest := base + spare }
  let pages := (upto 512).filter (fun p => (s.validLine t e).bits.getLsbD p)
  let s := copyPages m pages [] (clearValid t spare s)
  let x := s.ext c idx
  let s := logReplicas 1 (clearValid t e (s.setExt c idx { x with pen := base + spare }))
  let s := withhold t e (s.setRep t { s.rep t with sparesUsed := (s.rep t).sparesUsed ++ [spare] })
  let s := (repBit t BSN_REPAIR_STATUS_REMAP (showSpares t (s.spareCount t) s)).count (bsnBase t 0 + 0x290) 1
  raiseOpen (tierSource t 43) 2 s

/-- SPARE_EXTENT_REMAP (Table RPR-3). -/
def execSpareExtentRemap (t e : Nat) (s : State) : Host.Outcome State Fault Refusal :=
  let rows := (Sparse.get (fun _ => []) s.rowWatch t).filter (fun w => !w.basin && w.noPpr)
  match rows.find? (fun w => rowLines e w.row ≠ []) with
  | none => .next s
  | some w =>
    let done (s : State) : State := unwatch t false w.row s
    let kept (own : Option (Nat × Nat)) (level addr detail : Nat) (s : State) : State :=
      raise (tierSource t 43) 1 level addr detail (withholdLater t e (poisonRow t e w.row own s))
    match s.ownerOf t e with
    | some (c, idx) =>
      let x := s.ext c idx
      if x.migrating then .next (withholdLater t e s)
      else match s.freeSpareExt t with
        | some spare =>
          if s.ctxBusy c || s.reacting || 2 ≤ (s.tier t).power || (s.under c).2 ≠ [] || !s.acks t then .next s
          else .next (done (remapExtent t e spare c idx s))
        | none => .next (done (kept (some (c, idx)) 7 c idx (repBit t BSN_REPAIR_STATUS_SPARE_OUT s)))
    | none =>
      match s.pool.granted.find? (fun l => l.tier = t && l.first ≤ e && decide (e < l.first + l.count) &&
          !l.returned.contains (s.pkg * 2 ^ 23 + t * 2 ^ 20 + e)) with
      | some l => .next (done (kept none (Config.eventLevel (tierSource t 43) 1).toNat l.num 0 s))
      | none => .next (done (withhold t e s))

/-! ### Repair fuses and power-on (R315, R333) -/

/-- Grotto writes the queued entries, each into the next blank word; a word that fails its margin read is left and the
entry written again. -/
def writeFuses (t : Nat) (margins : List Bool) (s : State) : State :=
  forEach margins (fun ok u =>
    let r := u.rep t
    match r.queued with
    | [] => u
    | e :: rest =>
      if 248 ≤ r.fuses.length then u
      else u.setRep t { r with fuses := r.fuses ++ [(e, ok)], queued := if ok then rest else r.queued }) s

/-- FUSE_FULL once word 247 is written and told once (R333). -/
def noteFuseFull (t : Nat) (s : State) : State :=
  let r := s.rep t
  if 248 ≤ r.fuses.length && !r.fuseFullTold then
    raiseOpen (tierSource t 43) 0 (repBit t BSN_REPAIR_STATUS_FUSE_FULL (s.setRep t { r with fuseFullTold := true }))
  else s

/-- At power-on the fuse words and the entries kept in the configuration store are applied in order. -/
def applyRepairs (t : Nat) (s : State) : State :=
  let r := s.rep t
  let entries := (r.fuses.filter (·.2)).map (·.1) ++ r.queued
  let s := setFactor t (s.setRep t { r with groups := [], gb := [], parity := [], rows := [], viaFail := false, drifting := false })
  let s := forEach entries (fun (e : BitVec 64) u =>
    let v := e.toNat
    let j := bitsAt v 61 58
    let h := bitsAt v 57 55
    match v / 2 ^ 62 with
    | 1 =>
      let g := bitsAt v 54 53
      let p := bitsAt v 52 46
      let i := bitsAt v 45 39
      let c := u.coil t j h g
      let q := c.served g p
      let taken := if i = 0x7F then c.taken else c.taken.filter (fun x => x.1 ≠ q && x.2 ≠ i) ++ [(q, i)]
      u.setCoil t j h g { c with bad := (c.bad ++ [p]).dedup, taken := taken }
    | 2 =>
      let key := (j * 8 + h) * 16 + bitsAt v 54 53 * 4 + bitsAt v 52 51
      let row := bitsAt v 50 41 * 16 + bitsAt v 54 53 * 4 + bitsAt v 52 51
      let l := Sparse.get (fun _ => []) (u.rep t).rows key
      u.setRep t { u.rep t with rows := Sparse.set (fun _ => []) (u.rep t).rows key ((l ++ [row]).dedup) }
    | _ => u) s
  forEach (upto 16) (fun j u =>
    let short := (upto 8).any (fun h => (upto 3).any (fun g =>
      let c := u.coil t j h g
      (c.bad.filter (fun p => p < active g || isClock p)).any (fun p => !c.taken.any (fun x => x.1 = p))))
    let u := u.put (bsnBase t j) BSN_SLICE_STATUS_WIDTH 0
    let u := forEach (upto 8) (fun h v => showHop t j h v) u
    if short then narrowRunnel t j u else u) (showFuses t s)

/-- Calibration (R315): every pair of the tier is graded. A slice at half width then starts in write-through, with nothing
to flush (R323). -/
def calibrate (t : Nat) (eyes : List PairEye) (s : State) : State :=
  let s := gradeTier t eyes s
  forEach (upto 16) (fun j u =>
    let sl := u.slice t j
    if sl.flush.isSome && sl.dirtyExt = [] then u.setSlice t j { sl with flush := none } else u) s

end Sys2Proof.Machine
end

