-- ==== Sys2Proof/Machine/Power.lean ====
section
/-! DEFINITION. Tier and package power states, the time base's sources and the descriptors of Table CMD-8 that ask for
them (R267, R384-R392, Tables PWR-2 to PWR-4). -/

namespace Sys2Proof.Machine

/-! ### Work in flight and self-refresh -/

/-- Every queued command of a channel is issued. -/
def drainChan (t c : Nat) (s : State) : State :=
  let ch := s.chan t c
  let s := forEach ch.writes (fun (e : WriteEntry) u =>
    let u := (runColumn t c e.off e.cls e.ctx true u).setCline t e.off e.line
    if e.pend then clearPend t e.off u else u) s
  let s := forEach ch.reads (fun (e : ReadEntry) u => runColumn t c e.off e.cls e.ctx false u) s
  s.setChan t c { s.chan t c with writes := [], reads := [] }

/-- Every rank that serves or is held enters self-refresh; holds are abandoned (Table DRC-4). -/
def ranksToSr (t : Nat) (s : State) : State :=
  forEach (upto 16) (fun i u =>
    let c := i / 4
    let k := i % 4
    let st := u.rankState t c k
    if st = 0 ∨ st = 5 then u
    else (setRankState t c k 3 u).setRank t c k { u.rank t c k with heldSince := none, heldFromSr := false }) s

/-- Every rank in self-refresh serves again (R142). -/
def ranksFromSr (t : Nat) (s : State) : State :=
  forEach (upto 16) (fun i u =>
    let c := i / 4
    let k := i % 4
    if u.rankState t c k = 3 then touchRank t c k (setRankState t c k 1 u) else u) s

def basinToSr (t : Nat) (s : State) : State := forEach (upto 16) (sliceToSr t) s
def basinFromSr (t : Nat) (s : State) : State := forEach (upto 16) (sliceFromSr t) s

/-- The tier's free jets gate their clocks (R388). -/
def gateJets (t : Nat) (s : State) : State :=
  forEach (upto 16) (fun j u => if (u.pieceOf t j).isNone then u.setJet t j { u.jet t j with gated := true } else u) s

/-! ### Requests (R267, R391) -/

/-- A jet of the tier is halted by a debugger (R431). -/
def State.jetHalted (s : State) (t : Nat) : Bool := (upto 16).any (fun j => (s.jet t j).halted)

/-- What forbids T3 (R267). -/
def State.tierInUse (s : State) (t : Nat) : Bool :=
  s.alloc.any (fun e => e.1 / 2 ^ 20 = t && e.2 && !s.isSpare t (e.1 % 2 ^ 20)) ||
  s.rings.any (fun e => decide (e.2.state ≠ .absent) && portTier e.2.dmaPort = t) ||
  (s.portList.filter (fun p => portTier p = t)).any (fun p => (s.port (p / 2 * 2)).bonded) ||
  s.ctxs.any (fun e => decide (e.2.state ≠ .free) && (decide (s.homeTier e.1 = t) || e.2.holds t ||
    e.2.portList.any (fun p => portTier p = t)))

def State.reqOf (s : State) (t : Nat) : Option TierReq := s.tierReqs.find? (fun r => r.tier = t)

/-- A request ends; its descriptor completes OK. -/
def endReq (r : TierReq) (result : Nat) (s : State) : State :=
  completeOpt r.desc result { s with tierReqs := s.tierReqs.erase r }

/-- Execute the tier's requests in arrival order while they need neither entry to nor exit from T2 or T3. -/
def advanceReqs (t : Nat) : Nat → State → State
  | 0, s => s
  | n + 1, s =>
    match s.reqOf t with
    | none => s
    | some r =>
      if 1 < (s.tier t).power || 1 < r.target then s
      else
        let up := (s.tier t).power = 1 && r.target = 0
        let s := if up then s.count (pwrBase + 0x48) 1 else s
        let result := if !r.wake then r.target else if up then (Config.freeWord s.fresh).toNat % 2 else 0
        let s := s.drawn.setTier t { s.tier t with power := r.target, idleSince := s.us }
        advanceReqs t n (endReq r result (if r.target = 1 then gateJets t s else s))

/-- Queue a request and execute what can be executed at once. -/
def queueReq (r : TierReq) (s : State) : State :=
  let s := { s with tierReqs := s.tierReqs ++ [r] }
  advanceReqs r.tier s.tierReqs.length s

/-- Why a request is refused: 0x02 BAD_FIELD, 0x0D IN_USE (R267, R431). -/
def State.refuseTier (s : State) (t target : Nat) (wake : Bool) : Option Nat :=
  if s.nTiers ≤ t || 3 < target || (!wake && target = 0) then some 0x02
  else if target = 3 && (s.tier t).power ≠ 3 && s.tierInUse t then some 0x0D
  else if 2 ≤ target && s.jetHalted t then some 0x0D
  else none

/-- TIER_SLEEP (R267, R391): RESULT is the state reached. -/
def execTierSleep (d : DescRef) (t st : Nat) (s : State) : Host.Outcome State Fault Refusal :=
  onReady d 0x0800 [(8, 1, t), (9, 1, st)] (fun _ s =>
    match s.refuseTier t st false with
    | some e => complete d e 0 s
    | none =>
      if (s.tier t).power = st && (s.reqOf t).isNone then complete d 0 st s
      else queueReq { tier := t, target := st, desc := some d } (startDesc d s)) s

/-- TIER_WAKE (R391): RESULT is the wake time, 0 when already in T0. -/
def execTierWake (d : DescRef) (t : Nat) (s : State) : Host.Outcome State Fault Refusal :=
  onReady d 0x0801 [(8, 1, t)] (fun _ s =>
    if s.nTiers ≤ t then complete d 0x02 0 s
    else queueReq { tier := t, target := 0, desc := some d, wake := true } (startDesc d s)) s

/-- OPPOINT_SET (R267). -/
def execOppointSet (d : DescRef) (t mask op : Nat) (s : State) : Host.Outcome State Fault Refusal :=
  onReady d 0x0802 [(8, 1, t), (9, 1, mask), (10, 1, op)] (fun _ s =>
    if s.nTiers ≤ t || 15 < mask || 3 < op then complete d 0x02 0 s
    else
      let s := wakeForWork t (startDesc d s)
      let s := forEach ((upto 4).filter (bitAt mask)) (fun c u =>
        let u := u.setChan t c { u.chan t c with reqPolicy := some op }
        if (u.tier t).power = 3 then u else applyPolicy t c u) s
      finishOpWaits { s with opWaits := s.opWaits ++ [{ desc := d, tier := t, mask := mask, op := op }] }) s

/-- The effect of a write of PWR_TIER_CTL with GO: a request as TIER_SLEEP or TIER_WAKE; a refusal sets REFUSED and raises a
Note (Table PWR-8). -/
def tierCtlGo (s : State) : State :=
  let t := s.get pwrBase PWR_TIER_CTL_TIER
  let st := s.get pwrBase PWR_TIER_CTL_STATE
  match s.refuseTier t st (st = 0) with
  | some _ => noteIgnored (s.putFlag pwrBase PWR_STATUS_REFUSED true)
  | none => queueReq { tier := t, target := st, wake := decide (st = 0) } s

/-! ### Idle timers (R391) -/

/-- The tier has been idle for `span` microseconds. -/
def State.tierIdle (s : State) (t span : Nat) : Bool :=
  decide ((s.tier t).idleSince + span ≤ s.us) && !s.pieces.any (fun p => p.tier = t) &&
  (upto 16).all (fun j => decide ((s.jet t j).idleSince + span ≤ s.us)) && (s.reqOf t).isNone && !s.reacting &&
  !s.held.any (fun r => r.tier = t) && !(s.tier t).portReset && !(s.tier t).engReset

/-- T1_IDLE_EXPIRY. -/
def execT1IdleExpiry (t : Nat) (s : State) : Host.Outcome State Fault Refusal :=
  let span := s.get pwrBase PWR_CFG_T1_IDLE
  if t < s.nTiers && (s.tier t).power = 0 && bitAt (s.get pwrBase PWR_AUTO_AUTO_T1) t && span ≠ 0 && s.tierIdle t span then
    .next (gateJets t (s.setTier t { s.tier t with power := 1 }))
  else .next s

/-- T2_IDLE_EXPIRY: the timer asks for T2; it does not act while a jet of the tier is halted (R431). -/
def execT2IdleExpiry (t : Nat) (s : State) : Host.Outcome State Fault Refusal :=
  let span := s.get pwrBase PWR_CFG_T2_IDLE * 10000
  if t < s.nTiers && (s.tier t).power ≤ 1 && bitAt (s.get pwrBase PWR_AUTO_AUTO_T2) t && span ≠ 0 && s.tierIdle t span &&
      !s.jetHalted t then
    .next (queueReq { tier := t, target := 2 } s)
  else .next s

/-! ### T2 (Tables PWR-3 and PWR-4) -/

/-- No frequency change runs on the tier (R146). -/
def State.changeFree (s : State) (t : Nat) : Bool := (upto 4).all (fun c => !s.changing t c)

/-- Ports in L0 or L0p go to L1 (R46). -/
def portsToL1 (t : Nat) (s : State) : State :=
  forEach (s.portList.filter (fun p => portTier p = t)) (fun p u =>
    if (u.ltssm p = 3 || u.ltssm p = 4) && !(u.port (p / 2 * 2)).bonded then setLtssm p 6 u else u) s

/-- Ports in L1 return to full-width L0. -/
def portsToL0 (t : Nat) (s : State) : State :=
  forEach (s.portList.filter (fun p => portTier p = t)) (fun p u =>
    if u.ltssm p = 6 then (setLtssm p 3 u).put (hptBase p) HPT_LINK_STATUS_WIDTH (u.port p).fullWidth else u) s

/-- TIER_T2_ENTRY: a request for T2 is executed when no channel changes frequency and no jet works. Work in flight completes,
basin and ranks enter self-refresh, the PLLs stop and the ports go to L1. -/
def execTierT2Entry (t : Nat) (s : State) : Host.Outcome State Fault Refusal :=
  match s.reqOf t with
  | none => .next s
  | some r =>
    let busy := s.pieces.any (fun p => p.tier = t && p.jet.isSome) || (s.tier t).portReset || (s.tier t).engReset || s.reacting
    if r.target ≠ 2 || 1 < (s.tier t).power || busy || !s.changeFree t then .next s
    else
      let s := forEach (upto 4) (drainChan t) s
      let s := portsToL1 t (ranksToSr t (basinToSr t (gateJets t s)))
      let s := forEach (upto 4) (fun c u => endTraining t c u) s
      let s := (s.setTier t { s.tier t with power := 2 }).count (pwrBase + 0x40) 1
      .next (endReq r 2 s)

/-- Requests held for a tier that slept are served. -/
def releaseAsleep (t : Nat) (s : State) : State := retryHeld (fun r => r.tier = t && r.why = .tierAsleep) s

/-- The wake of Table PWR-4 from T2: the ports return to L0, basin and ranks leave self-refresh, the update log is applied and
held requests are released. -/
def wakeT2 (t us : Nat) (s : State) : State :=
  let s := portsToL0 t (ranksFromSr t (basinFromSr t s))
  let s := { s with
    updateLog := Sparse.set (fun _ => 0) s.updateLog t 0, wakeReq := Sparse.set (fun _ => false) s.wakeReq t false }
  let s := s.setTier t { s.tier t with power := 0, idleSince := s.us, pllFail := false, holdOver := false }
  let s := (s.setReg (pwrBase + 0x3C) (BitVec.ofNat 64 (us % 2 ^ 32))).count (pwrBase + 0x48) 1
  let s := match s.reqOf t with
    | some r => if r.target = 0 then endReq r (if r.wake then us else 0) s else s
    | none => s
  releaseAsleep t (advanceReqs t s.tierReqs.length s)

/-- TIER_T2_WAKE: a wake cause, or the next request, takes the tier to T0. A PLL cannot start without the reference (R445). -/
def execTierT2Wake (t us : Nat) (s : State) : Host.Outcome State Fault Refusal :=
  let asked := Sparse.get (fun _ => false) s.wakeReq t || (match s.reqOf t with | some r => decide (r.target ≠ 2) | none => false)
  .next (if (s.tier t).power ≠ 2 || !asked || !s.refPresent || s.reacting then s else wakeT2 t us s)

/-- T2_UPDATE_LOG_FULL (R389): a full log is applied; the tier reports T2 throughout. -/
def execT2UpdateLogFull (t : Nat) (s : State) : Host.Outcome State Fault Refusal :=
  if (s.tier t).power = 2 && Sparse.get (fun _ => 0) s.updateLog t = 4096 then
    .next { s with updateLog := Sparse.set (fun _ => 0) s.updateLog t 0 }
  else .next s

/-! ### T3 -/

/-- TIER_T3_ENTRY (R388, R390): the ranks are left in self-refresh, the basin is not retained and the ports go to electrical
idle. A tier that came into use meanwhile refuses. -/
def execTierT3Entry (t : Nat) (s : State) : Host.Outcome State Fault Refusal :=
  match s.reqOf t with
  | none => .next s
  | some r =>
    let busy := s.pieces.any (fun p => p.tier = t) || (s.tier t).portReset || (s.tier t).engReset || s.reacting ||
      s.clears.any (fun c => c.tier = t)
    if r.target ≠ 3 || (s.tier t).power = 3 || busy || !s.changeFree t then .next s
    else if s.tierInUse t then
      let s := { s with tierReqs := s.tierReqs.erase r }
      .next (match r.desc with
        | some d => complete d 0x0D 0 s
        | none => noteIgnored (s.putFlag pwrBase PWR_STATUS_REFUSED true))
    else
      let s := forEach (upto 4) (drainChan t) s
      let s := ranksToSr t (gateJets t s)
      let s := forEach (s.portList.filter (fun p => portTier p = t)) (fun p u => dropLink p 0 u) s
      let s := { s with
        slices := Sparse.keep (fun k => k / 16 ≠ t) s.slices, tagSets := Sparse.keep (fun k => k / 2 ^ 21 ≠ t) s.tagSets
        updateLog := Sparse.set (fun _ => 0) s.updateLog t 0, wakeReq := Sparse.set (fun _ => false) s.wakeReq t false }
      let s := basinToSr t s
      .next (endReq r 3 (s.setTier t { s.tier t with power := 3 }))

/-- A rank returns with the short check; one that fails it is fenced (R136). -/
def rankShort (t c k : Nat) (fails : List (Nat × Nat × Nat)) (s : State) : State :=
  let st := s.rankState t c k
  if st = 0 ∨ st = 5 then s
  else if fails.contains (t, c, k) then fenceRank t c k s
  else touchRank t c k (setRankState t c k 1 s)

/-- A failed checker holds its tier in reset (R167). -/
def failCheckers (t : Nat) (fails : List (Nat × Nat)) (s : State) : State :=
  let mine := (fails.filter (fun f => f.1 = t)).map (·.2)
  if mine = [] then s
  else
    let s := forEach mine (fun n u => u.setRegBit (eccBase t + 0x10 + n / 32 * 4) (n % 32) true) s
    let s := s.putFlag (eccBase t) ECC_STATUS_ST_FAIL true
    let s := s.setTier t { s.tier t with stFailed := true, started := false, holdOver := true }
    raise (tierSource t 36) 0 4 (poolAddr s.pkg t 0) 0 s

def eyesOf (t : Nat) (f : Restart) : List PairEye := ((f.eyes.filter (fun e => e.1 = t)).map (·.2)).flatten

/-- The points trained on a rank: all four unless listed. -/
def trainedOf (f : Restart) (t c k : Nat) : BitVec 4 :=
  match f.trained.find? (fun r => r.tier = t && r.chan = c && r.rank = k) with
  | some r => r.lkg
  | none => 15

/-- Ports whose PERST_N is deasserted begin to train (R47). -/
def startPorts (t : Nat) (s : State) : State :=
  forEach (s.portList.filter (fun p => portTier p = t)) (fun p u =>
    if u.inPerst p then setLtssm p 0 u
    else if u.portOn p then setLtssm p 1 u else setLtssm p 8 u) s

/-- Training in full (R133, R134, R144, R483): the last-known-good sets; a rank without the top point is fenced; the points all
unfenced ranks passed are allowed; the channel runs at the fastest. -/
def trainChan (t c : Nat) (f : Restart) (s : State) : State :=
  let b := drcBase t c
  let mx := max (s.chan t c).rated (s.get b DRC_CH_CFG_MAX_OP)
  let tried := (upto 4).filter (fun p => mx ≤ p)
  let top := tried.headD 3
  let s := forEach (upto 4) (fun k u =>
    let lkg := (trainedOf f t c k).toNat
    let got := (tried.filter (bitAt lkg)).map (fun p => 2 ^ p)
    if bitAt lkg top then
      let u := putRankBit t c k DRC_RANK_STATUS_FENCED false (setRankState t c k 1 u)
      touchRank t c k (u.setRank t c k { u.rank t c k with
        lkg := BitVec.ofNat 4 got.sum, trainTime := u.us, trainTemp := (u.rank t c k).temp, trainSoon := false, due := false })
    else
      fenceRank t c k ((setRankState t c k 1 u).setRank t c k { u.rank t c k with lkg := 0 })) s
  let good := (upto 4).filter (fun k => !s.fenced t c k)
  let passed := tried.filter (fun p => good.all (fun k => (s.rank t c k).lkg.getLsbD p))
  -- a point below the first one that failed is not reached
  let passed := passed.filter (fun p => (upto p).all (fun q => q < mx || passed.contains q))
  let s := s.setChan t c { s.chan t c with trained := BitVec.ofNat 4 ((passed.map (fun p => 2 ^ p)).sum) }
  let s := s.put b DRC_OP_STATUS_ALLOWED ((passed.map (fun p => 2 ^ p)).sum)
  let cur := passed.headD top
  let s := (s.put b DRC_OP_STATUS_CUR_OP cur).putFlag b DRC_OP_STATUS_ACTIVE_SET false
  let s := forEach (upto 4) (fun w u =>
    let v := u.reg (b + 0x100 + 0x10 * cur + 4 * w)
    (u.setReg (b + 0x200 + 4 * w) v).setReg (b + 0x210 + 4 * w) v) s
  reportChan t c (applyPolicy t c s)

/-- TIER_T3_EXIT: the tier powers up, its SRAM and basin are filled, coils calibrated, the replica and the keys reloaded; ranks
leave self-refresh with the short check, or train in full when P4 took their sets (R392). -/
def execTierT3Exit (t us : Nat) (f : Restart) (s : State) : Host.Outcome State Fault Refusal :=
  let asked := match s.reqOf t with | some r => decide (r.target ≠ 3) | none => false
  if (s.tier t).power ≠ 3 || !asked || !s.refPresent || s.reacting then .next s
  else
    let s := { s with slices := Sparse.keep (fun k => k / 16 ≠ t) s.slices }
    let s := basinFromSr t s
    let s := (s.put glbBase GLB_RESET_CAUSE_CAUSE 7).put glbBase GLB_RESET_CAUSE_TIER t
    let s := s.setTier t { s.tier t with power := 0, idleSince := s.us, pllFail := false, holdOver := false }
    let s := failCheckers t f.checkers s
    let s := forEach (upto 16) (fun j u => u.setJet t j { u.jet t j with gated := false, resetTill := 0 }) s
    let s := calibrate t (eyesOf t f) (applyRepairs t s)
    let s := forEach (upto 16) (fun j u => u.put (bsnBase t j) BSN_SLICE_STATUS_REFRATE 1) s
    let s := s.setHeat t { s.tierHeat t with sensed := false }
    let s := if (s.tier t).cap = 0 then s
      else forEach (upto 4) (fun c u =>
        if (u.chan t c).trained = 0 then trainChan t c f u
        else reportChan t c (forEach (upto 4) (fun k v => rankShort t c k f.shortFail v) u)) s
    let s := if (s.tier t).stFailed then s else startPorts t s
    let s := (s.setReg (pwrBase + 0x3C) (BitVec.ofNat 64 (us % 2 ^ 32))).count (pwrBase + 0x48) 1
    let s := match s.reqOf t with
      | some r => if r.target = 0 then endReq r (if r.wake then us else 0) s else s
      | none => s
    .next (advanceReqs t s.tierReqs.length s)

/-- TIER_PLL_LOCK_FAIL (R391): a PLL started for a wake failed twice. The tier stays as it was; requests held for it complete
at the 1 ms limit. A waiting TIER_WAKE completes with a RESULT the manual does not state. -/
def execTierPllLockFail (t : Nat) (s : State) : Host.Outcome State Fault Refusal :=
  let head := match s.reqOf t with | some r => decide (r.target < (s.tier t).power) | none => false
  let asked := head || ((s.tier t).power = 2 && Sparse.get (fun _ => false) s.wakeReq t)
  if (s.tier t).power < 2 || !asked || s.reacting then .next s
  else
    let s := raiseOpen (tierSource t 45) 0 (s.putFlag pwrBase PWR_STATUS_PLL_FAIL true)
    let s := { s with wakeReq := Sparse.set (fun _ => false) s.wakeReq t false }
    let s := s.setTier t { s.tier t with pllFail := true, resetAt := s.us }
    .next (match s.reqOf t with
      | some r => if head then
          (if r.wake then endReq r (Config.freeWord s.fresh).toNat s.drawn else endReq r (s.tier t).power s)
        else s
      | none => s)

/-! ### The time base's sources (R385, R447) and P4 (R386, R392) -/

/-- REFERENCE_CLOCK_LOST: no edge for 1 microsecond. -/
def execReferenceClockLost (s : State) : Host.Outcome State Fault Refusal :=
  if !s.refPresent then .next s
  else
    let s := { s with refPresent := false, frac := 0 }.putFlag pwrBase PWR_STATUS_REF_LOST true
    .next (if s.pkgMode.mode = .up then raiseOpen 0x00F 2 s else s)

/-- REFERENCE_CLOCK_RETURN: counting goes on from the present value at the next whole microsecond. -/
def execReferenceClockReturn (s : State) : Host.Outcome State Fault Refusal := .next { s with refPresent := true, frac := 0 }

/-- OSCILLATOR_START (R447). -/
def execOscillatorStart (s : State) : Host.Outcome State Fault Refusal := .next { s with xtalRunning := true }

/-- Every tier is in T3 (R392). -/
def State.inP3 (s : State) : Bool := s.pkgMode.mode = .up && s.nTiers ≠ 0 && s.tierList.all (fun t => (s.tier t).power = 3)

/-- The effect of P4_REQ: in P3 the management processor halts and RAIL_EN falls; else the write is ignored with a Note. The
last-known-good sets do not survive P4 (R392). -/
def enterP4 (s : State) : State :=
  if !s.inP3 then noteIgnored (s.putFlag pwrBase PWR_STATUS_REFUSED true)
  else
    let s := setRailEn false s
    let chans : Sparse Chan := Sparse.mapVals (fun _ => {}) (fun _ (c : Chan) =>
      { c with trained := 0, ranks := Sparse.mapVals (fun _ => {}) (fun _ (r : Rank) => { r with lkg := 0 }) c.ranks }) s.chans
    { s with
      chans := chans, mgmt := { s.mgmt with grotto := false, services := false }
      pkgMode := { s.pkgMode with mode := .aon, asleep := true, waking := false, attempts := 0 } }

/-- WAKE_CAUSE (R386, R443): 0 WAKE_N, 1 an SMBus transaction at the DP8's address, 2 the trip path. A package that has never
come up is given one attempt of its power-on. -/
def execWakeCause (cause : Nat) (s : State) : Host.Outcome State Fault Refusal :=
  if s.pkgMode.mode ≠ .aon || !s.pkgMode.asleep || s.pkgMode.porstLow.isSome then .next s
  else if cause = 2 then .next (tripNow s)
  else if 2 < cause || !s.regBit (pwrBase + 0x14) cause then .next s
  else
    let cold := s.pkgMode.attempts ≠ 0
    let s := setRailEn true s
    .next { s with pkgMode := { s.pkgMode with mode := .rails, asleep := false, waking := !cold, attempts := if cold then 3 else 0 } }

end Sys2Proof.Machine
end

