-- ==== Sys2Proof/Machine/Gates.lean ====
section
/-! DEFINITION. The gate calls of Table MGT-3 (R357) and the writing of repair fuses (R333). -/

namespace Sys2Proof.Machine

/-! ### Return codes -/

/-- A gate's answer: 0 OK, 1 DENIED, 2 BAD_ARG, 4 FAILED, with its payload; 3 is BUSY. -/
abbrev GateAnswer := State × Nat × List Nat

/-- A gate called by Services, executed at once. -/
def gateCall (n : Nat) (f : State → GateAnswer) (s : State) : Host.Outcome State Fault Refusal :=
  if !s.servicesRun then .next s
  else match f s with
    | (t, code, payload) => .next (t.emit (.gate n code payload))

/-- A gate that takes longer than 1 ms: it returns BUSY, and GATE_BUSY_RETRY collects its result. While one waits to be
collected another is not begun. -/
def gateLong (n : Nat) (f : State → GateAnswer) (s : State) : Host.Outcome State Fault Refusal :=
  if !s.servicesRun then .next s
  else if s.mgmt.gateDone.isSome then .next (s.emit (.gate n 3 []))
  else match f s with
    | (t, code, payload) => .next ((t.mgmtSet { t.mgmt with gateDone := some (n, code, payload) }).emit (.gate n 3 []))

/-- GATE_BUSY_RETRY (R357): Services calls the gate again; a result that is ready is returned. -/
def execGateBusyRetry (n : Nat) (s : State) : Host.Outcome State Fault Refusal :=
  if !s.servicesRun then .next s
  else match s.mgmt.gateDone with
    | some (k, code, payload) =>
      if k = n then
        .next (((s.mgmtSet { s.mgmt with gateDone := none }).flashSet { s.flash with busy := 0 }).emit (.gate n code payload))
      else .next (s.emit (.gate n 3 []))
    | none => .next (if 15 ≤ n then s.emit (.gate n 2 []) else s)

/-! ### The gates -/

/-- READY (R358, R364): the watchdog starts again; an activation ends, and PLDM's also reloads the jets. -/
def ready (s : State) : State :=
  let s := askPll (s.mgmtSet { s.mgmt with isReady := true, readyAt := s.us })
  match s.mgmt.activation with
  | none => s
  | some a =>
    let s := s.mgmtSet { s.mgmt with activation := none, activated := true }
    match a.desc with
    | some _ => endFw 0 s.runSv s
    | none => reloadDone (askReload s)

/-- Gate 0, READY. -/
def execReady (s : State) : Host.Outcome State Fault Refusal := gateCall 0 (fun s => (ready s, 0, [])) s

/-- Gate 1, FUSE_READ: a word other than a secret. -/
def execFuseRead (n : Nat) (s : State) : Host.Outcome State Fault Refusal :=
  gateCall 1 (fun s =>
    if 256 ≤ n then (s, 2, [])
    else if isSecret n then (s, 1, [])
    else (s, 0, [(s.fuseUsed n).toNat])) s

/-- A permitted point for repair fuses (R333); `start`: the power-on after fuse sensing. -/
def State.permitted (s : State) (t : Nat) : Bool :=
  1 ≤ s.lifeCycle && s.lifeCycle ≤ 3 && t < s.nTiers && ((s.tier t).power = 1 || (s.tier t).power = 2) &&
  (upto 4).all (fun k => decide ((s.sensor t k).reading < 680)) && !s.pkgMode.badRails.contains 1

/-- Queued entries are written while their margins last, one word each; a failed margin read raises its record (R333). -/
def writeRepairs (t : Nat) (margins : List Bool) (s : State) : State :=
  let before := (s.rep t).fuses.length
  let s := showFuses t (writeFuses t margins s)
  let n := (((s.rep t).fuses.drop before).filter (fun e => !e.2)).length
  noteFuseFull t (forEach (upto n) (fun _ u => raiseOpen 0x001 2 u) s)

/-- Gate 2, FUSE_REPAIR: one queued entry. -/
def execFuseRepair (t : Nat) (margins : List Bool) (s : State) : Host.Outcome State Fault Refusal :=
  gateCall 2 (fun s =>
    if s.nTiers ≤ t then (s, 2, [])
    else if !s.permitted t then (s, 1, [])
    else if (s.rep t).queued = [] then (s, 4, [])
    else (writeRepairs t (margins.take 1) s, if margins.headD false then 0 else 4, [])) s

/-- REPAIR_FUSE_WRITE (R333): at a permitted point Grotto writes the queued entries. -/
def execRepairFuseWrite (t : Nat) (margins : List Bool) (s : State) : Host.Outcome State Fault Refusal :=
  .next (if s.grottoRuns && s.permitted t then writeRepairs t margins s else s)

/-- Gate 3, KEY_MAKE (R176). -/
def execKeyMake (k : Nat) (s : State) : Host.Outcome State Fault Refusal :=
  gateCall 3 (fun s =>
    if k = 0 || 4096 ≤ k then (s, 2, [])
    else if s.entropyFailed then (s, 1, [])
    else if s.key k ≠ none then (s, 4, [])
    else (drawKey k s, 0, [])) s

/-- Gate 4, KEY_ZERO. -/
def execKeyZero (k : Nat) (s : State) : Host.Outcome State Fault Refusal :=
  gateCall 4 (fun s => if 4096 ≤ k then (s, 2, []) else (s.setKey k none, 0, [])) s

/-- Gate 5, LINK_KEYS (R190): the peer must be a member of the pool. -/
def execLinkKeys (a peer : Nat) (sigOk : Bool) (shared : BitVec 384) (s : State) : Host.Outcome State Fault Refusal :=
  gateLong 5 (fun s =>
    if 8 ≤ a then (s, 2, [])
    else if !(s.member peer).member then (linkExchange a peer sigOk false shared s, 1, [])
    else if s.get (aqdBase a) AQD_STATUS_STATE ≠ 2 || !s.identity || !sigOk then (linkExchange a peer sigOk true shared s, 4, [])
    else (linkExchange a peer sigOk true shared s, 0, [])) s

/-- Gate 6, SEAL (R231): a tick that is final. -/
def execSealGate (n : Nat) (s : State) : Host.Outcome State Fault Refusal :=
  gateCall 6 (fun s =>
    match s.tickOf n with
    | none => (s, 2, [])
    | some k =>
      if !k.finished || !s.identity then (s, 4, [])
      else (askPll (makeSeal n ((k.sealed.map (fun z => z.gen + 1)).getD 0) s), 0, [])) s

/-- The signature as payload: r and s. -/
def signWords (x : BitVec 768) : List Nat := [x.toNat / 2 ^ 384, x.toNat % 2 ^ 384]

/-- Gate 7, SPDM_SIGN (R371). -/
def execSpdmSign (hash : BitVec 384) (s : State) : Host.Outcome State Fault Refusal :=
  gateCall 7 (fun s =>
    if s.identity then (askPll s.drawn, 0, signWords (Config.sign hash s.fresh)) else (s, 4, [])) s

/-- Gate 8, IMG_VERIFY (R360): the inactive bank. -/
def execImgVerify (s : State) : Host.Outcome State Fault Refusal :=
  gateLong 8 (fun s =>
    let ok := s.bankValid s.stageBank
    (askPll (setStaged ok s), if ok then 0 else 4, [])) s

/-- Gate 9, BANK_SET (R364): the boot record of an activation, or of a commit. -/
def execBankSet (commit : Bool) (s : State) : Host.Outcome State Fault Refusal :=
  gateLong 9 (fun s =>
    if commit then
      let s := writeBoot (fun r => { r with trial := false, tried := 0 }) s
      ((s.mgmtSet { s.mgmt with activated := false }).putFlag mgtBase MGT_STATUS_TRIAL false, 0, [])
    else if !s.mgmt.staged then (s, 1, [])
    else
      let b := s.stageBank
      let prev := s.runBank
      (writeBoot (fun r => { r with active := b, prev := prev, trial := true, tried := 0 }) s, 0, [])) s

/-- Gate 10, ARB_ADVANCE (R366). -/
def execArbAdvance (short : List Nat) (s : State) : Host.Outcome State Fault Refusal :=
  gateCall 10 (fun s =>
    if s.lifeCycle = 0 || 3 < s.lifeCycle then (s, 1, [])
    else
      let s := advanceArb short 127 s.runSv s
      (s, if s.arbCount < s.runSv then 4 else 0, [s.arbCount])) s

/-- Gate 11, CAL_WRITE (R381): the imported set replaces the old one whole; the write takes about 1 s. -/
def execCalWrite (s : State) : Host.Outcome State Fault Refusal :=
  gateLong 11 (fun s =>
    if s.lifeCycle = 0 || 3 < s.lifeCycle then (s, 1, [])
    else match s.flash.calNew with
      | none => (s, 4, [])
      | some m =>
        if !calChecks m then (s, 4, [])
        else
          let s := writeCal m s
          (s.flashSet { s.flash with busy := 1, busyOff := 0x3100000 }, 0, [])) s

/-- Gate 12, DBG_UNLOCK (R427): the response the debugger has written. -/
def execDbgUnlock (key : BitVec 384) (sigOk : Bool) (s : State) : Host.Outcome State Fault Refusal :=
  gateLong 12 (fun s =>
    if !s.authBusy then (s, 2, [])
    else match decideUnlock key sigOk s with
      | (t, ok) => (askPll t, if ok then 0 else 1, [])) s

/-- Gate 13, LOCKDOWN. -/
def execLockdownGate (s : State) : Host.Outcome State Fault Refusal := gateCall 13 (fun s => (raiseOpen 0x002 3 s, 0, [])) s

/-- Gate 14, SLOT_ERASE (R378): a slot already copied to the log. -/
def execSlotErase (i : Nat) (s : State) : Host.Outcome State Fault Refusal :=
  gateLong 14 (fun s =>
    if 64 ≤ i then (s, 2, [])
    else match Sparse.get (fun _ => none) s.flash.slots i with
      | none => (s, 2, [])
      | some r => if r.copied then (eraseSlot i s, 0, []) else (s, 1, [])) s

end Sys2Proof.Machine
end

