-- ==== Sys2Proof/Machine/Faults.lean ====
section
/-! DEFINITION. The collector's commands: messages, records, MSI-X, the Stop and Lockdown sequences (R341-R354, Tables FLT-7
and FLT-8) and the event descriptors (R266). -/

namespace Sys2Proof.Machine

/-! ### Messages and records -/

/-- The source exists (R335). -/
def State.sourceExists (s : State) (src : Nat) : Bool := (s.kindClass src 0).isSome

/-- A message lost at a full input buffer; a source with floor Stop or Lockdown starts its reaction by its own wire (R341). -/
def loseMessage (src : Nat) (s : State) : State :=
  let idx := if sourceIsTier src then sourceTier src else 8
  let s := (s.count (fltBase + 0x50) 1).putFlag fltBase FLT_STATUS_INPUT_LOST true
  let s := { s with flt := { s.flt with inputLost := Sparse.set (fun _ => false) s.flt.inputLost idx true } }
  let floor := s.get (srcCfg src) FLT_SRC_CFG_FLOOR
  match s.flt.reaction with
  | .lockdown _ => s
  | .stop n _ => if floor = 5 then { s with flt := { s.flt with reaction := .lockdown n } } else s
  | .none =>
    if floor = 5 then { s with flt := { s.flt with reaction := .lockdown 0 } }
    else if floor = 4 then { s with flt := { s.flt with reaction := .stop 0 s.us } }
    else raiseOpen 0x000 1 s

/-- MESSAGE_ACCEPT (R341): a block's message reaches the collector; `full`: its input buffer of 256 entries is full. After a
Lockdown nothing is written (R345). -/
def execMessageAccept (src kind level addr detail : Nat) (full : Bool) (s : State) : Host.Outcome State Fault Refusal :=
  if s.flt.lockedDown || (s.kindClass src kind).isNone then .next s
  else .next (if full then loseMessage src s else raise src kind level addr detail s)

/-- RECORD_LEAVES_QUEUE (R346). -/
def execRecordLeavesQueue (n : Nat) (s : State) : Host.Outcome State Fault Refusal :=
  .next (s.setQueue (s.flt.queue.filter (fun r => !(r.recnum = n && r.leaves))))

/-- FAULT_MSIX (R349): at most one message per 10 microseconds. -/
def execFaultMsix (s : State) : Host.Outcome State Fault Refusal :=
  let soon := match s.flt.msixLast with | some a => decide (s.us < a + 10) | none => false
  let locked := match s.flt.reaction with | .lockdown _ => true | _ => false
  if !s.flt.msixPending || soon || locked || s.pkgMode.mode ≠ .up then .next s
  else
    let s := s.signalControl (s.get fltBase FLT_CFG_VEC)
    .next { s with flt := { s.flt with msixPending := false, msixLast := some s.us } }

/-- EVENT_FETCH (R266): records not yet released, oldest first, 32 bytes each. -/
def execEventFetch (d : DescRef) (maxRecs haddr : Nat) (s : State) : Host.Outcome State Fault Refusal :=
  onReady d 0x0700 [(8, 2, maxRecs), (16, 8, haddr)] (fun f s =>
    if maxRecs = 0 || 64 < maxRecs then complete d 0x02 0 s
    else
      let l := s.flt.queue.filter (fun r => !r.released)
      let out := l.take maxRecs
      let bytes (r : FRec) : List DWord :=
        dwords 4 (((r.words ++ r.tail).zipIdx.map (fun (e : Nat × Nat) => e.1 * 2 ^ (32 * e.2))).sum)
      let s := if out = [] then s else s.emit (.dmaWrite (s.ring f.ref.ring).dmaPort haddr (out.flatMap bytes))
      complete d 0 (out.length + l.length * 2 ^ 16) s) s

/-- The record number has been assigned. -/
def State.assigned (s : State) (n : Nat) : Bool := 1 ≤ n && n < s.flt.nextRec

/-- EVENT_ACK (R266, R346). -/
def execEventAck (d : DescRef) (recnum : Nat) (s : State) : Host.Outcome State Fault Refusal :=
  onReady d 0x0701 [(8, 4, recnum)] (fun _ s =>
    if !s.assigned recnum then complete d 0x02 0 s
    else
      let n := (s.flt.queue.filter (fun r => r.recnum ≤ recnum && !r.released)).length
      let s := s.setQueue (s.flt.queue.map (fun r => if r.recnum ≤ recnum then { r with released := true } else r))
      complete d 0 n s) s

/-! ### Register effects -/

/-- FLT_CTL (Table FLT-15): bit 0 RESUME takes a halted package to the warm reset when it comes over MCTP (R351); bit 1 clears the
counters. -/
def fltCtlWritten (path : Path) (v : BitVec 32) (s : State) : State :=
  let s := if v.getLsbD 1 then ((s.setReg (fltBase + 0x40) 0).setReg (fltBase + 0x48) 0).setReg (fltBase + 0x50) 0 else s
  if !v.getLsbD 0 then s
  else if !s.flag fltBase FLT_STATUS_HALTED then noteIgnored s
  else if path = .mctp then
    let s := (s.putFlag fltBase FLT_STATUS_HALTED false).put glbBase GLB_RESET_CAUSE_CAUSE 5
    setSysReady false { s with flt := { s.flt with stopped := true } }
  else s

/-- FLT_INJECT.GO (Table FLT-14): the message as SOURCE would send it, at address 0; a reserved source sends nothing. -/
def injectGo (s : State) : State :=
  if s.locked then noteIgnored s
  else
    let src := s.get fltBase FLT_INJECT_SOURCE
    if !s.sourceExists src then s
    else acceptRaised src (s.get fltBase FLT_INJECT_KIND) (s.get fltBase FLT_INJECT_CLASS) (s.get fltBase FLT_INJECT_LEVEL) 0 0 s

/-- W1C of STICKY clears MAXCLASS and COUNT with it (R344). -/
def srcStatWritten (src : Nat) (v : BitVec 32) (s : State) : State :=
  if v.getLsbD 31 then
    let b := srcCfg src
    ((s.putFlag b FLT_SRC_STAT_STICKY false).put b FLT_SRC_STAT_MAXCLASS 0).put b FLT_SRC_STAT_COUNT 0
  else s

/-! ### Retention (R106, R350, R462) -/

/-- Keep a write address with its context, at most 512 for a channel. -/
def retainAddr (t off ctx : Nat) (s : State) : State :=
  let c := chanOf off
  let ch := s.chan t c
  if 512 ≤ ch.retained.length then s else s.setChan t c { ch with retained := ch.retained ++ [(off, ctx)] }

/-- A channel issues its accepted writes; the addresses of the last `n` are kept instead. -/
def issueWrites (t c n : Nat) (s : State) : State :=
  let ch := s.chan t c
  let now := ch.writes.take (ch.writes.length - n)
  let kept := ch.writes.drop (ch.writes.length - n)
  let s := drainChan t c (s.setChan t c { ch with writes := now, reads := [] })
  forEach kept (fun (e : WriteEntry) u => retainAddr t e.off e.ctx u) s

/-- A way that takes a buffered line's sector, with the line dirty and WBP set. -/
def Way.withVictim (w : Way) (v : Victim) : Way :=
  let i := basinLine v.off
  { w with
    valid := true, tag := sectorOf v.off, present := w.present ||| bit32 i, dirty := w.dirty ||| bit32 i, wbp := true
    lines := Sparse.set (fun _ => {}) w.lines i v.line }

/-- Put a buffered line back into its set, in the first place of R106 that exists. -/
def returnVictim (t j : Nat) (v : Victim) (s : State) : State :=
  let n := setNo v.off
  match s.findWay t j n (sectorOf v.off) with
  | some w =>
    let x := s.way t j n w
    if x.dirty.getLsbD (basinLine v.off) then s else s.setWay t j n w (x.withVictim v)
  | none =>
    let free := (upto 16).find? (fun w => !(s.way t j n w).valid)
    let clean := (upto 16).find? (fun w => decide ((s.way t j n w).dirty = 0) && !(s.way t j n w).wbp)
    match (match free with | some w => some w | none => clean) with
    | some w => s.setWay t j n w ((({ cls := v.cls } : Way)).withVictim v)
    | none => retainAddr t v.off v.line.ctx s

/-- Every victim buffer of a tier is returned. -/
def returnVictims (t : Nat) (s : State) : State :=
  forEach (upto 16) (fun j u =>
    let l := (u.slice t j).victims
    let u := forEach l (fun v w => returnVictim t j v w) u
    u.setSlice t j { u.slice t j with victims := [] }) s

/-! ### Stop (R350, R351) -/

/-- Channels of a tier whose self-refresh entry is not confirmed: those with a rank that is not fenced. -/
def State.notConfirmed (s : State) (t : Nat) (confirmed : Nat → Bool) : Bool :=
  (s.tier t).cap ≠ 0 && (upto 4).any (fun c => !confirmed c && (upto 4).any (fun k => !s.fenced t c k))

/-- The level and address of a record that names a tier. -/
def raiseTier (src kind t : Nat) (s : State) : State := raise src kind 4 (poolAddr s.pkg t 0) 0 s

/-- A Stop or a reset abandons a change of operating point and the gathering of training data; a pending change is discarded and
the point before the change is kept (R146). -/
def abandonChange (t c : Nat) (s : State) : State :=
  let s := (s.putFlag (drcBase t c) DRC_OP_STATUS_CHANGING false).putFlag (drcBase t c) DRC_OP_STATUS_PEND false
  let s := s.setChan t c { s.chan t c with target := none, beforeChange := none }
  finishOpWaits (endTraining t c s)

/-- A tier at a Stop: writes issued or their addresses kept, victims returned, basin and ranks in self-refresh; an entry that is
not confirmed is recorded. -/
def stopTier (t : Nat) (unissued : List (Nat × Nat × Nat)) (confirmed : BitVec 32) (s : State) : State :=
  let count (c : Nat) : Nat := match unissued.find? (fun e => e.1 = t && e.2.1 = c) with | some e => e.2.2 | none => 0
  let s := forEach (upto 4) (fun c u => issueWrites t c (count c) u) s
  let s := ranksToSr t (basinToSr t (returnVictims t s))
  let s := forEach (upto 4) (fun c u => abandonChange t c u) s
  if s.notConfirmed t (fun c => confirmed.getLsbD (t * 4 + c)) then
    raiseTier (tierSource t 46) 0 t (s.setTier t { s.tier t with unconfirmed := true })
  else s

/-- The package halts at this Stop (R351). -/
def State.stopHalts (s : State) (t0 : Nat) : Bool :=
  let n := s.get fltBase FLT_CFG_STOP_MAX
  let last := s.flt.recoveries.drop (s.flt.recoveries.length - n)
  n ≠ 0 && last.length = n && last.all (fun a => decide (t0 < a + 60000000))

/-- STOP (Table FLT-7): from the acceptance of the record to the warm reset, or to the halt. -/
def execStop (unissued : List (Nat × Nat × Nat)) (confirmed : BitVec 32) (s : State) : Host.Outcome State Fault Refusal :=
  match s.flt.reaction with
  | .stop n t0 =>
    if s.flt.stopped || s.flag fltBase FLT_STATUS_HALTED then .next s
    else
      let s := { s with held := [], remote := [] }
      let s := forEach (s.tierList.filter (fun t => (s.tier t).power ≠ 3)) (fun t u => stopTier t unissued confirmed u) s
      let s := (s.count (fltBase + 0x48) 1).putFlag fltBase FLT_STATUS_STOP_SEEN true
      let s := match s.flt.queue.find? (fun r => r.recnum = n) with
        | some r => if s.toRill r then
            mapRecord n (fun r => r.mark 3) (rillSend (s.get rilBase RIL_STATUS_MGR) 0x40 (r.words ++ r.tail) s) else s
        | none => s
      if s.stopHalts t0 then
        .next (forEach s.portList (fun p u => dropLink p 8 u) (s.putFlag fltBase FLT_STATUS_HALTED true))
      else
        let s := setSysReady false (s.put glbBase GLB_RESET_CAUSE_CAUSE 4)
        .next (forEach s.portList (fun p u => dropLink p 0 u) { s with flt := { s.flt with stopped := true } })
  | _ => .next s

/-! ### Lockdown (R352) -/

/-- Everything in flight in channels, slices and links is gone. -/
def discardQueues (s : State) : State :=
  { s with
    chans := Sparse.mapVals (fun _ => {}) (fun _ (c : Chan) => { c with writes := [], reads := [] }) s.chans
    slices := Sparse.mapVals (fun _ => {}) (fun _ (x : Slice) => { x with victims := [] }) s.slices
    migrations := [], commits := [], drains := [] }

/-- LOCKDOWN (Table FLT-8): transmitters idle, queued writes discarded, keys zeroised, Services halted, the one shutdown record
written. A fuse request not yet written completes with ABORTED (Table OTP-11). -/
def execLockdown (s : State) : Host.Outcome State Fault Refusal :=
  match s.flt.reaction with
  | .lockdown n =>
    if s.flt.lockedDown || s.pkgMode.mode ≠ .up then .next s
    else
      let s := zeroKeys (discardQueues (dropWork s))
      let s := forEach s.portList (fun p u => u.setReg (hptBase p + 8) 0) s
      let s := forEach (upto 8) (fun a u => u.put (aqdBase a) AQD_STATUS_STATE 0) s
      let event := match s.flt.queue.find? (fun r => r.recnum = n) with | some r => r.words ++ r.tail | none => []
      let s := writeShutdown 2 event s
      let s := if s.flag otpBase OTP_PROG_RESULT_BUSY then endProg 7 s else s
      let s := tearFlash (setSysReady false s)
      let m := s.mgmt
      let s := { s with
        flt := { s.flt with lockedDown := true, stopped := false, msixPending := false }
        mgmt := { m with services := false, fwDesc := none, activation := none, staging := none, gateDone := none }
        dbg := { s.dbg with unlocked := false, response := none, nonce := none } }
      .next (s.put mgtBase MGT_STATUS_MODE 4)
  | _ => .next s

end Sys2Proof.Machine
end

