-- ==== Sys2Proof/Machine/Reset.lean ====
section
/-! DEFINITION. Resets of a die, a tier and the package, and the recoveries from them (R459-R469, Tables RST-2 and
RST-4). -/

namespace Sys2Proof.Machine

/-! ### The sluice of a reset tier (R460) -/

/-- Requests held for a tier whose die goes down wait for its return. -/
def holdForDie (t : Nat) (s : State) : State :=
  { s with held := s.held.map (fun r =>
      if r.tier = t && (r.why = .queueFull || r.why = .victimFull || r.why = .rankHeld || r.why = .sweep || r.why = .tierAsleep)
      then { r with why := .dieReset } else r) }

/-- Descriptors a reset sluice was executing write no completion: tasks and pieces are dropped, migrations end early, changes
whose commit point had not come have no effect, and what was committed goes on without its descriptor. -/
def forgetDescs (mine : Fetched → Bool) (s : State) : State :=
  let gone := (s.fetched.filter mine).map (·.ref)
  let s := { s with
    fetched := s.fetched.filter (fun f => !mine f), tasks := s.tasks.filter (fun k => !gone.contains k.desc)
    pieces := s.pieces.filter (fun p => !gone.contains p.desc || s.migrations.any (fun m => m.desc = p.desc))
    commits := s.commits.filter (fun c => match c.1 with | some d => !gone.contains d | none => true)
    opWaits := s.opWaits.filter (fun w => !gone.contains w.desc)
    tierReqs := s.tierReqs.map (fun r => match r.desc with
      | some d => if gone.contains d then { r with desc := none } else r
      | none => r)
    releases := s.releases.map (fun r => match r.desc with
      | some d => if gone.contains d then { r with desc := none } else r
      | none => r)
    meter := { s.meter with waits := s.meter.waits.filter (fun w => !gone.contains w.desc) }
    pool := { s.pool with ops := s.pool.ops.filter (fun o => !gone.contains o.desc) } }
  forEach (s.migrations.filter (fun m => gone.contains m.desc)) (fun m u => endMigration m 0x0A u) s

/-- Rings that `p` selects are ABSENT; ring 0 with them clears SLU_ADMIN_CFG.ENABLE (Table SLU-5, R250). -/
def dropRings (p : Nat → Bool) (s : State) : State :=
  let s := { s with rings := Sparse.keep (fun r => !p r) s.rings, cplQ := s.cplQ.filter (fun c => !p c.ring) }
  if p 0 then s.putFlag sluBase SLU_ADMIN_CFG_ENABLE false else s

/-- Weir state of the dies that are reset (R213). -/
def resetWeirs (tiers : List Nat) (s : State) : State :=
  { s with
    chanWeirs := Sparse.keep (fun k => !tiers.contains (k / 4)) s.chanWeirs
    portWeirs := Sparse.keep (fun k => !tiers.contains (portTier k)) s.portWeirs }

/-- Channel state in port-die SRAM: open rows, trackers, penalties and retry buffers. -/
def clearChans (t : Nat) (s : State) : State :=
  forEach (upto 4) (fun c u => u.setChan t c { u.chan t c with
    banks := [], penalties := [], retry := [], writeMode := false, lastGroup := 0 }) s

/-! ### A port die and an engine die go down -/

/-- Requests aimed at the tier are held from now (R462). A die that goes down while the other is in reset joins that reset (R461). -/
def beginReset (t : Nat) (s : State) : State :=
  let x := s.tier t
  let s := if x.portReset || x.engReset then s
    else s.setTier t { x with resetAt := s.us, holdOver := false, reported := [], pllFail := false }
  holdForDie t s

/-- Port-die reset (R462): ranks in self-refresh, unissued write addresses retained, victims returned, ports down; rings of the
tier go to ERROR because their DMA ports go down (Table SLU-5). -/
def downPort (t : Nat) (confirmed : BitVec 4) (unissued : List (Nat × Nat)) (s : State) : State :=
  let count (c : Nat) : Nat := match unissued.find? (fun e => e.1 = c) with | some e => e.2 | none => 0
  let s := beginReset t s
  let s := forEach (upto 4) (fun c u => issueWrites t c (count c) u) s
  let s := ranksToSr t (returnVictims t s)
  let s := forEach (upto 4) (fun c u => abandonChange t c u) s
  let x := s.tier t
  let s := s.setTier t { x with
    portReset := true, freezeDue := true, unconfirmed := x.unconfirmed || s.notConfirmed t (fun c => confirmed.getLsbD c) }
  let s := forEach (s.portList.filter (fun p => portTier p = t)) (fun p u => dropLink p 0 u) s
  let hit := s.rings.filter (fun r => portTier r.2.dmaPort = t && decide (r.2.state ≠ .absent))
  let s := forEach hit (fun r u => u.setRing r.1 { u.ring r.1 with state := .error, cause := 5 }) s
  resetWeirs [t] (clearChans t s)

/-- Jets after a reset of their die: idle, firmware reloading, trips and retirement kept. -/
def resetJets (t : Nat) (s : State) : State :=
  forEach (upto 16) (fun j u => u.setJet t j { u.jet t j with
    gated := false, idleSince := u.us, resetTill := u.us + 1000, reload := false, testing := false, halted := false }) s

/-- Engine-die reset (R460, R465): the basin in self-refresh, the sluice's descriptors forgotten, tasks of other sluices with pieces
there ABORTED, its rings ABSENT, its meter records marked. -/
def downEngine (t : Nat) (s : State) : State :=
  let s := basinToSr t (beginReset t s)
  let s := s.setTier t { s.tier t with engReset := true }
  let s := forgetDescs (fun f => f.tier = t) s
  let others := ((s.pieces.filter (fun p => p.tier = t)).map (·.desc)).dedup
  let s := forEach others (fun d u => endWork d 0x0A u) s
  let s := dropRings (fun r => portTier (s.ring r).dmaPort = t) s
  let s := forEach (upto 16) (fun j u => u.setSlice t j { u.slice t j with heat := [], sampleCount := 0 }) s
  resetJets t (resetMeters [t] s)

/-! ### GLB_RESET_CTL (R461, R469) -/

/-- The effect of a write: ENG_HOLD always; then the scope asked for, with the causes of Table RST-6. -/
def resetCtlWritten (v : BitVec 32) (confirmed : BitVec 4) (unissued : List (Nat × Nat)) (s : State) : State :=
  let s := s.put glbBase GLB_RESET_CTL_ENG_HOLD (bitsAt v.toNat 23 16)
  let t := bitsAt v.toNat 10 8
  let scope := bitsAt v.toNat 1 0
  if bitsAt v.toNat 31 24 ≠ 0xA5 || scope = 0 || s.nTiers ≤ t || (s.tier t).power = 3 then noteIgnored s
  else
    let s := if (s.tier t).power = 2 then wakeT2 t (Config.freeWord s.fresh).toNat s.drawn else s
    let s := if (s.tier t).power = 1 then wakeTier t s else s
    let port := scope ≠ 3 && !(s.tier t).portReset
    let eng := scope ≠ 2 && !(s.tier t).engReset
    let s := if port then downPort t confirmed unissued s else s
    let s := if eng then downEngine t s else s
    let x := s.tier t
    let cause := if x.portReset && x.engReset then 7 else if x.portReset then 8 else 9
    (s.put glbBase GLB_RESET_CAUSE_CAUSE cause).put glbBase GLB_RESET_CAUSE_TIER t

/-! ### Access paths (R470, R471) -/

/-- A path reaches the register arbiter: a control function's link is up; the debug system bus while a hart is open; MCTP while
Services runs. None under Lockdown. -/
def State.pathOpen (s : State) (p : Path) : Bool :=
  s.pkgMode.mode = .up && !s.flt.lockedDown && (match p with
    | .control n => n < 12 * s.nTiers && (s.port n).ctlfn && s.linkUp n
    | .debugBus => s.mpOpen || s.jetsOpen
    | .mctp => s.servicesRun)

/-- The value asks for this scope. -/
def resetScope (v : BitVec 32) (scope : Nat) : Bool := bitsAt v.toNat 1 0 = scope

/-- TIER_RESET (R461): SCOPE 1. -/
def execTierReset (path : Path) (v : BitVec 32) (confirmed : BitVec 4) (unissued : List (Nat × Nat)) (s : State) :
    Host.Outcome State Fault Refusal :=
  .next (if s.pathOpen path && resetScope v 1 && !(s.tier 0).portReset then resetCtlWritten v confirmed unissued s else s)

/-- PORT_DIE_RESET (R462): SCOPE 2. -/
def execPortDieReset (path : Path) (v : BitVec 32) (confirmed : BitVec 4) (unissued : List (Nat × Nat)) (s : State) :
    Host.Outcome State Fault Refusal :=
  .next (if s.pathOpen path && resetScope v 2 && !(s.tier 0).portReset then resetCtlWritten v confirmed unissued s else s)

/-- ENGINE_DIE_RESET (R465): SCOPE 3. -/
def execEngineDieReset (path : Path) (v : BitVec 32) (s : State) : Host.Outcome State Fault Refusal :=
  .next (if s.pathOpen path && resetScope v 3 && !(s.tier 0).portReset then resetCtlWritten v 0 [] s else s)

/-! ### Return -/

/-- The access of a line that recovery marks: its owner, where one maps it. -/
def State.ownerAcc (s : State) (t off ctx : Nat) : Acc :=
  match s.ownerOf t (extOf off) with
  | some (c, idx) =>
    { t := t, off := off, ctx := c, key := 0, cls := 0, integ := false, dpa := (s.ctx c).wbase * 2 ^ 28 + idx * 2 ^ 21 + off % 2 ^ 21 }
  | none => { t := t, off := off, ctx := ctx, key := 0, cls := 0, integ := false }

/-- Each retained address becomes the poison marker and is listed, with one Contained record for each context that wrote. -/
def markRetained (t : Nat) (s : State) : State :=
  let l := (upto 4).flatMap (fun c => (s.chan t c).retained)
  let s := forEach l (fun e u => writeMarker { u.ownerAcc t e.1 e.2 with ctx := e.2 } u) s
  let s := forEach ((l.map (·.2)).dedup) (fun c u => raiseCtx (tierSource t 46) 1 c u) s
  forEach (upto 4) (fun c u => u.setChan t c { u.chan t c with retained := [] }) s

/-- Lines whose PEND bit is still set, by tag set, way and word. -/
def State.pendLines (s : State) (t : Nat) : List Nat :=
  (s.tagSets.filter (fun e => e.1 / 2 ^ 21 = t)).flatMap (fun e => e.2.ways.flatMap (fun w =>
    ((upto 16).filter (fun i => w.2.pend.getLsbD i)).map (fun i => (w.2.taghi * 2 ^ 21 + e.1 % 2 ^ 21) * 1024 + i * 64)))

/-- Pending tag lines (R186): the line becomes the marker and is listed; one Contained event per context. -/
def markPending (t : Nat) (s : State) : State :=
  let l := s.pendLines t
  let ctxOf (u : State) (o : Nat) : Nat := (u.ownerAcc t o 0).ctx
  let s := forEach l (fun o u => clearPend t o (writeMarker (u.ownerAcc t o 0) u)) s
  forEach ((l.map (ctxOf s)).dedup) (fun c u => raiseCtx (tierSource t 38) 4 c u) s

/-- Every rank returns with its retained set and the short check, or trains in full where the cistern was lost (R464). -/
def returnRanks (t : Nat) (f : Restart) (s : State) : State :=
  if (s.tier t).cap = 0 then s
  else if (s.tier t).lost then
    let s := forEach (upto 4) (fun c u => trainChan t c f u) s
    s.setTier t { s.tier t with lost := false }
  else forEach (upto 4) (fun c u => applyPolicy t c (reportChan t c (forEach (upto 4) (fun k v => rankShort t c k f.shortFail v) u))) s

/-- A context with a bound port on the tier or a VALID local extent there (R463). -/
def State.touches (s : State) (t c : Nat) : Bool :=
  (s.ctx c).portList.any (fun p => portTier p = t) ||
  s.exts.any (fun e => e.1 / 2 ^ 20 = c && e.2.valid && !e.2.remote && penTier e.2.pen = t)

/-- The end of a reset of the tier: both dies are back. The contexts of R463 are frozen, and held requests go on. -/
def endReset (t : Nat) (s : State) : State :=
  let x := s.tier t
  if x.portReset || x.engReset then s
  else
    let s := if x.freezeDue then
        let cs := (s.ctxs.filter (fun e => (decide (e.2.state = .live) || decide (e.2.state = .draining)) && s.touches t e.1)).map (·.1)
        { s with flt := { s.flt with freezes := s.flt.freezes ++ cs.filter (fun c => !s.flt.freezes.contains c) } }
      else s
    let s := s.setTier t { s.tier t with freezeDue := false, holdOver := (s.tier t).stFailed, started := !(s.tier t).stFailed }
    if (s.tier t).stFailed then s
    else retryHeld (fun r => decide (r.tier = t) && decide (r.why = HoldWhy.dieReset)) s

/-- What a port die does on return, in order (R462). -/
def upPort (t : Nat) (f : Restart) (s : State) : State :=
  let s := returnRanks t f (failCheckers t f.checkers s)
  let s := markPending t (markRetained t s)
  let s := s.setTier t { s.tier t with portReset := false }
  if (s.tier t).stFailed then s else startPorts t s

/-- What an engine die does on return, in order (R465). -/
def upEngine (t : Nat) (f : Restart) (s : State) : State :=
  let s := calibrate t (eyesOf t f) (resetJets t (failCheckers t f.checkers s))
  basinFromSr t (s.setTier t { s.tier t with engReset := false })

/-- PORT_DIE_RETURN (R462, R463). -/
def execPortDieReturn (t : Nat) (f : Restart) (s : State) : Host.Outcome State Fault Refusal :=
  .next (if !(s.tier t).portReset || (s.tier t).unconfirmed || s.reacting then s else endReset t (upPort t f s))

/-- ENGINE_DIE_RETURN (R465). -/
def execEngineDieReturn (t : Nat) (f : Restart) (s : State) : Host.Outcome State Fault Refusal :=
  .next (if !(s.tier t).engReset || s.reacting then s else endReset t (upEngine t f s))

/-- The hold limit of R462 and R465, in microseconds; 0 acts as 1. -/
def State.engHold (s : State) : Nat := max 1 (s.get glbBase GLB_RESET_CTL_ENG_HOLD) * 100

/-- DIE_RESET_HOLD_EXPIRY (R462, R465): at the limit the requests held for the tier complete with poison; at 1 ms those held for a
tier whose PLL did not lock do (R391). -/
def execDieResetHoldExpiry (t : Nat) (s : State) : Host.Outcome State Fault Refusal :=
  let x := s.tier t
  if s.reacting then .next s
  else if x.portReset || x.engReset then
    if x.holdOver || s.us < x.resetAt + s.engHold then .next s
    else
      let late := s.held.filter (fun (r : Req) => decide (r.tier = t) && decide (r.why = HoldWhy.dieReset))
      let s := { s with held := s.held.filter (fun (r : Req) => !(decide (r.tier = t) && decide (r.why = HoldWhy.dieReset))) }
      .next (forEach late expireReset (s.setTier t { x with holdOver := true }))
  else if x.pllFail then
    if s.us < x.resetAt + 1000 then .next s
    else
      let late := s.held.filter (fun (r : Req) => r.tier = t && r.why = .tierAsleep)
      let s := { s with held := s.held.filter (fun (r : Req) => !(r.tier = t && r.why = .tierAsleep)) }
      let s := forEach late expireReset s
      let s := if late = [] then s else raiseOpen (tierSource t 45) 1 s
      .next ((s.setTier t { s.tier t with pllFail := false }).putFlag pwrBase PWR_STATUS_WAKE_FAIL true)
  else .next s

/-! ### A cistern declared lost (R464) -/

/-- Every local extent-list entry that maps an extent takes RETIRED. -/
def retireEntries (pens : List Nat) (s : State) : State :=
  { s with exts := Sparse.mapVals (fun _ => {}) (fun _ (e : ExtEntry) =>
      if e.valid && !e.remote && pens.contains e.pen then { e with retired := true } else e) s.exts }

/-- Basin and victim-buffer lines of the extents that `p` selects are dropped. -/
def dropExtents (t : Nat) (p : Nat → Bool) (s : State) : State :=
  forEach (upto 16) (fun j u =>
    let sl := u.slice t j
    u.setSlice t j { sl with
      sets := Sparse.mapVals (fun _ => []) (fun _ (ws : Sparse Way) =>
        Sparse.mapVals (fun _ => {}) (fun _ (w : Way) => if w.valid && p (w.tag / 1024) then {} else w) ws) sl.sets
      victims := sl.victims.filter (fun v => !p (extOf v.off)) }) s

/-- CISTERN_DECLARED_LOST: the Degraded record is raised unless the Stop that could not confirm the entry has raised it. -/
def execCisternDeclaredLost (t : Nat) (s : State) : Host.Outcome State Fault Refusal :=
  if !(s.tier t).unconfirmed then .next s
  else
    let s := if s.flt.reaction = .none then raiseTier (tierSource t 46) 0 t s else s
    let exts := (s.alloc.filter (fun e => e.1 / 2 ^ 20 = t && e.2)).map (fun e => e.1 % 2 ^ 20)
    let exts := exts.filter (fun e => !s.isSpare t e && !s.withheld t e)
    let s := forEach exts (fun e u =>
      let own := u.ownerOf t e
      let dpa := match own with | some (c, idx) => (u.ctx c).wbase * 2 ^ 28 + idx * 2 ^ 21 | none => 0
      let u := listPoison t { pa := poolAddr u.pkg t (e * 2 ^ 21), extent := true, ctx := (own.map (·.1)).getD 0, dpa := dpa } u
      u.setValidLine t e { u.validLine t e with primaryBad := true, shadowBad := true }) s
    let s := retireEntries (exts.map (fun e => poolAddr s.pkg t (e * 2 ^ 21) / 2 ^ 21)) s
    let s := dropExtents t (fun e => exts.contains e) s
    let s := forEach (upto 4) (fun c u =>
      let ch := u.chan t c
      u.setChan t c { ch with
        trained := 0, ranks := Sparse.mapVals (fun _ => {}) (fun _ (r : Rank) => { r with lkg := 0 }) ch.ranks }) s
    .next (s.setTier t { s.tier t with lost := true, unconfirmed := false })

/-! ### Warm recovery (R467, Table CTX-5) -/

/-- A context after the warm reset: LIVE and DRAINING become FROZEN with FAULT_FROZEN (action (n)). -/
def warmCtx (c : Nat) (s : State) : State :=
  match (s.ctx c).state with
  | .live | .draining =>
    let s := enterState c .frozen s
    s.setCtx c { s.ctx c with faultFrozen := true }
  | _ => s

/-- Everything the warm reset takes from sluices, rings, jets and weirs. -/
def warmClear (s : State) : State :=
  let s := forgetDescs (fun _ => true) { s with held := [], remote := [] }
  let s := forEach s.drains (fun (x : Drain) u => finishDrain x.desc x.next u) { s with drains := [] }
  let s := { s with
    tasks := [], pieces := [], cplQ := [], commits := [], opWaits := [], tierReqs := [], chanWeirs := [], portWeirs := []
    missPending := false }
  let s := dropRings (fun _ => true) s
  resetMeters s.tierList s

/-- A tier recovers as from a tier reset. A tier in T3 stays there. -/
def warmTier (t : Nat) (f : Restart) (s : State) : State :=
  if (s.tier t).power = 3 then s
  else
    let x := s.tier t
    let s := { s with
      updateLog := Sparse.set (fun _ => 0) s.updateLog t 0, wakeReq := Sparse.set (fun _ => false) s.wakeReq t false }
    let s := s.setTier t { x with
      power := 0, portReset := false, engReset := false, holdOver := false, pllFail := false, freezeDue := false, started := true
      idleSince := s.us }
    let s := failCheckers t f.checkers s
    let s := markPending t (markRetained t (returnRanks t f (clearChans t s)))
    let s := calibrate t (eyesOf t f) (resetJets t s)
    let s := forEach (upto 16) (fun j u => u.setSlice t j { u.slice t j with heat := [], sampleCount := 0 }) s
    basinFromSr t s

/-- WARM_RECOVERY: the Stop record's reaction is done (Table FLT-5), its hosts find a Fatal event, the pool is rejoined warm
(R289). -/
def execWarmRecovery (f : Restart) (s : State) : Host.Outcome State Fault Refusal :=
  match s.flt.reaction with
  | .stop n _ =>
    if !s.flt.stopped || s.tierList.any (fun t => (s.tier t).unconfirmed) then .next s
    else
      let s := warmClear s
      let s := forEach s.tierList (fun t u => warmTier t f u) s
      let s := { s with flt := { s.flt with reaction := .none, stopped := false, freezes := [], recoveries := s.flt.recoveries ++ [s.us] } }
      let s := forEach (s.ctxs.map (·.1)) warmCtx s
      let s := resumeAll s
      let s := s.dbgSet { s.dbg with hartsel := 0, ndmreset := false }
      let s := forEach (s.portList.filter (fun p => s.hostPort p)) (fun p u => placeEvent p 3 { kind := 2 } u) s
      let s := mapRecord n (fun r => (r.mark 0).mark 2) s
      let s := s.poolSet { s.pool with rejoin := some false }
      let s := setSysReady true s
      .next (forEach s.tierList (fun t u => if (u.tier t).stFailed || (u.tier t).power = 3 then u else startPorts t u) s)
  | _ => .next s

end Sys2Proof.Machine
end

