-- ==== Sys2Proof/Machine/Package.lean ====
section
/-! DEFINITION. Package power: rails, PORST_N, the power-on sequence and the wake from P4 (R392, R440-R447, R457, R458,
Table RST-1). -/

namespace Sys2Proof.Machine

/-! ### What a loss of power leaves -/

/-- The package as a power-on finds it (Table RST-2, row Power-on): fuses, flash, boot record and pins are kept, with what the
configuration store records; the time base too unless VDD_AON fell. Everything else is at its reset value. -/
def powerDown (keepTime : Bool) (cause : Nat) (s0 : State) : State :=
  let s := tearFlash s0
  let m := s.mgmt
  let p := s.pkgMode
  let reps : Sparse Repair := Sparse.mapVals (fun _ => {})
    (fun _ (r : Repair) => ({ fuses := r.fuses, queued := r.queued, hard := r.hard, fuseFullTold := r.fuseFullTold } : Repair)) s.repair
  let chans : Sparse Chan := Sparse.mapVals (fun _ => {}) (fun _ (c : Chan) =>
    ({ ranks := Sparse.mapVals (fun _ => {}) (fun _ (k : Rank) => ({ hpprUsed := k.hpprUsed } : Rank)) c.ranks } : Chan)) s.chans
  { pending := s.pending, out := s.out, fresh := s.fresh
    us := if keepTime then s.us else 0
    frac := if keepTime then s.frac else 0
    refPresent := s.refPresent
    xtalRunning := keepTime && s.xtalRunning
    regs := if keepTime then Sparse.set regReset [] (pwrBase + 0x18) (s.reg (pwrBase + 0x18)) else []
    perstLow := s.perstLow, fuses := s.fuses, arb := s.arb
    flash := { s.flash with ram := [], calNew := none }
    mgmt := { bankA := m.bankA, bankB := m.bankB, boot0 := m.boot0, boot1 := m.boot1, activated := m.activated }
    repair := reps, chans := chans
    badExt := Sparse.mapVals (fun _ => 0) (fun _ v => if v = 1 then 1 else 0) s.badExt
    retiredSets := s.retiredSets
    pool := { stored := s.pool.stored, rejoin := if s.pool.stored.isSome then some true else none }
    pkgMode :=
      { mode := if p.railEn then .rails else .aon, railEn := p.railEn, railAt := if keepTime then p.railAt else 0
        cause := cause, fresh := !keepTime || p.fresh, scan := keepTime && p.scan, sysReady := p.sysReady
        thermtrip := p.thermtrip, badRails := p.badRails, tripped := p.tripped } }

/-! ### RAIL_EN (R443) -/

/-- RAIL_EN_RELEASE: 2 ms after VDD_AON came into tolerance, 1 s after a failed attempt. Not under Lockdown (R444). -/
def execRailEnRelease (s : State) : Host.Outcome State Fault Refusal :=
  let p := s.pkgMode
  let gap := if p.attempts = 0 then 2000 else 1000000
  if p.mode ≠ .aon || p.asleep || s.flt.lockedDown || s.us < p.railAt + gap then .next s
  else
    let s := setRailEn true s
    .next { s with pkgMode := { s.pkgMode with mode := .rails } }

/-- RAIL_TOLERANCE_TIMEOUT: 100 ms after the release a rail is not within tolerance; after the third attempt, or the one of a wake
cause, the package stays in P4. -/
def execRailToleranceTimeout (s : State) : Host.Outcome State Fault Refusal :=
  let p := s.pkgMode
  if p.mode ≠ .rails || p.waking || s.us < p.railAt + 100000 then .next s
  else
    let s := setRailEn false s
    let n := p.attempts + 1
    let s := { s with pkgMode := { s.pkgMode with mode := .aon, attempts := min n 3, asleep := decide (3 ≤ n) } }
    .next (if 3 ≤ n then s.putFlag pwrBase PWR_STATUS_WAKE_FAIL true else s)

/-! ### Rails that fail (R444) -/

/-- RAIL_OUT_OF_BAND: a rail has been outside its band for 100 microseconds, or is back. -/
def execRailOutOfBand (rail : Nat) (back : Bool) (s : State) : Host.Outcome State Fault Refusal :=
  if 8 < rail || s.pkgMode.mode ≠ .up then .next s
  else
    let was := s.pkgMode.badRails.contains rail
    let l := if back then s.pkgMode.badRails.erase rail else if was then s.pkgMode.badRails else rail :: s.pkgMode.badRails
    let s := setLive 0x00F (l ≠ []) { s with pkgMode := { s.pkgMode with badRails := l } }
    .next (if back || was then s else raiseOpen 0x00F 0 s)

/-- VOLTAGE_GLITCH: Lockdown. -/
def execVoltageGlitch (s : State) : Host.Outcome State Fault Refusal :=
  .next (if s.pkgMode.mode = .up then raiseOpen 0x002 0 s else s)

/-- MAIN_RAIL_LOSS: keys zeroised, RAIL_EN and SYS_READY low. Lockdown and thermal shutdown are not ended and keep RAIL_EN low;
otherwise a power-on that keeps the time base follows. -/
def execMainRailLoss (s : State) : Host.Outcome State Fault Refusal :=
  if s.pkgMode.mode = .aon || s.pkgMode.mode = .rails then .next s
  else
    let s := setSysReady false (setRailEn false (zeroKeys s))
    .next (if s.pkgMode.mode = .shutdown then s
    else if s.flt.lockedDown then { s with pkgMode := { s.pkgMode with mode := .aon } }
    else powerDown true 2 s)

/-- VDD_AON_LOSS: every state is lost, the time base included; the next rise of VDD_AON is a power-on. -/
def execVddAonLoss (s : State) : Host.Outcome State Fault Refusal :=
  .next (powerDown false 0 (setThermtrip false (setSysReady false (setRailEn false s))))

/-! ### PORST_N (R441) -/

/-- PORST_N_FALL. -/
def execPorstNFall (s : State) : Host.Outcome State Fault Refusal :=
  .next (if s.pkgMode.porstLow.isSome then s else { s with pkgMode := { s.pkgMode with porstLow := some s.us } })

/-- PORST_N_RISE: below 100 microseconds nothing; from 1 ms a power-on that keeps the time base, except under Lockdown and thermal
shutdown, which it does not end; between them the manual calls the effect undefined. -/
def execPorstNRise (s : State) : Host.Outcome State Fault Refusal :=
  match s.pkgMode.porstLow with
  | none => .next s
  | some a =>
    let s := { s with pkgMode := { s.pkgMode with porstLow := none } }
    if s.us < a + 100 then .next s
    else if s.us < a + 1000 then .fault .porstPulseUndefined
    else if s.flt.lockedDown || s.pkgMode.mode = .shutdown then .next s
    else .next (powerDown true 1 (setSysReady false s))

/-! ### The power-on sequence (R457, Table RST-1) -/

/-- Hard repairs (R150): at most four on a channel; a row whose bank group has no hPPR resource left leaves the record. -/
def hardRepairs (t c : Nat) (s : State) : State :=
  let rows := (s.rep t).hard.filter (fun r => r.chan = c)
  let step (r : PprRow) (x : State × Nat) : State × Nat :=
    if 4 ≤ x.2 then x
    else
      let u := x.1.setRep t { x.1.rep t with hard := (x.1.rep t).hard.erase r }
      let k := u.rank t c r.rank
      if k.hpprUsed.getLsbD r.group then
        (raise (tierSource t (12 + c)) 7 2 (poolAddr u.pkg t (rankOff c r.rank)) 0 (drcErr t c 6 u), x.2)
      else
        ((u.setRank t c r.rank { k with hpprUsed := k.hpprUsed ||| BitVec.ofNat 8 (2 ^ r.group) }).count (drcBase t c + 0x60) 1, x.2 + 1)
  (forEach rows step (s, 0)).1

/-- The RDIMMs of a tier (R119, R120, R128, R148). -/
def takeDimms (t : Nat) (d : DimmInfo) (s : State) : State :=
  let ok := decide (d.bad = 0) && decide (0 < d.cap)
  let s := s.setTier t { s.tier t with cap := if ok then d.cap else 0, density := if ok then d.density else 0 }
  let s := forEach (upto 4) (fun c u =>
    let u := u.setChan t c { u.chan t c with
      raaimt := d.raaimt, raammt := d.raammt, rfmRequired := d.rfm, rated := min 3 (d.rated.getD c 0) }
    forEach (d.optab.take 16).zipIdx (fun w v => v.setReg (drcBase t c + 0x100 + 4 * w.2) (w.1.zeroExtend 64)) u) s
  if ok then s else raise (tierSource t 12) 8 4 (poolAddr s.pkg t 0) d.bad s

/-- The tag base (R183): fifteen sixteenths of the populated capacity while TAG_EN is set. -/
def setTagBase (t : Nat) (s : State) : State :=
  let tags := s.flag (scrBase t) SCR_TIER_CFG_TAG_EN
  s.put (scrBase t) SCR_TAG_BASE_TB_EXT (if tags then (s.tier t).cap / 2 ^ 21 / 16 * 15 else 0)

/-- Withheld extents keep their allocation bit (R331). -/
def restoreWithheld (t : Nat) (s : State) : State :=
  forEach (s.badExt.filter (fun e => e.1 / 2 ^ 20 = t && e.2 = 1)) (fun e u => u.setAlloc t (e.1 % 2 ^ 20) true) s

/-- The tier steps: PLLs, checker self-test, repairs, calibration, drift, training, hard repairs, spares, tag base. -/
def tierUp (t : Nat) (f : PowerOnFacts) (s : State) : State :=
  if f.pllFail.contains t then
    raiseOpen (tierSource t 45) 0 ((s.setTier t { s.tier t with power := 3 }).putFlag pwrBase PWR_STATUS_PLL_FAIL true)
  else
    let s := failCheckers t f.restart.checkers s
    if (s.tier t).stFailed || s.pkgMode.scan then s
    else
      let s := calibrate t (eyesOf t f.restart) (applyRepairs t s)
      let s := match f.drift.find? (fun x => x.1 = t) with
        | some x => noteDrift t x.2.1 x.2.2 s
        | none => s
      let s := if (s.tier t).cap = 0 then s
        else forEach (upto 4) (fun c u => hardRepairs t c (trainChan t c f.restart u)) s
      let s := restoreWithheld t (reserveSpares t (setTagBase t s))
      s.setTier t { s.tier t with started := true, idleSince := s.us }

/-- What Services takes from the configuration store (R379, R446, R478). -/
def takeConfig (s : State) : State := forEach s.flash.overrides (fun e u => u.setReg e.1 e.2) s

/-- Port groups whose PERST_N is deasserted start to train when SYS_READY rises (R440). -/
def groupsUp (s : State) : State :=
  forEach (upto (3 * s.nTiers)) (fun g u =>
    if Sparse.get (fun _ => false) u.perstLow g then u else groupUp g (u.flash.sris.contains g) u) s

/-- From fuse sensing to SYS_READY. The sequence ends after the ROM step where no image is started (R362, Table OTP-2), and
without ports in scan mode (R424). -/
def powerUp (f : PowerOnFacts) (s : State) : State :=
  let p := s.pkgMode
  let s := { s with
    pkgMode := { p with mode := .up, attempts := 0, asleep := false, waking := false, fresh := false, scan := (p.fresh || p.scan) && f.testLow }
    fuses := Sparse.mapVals fuseFactory (fun _ (w : FuseWord) => { w with sense := 0 }) s.fuses }
  let s := forEach f.sense (fun e u => senseWord e.1 (if e.2 then 2 else 1) u) s
  let s := { s with wired := s.wiredFrom }
  let s := if s.deviceSecret then s else raiseOpen 0x001 1 s
  let s := bootRom f.mpOk (s.put glbBase GLB_RESET_CAUSE_CAUSE p.cause)
  if !s.servicesRun then s
  else
    let s := takeConfig (loadCal s)
    let s := forEach s.tierList (fun t u => match f.dimms.find? (fun d => d.tier = t) with
      | some d => takeDimms t d u
      | none => takeDimms t { tier := t, bad := 0xFF, cap := 0, density := 0, raaimt := 0, raammt := 0, rfm := false, rated := [], optab := [] } u) s
    let s := drawKey 0 s
    let s := s.mgmtSet { s.mgmt with jetImage := s.mgmt.running }
    let s := forEach s.tierList (fun t u => tierUp t f u) s
    if s.pkgMode.scan then s
    else
      let s := s.meterSet { s.meter with markAt := some s.us }
      groupsUp (setSysReady true (reportAll s))

/-- POWER_ON: once every rail has been within tolerance for 1 ms. Below 0 degrees the sequence waits, which is this command not
happening yet (R450). -/
def execPowerOn (f : PowerOnFacts) (s : State) : Host.Outcome State Fault Refusal :=
  let p := s.pkgMode
  if p.mode ≠ .rails || p.waking || p.porstLow.isSome || s.us < p.railAt + 1000 || f.cold then .next s
  else .next (powerUp f s)

/-- P4_WAKE_RAIL_CHECK (R392): every rail is within tolerance within 100 ms and the ROM boots, or the package returns to P4 with
WAKE_FAIL set. -/
def execP4WakeRailCheck (ok : Bool) (s : State) : Host.Outcome State Fault Refusal :=
  if s.pkgMode.mode ≠ .rails || !s.pkgMode.waking then .next s
  else if ok then
    let s := { s with pkgMode := { s.pkgMode with mode := .up, waking := false } }
    .next (bootRom true (s.putFlag pwrBase PWR_STATUS_P4_WAKE true))
  else
    let s := setRailEn false s
    .next ({ s with pkgMode := { s.pkgMode with mode := .aon, asleep := true, waking := false } }.putFlag pwrBase PWR_STATUS_WAKE_FAIL true)

end Sys2Proof.Machine
end

