-- ==== Sys2Proof/Machine/RegWrite.lean ====
section
/-! DEFINITION. The register arbiter: what a read of a set-up register shows and what a write does, over every access path
(R9-R13, R470-R478), and the commands that are writes of one register. -/

namespace Sys2Proof.Machine

/-! ### Paths and availability (R470-R474) -/

/-- The number a path's state is kept under (R472). -/
def pathNum : Path → Nat
  | .control p => p
  | .debugBus => 200
  | .mctp => 201

/-- The register at an offset: none for what Table REG-2 does not map, what no chapter lists, and an absent tier (R473). -/
def State.regOf (s : State) (o : Nat) : Option (RegRow × Nat) :=
  if 0x100000 ≤ o && s.nTiers ≤ o / 0x100000 - 1 then none else regAt o

/-- An offset in an engine-die block of a tier (Table REG-2). -/
def engineBlock (o : Nat) : Bool :=
  let rel := o % 0x100000
  (0x30000 ≤ rel && rel < 0x34000) || (0x50000 ≤ rel && rel < 0x60000)

/-- The block's die is in reset, or its tier in T3 (R474). Package blocks stay in T3; PWR lies in the always-on domain. -/
def State.blockDown (s : State) (o : Nat) : Bool :=
  if o < 0x100000 then o / 0x10000 ≠ 2 && (s.tier 0).portReset
  else
    let x := s.tier (o / 0x100000 - 1)
    x.power = 3 || x.stFailed || (if engineBlock o then x.engReset else x.portReset)

/-! ### What registers read (tables of the defining chapters) -/

/-- A signed value in 12 bits. -/
def signed12 (x : Int) : Nat := (x.emod 4096).toNat

/-- The bits of a list of conditions, the first at bit `lo`. -/
def maskOf (n lo : Nat) (f : Nat → Bool) : Nat := ((upto n).map (fun i => ofBool (f i) * 2 ^ (lo + i))).sum

/-- GLB_REV.CODE (Table REG-4). -/
def State.orderCode (s : State) : Nat :=
  match s.nTiers with
  | 2 => if s.wired.mgr then 5 else 0
  | 4 => if s.wired.mgr then 2 else 1
  | _ => if s.wired.mgr then 4 else 3

/-- GLB_STATUS.TIER_READY, TIER_DOWN and CISTERN (Table REG-8). -/
def State.tierServes (s : State) (t : Nat) : Bool :=
  let x := s.tier t
  t < s.nTiers && x.started && !x.portReset && !x.engReset && !x.stFailed && x.power ≠ 3
def State.tierDown (s : State) (t : Nat) : Bool :=
  let x := s.tier t
  t < s.nTiers && (x.portReset || x.engReset || x.stFailed || x.power = 3)
def State.cisternServes (s : State) (t : Nat) : Bool :=
  t < s.nTiers && (s.tier t).cap ≠ 0 && (upto 4).any (fun c => (upto 4).any (fun k => !s.fenced t c k))

/-- Global registers (Tables REG-3 to REG-8). -/
def State.glbRead (s : State) (lo : Nat) : Nat :=
  let n := s.nTiers
  match lo with
  | 0x4 => s.orderCode * 2 ^ 5 + 1
  | 0x8 => 12 * n * 2 ^ 25 + (2 ^ n - 1) * 2 ^ 17 + n * 2 ^ 13 + ofBool s.wired.mgr * 2 ^ 12 + 8 * 2 ^ 8 + 4 * n
  | 0x14 => ofBool s.pkgMode.sysReady + maskOf 8 8 s.tierServes + maskOf 8 16 s.tierDown + maskOf 8 24 s.cisternServes
  | _ => (s.reg lo).toNat

/-- Management registers (Tables MGT-11 to MGT-15). -/
def State.mgtRead (s : State) (lo : Nat) : Nat :=
  match lo with
  | 0x8004 => setBits (s.reg lo).toNat 31 24 s.arbCount
  | 0x800C => setBits (setBits (s.reg lo).toNat 31 24 s.slotsFree) 23 15 (256 - s.flash.spared.length)
  | _ => (s.reg lo).toNat

/-- Some word is at its safe value (R408). -/
def State.someSafe (s : State) : Bool :=
  s.fuses.any (fun e => e.2.lost || (isMark e.1 && e.2.written && decide (e.2.data ≠ markValue e.1)))

/-- A word as OTP_RD_DATA shows it; words 112 to 117 hold the anti-rollback field (R416). -/
def State.otpWord (s : State) (n : Nat) : Nat :=
  if isSecret n then 0 else if 112 ≤ n && n < 118 then s.arb.toNat / 2 ^ (64 * (n - 112)) % 2 ^ 64 else (s.fuseUsed n).toNat
/-- OTP_RD_STATUS. -/
def State.otpWordStatus (s : State) (n : Nat) : Nat :=
  if isSecret n then 3 else if (s.fuse n).lost then 2 else if (s.fuse n).sense = 1 then 1 else 0

/-- Fuse registers (Tables OTP-6 to OTP-12) as a path with read address `rd` sees them. -/
def State.otpRead (s : State) (rd lo : Nat) : Nat :=
  match lo with
  | 0x10000 => s.arbCount * 2 ^ 8 + ofBool s.someSafe * 2 ^ 4 + ofBool (s.fuses.any (fun e => e.2.sense = 1)) * 2 ^ 3 + s.lifeCycle
  | 0x10004 => ofBool (s.secretPresent 96) * 2 ^ 7 + ofBool s.ownerLive * 2 ^ 6 + ofBool (s.secretPresent 104) * 2 ^ 5 +
      ofBool s.wired.mgr * 2 ^ 4 + (match s.wired.tiers with | 2 => 1 | 4 => 2 | 8 => 3 | _ => 0)
  | 0x10008 => s.wired.ports.toNat % 2 ^ 32
  | 0x1000C => s.wired.ports.toNat / 2 ^ 32 % 2 ^ 32
  | 0x10010 => s.wired.ports.toNat / 2 ^ 64 % 2 ^ 32
  | 0x10014 => 0
  | 0x10018 => ofBool s.featureLock * 2 ^ 16 + ofBool s.debugLock * 2 ^ 17 + ofBool s.slotLock * 2 ^ 18 +
      maskOf 4 12 s.slotRevoked + maskOf 4 8 s.slotValid + maskOf 4 4 s.slotIncomplete + maskOf 4 0 s.slotUsable
  | 0x1001C => ofBool s.ownerKey * 2 ^ 3 + ofBool s.scanDeployed * 2 ^ 2 + ofBool s.jetDbg * 2 + ofBool s.permOff
  | 0x1011C => s.otpWordStatus rd
  | 0x10120 => s.otpWord rd
  | _ => (s.reg lo).toNat

/-- A clock domain runs (R387, Table PWR-1); TCK runs while it is driven, which is free. -/
def State.domainRuns (s : State) (tck : Bool) (d : Nat) : Bool :=
  if d < 8 then
    match d with
    | 0 => true
    | 1 => s.refPresent
    | 3 => s.flag mgtBase MGT_STATUS_PLL
    | 4 => s.flash.busy ≠ 0
    | 6 => s.flag rilBase RIL_POOL_CFG_RING_A_EN || s.flag rilBase RIL_POOL_CFG_RING_B_EN
    | 7 => tck
    | _ => s.pkgMode.mode = .up
  else
    let t := (d - 8) / 7
    let x := s.tier t
    t < s.nTiers && (match (d - 8) % 7 with
      | 1 => (upto 12).any (fun i =>
          let l := s.ltssm (12 * t + i)
          l ≠ 6 && l ≠ 8) && x.power ≤ 2
      | 0 | 2 => x.power ≤ 2
      | 4 => x.power ≤ 1 && (upto 16).any (fun j => !(s.jet t j).gated)
      | _ => x.power ≤ 1)

/-- Power registers (Tables PWR-6 to PWR-11). -/
def State.pwrRead (s : State) (tck : Bool) (lo : Nat) : Nat :=
  match lo with
  | 0x2000C => ofBool s.inP3 * 2 ^ 16 + ((upto 8).map (fun t => if t < s.nTiers then (s.tier t).power * 2 ^ (2 * t) else 0)).sum
  | 0x20020 => s.us
  | 0x20028 => ofBool s.refPresent
  | 0x20030 => maskOf 64 0 (s.domainRuns tck)
  | 0x20038 => (s.flash.regulators.map (fun r => r.vout * r.iout)).sum / 100000 % 2 ^ 16
  | _ => (s.reg lo).toNat

/-- Heat registers (Tables THM-6 to THM-10); `sel`: the tier THM_SEL selects. -/
def State.thmRead (s : State) (sel lo : Nat) : Nat :=
  if lo = 0x30004 then setBit (s.reg lo).toNat 4 (decide (s.get mgtBase MGT_FLASH_STATUS_CAL = 0))
  else if 0x30010 ≤ lo && lo < 0x30030 then (if (lo - 0x30010) / 4 < s.nTiers then (s.reg lo).toNat else 0)
  else if 0x30040 ≤ lo && lo < 0x30080 then
    if sel < s.nTiers then
      let x : Sensor := Sparse.get (fun _ => {}) s.sensors (sel * 16 + (lo - 0x30040) / 4)
      ofBool x.suspect * 2 ^ 31 + signed12 x.offset.floor * 2 ^ 16 + signed12 x.reading
    else 0
  else (s.reg lo).toNat

/-- Fault registers (Tables FLT-9 to FLT-15). -/
def State.fltRead (s : State) (lo : Nat) : Nat :=
  if lo = 0x40004 then setBit (s.reg lo).toNat 1 (decide (s.flt.queue.length = 64))
  else if lo = 0x4000C then s.flt.queue.length
  else if lo = 0x40010 then s.flt.nextRec
  else if lo = 0x40014 then (match s.flt.queue with | [] => 0 | r :: _ => r.recnum)
  else if 0x40080 ≤ lo && lo < 0x400C0 then
    maskOf 32 0 (fun b => s.flag (srcCfg ((lo - 0x40080) / 4 * 32 + b)) FLT_SRC_STAT_STICKY)
  else (s.reg lo).toNat

/-- A ring's state as Table SLU-10 codes it. -/
def ringCode : RingState → Nat
  | .absent => 0
  | .running => 1
  | .stopped => 2
  | .error => 3

/-- Sluice registers (Tables SLU-8 to SLU-12); `sel`: the ring SLU_RING_SEL selects. -/
def State.sluRead (s : State) (sel lo : Nat) : Nat :=
  let g := s.ring sel
  match lo with
  | 0x50020 => g.expSeq % 256 * 2 ^ 24 + g.dmaPort % 128 * 2 ^ 17 + g.log2n % 32 * 2 ^ 12 + ofBool g.phase * 2 ^ 11 +
      g.cause % 8 * 2 ^ 8 + g.prio % 4 * 2 ^ 6 + ofBool g.tenant * 2 ^ 5 + ofBool g.polled * 2 ^ 4 +
      ofBool (decide (g.state ≠ .absent) && decide (s.ringLoad sel = 2 ^ g.log2n - 1)) * 2 ^ 3 + ringCode g.state
  | 0x50024 => g.ci % 65536 * 2 ^ 16 + g.pi % 65536
  | 0x50028 => g.cqWrite % 65536 * 2 ^ 16 + g.cqHead % 65536
  | _ => (s.reg lo).toNat

/-- Weir registers (Tables WEIR-5 to WEIR-10); `t` and `c`: the tier and channel WEIR_SEL selects. -/
def State.weirRead (s : State) (t c lo : Nat) : Nat :=
  let here := decide (t < s.nTiers)
  if 0x70040 ≤ lo && lo < 0x700C0 then (if (lo - 0x70040) / 16 < s.nTiers then (s.reg lo).toNat else 0)
  else if 0x70100 ≤ lo && lo < 0x70180 then
    let k := (lo - 0x70100) / 4
    if here then (s.chanClass t c (2 * k)).lat % 2 ^ 16 + (s.chanClass t c (2 * k + 1)).lat % 2 ^ 16 * 2 ^ 16 else 0
  else if 0x70180 ≤ lo && lo < 0x701A0 then
    let k := (lo - 0x70180) / 4
    if here then ((upto 8).map (fun i =>
      let x := s.chanClass t c (8 * k + i)
      (ofBool x.miss * 8 + x.step % 8) * 2 ^ (4 * i))).sum else 0
  else if lo = 0x701A0 then (if here then (s.chanWeir t c).pressCnt else 0)
  else if 0x70200 ≤ lo && lo < 0x70280 then
    let k := (lo - 0x70200) / 4
    let e (cls : Nat) : Nat := Sparse.get (fun _ => 0) s.effective (t * 64 + cls)
    if here then e (2 * k) % 2 ^ 16 + e (2 * k + 1) % 2 ^ 16 * 2 ^ 16 else 0
  else if 0x71000 ≤ lo && lo < 0x71400 then
    let k := (lo - 0x71000) / 4
    (s.cls (k / 4)).words.getD (k % 4) 0
  else (s.reg lo).toNat

/-- Rill registers (Tables RIL-2 to RIL-6). -/
def State.rilRead (s : State) (lo : Nat) : Nat :=
  match lo with
  | 0x90008 => setBit (s.reg lo).toNat 16 (s.flag mtrBase MTR_STATUS_UNSYNC)
  | 0x90010 => maskOf 16 0 (fun p => (s.member p).member) + maskOf 16 16 (fun p => (s.member p).current)
  | 0x90014 =>
    let m := s.member (s.get rilBase RIL_STATUS_MGR)
    m.hopsA % 16 + m.hopsB % 16 * 2 ^ 4
  | 0x9001C => s.pool.leasesHeld.length % 2 ^ 13 + s.pool.granted.length % 2 ^ 13 * 2 ^ 16
  | _ => (s.reg lo).toNat

/-- Debug registers (Tables DBG-5 and DBG-6). -/
def State.dbgRead (s : State) (lo : Nat) : Nat :=
  if lo = 0xA0000 then
    s.refusals * 2 ^ 28 + ofBool (s.flag dbgBase DBG_STATUS_REFUSED) * 2 ^ 9 + ofBool s.inBackoff * 2 ^ 8 +
    ofBool s.pkgMode.scan * 2 ^ 7 + ofBool s.scanOpen * 2 ^ 6 + ofBool s.jetsOpen * 2 ^ 5 + ofBool s.mpOpen * 2 ^ 4 +
    ofBool s.authBusy * 2 ^ 3 + s.accessCode
  else (s.reg lo).toNat

/-- Jet registers (Tables JET-5 to JET-9); the check-value unit's read 0 while it is not open. -/
def State.jetRead (s : State) (t lo : Nat) : Nat :=
  let rel := lo % 0x10000
  let op := s.cvuOpen t
  if rel = 0x0 then setBit (s.reg lo).toNat 31 op
  else if rel = 0x4 then setBits (s.reg lo).toNat 15 0 (maskOf 16 0 (fun j => (s.pieceOf t j).isSome))
  else if rel = 0x8 then
    (s.migrations.filter (fun m => m.phase = .copying && s.migTier m = t)).length % 64 * 2 ^ 16 + s.queuedPieces t % 2 ^ 13
  else if rel = 0x10 then (match s.mgmt.jetImage with | some i => i.sv % 256 | none => 0)
  else if rel = 0x100 then (if op then (s.reg lo).toNat else 0)
  else if rel = 0x108 || rel = 0x110 || rel = 0x118 then (if op then s.cvuReg t rel else 0)
  else if rel = 0x120 then (if op then s.cvuReg t 0x118 ^^^ s.cvuReg t 0x110 else 0)
  else (s.reg lo).toNat

/-- Registers of a tier block. -/
def State.tierRead (s : State) (lo : Nat) : Nat :=
  let t := lo / 0x100000 - 1
  let rel := lo % 0x100000
  if 0x50000 ≤ rel && rel < 0x60000 then s.jetRead t lo
  else if rel = 0x4400C then
    (if t = 0 then ((s.keys.filter (fun e => decide (1 ≤ e.1) && decide (e.1 ≤ 4095) && e.2.isSome)).length) % 4096 else 0)
  else (s.reg lo).toNat

/-- What the register at `lo` reads on a path, before the latch (R12). -/
def State.regShown (s : State) (p : PathState) (tck : Bool) (lo : Nat) : Nat :=
  if 0x100000 ≤ lo then s.tierRead lo
  else match lo / 0x10000 with
    | 0 => if lo < 0x8000 then s.glbRead lo else s.mgtRead lo
    | 1 => if lo = 0x10118 then p.otpRdAddr.toNat else s.otpRead (p.otpRdAddr.toNat % 1024) lo
    | 2 => s.pwrRead tck lo
    | 3 => if lo = 0x3000C then p.thmSel.toNat else s.thmRead (p.thmSel.toNat % 8) lo
    | 4 => s.fltRead lo
    | 5 => if lo = 0x50018 then p.ringSel.toNat else s.sluRead (p.ringSel.toNat % 65536) lo
    | 7 => if lo = 0x70028 then p.weirSel.toNat else s.weirRead (bitsAt p.weirSel.toNat 6 4) (p.weirSel.toNat % 4) lo
    | 9 => s.rilRead lo
    | 10 => s.dbgRead lo
    | _ => (s.reg lo).toNat

/-- A read of one word over a path: its value, and the latch (R12, R472). -/
def readReg (path : Path) (o : Nat) (s : State) : Word × State :=
  match s.regOf o with
  | none => (0, s)
  | some (r, lo) =>
    let p := s.path (pathNum path)
    let down := s.blockDown o
    let tck := (Config.freeWord s.fresh).getLsbD 0
    let v := if down then 0 else s.regShown p tck lo
    let s := if lo = 0x20030 && o = lo then s.drawn else s
    if !r.wide then (BitVec.ofNat 32 v, s)
    else if o = lo then
      (BitVec.ofNat 32 v, s.setPath (pathNum path) { p with latch := some (lo, BitVec.ofNat 32 (v / 2 ^ 32)) })
    else if down then (0, s)
    else match p.latch with
      | some (l, w) => (if l = lo then w else 0, s)
      | none => (0, s)

/-! ### Writes (R10, R11, R13, R477) -/

/-- A register after a write of `v`, by its access types: a locked RWL field keeps its value (R10). -/
def RegRow.written (r : RegRow) (locked : Bool) (old v : DWord) : DWord :=
  let m := if locked then r.rw else r.rw ||| r.rwl
  (((old &&& ~~~m) ||| (v &&& m)) &&& ~~~(v &&& r.w1c)) ||| (v &&& r.w1s)

/-- A locked RWL field would have changed (R477). -/
def RegRow.lockHit (r : RegRow) (locked : Bool) (old v : DWord) : Bool :=
  locked && decide (v &&& r.rwl ≠ old &&& r.rwl)

/-- OTP_PROG_CTL.GO (R412, Table OTP-10): none may be made once the set-up lock is set; one made while another is in progress is
ignored with a Note; operation 3 completes BAD_ADDR. -/
def progGo (s : State) : State :=
  if s.locked then noteLocked s
  else if s.flag otpBase OTP_PROG_RESULT_BUSY then noteIgnored s
  else if s.get otpBase OTP_PROG_ADDR_OP = 3 then endProg 2 s
  else s.putFlag otpBase OTP_PROG_RESULT_BUSY true

/-- GLB_SETUP_LOCK.LOCK (R477): a fuse request not yet written completes ABORTED. -/
def setupLocked (v : DWord) (s : State) : State :=
  if !v.getLsbD 0 || s.locked then s
  else
    let s := s.putFlag glbBase GLB_SETUP_LOCK_LOCK true
    if s.flag otpBase OTP_PROG_RESULT_BUSY then endProg 7 s else s

/-- The effect of a write of SCR_TIER_CFG (R184): the old spares are given back, and the tag base and the new spares follow. -/
def tagEnWritten (t : Nat) (on : Bool) (s : State) : State :=
  if s.flag (scrBase t) SCR_TIER_CFG_TAG_EN = on then s
  else if s.locked then noteLocked s
  else if s.alloc.any (fun e => e.1 / 2 ^ 20 = t && e.2 && !s.isSpare t (e.1 % 2 ^ 20)) then noteIgnored s
  else
    let top := s.extTop t
    let n := s.spareCount t
    let s := forEach (upto n) (fun i u => u.setAlloc t (top - n + i) false) s
    reserveSpares t (setTagBase t (s.putFlag (scrBase t) SCR_TIER_CFG_TAG_EN on))

/-- DRC_LP_TIMER with PD_TIMER in its range (Table DRC-10). -/
def clampPd (v : Nat) : Nat := setBits v 12 0 (max 16 (min 4096 (v % 8192)))

/-- Set a window selector of a path (R472). -/
def setSelector (path : Path) (lo : Nat) (v : Word) (s : State) : State :=
  let p := s.path (pathNum path)
  s.setPath (pathNum path) (
    if lo = 0x70028 then { p with weirSel := v &&& 0x73 }
    else if lo = 0x3000C then { p with thmSel := v &&& 0x7 }
    else if lo = 0x50018 then { p with ringSel := v &&& 0xFFFF }
    else { p with otpRdAddr := v &&& 0x3FF })

/-- A write to a package register: `new` is the register as the access types leave it. -/
def pkgWritten (path : Path) (lo : Nat) (v old new : DWord) (s : State) : State :=
  let w := v.truncate 32
  let kept := s.setReg lo new
  if lo = 0x10 then setupLocked v s
  else if lo = 0x100 then resetCtlWritten w 15 [] s
  else if lo = 0x8014 then mgtCtlWritten w s
  else if lo = 0x10110 then (if w.getLsbD 0 then progGo s else s)
  else if lo = 0x20008 then (if w.getLsbD 31 then tierCtlGo kept else kept)
  else if lo = 0x20010 then (if w.getLsbD 0 then enterP4 s else s)
  else if lo = 0x40008 then fltCtlWritten path w s
  else if lo = 0x40018 then (if w.getLsbD 31 then injectGo kept else kept)
  else if 0x42000 ≤ lo && lo < 0x42800 then srcStatWritten ((lo - 0x42000) / 4) w s
  else if lo = 0x50000 then adminCfgWritten w s
  else if lo = 0x50008 || lo = 0x50010 then (if s.flag sluBase SLU_ADMIN_CFG_ENABLE then s else kept)
  else if 0x50400 < lo && lo < 0x50600 then grantWritten ((lo - 0x50400) / 4) w s
  else if lo = 0x70000 then reportAll kept
  else if lo = 0x90000 then (if w.getLsbD 31 then formPool (kept.get rilBase RIL_POOL_CFG_PKG) kept else kept)
  else if lo = 0x90020 then rilLoopWritten old.toNat new.toNat s
  else if lo = 0xA0004 then relockWritten w s
  else kept

/-- A write to a tier register. -/
def tierWritten (lo : Nat) (v old new : DWord) (s : State) : State :=
  let t := lo / 0x100000 - 1
  let rel := lo % 0x100000
  let w := v.truncate 32
  let kept := s.setReg lo new
  if rel < 0xC000 then
    let p := 12 * t + rel / 0x1000
    if rel % 0x1000 = 0x0 then portCfgWritten p old.toNat new.toNat s
    else if rel % 0x1000 = 0x4 then (if w.getLsbD 0 then retrainPort p kept else kept)
    else if rel % 0x1000 = 0x10 then portLoopWritten p old.toNat new.toNat s
    else kept
  else if 0x20000 ≤ rel && rel < 0x30000 then
    let c := (rel - 0x20000) / 0x4000
    if rel % 0x4000 = 0x0 then maxOpChanged t c kept
    else if rel % 0x4000 = 0x4 then s.setReg lo (BitVec.ofNat 64 (clampPd new.toNat))
    else if rel % 0x4000 = 0x8 then reportChan t c kept
    else kept
  else if 0x30000 ≤ rel && rel < 0x34000 then
    if rel % 0x400 = 0x4 then (if w.getLsbD 0 then clearSliceCounters t ((rel - 0x30000) / 0x400) s else s)
    else if rel = 0x30260 then (if w.getLsbD 31 then fstRun t kept else kept)
    else kept
  else if rel = 0x44000 then tagEnWritten t (w.getLsbD 0) s
  else if rel = 0x50000 then
    cvuTestWritten t w (s.setReg lo (new &&& 0xFFFF))
  else if rel = 0x50100 then (if s.cvuOpen t then kept else s)
  else if rel = 0x50108 || rel = 0x50110 || rel = 0x50118 then cvuRegWritten t (rel - 0x50000) v s
  else if rel = 0x50128 then cvuDataWritten t w s
  else kept

/-- A whole register is written. SCR_TIER_CFG raises its own Note. -/
def storeReg (path : Path) (r : RegRow) (lo : Nat) (v : DWord) (s : State) : State :=
  if lo = 0x70028 || lo = 0x3000C || lo = 0x50018 || lo = 0x10118 then setSelector path lo (v.truncate 32) s
  else
    let old := s.reg lo
    let new := r.written s.locked old v
    let s := if r.lockHit s.locked old v && lo % 0x100000 ≠ 0x44000 then noteLocked s else s
    if lo < 0x100000 then pkgWritten path lo v old new s else tierWritten lo v old new s

/-- A write of one word over a path (R10-R13, R473, R474). -/
def writeReg (path : Path) (o : Nat) (v : Word) (s : State) : State :=
  match s.regOf o with
  | none => s
  | some (r, lo) =>
    if s.blockDown o then noteIgnored s
    else if !r.wide then storeReg path r lo (v.zeroExtend 64) s
    else
      let p := s.path (pathNum path)
      if o = lo then s.setPath (pathNum path) { p with pendingLow := some (lo, v) }
      else match p.pendingLow with
        | some (l, w) => if l = lo then storeReg path r lo (v ++ w) s else s
        | none => s

/-! ### The commands -/

/-- A write over a path that is open. -/
def pathWrite (path : Path) (o : Nat) (v : Word) (s : State) : Host.Outcome State Fault Refusal :=
  .next (if s.pathOpen path && o % 4 = 0 then writeReg path o v s else s)

/-- REGISTER_WRITE (R10, R473, R474). -/
def execRegisterWrite (path : Path) (offset : Nat) (value : BitVec 32) (s : State) : Host.Outcome State Fault Refusal :=
  pathWrite path offset value s

/-- REGISTER_READ_LATCH (R12). -/
def execRegisterReadLatch (path : Path) (offset : Nat) (s : State) : Host.Outcome State Fault Refusal :=
  .next (if s.pathOpen path && offset % 4 = 0 then
    match readReg path offset s with
    | (v, t) => t.emit (.regValue path v)
  else s)

/-- UNSUPPORTED_REGISTER_ACCESS (R9): no register changes. The MCTP path answers status 2 (R370); the system bus sets sberror (R432). -/
def execUnsupportedRegisterAccess (path : Path) (offset size : Nat) (_write : Bool) (s : State) :
    Host.Outcome State Fault Refusal :=
  if !s.pathOpen path || (size = 4 && offset % 4 = 0) then .next s
  else match path with
    | .control p => .next (s.emit (.unsupported p 0))
    | .mctp => .next (s.emit (.mctp 0x7E 2 []))
    | .debugBus => .next (s.dbgSet { s.dbg with sberror := if s.dbg.sberror ≠ 0 then s.dbg.sberror else if size ≠ 4 then 4 else 3 })

/-- LOCK (R477). -/
def execLock (path : Path) (s : State) : Host.Outcome State Fault Refusal := pathWrite path 0x10 1 s

/-- HPT_PORT_CFG_WRITE (R63). -/
def execHptPortCfgWrite (path : Path) (port : Nat) (value : BitVec 32) (s : State) : Host.Outcome State Fault Refusal :=
  pathWrite path (hptBase port) value s

/-- RETRAIN (R68): HPT_LINK_CTL.RETRAIN of a port. -/
def execRetrain (port : Nat) (s : State) : Host.Outcome State Fault Refusal :=
  .next (if s.blockDown (hptBase port) then s else retrainPort port s)

/-- HPT_LOOP_CTL_WRITE (R66). -/
def execHptLoopCtlWrite (path : Path) (port : Nat) (value : BitVec 32) (s : State) : Host.Outcome State Fault Refusal :=
  pathWrite path (hptBase port + 0x10) value s

/-- MAX_OP_WRITE (R483). -/
def execMaxOpWrite (path : Path) (tier chan : Nat) (value : BitVec 32) (s : State) : Host.Outcome State Fault Refusal :=
  pathWrite path (drcBase tier chan) value s

/-- CLR_CNT (R117). -/
def execClrCnt (path : Path) (tier slice : Nat) (s : State) : Host.Outcome State Fault Refusal :=
  pathWrite path (bsnBase tier slice + 4) 1 s

/-- RESUME (R351). -/
def execResume (path : Path) (s : State) : Host.Outcome State Fault Refusal := pathWrite path (fltBase + 8) 1 s

/-- FLT_CLR_CNT (R354). -/
def execFltClrCnt (path : Path) (s : State) : Host.Outcome State Fault Refusal := pathWrite path (fltBase + 8) 2 s

/-- GO (R336): the fields as they stand, with GO. -/
def execGo (path : Path) (s : State) : Host.Outcome State Fault Refusal :=
  pathWrite path (fltBase + 0x18) (BitVec.ofNat 32 (setBit (s.reg (fltBase + 0x18)).toNat 31 true)) s

/-- FLT_SRC_STAT_CLEAR (R344). -/
def execFltSrcStatClear (path : Path) (src : Nat) (s : State) : Host.Outcome State Fault Refusal :=
  pathWrite path (fltBase + 0x2000 + 4 * src) 0x80000000 s

/-- ECC_INJ_CTL_WRITE (R168): the checker's next writes are injected while COUNT is not 0. -/
def execEccInjCtlWrite (path : Path) (tier : Nat) (value : BitVec 32) (s : State) : Host.Outcome State Fault Refusal :=
  pathWrite path (eccBase tier + 4) value s

/-- TAG_EN_WRITE (R184). -/
def execTagEnWrite (path : Path) (tier : Nat) (value : BitVec 32) (s : State) : Host.Outcome State Fault Refusal :=
  pathWrite path (scrBase tier) value s

/-- SLU_DB_GRANT_WRITE (R244). -/
def execSluDbGrantWrite (path : Path) (page : Nat) (value : BitVec 32) (s : State) : Host.Outcome State Fault Refusal :=
  pathWrite path (sluBase + 0x400 + 4 * page) value s

/-- SLU_ADMIN_ENABLE (R240): a write with ENABLE set. -/
def execSluAdminEnable (path : Path) (value : BitVec 32) (s : State) : Host.Outcome State Fault Refusal :=
  if value.getLsbD 31 then pathWrite path sluBase value s else .next s

/-- SLU_ADMIN_DISABLE (R248): a write with ENABLE clear. -/
def execSluAdminDisable (path : Path) (value : BitVec 32) (s : State) : Host.Outcome State Fault Refusal :=
  if value.getLsbD 31 then .next s else pathWrite path sluBase value s

/-- CVU_TEST_WRITE (R285). -/
def execCvuTestWrite (path : Path) (tier : Nat) (value : BitVec 32) (s : State) : Host.Outcome State Fault Refusal :=
  pathWrite path (jetBase tier) value s

/-- JET_CVU_DATA_WRITE (R281). -/
def execJetCvuDataWrite (path : Path) (tier : Nat) (value : BitVec 32) (s : State) : Host.Outcome State Fault Refusal :=
  pathWrite path (jetBase tier + 0x128) value s

/-- JET_CVU_VAL_WRITE (R285): the low word, then the high word (R13). -/
def execJetCvuValWrite (path : Path) (tier : Nat) (value : BitVec 64) (s : State) : Host.Outcome State Fault Refusal :=
  .next (if s.pathOpen path then
    writeReg path (jetBase tier + 0x11C) (value.extractLsb' 32 32) (writeReg path (jetBase tier + 0x118) (value.truncate 32) s)
  else s)

/-- RIL_FORM (R287): a write with FORM set. -/
def execRilForm (path : Path) (value : BitVec 32) (s : State) : Host.Outcome State Fault Refusal :=
  if value.getLsbD 31 then pathWrite path rilBase value s else .next s

/-- RIL_LOOP_CTL_WRITE (R314). -/
def execRilLoopCtlWrite (path : Path) (value : BitVec 32) (s : State) : Host.Outcome State Fault Refusal :=
  pathWrite path (rilBase + 0x20) value s

/-- RUN (R317): a write of BSN_FST_CFG with RUN set. -/
def execRun (path : Path) (tier : Nat) (value : BitVec 32) (s : State) : Host.Outcome State Fault Refusal :=
  if value.getLsbD 31 then pathWrite path (bsnBase tier 0 + 0x260) value s else .next s

/-- MGT_RESET (R363). -/
def execMgtReset (path : Path) (value : BitVec 32) (s : State) : Host.Outcome State Fault Refusal :=
  pathWrite path (mgtBase + 0x14) value s

/-- RELOCK (R428). -/
def execRelock (path : Path) (value : BitVec 32) (s : State) : Host.Outcome State Fault Refusal :=
  pathWrite path (dbgBase + 4) value s

/-- PWR_TIER_CTL_GO (R391): a write with GO set. -/
def execPwrTierCtlGo (path : Path) (value : BitVec 32) (s : State) : Host.Outcome State Fault Refusal :=
  if value.getLsbD 31 then pathWrite path (pwrBase + 8) value s else .next s

/-- P4_REQ (R392). -/
def execP4Req (path : Path) (value : BitVec 32) (s : State) : Host.Outcome State Fault Refusal :=
  if value.getLsbD 0 then pathWrite path (pwrBase + 0x10) value s else .next s

end Sys2Proof.Machine
end

