-- ==== Sys2Proof/Machine/Mctp.lean ====
section
/-! DEFINITION. The MCTP endpoint: control messages, PLDM, SPDM and the vendor commands (R368-R371, R401). -/

namespace Sys2Proof.Machine

/-! ### Who answers (R352, R362, R368, R401, Table OTP-2) -/

/-- The busy answer of a message type (R368). -/
def mctpBusy (mtype : Nat) : Nat := if mtype = 5 then 0x03 else 0x04
/-- The answer to a request the mode does not accept: unsupported command of DSP0236, DSP0240 and DSP0274, bad command of the vendor
table. -/
def mctpRefuse (mtype : Nat) : Nat := if mtype = 5 then 0x07 else if mtype = 0x7E then 1 else 0x05

def mctpAnswer (mtype : Nat) (x : State × Nat × List Nat) : State := x.1.emit (.mctp mtype x.2.1 x.2.2)

/-- A request is served: in recovery over SMBus and I3C what `recovery` allows; in SCRAPPED control messages alone; under
Lockdown 0x80; otherwise by Services, at most four at once. PCIe VDMs need a control port's link. -/
def mctpDo (m : MctpReq) (mtype : Nat) (recovery : Bool) (f : State → State × Nat × List Nat) (s : State) :
    Host.Outcome State Fault Refusal :=
  if s.flt.lockedDown then .next (if m.binding < 2 then s.emit (.mctp mtype 0x80 []) else s)
  else if s.pkgMode.mode ≠ .up then .next s
  else if m.binding = 2 && !s.controlPorts.any (fun p => s.linkUp p) then .next s
  else if s.recovery then
    .next (if m.binding = 2 then s else if recovery then mctpAnswer mtype (f s) else s.emit (.mctp mtype (mctpRefuse mtype) []))
  else if s.lifeCycle = 5 then
    .next (if mtype = 0 then mctpAnswer mtype (f s) else s.emit (.mctp mtype (mctpRefuse mtype) []))
  else if !s.servicesRun then .next s
  else if 4 ≤ m.ahead then .next (s.emit (.mctp mtype (mctpBusy mtype) []))
  else .next (mctpAnswer mtype (f (askPll s)))

/-! ### Control messages (R368) -/

/-- Put the EID into MGT_MCTP_CFG (Table MGT-15). -/
def setEid (eid : Nat) (s : State) : State :=
  s.setReg (mgtBase + 0x18) (BitVec.ofNat 64 (setBits (s.reg (mgtBase + 0x18)).toNat 15 8 eid))
def State.eid (s : State) : Nat := bitsAt (s.reg (mgtBase + 0x18)).toNat 15 8

/-- SET_ENDPOINT_ID: EIDs 8 to 254 can be assigned. -/
def execSetEndpointId (m : MctpReq) (eid : Nat) (s : State) : Host.Outcome State Fault Refusal :=
  mctpDo m 0 false (fun s => if 8 ≤ eid && eid ≤ 254 then (setEid eid s, 0, [0, eid, 0]) else (s, 2, [])) s

/-- GET_ENDPOINT_ID: a simple endpoint. -/
def execGetEndpointId (m : MctpReq) (s : State) : Host.Outcome State Fault Refusal :=
  mctpDo m 0 false (fun s => (s, 0, [s.eid, 0, 0])) s

/-- GET_ENDPOINT_UUID. -/
def execGetEndpointUuid (m : MctpReq) (s : State) : Host.Outcome State Fault Refusal :=
  mctpDo m 0 false (fun s => (s, 0, [Config.endpointUuid.toNat])) s

/-- GET_MCTP_VERSION_SUPPORT: the base 1.3; the versions of the message types' own bindings are open. -/
def execGetMctpVersionSupport (m : MctpReq) (mtype : Nat) (s : State) : Host.Outcome State Fault Refusal :=
  mctpDo m 0 false (fun s =>
    if mtype = 0xFF || mtype = 0 then (s, 0, [1, 0xF1F3FF00])
    else if [1, 5, 0x7E].contains mtype then (s, 0, [1, (Config.freeWord mtype).toNat % 2 ^ 32])
    else (s, 0x80, [])) s

/-- GET_MESSAGE_TYPE_SUPPORT. -/
def execGetMessageTypeSupport (m : MctpReq) (s : State) : Host.Outcome State Fault Refusal :=
  mctpDo m 0 false (fun s => (s, 0, [0, 1, 5, 0x7E])) s

/-! ### PLDM base and monitoring (R368, R369) -/

/-- GETTID. -/
def execGettid (m : MctpReq) (s : State) : Host.Outcome State Fault Refusal :=
  mctpDo m 1 false (fun s => (s, 0, [s.mgmt.tid])) s

/-- SETTID: 0 and 0xFF are no terminus IDs. -/
def execSettid (m : MctpReq) (tid : Nat) (s : State) : Host.Outcome State Fault Refusal :=
  mctpDo m 1 false (fun s =>
    if tid = 0 || 255 ≤ tid then (s, 2, []) else (s.mgmtSet { s.mgmt with tid := tid }, 0, [])) s

/-- GETPLDMVERSION: monitoring 1.2, firmware update 1.1; the base's own is open. -/
def execGetpldmversion (m : MctpReq) (ptype : Nat) (s : State) : Host.Outcome State Fault Refusal :=
  mctpDo m 1 false (fun s =>
    match ptype with
    | 0 => (s, 0, [(Config.freeWord 0x100).toNat % 2 ^ 32])
    | 2 => (s, 0, [0xF1F2FF00])
    | 5 => (s, 0, [0xF1F1FF00])
    | _ => (s, 0x83, [])) s

/-- GETPLDMTYPES. -/
def execGetpldmtypes (m : MctpReq) (s : State) : Host.Outcome State Fault Refusal :=
  mctpDo m 1 false (fun s => (s, 0, [0, 2, 5])) s

/-- GETPLDMCOMMANDS: the commands of Table MGT-7 by the codes of DSP0240, DSP0248 and DSP0267. -/
def execGetpldmcommands (m : MctpReq) (ptype : Nat) (s : State) : Host.Outcome State Fault Refusal :=
  mctpDo m 1 false (fun s =>
    match ptype with
    | 0 => (s, 0, [0x01, 0x02, 0x03, 0x04, 0x05])
    | 2 => (s, 0, [0x04, 0x0A, 0x11, 0x21, 0x51])
    | 5 => (s, 0, [0x02, 0x10, 0x13, 0x14, 0x15, 0x16, 0x17, 0x18, 0x1A])
    | _ => (s, 0x83, [])) s

/-- The sensors by number: zone z of tier t is 3t + z; voltage, current and power of rail r are 0x100 + 3r and on; package power is
0x200; the state of tier t is 0x300 + t. -/
def State.sensorIds (s : State) : List Nat :=
  upto (3 * s.nTiers) ++ (upto 27).map (· + 0x100) ++ [0x200] ++ s.tierList.map (· + 0x300)

/-- GETPDR: record n + 1 describes the n-th sensor; record 0 asks for the first. -/
def execGetpdr (m : MctpReq) (record : Nat) (s : State) : Host.Outcome State Fault Refusal :=
  mctpDo m 1 false (fun s =>
    let k := max record 1
    match s.sensorIds[k - 1]? with
    | some id => (s, 0, [if k < s.sensorIds.length then k + 1 else 0, k, id])
    | none => (s, 0x82, [])) s

/-- Package input power in 0.1 W. -/
def State.packagePower (s : State) : Nat := (s.flash.regulators.map (fun r => r.vout * r.iout)).sum / 100000

/-- A numeric sensor's reading: temperatures in 0.125 degrees as 16-bit two's complement; a rail's from its regulator. A rail
with no regulator reads an open value. -/
def State.sensorValue (s : State) (id : Nat) : Option Nat :=
  if id < 3 * s.nTiers then some ((s.zone (id / 3) (id % 3)).temp.emod 65536).toNat
  else if 0x100 ≤ id && id < 0x100 + 27 then
    let r := (id - 0x100) / 3
    match s.flash.regulators.find? (fun x => x.rail = r) with
    | none => some (Config.freeWord s.fresh).toNat
    | some x => some (match (id - 0x100) % 3 with | 0 => x.vout | 1 => x.iout | _ => x.vout * x.iout / 100000)
  else if id = 0x200 then some s.packagePower
  else none

/-- GETSENSORREADING. -/
def execGetsensorreading (m : MctpReq) (sensor : Nat) (s : State) : Host.Outcome State Fault Refusal :=
  mctpDo m 1 false (fun s =>
    match s.sensorValue sensor with
    | some v => (s.drawn, 0, [v])
    | none => (s, 0x80, [])) s

/-- GETSTATESENSORREADINGS: the state of a tier, 0 to 3 for T0 to T3. -/
def execGetstatesensorreadings (m : MctpReq) (sensor : Nat) (s : State) : Host.Outcome State Fault Refusal :=
  mctpDo m 1 false (fun s =>
    if 0x300 ≤ sensor && sensor < 0x300 + s.nTiers then (s, 0, [(s.tier (sensor - 0x300)).power]) else (s, 0x80, [])) s

/-- SETEVENTRECEIVER. -/
def execSeteventreceiver (m : MctpReq) (eid : Nat) (s : State) : Host.Outcome State Fault Refusal :=
  mctpDo m 1 false (fun s => (s.mgmtSet { s.mgmt with receiver := some eid }, 0, [])) s

/-! ### PLDM firmware update (R362-R364, R368) -/

/-- REQUESTUPDATE: 0x80 while a staging or an update runs (R363). -/
def execRequestupdate (m : MctpReq) (s : State) : Host.Outcome State Fault Refusal :=
  mctpDo m 1 true (fun s =>
    if s.mgmt.updating || s.mgmt.staging.isSome || s.fwBusy then (s, 0x80, [])
    else (s.mgmtSet { s.mgmt with updating := true }, 0, [])) s

/-- PLDM_FIRMWARE_TRANSFER: a block of 4 KiB of the image, the last of which may be shorter; after the last the image is verified
(R360). -/
def execPldmFirmwareTransfer (m : MctpReq) (offset length : Nat) (last : Bool) (image : Option Image) (progOk : Bool) (s : State) :
    Host.Outcome State Fault Refusal :=
  mctpDo m 1 true (fun s =>
    if !s.mgmt.updating then (s, 1, [])
    else if length = 0 || 4096 < length || (!last && length ≠ 4096) || (offset ≠ 0 && offset ≠ s.stagedBytes) ||
        2 ^ 24 < offset + length then (s, 2, [])
    else if !progOk then (s, 1, [])
    else
      let s := stageBytes true offset length s
      if !last then (s, 0, [])
      else match stageLast image s with
        | (s, true) => (s, 0, [])
        | (s, false) => (s, 1, [])) s

/-- ACTIVATEFIRMWARE (R364): a verified image is staged. -/
def execActivatefirmware (m : MctpReq) (s : State) : Host.Outcome State Fault Refusal :=
  mctpDo m 1 true (fun s =>
    if !s.mgmt.updating || !s.mgmt.staged || s.fwBusy then (s, 1, []) else (activateBank none s, 0, [])) s

/-- GET_FIRMWARE_PARAMETERS: the one component, its running version and the version staged. -/
def execGetFirmwareParameters (m : MctpReq) (s : State) : Host.Outcome State Fault Refusal :=
  mctpDo m 1 true (fun s =>
    let run := match s.mgmt.running with | some i => i.version | none => 0
    let next := if s.mgmt.staged then (match s.bankImage s.stageBank with | some i => i.version | none => 0) else 0
    (s, 0, [0x000A, 0x0001, run, next])) s

/-! ### SPDM (R371) -/

/-- An SPDM request: without the device secret each is answered ERROR Unspecified (R414); one out of order ERROR
UnexpectedRequest. -/
def spdmDo (m : MctpReq) (level : Nat) (f : State → State × Nat × List Nat) (s : State) : Host.Outcome State Fault Refusal :=
  mctpDo m 5 false (fun s =>
    if !s.identity then (s, 0x05, []) else if s.mgmt.spdm < level then (s, 0x04, []) else f s) s

/-- The certificate chain of slot 0, at least one byte, and its digest. -/
def certBytes : List Nat := (upto (Config.certLength.toNat + 1)).map (fun i => (Config.certificate i).toNat)
def certDigest : Nat := (Config.sha384 certBytes).toNat

/-- GET_VERSION: SPDM 1.2. -/
def execGetVersion (m : MctpReq) (s : State) : Host.Outcome State Fault Refusal :=
  spdmDo m 0 (fun s => (s.mgmtSet { s.mgmt with spdm := 1 }, 0, [0x1200])) s

/-- GET_CAPABILITIES: certificates, challenges, measurements with signatures. -/
def execGetCapabilities (m : MctpReq) (s : State) : Host.Outcome State Fault Refusal :=
  spdmDo m 1 (fun s => (s.mgmtSet { s.mgmt with spdm := 2 }, 0, [0x16])) s

/-- NEGOTIATE_ALGORITHMS: ECDSA P-384 with SHA-384 or ERROR InvalidRequest. -/
def execNegotiateAlgorithms (m : MctpReq) (p384 : Bool) (s : State) : Host.Outcome State Fault Refusal :=
  spdmDo m 2 (fun s => if p384 then (s.mgmtSet { s.mgmt with spdm := 3 }, 0, [0x80, 0x2]) else (s, 0x01, [])) s

/-- GET_DIGESTS: slot 0. -/
def execGetDigests (m : MctpReq) (s : State) : Host.Outcome State Fault Refusal :=
  spdmDo m 3 (fun s => (s, 0, [1, certDigest])) s

/-- GET_CERTIFICATE: a portion, with the lengths given and left. -/
def execGetCertificate (m : MctpReq) (slot offset length : Nat) (s : State) : Host.Outcome State Fault Refusal :=
  spdmDo m 3 (fun s =>
    if slot ≠ 0 || certBytes.length ≤ offset then (s, 0x01, [])
    else
      let part := (certBytes.drop offset).take length
      (s, 0, [part.length, certBytes.length - offset - part.length] ++ part)) s

/-- Sign a transcript with the identity key. -/
def signTranscript (transcript : BitVec 384) (s : State) : State × List Nat :=
  (askPll s.drawn, signWords (Config.sign transcript s.fresh))

/-- CHALLENGE. -/
def execChallenge (m : MctpReq) (slot : Nat) (transcript : BitVec 384) (s : State) : Host.Outcome State Fault Refusal :=
  spdmDo m 3 (fun s =>
    if slot ≠ 0 then (s, 0x01, [])
    else match signTranscript transcript s with
      | (s, sig) => (s, 0, certDigest :: sig)) s

/-- The calibration set, byte by byte. -/
def State.calBytes (s : State) : List Nat := (upto 65536).map (fun i => (s.calByte i).toNat)

/-- Measurements 1 to 6. -/
def State.measurement (s : State) (i : Nat) : Nat :=
  match i with
  | 1 => Config.romDigest.toNat
  | 2 => (match s.mgmt.running with | some x => x.compDigest.toNat | none => 0)
  | 3 => (match s.mgmt.jetImage with | some x => x.jetDigest.toNat | none => 0)
  | 4 => s.runSv + s.arbCount * 2 ^ 8
  | 5 => s.lifeCycle + s.otpRead 0 0x10004 * 2 ^ 8 + s.otpRead 0 0x1001C * 2 ^ 16
  | _ => (Config.sha384 s.calBytes).toNat

/-- GET_MEASUREMENTS: index 0 their number, 1 to 6 one of them, 0xFF all; signed on request. -/
def execGetMeasurements (m : MctpReq) (index : Nat) (signed : Bool) (transcript : BitVec 384) (s : State) :
    Host.Outcome State Fault Refusal :=
  spdmDo m 3 (fun s =>
    if 6 < index && index ≠ 255 then (s, 0x01, [])
    else
      let l := if index = 0 then [6] else if index = 255 then ((upto 6).map (fun i => s.measurement (i + 1))) else [s.measurement index]
      if !signed then (s, 0, l)
      else match signTranscript transcript s with
        | (s, sig) => (s, 0, l ++ sig)) s

/-! ### Vendor commands (R370) -/

/-- CAL_EXPORT. -/
def execCalExport (m : MctpReq) (offset length : Nat) (s : State) : Host.Outcome State Fault Refusal :=
  mctpDo m 0x7E false (fun s =>
    if 1024 < length || 65536 < offset + length then (s, 2, [])
    else (s, 0, (upto length).map (fun i => (s.calByte (offset + i)).toNat))) s

/-- CAL_IMPORT (R381). -/
def execCalImport (m : MctpReq) (offset : Nat) (bytes : List (BitVec 8)) (last : Bool) (s : State) :
    Host.Outcome State Fault Refusal :=
  mctpDo m 0x7E false (fun s =>
    if m.binding = 2 || s.lifeCycle = 0 || 3 < s.lifeCycle then (s, 3, [])
    else if 1024 < bytes.length || 65536 < offset + bytes.length then (s, 2, [])
    else
      let had := s.flash.calNew.getD []
      let now := forEach bytes.zipIdx (fun (b : BitVec 8 × Nat) (u : Sparse (BitVec 8)) => Sparse.set calFactory u (offset + b.2) b.1) had
      let s := s.flashSet { s.flash with calNew := some now }
      if !last then (s, 0, [])
      else if !calChecks now then (s.flashSet { s.flash with calNew := none }, 2, [])
      else (writeCal now s, 0, [])) s

/-- A log entry as a response carries it. -/
def LogEntry.fields (e : LogEntry) : List Nat := [e.seq, e.boots, e.kind] ++ e.words

/-- LOG_READ: entries from a sequence number on, at most 15. -/
def execLogRead (m : MctpReq) (first count : Nat) (s : State) : Host.Outcome State Fault Refusal :=
  mctpDo m 0x7E false (fun s =>
    if 15 < count then (s, 2, [])
    else
      let l := (s.flash.log ++ s.flash.ram).filter (fun e => first ≤ e.seq)
      (s, 0, (l.take count).flatMap (fun e => e.fields))) s

/-- FW_COMMIT_VENDOR (R366). -/
def execFwCommitVendor (m : MctpReq) (short : List Nat) (s : State) : Host.Outcome State Fault Refusal :=
  mctpDo m 0x7E false (fun s =>
    if s.fwBusy || s.mgmt.updating then (s, 4, [])
    else if !s.mayCommit then (s, 3, [])
    else
      let s := commitImage short s
      (s, 0, [s.arbCount])) s

/-- The package leaves thermal shutdown as at a power-on that keeps the time base (R401). -/
def restartPackage (s : State) : State :=
  let s := setRailEn true (powerDown true 3 (setThermtrip false s))
  { s with pkgMode := { s.pkgMode with mode := .rails } }

/-- THERMAL_RESTART (R401): over SMBus, in thermal shutdown; below 80 degrees everywhere. Services permits it nowhere else. -/
def execThermalRestart (m : MctpReq) (s : State) : Host.Outcome State Fault Refusal :=
  if s.pkgMode.mode = .shutdown && !s.flt.lockedDown then
    if m.binding ≠ 0 then .next s
    else if s.sensors.all (fun e => decide (e.2.reading < 640)) then .next (restartPackage (s.emit (.mctp 0x7E 0 [])))
    else .next (s.emit (.mctp 0x7E 3 []))
  else mctpDo m 0x7E false (fun s => (s, 3, [])) s

/-- An offset REG_READ and REG_WRITE take. -/
def badOffset (o : Nat) : Bool := o % 4 ≠ 0 || 2 ^ 24 ≤ o

/-- REG_READ. -/
def execRegRead (m : MctpReq) (offset : Nat) (s : State) : Host.Outcome State Fault Refusal :=
  mctpDo m 0x7E false (fun s =>
    if badOffset offset then (s, 2, [])
    else match readReg .mctp offset s with
      | (v, s) => (s, 0, [v.toNat])) s

/-- REG_WRITE: over SMBus and I3C. -/
def execRegWrite (m : MctpReq) (offset : Nat) (value : BitVec 32) (s : State) : Host.Outcome State Fault Refusal :=
  mctpDo m 0x7E false (fun s =>
    if m.binding = 2 then (s, 3, []) else if badOffset offset then (s, 2, []) else (writeReg .mctp offset value s, 0, [])) s

end Sys2Proof.Machine
end

