-- ==== Sys2Proof/Machine/DebugPort.lean ====
section
/-! DEFINITION. The debug module behind the DMI and its system bus (R419, R425-R432; RISC-V debug 0.13.2). -/

namespace Sys2Proof.Machine

/-! ### System bus (R432, Table DBG-4) -/

/-- What stands at a system-bus address. -/
inductive BusRegion where
  | rom | sram | bar0 | denied
deriving DecidableEq, Repr

/-- The region of an address in the present state. -/
def State.busRegion (s : State) (a : Nat) : BusRegion :=
  if a < 0x10000 then (if s.lifeCycle = 0 then .rom else .denied)
  else if 0x10000000 ≤ a && a < 0x10020000 then (if s.lifeCycle = 0 then .sram else .denied)
  else if 0x10020000 ≤ a && a < 0x10100000 then (if s.mpOpen then .sram else .denied)
  else if 0x40000000 ≤ a && a < 0x41000000 then (if s.mpOpen || s.jetsOpen then .bar0 else .denied)
  else .denied

def setSbError (n : Nat) (s : State) : State := s.dbgSet { s.dbg with sberror := n }

/-- One access; a read leaves its value in sbdata0. None is made while sberror stands. What firmware keeps in its SRAM is open. -/
def busAccess (a : Nat) (write : Bool) (size : Nat) (v : Word) (s : State) : State :=
  if s.dbg.sberror ≠ 0 then s
  else if size ≠ 4 then setSbError 4 s
  else if a % 4 ≠ 0 then setSbError 3 s
  else
    let got (s : State) (w : Word) : State := s.dbgSet { s.dbg with sbData := w }
    match s.busRegion a with
    | .denied => setSbError 2 s
    | .rom => if write then s else got s (Config.romWord (a / 4))
    | .sram => if write then s else got s.drawn ((Config.freeWord s.fresh).truncate 32)
    | .bar0 =>
      if write then writeReg .debugBus (a - 0x40000000) v s
      else match readReg .debugBus (a - 0x40000000) s with
        | (w, t) => got t w

/-- SYSTEM_BUS_ACCESS. -/
def execSystemBusAccess (addr : Nat) (write : Bool) (size : Nat) (value : BitVec 32) (s : State) :
    Host.Outcome State Fault Refusal :=
  if !s.authenticated || s.pkgMode.mode ≠ .up then .next s
  else
    let t := busAccess addr write size value s
    .next (if write || t.dbg.sberror ≠ 0 then t else t.emit (.tdo 32 t.dbg.sbData.toNat))

/-! ### Registers of the debug module -/

/-- dmstatus: version 2, implicit ebreak, and the state of the selected hart once authenticated. -/
def State.dmstatus (s : State) : Nat :=
  let base := 2 + ofBool s.authBusy * 2 ^ 6 + ofBool s.authenticated * 2 ^ 7 + 2 ^ 22
  if !s.authenticated then base
  else
    let h := s.dbg.hartsel
    let v := s.hart h
    let two (b : Bool) (i : Nat) : Nat := ofBool b * 3 * 2 ^ i
    let there := s.hartExists h
    let up := s.hartReady h
    base + two (there && up && v.halted) 8 + two (there && up && !v.halted) 10 + two (there && !up) 12 + two (!there) 14 +
      two (there && up && v.resumeAck) 16

/-- sbcs: version 1, 32-bit addresses and accesses. -/
def State.sbcs (s : State) : Nat :=
  let d := s.dbg
  2 ^ 29 + ofBool d.sbReadOnAddr * 2 ^ 20 + d.sbAccess * 2 ^ 17 + ofBool d.sbAutoInc * 2 ^ 16 + ofBool d.sbReadOnData * 2 ^ 15 +
    d.sberror * 2 ^ 12 + 32 * 2 ^ 5 + 2 ^ 2

/-- Bytes of an access by sbaccess. -/
def sbSize (n : Nat) : Nat := 2 ^ n

/-- A read of the bus at sbaddress0, which then rises under autoincrement. -/
def sbRead (s : State) : State :=
  let t := busAccess s.dbg.sbAddr.toNat false (sbSize s.dbg.sbAccess) 0 s
  if t.dbg.sbAutoInc && t.dbg.sberror = 0 then t.dbgSet { t.dbg with sbAddr := t.dbg.sbAddr + 4 } else t

/-- A word of the nonce, byte 0 first. -/
def State.nonceWord (s : State) (k : Nat) : Word :=
  match s.dbg.nonce with
  | some (n, _) => BitVec.ofNat 32 (n.toNat / 2 ^ (32 * k))
  | none => 0

/-- A read of a register: while the module is closed only dmstatus and authdata answer (R425). -/
def dmRead (a : Nat) (s : State) : Word × State :=
  if a = 0x11 then (BitVec.ofNat 32 s.dmstatus, s)
  else if a = 0x30 then
    if s.dbg.nonceReads < 4 then
      (s.nonceWord s.dbg.nonceReads, s.dbgSet { s.dbg with nonceReads := s.dbg.nonceReads + 1 })
    else (0, s)
  else if !s.authenticated then (0, s)
  else
    let d := s.dbg
    match a with
    | 0x04 => (d.data0, s)
    | 0x10 => (BitVec.ofNat 32 (d.hartsel * 2 ^ 16 + ofBool d.ndmreset * 2 + ofBool d.active), s)
    | 0x13 => (BitVec.ofNat 32 (maskOf 8 0 (fun g => (upto 32).any (fun i => (s.hart (32 * g + i)).halted))), s)
    | 0x16 => (BitVec.ofNat 32 (1 + d.cmderr * 2 ^ 8 + 2 * 2 ^ 24), s)
    | 0x20 => (d.progbuf0, s)
    | 0x21 => (d.progbuf1, s)
    | 0x38 => (BitVec.ofNat 32 s.sbcs, s)
    | 0x39 => (d.sbAddr, s)
    | 0x3C => (d.sbData, if d.sbReadOnData && d.sberror = 0 then sbRead s else s)
    | 0x40 => (BitVec.ofNat 32 (maskOf 32 0 (fun i => (s.hart (d.hartsel / 32 * 32 + i)).halted)), s)
    | _ => (0, s)

/-- A write of authdata (R427): a command, or a word of a response; ignored while a response is being checked. -/
def authWrite (v : Word) (s : State) : State :=
  if s.authBusy || !s.grottoRuns then s
  else match s.dbg.response with
    | some l => s.dbgSet { s.dbg with response := some (l ++ [v]) }
    | none => if v = 1 then giveNonce s else if v = 2 then s.dbgSet { s.dbg with response := some [] } else s

/-- dmcontrol: dmactive 0 resets the module; while it is active the hart is selected, then halted, resumed, or the management
processor reset. Eight bits of hartsel are implemented. -/
def dmcontrolWrite (v : Nat) (s : State) : State :=
  if !bitAt v 0 then
    s.dbgSet { s.dbg with
      active := false, hartsel := 0, data0 := 0, progbuf0 := 0, progbuf1 := 0, cmderr := 0, sbAddr := 0, sbData := 0, sberror := 0
      sbReadOnAddr := false, sbReadOnData := false, sbAutoInc := false, sbAccess := 2, ndmreset := false }
  else if !s.dbg.active then s.dbgSet { s.dbg with active := true }
  else
    let h := bitsAt v 23 16
    let s := s.dbgSet { s.dbg with hartsel := h }
    let s := if bitAt v 31 then requestHalt h false s else s.setHart h { s.hart h with haltReq := false }
    let s := if bitAt v 30 && !bitAt v 31 then
        if s.hartReady h && (s.hart h).halted then
          let again := (s.hart h).step
          let s := resumeHart h s
          if again then
            let s := haltHart h s
            s.setHart h { s.hart h with resumeAck := true }
          else s
        else s.setHart h { s.hart h with resumeAck := false }
      else s
    let rises := bitAt v 1 && !s.dbg.ndmreset
    let s := s.dbgSet { s.dbg with ndmreset := bitAt v 1 }
    if rises && s.mpPowered then mgmtReset s else s

/-- command: Access Register of 32 bits; a program buffer run leaves the hart's registers open. -/
def commandWrite (v : Nat) (s : State) : State :=
  if s.dbg.cmderr ≠ 0 then s
  else if bitsAt v 31 24 ≠ 0 || (bitAt v 17 && bitsAt v 22 20 ≠ 2) || bitAt v 19 then s.dbgSet { s.dbg with cmderr := 2 }
  else
    let h := s.dbg.hartsel
    let s := if bitAt v 17 then accessReg h (v % 2 ^ 16) (bitAt v 16) s.dbg.data0 s else s
    if !bitAt v 18 || s.dbg.cmderr ≠ 0 then s
    else if !s.hartReady h || !(s.hart h).halted then s.dbgSet { s.dbg with cmderr := 4 }
    else s.drawn.setHart h { s.hart h with epoch := s.fresh, regs := [] }

/-- sbcs: errors are cleared by writing 1. -/
def sbcsWrite (v : Nat) (s : State) : State :=
  let d := s.dbg
  let err := d.sberror - (d.sberror &&& bitsAt v 14 12)
  s.dbgSet { d with
    sberror := err, sbReadOnAddr := bitAt v 20, sbAccess := bitsAt v 19 17, sbAutoInc := bitAt v 16, sbReadOnData := bitAt v 15 }

/-- A write of a register. -/
def dmWrite (a : Nat) (v : Word) (s : State) : State :=
  if a = 0x30 then authWrite v s
  else if !s.authenticated then s
  else if a = 0x10 then dmcontrolWrite v.toNat s
  else if !s.dbg.active then s
  else
    let d := s.dbg
    match a with
    | 0x04 => s.dbgSet { d with data0 := v }
    | 0x16 => s.dbgSet { d with cmderr := d.cmderr - (d.cmderr &&& bitsAt v.toNat 10 8) }
    | 0x17 => commandWrite v.toNat s
    | 0x20 => s.dbgSet { d with progbuf0 := v }
    | 0x21 => s.dbgSet { d with progbuf1 := v }
    | 0x38 => sbcsWrite v.toNat s
    | 0x39 =>
      let s := s.dbgSet { d with sbAddr := v }
      if d.sbReadOnAddr then sbRead s else s
    | 0x3C =>
      let s := s.dbgSet { d with sbData := v }
      let t := busAccess d.sbAddr.toNat true (sbSize d.sbAccess) v s
      if d.sbAutoInc && t.dbg.sberror = 0 then t.dbgSet { t.dbg with sbAddr := d.sbAddr + 4 } else t
    | _ => s

/-- DMI (R419): the previous access shifts out, this one is performed: op 1 reads, 2 writes. -/
def execDmi (addr : Nat) (value : BitVec 32) (op : Nat) (s : State) : Host.Outcome State Fault Refusal :=
  tapDo (fun s =>
    let d := s.dbg
    let s := tapSelect 0x11 41 (d.dmiAddr % 128 * 2 ^ 34 + d.dmiData.toNat * 4 + d.dmiStat % 4) s
    let a := addr % 128
    match op % 4 with
    | 1 => match dmRead a s with
      | (w, t) => t.dbgSet { t.dbg with dmiAddr := a, dmiData := w }
    | 2 =>
      let t := dmWrite a value s
      t.dbgSet { t.dbg with dmiAddr := a, dmiData := value }
    | _ => s.dbgSet { s.dbg with dmiAddr := a }) s

end Sys2Proof.Machine
end

