-- ==== Sys2Proof/Machine/ProtOps.lean ====
section
/-! DEFINITION. The commands of stored-data protection, keys' entropy, tag lines and weir windows (chapters 06, 07 and
08). -/

namespace Sys2Proof.Machine

/-- CE_WINDOW_RESTART (R155): at each multiple of CE_WINDOW seconds the units' counts restart. -/
def execCeWindowRestart (s : State) : Host.Outcome State Fault Refusal :=
  .next (forEach s.tierList (fun t u =>
    let n := u.us / (max 1 (u.get (eccBase t) ECC_CFG_CE_WINDOW) * 1000000)
    if n = Sparse.get zeroOf u.ceWindow t then u
    else { u with
      ceWindow := Sparse.set zeroOf u.ceWindow t n, unitCe := u.unitCe.filter (fun e => e.1 / 1024 ≠ t) }) s)

/-- A line lost in an SRAM is written to the cistern as the marker (Table ECC-4). -/
def loseLine (t off ctx : Nat) (s : State) : State :=
  let line := off / 64 * 64
  let a : Acc := { t := t, off := line, ctx := ctx, key := 0, cls := 0, integ := false }
  let j := s.sliceOf t line
  let inQueue := ((s.chan t (chanOf line)).entry line).isSome
  let inVictim := (s.slice t j).victims.any (fun v => v.off = line)
  if inQueue || inVictim then writeMarker a (dropVictim t line s) else s

/-- SRAM_UNCORRECTABLE (R164, Table ECC-4), by the checker that found it (Table ECC-5). `off`: the line concerned, or the
position of a descriptor in the sluice's buffer. -/
def execSramUncorrectable (t n : Nat) (routing : Bool) (off ctx : Nat) (s : State) : Host.Outcome State Fault Refusal :=
  if s.nTiers ≤ t || n < 20 || 57 ≤ n then .next s
  else
    let pa := poolAddr s.pkg t (off / 64 * 64)
    let s := sawUncorrectable t n pa false s
    if n < 32 then
      if routing then .next (raise (tierSource t 35) 0 4 (poolAddr s.pkg t 0) 0 s)
      else .next (raise (tierSource t 34) 0 4 (poolAddr s.pkg t 0) 0 s)
    else if n < 36 then
      if routing then .next (raise (tierSource t 35) 0 3 (poolAddr s.pkg t ((n - 32) * 256)) 0 s)
      else
        let s := raiseCtx (tierSource t 34) 1 ctx s
        match s.held.find? (fun r => r.passed && r.kind.isRead && r.remote.isNone && r.tier = t &&
            r.off / 64 = off / 64) with
        | some r => .next (answerLost r { s with held := s.held.erase r })
        | none => .next (loseLine t off ctx s)
    else if n < 38 then .next (raise (tierSource t 34) 0 4 (poolAddr s.pkg t 0) 0 s)
    else if n < 54 then execJetSramUncorrectable t (n - 38) s
    else if n = 54 then
      match (s.fetched.filter (fun f => f.tier = t))[off]? with
      | some f => .next (if f.running then s else complete f.ref 0x09 0 (raiseOpen (sluSource t) 1 s))
      | none => .next s
    else if n = 55 then execMeteringStorageError (.leaf t ctx false) s
    else if routing then .next (raise (tierSource t 35) 1 4 (poolAddr s.pkg t 0) 0 s)
    else .next (raiseCtx (tierSource t 34) 1 ctx s)

/-! ### Entropy (R176) -/

/-- ENTROPY_HEALTH_FAIL: the failure lasts until a restart test passes. -/
def execEntropyHealthFail (s : State) : Host.Outcome State Fault Refusal :=
  if s.entropyFailed then .next s
  else
    let s := { s with entropyFailed := true, entropyTestAt := s.us + 10000000 }
    .next (raiseOpen 0x005 0 (setLive 0x005 true (s.putFlag (scrBase 0) SCR_STATUS_ENTROPY_FAIL true)))

/-- ENTROPY_RESTART_TEST: Grotto runs it 10 s after the failure and after each test that fails. -/
def execEntropyRestartTest (pass : Bool) (s : State) : Host.Outcome State Fault Refusal :=
  if !s.entropyFailed || !s.mgmt.grotto || s.us < s.entropyTestAt then .next s
  else if pass then .next (setLive 0x005 false { s with entropyFailed := false, drbgDraws := 0 })
  else .next { s with entropyTestAt := s.us + 10000000 }

/-! ### Tag lines (R186, R188) -/

/-- TAG_LINE_WRITEBACK (R186): a dirty tag line whose PEND field is 0 goes to the cistern. -/
def execTagLineWriteback (t x : Nat) (s : State) : Host.Outcome State Fault Refusal :=
  let g := s.tagSet t x
  match g.find x with
  | none => .next s
  | some w =>
    let v := g.way w
    if !v.dirty || v.pend ≠ 0 || v.bad then .next s
    else
      let a : Acc := { t := t, off := s.tagLineOff t x, ctx := 0x3FFFF, key := 0, cls := 0, integ := false }
      match acceptWrite a { data := v.data } false s with
      | .error _ => .next s
      | .ok s => .next (s.setTagSet t x ((s.tagSet t x).setWay w { (s.tagSet t x).way w with dirty := false }))

/-- TAG_SWEEP (R188): a sweep that is due is done, and the requests held for it go on. -/
def execTagSweep (t x : Nat) (s : State) : Host.Outcome State Fault Refusal :=
  if !s.sweeps.contains (t, x) then .next s
  else
    let a : Acc := { t := t, off := x * 1024, ctx := 0x3FFFF, key := 0, cls := 0, integ := false }
    let s := sweepTag a x none { s with sweeps := s.sweeps.filter (fun e => e ≠ (t, x)) }
    .next (retryHeld (fun r => r.why = .sweep && r.tier = t) s)

/-! ### Weirs (R198, R210) -/

/-- Contexts with a request held by the hammer penalty on a channel (R130). -/
def State.hammerHeld (s : State) (t c : Nat) : List Nat :=
  let ch := s.chan t c
  (((ch.reads.filter (fun e => s.penalised t c e.off e.ctx)).map (·.ctx)) ++
   ((ch.writes.filter (fun e => s.penalised t c e.off e.ctx)).map (·.ctx))).dedup

/-- WEIR_WINDOW_END (R198), with the hammer-throttled microsecond of every held context (R130). -/
def execWeirWindowEnd (lats : List WinLat) (s : State) : Host.Outcome State Fault Refusal :=
  .next (windowEnd lats (forEach s.tierList (fun t u =>
    forEach (((upto 4).flatMap (s.hammerHeld t)).dedup) (fun c v => leafAdd t c 5 1 v) u) s))

/-- MISS_INTERRUPT (R210): at most one message per 100 microseconds. -/
def execMissInterrupt (s : State) : Host.Outcome State Fault Refusal :=
  let due := match s.missLast with
    | none => true
    | some m => decide (m + 100 ≤ s.us)
  if s.missPending && due then
    .next (({ s with missPending := false, missLast := some s.us }).signalControl (s.get weirBase WEIR_GLB_CFG_MISS_VEC))
  else .next s

end Sys2Proof.Machine
end

