-- ==== Sys2Proof/Machine/Time.lean ====
section
/-! DEFINITION. The passing of time (R385, R447): what the block does when no command waits. -/

namespace Sys2Proof.Machine

/-- One unit of the time base: a microsecond of the 25 MHz reference (25 cycles), or one cycle of the 32.768 kHz crystal, which
is 15,625/512 microseconds through the 9-bit fraction. With neither the time base holds. -/
def passTime (s : State) : State :=
  if s.refPresent then { s with us := s.us + 1 }
  else if s.xtalRunning then
    let f := s.frac + 15625
    { s with us := s.us + f / 512, frac := f % 512 }
  else s

end Sys2Proof.Machine
end

