-- ==== Sys2Proof/Machine/Dispatch.lean ====
section
/-! DEFINITION. The dispatch: one direct call of a meaning for each command. -/

namespace Sys2Proof.Machine

def exec (i : Instr) (s : State) : Host.Outcome State Fault Refusal :=
  match i with
  | .cascadeModuleLost link => Sys2Proof.Machine.execCascadeModuleLost link s
  | .linkTrainingComplete port partnerSpeed lane0 lane1 rev pol flit256 => Sys2Proof.Machine.execLinkTrainingComplete port partnerSpeed lane0 lane1 rev pol flit256 s
  | .laneMargining port lane voltage result => Sys2Proof.Machine.execLaneMargining port lane voltage result s
  | .l0pDeviceRequest port => Sys2Proof.Machine.execL0pDeviceRequest port s
  | .l0pPartnerRequest port => Sys2Proof.Machine.execL0pPartnerRequest port s
  | .linkWiden port => Sys2Proof.Machine.execLinkWiden port s
  | .aspmL1Entry port => Sys2Proof.Machine.execAspmL1Entry port s
  | .perstNAssert group => Sys2Proof.Machine.execPerstNAssert group s
  | .perstNDeassert group sris => Sys2Proof.Machine.execPerstNDeassert group sris s
  | .linkDown port => Sys2Proof.Machine.execLinkDown port s
  | .hdmDecoderCommit port base size ways => Sys2Proof.Machine.execHdmDecoderCommit port base size ways s
  | .getEventRecords port log => Sys2Proof.Machine.execGetEventRecords port log s
  | .clearEventRecords port log clearAll handles => Sys2Proof.Machine.execClearEventRecords port log clearAll handles s
  | .getEventInterruptPolicy port => Sys2Proof.Machine.execGetEventInterruptPolicy port s
  | .setEventInterruptPolicy port settings => Sys2Proof.Machine.execSetEventInterruptPolicy port settings s
  | .getTimestamp port => Sys2Proof.Machine.execGetTimestamp port s
  | .setTimestamp port ts => Sys2Proof.Machine.execSetTimestamp port ts s
  | .getSupportedLogs port => Sys2Proof.Machine.execGetSupportedLogs port s
  | .getLog port uuid offset length => Sys2Proof.Machine.execGetLog port uuid offset length s
  | .identifyMemoryDevice port => Sys2Proof.Machine.execIdentifyMemoryDevice port s
  | .getHealthInfo port => Sys2Proof.Machine.execGetHealthInfo port s
  | .getPoisonList port start => Sys2Proof.Machine.execGetPoisonList port start s
  | .getDynamicCapacityConfiguration port => Sys2Proof.Machine.execGetDynamicCapacityConfiguration port s
  | .getDynamicCapacityExtentList port start count => Sys2Proof.Machine.execGetDynamicCapacityExtentList port start count s
  | .addDynamicCapacityResponse port ext => Sys2Proof.Machine.execAddDynamicCapacityResponse port ext s
  | .releaseDynamicCapacity port ext => Sys2Proof.Machine.execReleaseDynamicCapacity port ext s
  | .mailboxUnsupportedCommand port opcode => Sys2Proof.Machine.execMailboxUnsupportedCommand port opcode s
  | .releaseTimeout port base => Sys2Proof.Machine.execReleaseTimeout port base s
  | .dcEventOfferWhenRoom port => Sys2Proof.Machine.execDcEventOfferWhenRoom port s
  | .hptPortCfgWrite path port value => Sys2Proof.Machine.execHptPortCfgWrite path port value s
  | .retrain port => Sys2Proof.Machine.execRetrain port s
  | .hptLoopCtlWrite path port value => Sys2Proof.Machine.execHptLoopCtlWrite path port value s
  | .loopPartnerTimeout port => Sys2Proof.Machine.execLoopPartnerTimeout port s
  | .prbsCheckerLock port lock errors => Sys2Proof.Machine.execPrbsCheckerLock port lock errors s
  | .flitReplayLimit port => Sys2Proof.Machine.execFlitReplayLimit port s
  | .aspmL1Exit port => Sys2Proof.Machine.execAspmL1Exit port s
  | .registerWrite path offset value => Sys2Proof.Machine.execRegisterWrite path offset value s
  | .unsupportedRegisterAccess path offset size write => Sys2Proof.Machine.execUnsupportedRegisterAccess path offset size write s
  | .registerReadLatch path offset => Sys2Proof.Machine.execRegisterReadLatch path offset s
  | .lock path => Sys2Proof.Machine.execLock path s
  | .memrd port tag hpa => Sys2Proof.Machine.execMemrd port tag hpa s
  | .memrddata port tag hpa => Sys2Proof.Machine.execMemrddata port tag hpa s
  | .memwr port tag hpa data poison => Sys2Proof.Machine.execMemwr port tag hpa data poison s
  | .memwrptl port tag hpa enables data poison => Sys2Proof.Machine.execMemwrptl port tag hpa enables data poison s
  | .meminv port tag hpa => Sys2Proof.Machine.execMeminv port tag hpa s
  | .writeWaitsForQueueRoom tier chan => Sys2Proof.Machine.execWriteWaitsForQueueRoom tier chan s
  | .columnCommandIssue tier chan ready => Sys2Proof.Machine.execColumnCommandIssue tier chan ready s
  | .penaltyExpiry tier chan ctx => Sys2Proof.Machine.execPenaltyExpiry tier chan ctx s
  | .rowTrackerClear tier chan rank => Sys2Proof.Machine.execRowTrackerClear tier chan rank s
  | .cisternRefreshDue tier chan rank => Sys2Proof.Machine.execCisternRefreshDue tier chan rank s
  | .dimmSensorRead tier chan dimm reading => Sys2Proof.Machine.execDimmSensorRead tier chan dimm reading s
  | .caParityAlert tier chan sub rank replayPass caPass => Sys2Proof.Machine.execCaParityAlert tier chan sub rank replayPass caPass s
  | .periodicRetrainingDue tier chan rank => Sys2Proof.Machine.execPeriodicRetrainingDue tier chan rank s
  | .retrainingEnd tier chan rank pass shortPass => Sys2Proof.Machine.execRetrainingEnd tier chan rank pass shortPass s
  | .retrainHoldMaxExpiry tier chan rank shortPass => Sys2Proof.Machine.execRetrainHoldMaxExpiry tier chan rank shortPass s
  | .powerDownTimerExpiry tier chan rank => Sys2Proof.Machine.execPowerDownTimerExpiry tier chan rank s
  | .selfRefreshTimerExpiry tier chan rank => Sys2Proof.Machine.execSelfRefreshTimerExpiry tier chan rank s
  | .rankLowPowerExit tier chan rank alert completes => Sys2Proof.Machine.execRankLowPowerExit tier chan rank alert completes s
  | .operatingPointRequest tier chan op => Sys2Proof.Machine.execOperatingPointRequest tier chan op s
  | .frequencyChange tier chan burstFail => Sys2Proof.Machine.execFrequencyChange tier chan burstFail s
  | .pendingChangeApplied tier chan => Sys2Proof.Machine.execPendingChangeApplied tier chan s
  | .softPostPackageRepair tier chan sub rank group bank row device => Sys2Proof.Machine.execSoftPostPackageRepair tier chan sub rank group bank row device s
  | .maxOpWrite path tier chan value => Sys2Proof.Machine.execMaxOpWrite path tier chan value s
  | .commitPoint => Sys2Proof.Machine.execCommitPoint s
  | .accessReductionDrainDone => Sys2Proof.Machine.execAccessReductionDrainDone s
  | .faultFreeze ctx => Sys2Proof.Machine.execFaultFreeze ctx s
  | .frozenHoldExpiry port => Sys2Proof.Machine.execFrozenHoldExpiry port s
  | .migrationWaitsForCopySlot tier => Sys2Proof.Machine.execMigrationWaitsForCopySlot tier s
  | .migrationCopyPassEnd ctx index remote => Sys2Proof.Machine.execMigrationCopyPassEnd ctx index remote s
  | .migrationSwitch ctx index remote => Sys2Proof.Machine.execMigrationSwitch ctx index remote s
  | .migrationFinish ctx index => Sys2Proof.Machine.execMigrationFinish ctx index s
  | .migrationAbort ctx index => Sys2Proof.Machine.execMigrationAbort ctx index s
  | .releaseFinished ctx => Sys2Proof.Machine.execReleaseFinished ctx s
  | .validLineClear tier ext => Sys2Proof.Machine.execValidLineClear tier ext s
  | .leaseReturnHandover => Sys2Proof.Machine.execLeaseReturnHandover s
  | .heatSample tier jet ctx page => Sys2Proof.Machine.execHeatSample tier jet ctx page s
  | .heatDecay tier jet => Sys2Proof.Machine.execHeatDecay tier jet s
  | .victimBufferOffer tier slice => Sys2Proof.Machine.execVictimBufferOffer tier slice s
  | .allocationWaitsForVictimRoom tier slice => Sys2Proof.Machine.execAllocationWaitsForVictimRoom tier slice s
  | .basinBankRefresh tier slice die bank => Sys2Proof.Machine.execBasinBankRefresh tier slice die bank s
  | .firstSensorReading tier dies => Sys2Proof.Machine.execFirstSensorReading tier dies s
  | .basinSelfRefreshEntry tier slice => Sys2Proof.Machine.execBasinSelfRefreshEntry tier slice s
  | .basinSelfRefreshExit tier slice => Sys2Proof.Machine.execBasinSelfRefreshExit tier slice s
  | .dieClockLossSelfRefresh tier slice die => Sys2Proof.Machine.execDieClockLossSelfRefresh tier slice die s
  | .clrCnt path tier slice => Sys2Proof.Machine.execClrCnt path tier slice s
  | .messageAccept src kind level addr detail full => Sys2Proof.Machine.execMessageAccept src kind level addr detail full s
  | .recordLeavesQueue recnum => Sys2Proof.Machine.execRecordLeavesQueue recnum s
  | .recordFlashCopy recnum => Sys2Proof.Machine.execRecordFlashCopy recnum s
  | .faultMsix => Sys2Proof.Machine.execFaultMsix s
  | .faultEscalationFrame pkg src kind cls level addr detail time => Sys2Proof.Machine.execFaultEscalationFrame pkg src kind cls level addr detail time s
  | .stop unissued confirmed => Sys2Proof.Machine.execStop unissued confirmed s
  | .resume path => Sys2Proof.Machine.execResume path s
  | .fltClrCnt path => Sys2Proof.Machine.execFltClrCnt path s
  | .lockdown => Sys2Proof.Machine.execLockdown s
  | .go path => Sys2Proof.Machine.execGo path s
  | .fltSrcStatClear path src => Sys2Proof.Machine.execFltSrcStatClear path src s
  | .ceWindowRestart => Sys2Proof.Machine.execCeWindowRestart s
  | .sramUncorrectable tier checker routing off ctx => Sys2Proof.Machine.execSramUncorrectable tier checker routing off ctx s
  | .eccInjCtlWrite path tier value => Sys2Proof.Machine.execEccInjCtlWrite path tier value s
  | .entropyHealthFail => Sys2Proof.Machine.execEntropyHealthFail s
  | .entropyRestartTest pass => Sys2Proof.Machine.execEntropyRestartTest pass s
  | .tagEnWrite path tier value => Sys2Proof.Machine.execTagEnWrite path tier value s
  | .tagLineWriteback tier index => Sys2Proof.Machine.execTagLineWriteback tier index s
  | .tagSweep tier index => Sys2Proof.Machine.execTagSweep tier index s
  | .aqueductKeyExchange aq peer sigOk member shared => Sys2Proof.Machine.execAqueductKeyExchange aq peer sigOk member shared s
  | .aqueductKeyTimeout aq => Sys2Proof.Machine.execAqueductKeyTimeout aq s
  | .weirWindowEnd lats => Sys2Proof.Machine.execWeirWindowEnd lats s
  | .tokenReleaseHeldRequest port cls => Sys2Proof.Machine.execTokenReleaseHeldRequest port cls s
  | .missInterrupt => Sys2Proof.Machine.execMissInterrupt s
  | .aqueductFlitReceive aq flit => Sys2Proof.Machine.execAqueductFlitReceive aq flit s
  | .aqueductNak aq ackSeq => Sys2Proof.Machine.execAqueductNak aq ackSeq s
  | .aqueductReplayTimeout aq => Sys2Proof.Machine.execAqueductReplayTimeout aq s
  | .aqueductRetrain aq => Sys2Proof.Machine.execAqueductRetrain aq s
  | .aqueductCountWrapRekey aq => Sys2Proof.Machine.execAqueductCountWrapRekey aq s
  | .aqueductLeavesL0 aq => Sys2Proof.Machine.execAqueductLeavesL0 aq s
  | .endToEndTimeout txid => Sys2Proof.Machine.execEndToEndTimeout txid s
  | .aqueductCreditReturn aq req resp data => Sys2Proof.Machine.execAqueductCreditReturn aq req resp data s
  | .nop d => Sys2Proof.Machine.execNop d s
  | .ringCreate d ring ttype log2n dmaPort prio vector dbase cbase pollAddr account coalCount startSeq coalTime pollUs => Sys2Proof.Machine.execRingCreate d ring ttype log2n dmaPort prio vector dbase cbase pollAddr account coalCount startSeq coalTime pollUs s
  | .ringDelete d ring => Sys2Proof.Machine.execRingDelete d ring s
  | .ringModifyStop d ring mask newCi newSeq prio vector intEn coalCount coalTime pollUs => Sys2Proof.Machine.execRingModifyStop d ring mask newCi newSeq prio vector intEn coalCount coalTime pollUs s
  | .ringModifyStart d ring mask newCi newSeq prio vector intEn coalCount coalTime pollUs => Sys2Proof.Machine.execRingModifyStart d ring mask newCi newSeq prio vector intEn coalCount coalTime pollUs s
  | .ringModifyResync d ring mask newCi newSeq prio vector intEn coalCount coalTime pollUs => Sys2Proof.Machine.execRingModifyResync d ring mask newCi newSeq prio vector intEn coalCount coalTime pollUs s
  | .ringModifyAttributes d ring mask newCi newSeq prio vector intEn coalCount coalTime pollUs => Sys2Proof.Machine.execRingModifyAttributes d ring mask newCi newSeq prio vector intEn coalCount coalTime pollUs s
  | .fence d scope => Sys2Proof.Machine.execFence d scope s
  | .doorbellWrite port fn offset size value => Sys2Proof.Machine.execDoorbellWrite port fn offset size value s
  | .doorbellPoll ring value => Sys2Proof.Machine.execDoorbellPoll ring value s
  | .descriptorFetch tier descs => Sys2Proof.Machine.execDescriptorFetch tier descs s
  | .completionWrite ring => Sys2Proof.Machine.execCompletionWrite ring s
  | .coalesceTimerExpiry ring => Sys2Proof.Machine.execCoalesceTimerExpiry ring s
  | .ringDmaError ring write => Sys2Proof.Machine.execRingDmaError ring write s
  | .ringDmaPortLost ring busMasterCleared functionReset => Sys2Proof.Machine.execRingDmaPortLost ring busMasterCleared functionReset s
  | .sluDbGrantWrite path page value => Sys2Proof.Machine.execSluDbGrantWrite path page value s
  | .sluAdminEnable path value => Sys2Proof.Machine.execSluAdminEnable path value s
  | .sluAdminDisable path value => Sys2Proof.Machine.execSluAdminDisable path value s
  | .ctxCreate d ctx account keyid cls cflags wbase wsize => Sys2Proof.Machine.execCtxCreate d ctx account keyid cls cflags wbase wsize s
  | .ctxBindPortBind d ctx port => Sys2Proof.Machine.execCtxBindPortBind d ctx port s
  | .ctxBindPortUnbind d ctx port => Sys2Proof.Machine.execCtxBindPortUnbind d ctx port s
  | .ctxActivate d ctx => Sys2Proof.Machine.execCtxActivate d ctx s
  | .ctxDrain d ctx => Sys2Proof.Machine.execCtxDrain d ctx s
  | .ctxFreeze d ctx => Sys2Proof.Machine.execCtxFreeze d ctx s
  | .ctxThaw d ctx => Sys2Proof.Machine.execCtxThaw d ctx s
  | .ctxRelease d ctx => Sys2Proof.Machine.execCtxRelease d ctx s
  | .ctxQuery d ctx haddr => Sys2Proof.Machine.execCtxQuery d ctx haddr s
  | .extMap d ctx index pen count lease => Sys2Proof.Machine.execExtMap d ctx index pen count lease s
  | .extUnmap d ctx index count => Sys2Proof.Machine.execExtUnmap d ctx index count s
  | .extMigrate d ctx index dest lease => Sys2Proof.Machine.execExtMigrate d ctx index dest lease s
  | .extQuery d ctx index count haddr => Sys2Proof.Machine.execExtQuery d ctx index count haddr s
  | .keyCreate d keyid => Sys2Proof.Machine.execKeyCreate d keyid s
  | .keyRetire d keyid => Sys2Proof.Machine.execKeyRetire d keyid s
  | .classSet d cls rankStep ways groups target guar ceil maxq rsv missFact missN => Sys2Proof.Machine.execClassSet d cls rankStep ways groups target guar ceil maxq rsv missFact missN s
  | .classQuery d cls haddr => Sys2Proof.Machine.execClassQuery d cls haddr s
  | .ctxSetClass d ctx cls => Sys2Proof.Machine.execCtxSetClass d ctx cls s
  | .copy d srcKind dstKind srcCtx dstCtx src dst length => Sys2Proof.Machine.execCopy d srcKind dstKind srcCtx dstCtx src dst length s
  | .zero d ctx offset length => Sys2Proof.Machine.execZero d ctx offset length s
  | .crcRange d ctx offset length running poly xorout width mode => Sys2Proof.Machine.execCrcRange d ctx offset length running poly xorout width mode s
  | .scrubRange d kind level cls ctx firstPage pages addr haddr => Sys2Proof.Machine.execScrubRange d kind level cls ctx firstPage pages addr haddr s
  | .promote d ctx firstPage pages => Sys2Proof.Machine.execPromote d ctx firstPage pages s
  | .demote d ctx firstPage pages => Sys2Proof.Machine.execDemote d ctx firstPage pages s
  | .heatReport d ctx maxPages haddr => Sys2Proof.Machine.execHeatReport d ctx maxPages haddr s
  | .pieceStart tier jet => Sys2Proof.Machine.execPieceStart tier jet s
  | .pieceEnd tier jet host remote dmaOk => Sys2Proof.Machine.execPieceEnd tier jet host remote dmaOk s
  | .pieceQueuedWhenRoom tier => Sys2Proof.Machine.execPieceQueuedWhenRoom tier s
  | .jetWatchdog tier jet => Sys2Proof.Machine.execJetWatchdog tier jet s
  | .jetClockGate tier jet => Sys2Proof.Machine.execJetClockGate tier jet s
  | .jetWake tier jet => Sys2Proof.Machine.execJetWake tier jet s
  | .jetSramUncorrectable tier jet => Sys2Proof.Machine.execJetSramUncorrectable tier jet s
  | .jetFirmwareReload tier jet => Sys2Proof.Machine.execJetFirmwareReload tier jet s
  | .cvuTestWrite path tier value => Sys2Proof.Machine.execCvuTestWrite path tier value s
  | .jetCvuDataWrite path tier value => Sys2Proof.Machine.execJetCvuDataWrite path tier value s
  | .jetCvuValWrite path tier value => Sys2Proof.Machine.execJetCvuValWrite path tier value s
  | .meterSnapshot d tick scope first count haddr => Sys2Proof.Machine.execMeterSnapshot d tick scope first count haddr s
  | .meterSeal d tick haddr => Sys2Proof.Machine.execMeterSeal d tick haddr s
  | .meterConfig d interval rollWait autoseal => Sys2Proof.Machine.execMeterConfig d interval rollWait autoseal s
  | .tickMark n => Sys2Proof.Machine.execTickMark n s
  | .ownTimerMark => Sys2Proof.Machine.execOwnTimerMark s
  | .missingMarkDetected => Sys2Proof.Machine.execMissingMarkDetected s
  | .localFoldEnd tier => Sys2Proof.Machine.execLocalFoldEnd tier s
  | .rollUpFrame src tick ctx counts => Sys2Proof.Machine.execRollUpFrame src tick ctx counts s
  | .doneFrame src tick frames unattributed => Sys2Proof.Machine.execDoneFrame src tick frames unattributed s
  | .rollWaitExpiry tick => Sys2Proof.Machine.execRollWaitExpiry tick s
  | .tickFoldingFinished tick => Sys2Proof.Machine.execTickFoldingFinished tick s
  | .packageNodeFrame src tick node => Sys2Proof.Machine.execPackageNodeFrame src tick node s
  | .poolNodeDeadline tick => Sys2Proof.Machine.execPoolNodeDeadline tick s
  | .autoseal tick => Sys2Proof.Machine.execAutoseal tick s
  | .sealLate tick => Sys2Proof.Machine.execSealLate tick s
  | .meteringStorageError store => Sys2Proof.Machine.execMeteringStorageError store s
  | .reseal tick => Sys2Proof.Machine.execReseal tick s
  | .meterSealTimeout d => Sys2Proof.Machine.execMeterSealTimeout d s
  | .poolJoin d poolId pkg role => Sys2Proof.Machine.execPoolJoin d poolId pkg role s
  | .poolLeave d pkg => Sys2Proof.Machine.execPoolLeave d pkg s
  | .leaseGrant d owner otier count => Sys2Proof.Machine.execLeaseGrant d owner otier count s
  | .leaseReturn d lease => Sys2Proof.Machine.execLeaseReturn d lease s
  | .managerHandover d pkg => Sys2Proof.Machine.execManagerHandover d pkg s
  | .rilForm path value => Sys2Proof.Machine.execRilForm path value s
  | .joinFrame src tag poolId pkg role => Sys2Proof.Machine.execJoinFrame src tag poolId pkg role s
  | .packageNumberRewrite => Sys2Proof.Machine.execPackageNumberRewrite s
  | .poolRejoin => Sys2Proof.Machine.execPoolRejoin s
  | .leaseRequestFrame src tag owner otier count => Sys2Proof.Machine.execLeaseRequestFrame src tag owner otier count s
  | .leaseClaimAtOwner src lease otier count borrower => Sys2Proof.Machine.execLeaseClaimAtOwner src lease otier count borrower s
  | .extentReturnFrame src lease pen => Sys2Proof.Machine.execExtentReturnFrame src lease pen s
  | .coldOwnerRejoin leases => Sys2Proof.Machine.execColdOwnerRejoin leases s
  | .mirrorFrame src change => Sys2Proof.Machine.execMirrorFrame src change s
  | .standbyAckTimeout mirror => Sys2Proof.Machine.execStandbyAckTimeout mirror s
  | .standbyResync => Sys2Proof.Machine.execStandbyResync s
  | .heartbeatSend => Sys2Proof.Machine.execHeartbeatSend s
  | .heartbeatReceive ring src hops epoch poolId role members => Sys2Proof.Machine.execHeartbeatReceive ring src hops epoch poolId role members s
  | .heartbeatTimeout pkg => Sys2Proof.Machine.execHeartbeatTimeout pkg s
  | .takeover tables => Sys2Proof.Machine.execTakeover tables s
  | .handoverFrame src epoch => Sys2Proof.Machine.execHandoverFrame src epoch s
  | .rillFrameReceive ring crcOk dst src ftype fseq hops epoch payload => Sys2Proof.Machine.execRillFrameReceive ring crcOk dst src ftype fseq hops epoch payload s
  | .rillResend fseq => Sys2Proof.Machine.execRillResend fseq s
  | .rillFrameUnacknowledged fseq => Sys2Proof.Machine.execRillFrameUnacknowledged fseq s
  | .rillTickMark n ring => Sys2Proof.Machine.execRillTickMark n ring s
  | .rillInputDown ring => Sys2Proof.Machine.execRillInputDown ring s
  | .rillInputUp ring inverted => Sys2Proof.Machine.execRillInputUp ring inverted s
  | .rilLoopCtlWrite path value => Sys2Proof.Machine.execRilLoopCtlWrite path value s
  | .remoteAnswerTimeout d => Sys2Proof.Machine.execRemoteAnswerTimeout d s
  | .fieldSelfTest tier eyes bond via => Sys2Proof.Machine.execFieldSelfTest tier eyes bond via s
  | .run path tier value => Sys2Proof.Machine.execRun path tier value s
  | .fieldSelfTestDeferredStart tier => Sys2Proof.Machine.execFieldSelfTestDeferredStart tier s
  | .guardBandWindow tier counts => Sys2Proof.Machine.execGuardBandWindow tier counts s
  | .relayCommandParityError tier runnel hop => Sys2Proof.Machine.execRelayCommandParityError tier runnel hop s
  | .coilSpareReplace tier runnel hop group pair => Sys2Proof.Machine.execCoilSpareReplace tier runnel hop group pair s
  | .runnelNarrow tier runnel hop group pair => Sys2Proof.Machine.execRunnelNarrow tier runnel hop group pair s
  | .sliceFlush tier runnel => Sys2Proof.Machine.execSliceFlush tier runnel s
  | .runnelLost tier runnel hop group pair => Sys2Proof.Machine.execRunnelLost tier runnel hop group pair s
  | .basinRowRepair tier runnel die row => Sys2Proof.Machine.execBasinRowRepair tier runnel die row s
  | .spareExtentRemap tier ext => Sys2Proof.Machine.execSpareExtentRemap tier ext s
  | .repairFuseWrite tier margins => Sys2Proof.Machine.execRepairFuseWrite tier margins s
  | .eventFetch d maxRecs haddr => Sys2Proof.Machine.execEventFetch d maxRecs haddr s
  | .eventAck d recnum => Sys2Proof.Machine.execEventAck d recnum s
  | .tierSleep d tier st => Sys2Proof.Machine.execTierSleep d tier st s
  | .tierWake d tier => Sys2Proof.Machine.execTierWake d tier s
  | .oppointSet d tier chmask op => Sys2Proof.Machine.execOppointSet d tier chmask op s
  | .fwStage d haddr offset length last image progOk => Sys2Proof.Machine.execFwStage d haddr offset length last image progOk s
  | .fwActivate d target => Sys2Proof.Machine.execFwActivate d target s
  | .fwCommit d short => Sys2Proof.Machine.execFwCommit d short s
  | .ready => Sys2Proof.Machine.execReady s
  | .fuseRead word => Sys2Proof.Machine.execFuseRead word s
  | .fuseRepair tier margins => Sys2Proof.Machine.execFuseRepair tier margins s
  | .keyMake keyid => Sys2Proof.Machine.execKeyMake keyid s
  | .keyZero keyid => Sys2Proof.Machine.execKeyZero keyid s
  | .linkKeys aq peer sigOk shared => Sys2Proof.Machine.execLinkKeys aq peer sigOk shared s
  | .sealGate tick => Sys2Proof.Machine.execSealGate tick s
  | .spdmSign hash => Sys2Proof.Machine.execSpdmSign hash s
  | .imgVerify => Sys2Proof.Machine.execImgVerify s
  | .bankSet commit => Sys2Proof.Machine.execBankSet commit s
  | .arbAdvance short => Sys2Proof.Machine.execArbAdvance short s
  | .calWrite => Sys2Proof.Machine.execCalWrite s
  | .dbgUnlock keyDigest sigOk => Sys2Proof.Machine.execDbgUnlock keyDigest sigOk s
  | .lockdownGate => Sys2Proof.Machine.execLockdownGate s
  | .slotErase slot => Sys2Proof.Machine.execSlotErase slot s
  | .gateBusyRetry gate => Sys2Proof.Machine.execGateBusyRetry gate s
  | .servicesWatchdogMiss => Sys2Proof.Machine.execServicesWatchdogMiss s
  | .servicesTrap => Sys2Proof.Machine.execServicesTrap s
  | .machineModeTrap => Sys2Proof.Machine.execMachineModeTrap s
  | .romBoot mpOk => Sys2Proof.Machine.execRomBoot mpOk s
  | .managementOnlyReset => Sys2Proof.Machine.execManagementOnlyReset s
  | .mgtReset path value => Sys2Proof.Machine.execMgtReset path value s
  | .activationReadyTimeout => Sys2Proof.Machine.execActivationReadyTimeout s
  | .mpPllSwitch => Sys2Proof.Machine.execMpPllSwitch s
  | .mpIdleReturn => Sys2Proof.Machine.execMpIdleReturn s
  | .setEndpointId m eid => Sys2Proof.Machine.execSetEndpointId m eid s
  | .getEndpointId m => Sys2Proof.Machine.execGetEndpointId m s
  | .getEndpointUuid m => Sys2Proof.Machine.execGetEndpointUuid m s
  | .getMctpVersionSupport m mtype => Sys2Proof.Machine.execGetMctpVersionSupport m mtype s
  | .getMessageTypeSupport m => Sys2Proof.Machine.execGetMessageTypeSupport m s
  | .gettid m => Sys2Proof.Machine.execGettid m s
  | .settid m tid => Sys2Proof.Machine.execSettid m tid s
  | .getpldmversion m ptype => Sys2Proof.Machine.execGetpldmversion m ptype s
  | .getpldmtypes m => Sys2Proof.Machine.execGetpldmtypes m s
  | .getpldmcommands m ptype => Sys2Proof.Machine.execGetpldmcommands m ptype s
  | .getpdr m record => Sys2Proof.Machine.execGetpdr m record s
  | .getsensorreading m sensor => Sys2Proof.Machine.execGetsensorreading m sensor s
  | .getstatesensorreadings m sensor => Sys2Proof.Machine.execGetstatesensorreadings m sensor s
  | .seteventreceiver m eid => Sys2Proof.Machine.execSeteventreceiver m eid s
  | .requestupdate m => Sys2Proof.Machine.execRequestupdate m s
  | .pldmFirmwareTransfer m offset length last image progOk => Sys2Proof.Machine.execPldmFirmwareTransfer m offset length last image progOk s
  | .activatefirmware m => Sys2Proof.Machine.execActivatefirmware m s
  | .getFirmwareParameters m => Sys2Proof.Machine.execGetFirmwareParameters m s
  | .getVersion m => Sys2Proof.Machine.execGetVersion m s
  | .getCapabilities m => Sys2Proof.Machine.execGetCapabilities m s
  | .negotiateAlgorithms m p384 => Sys2Proof.Machine.execNegotiateAlgorithms m p384 s
  | .getDigests m => Sys2Proof.Machine.execGetDigests m s
  | .getCertificate m slot offset length => Sys2Proof.Machine.execGetCertificate m slot offset length s
  | .challenge m slot transcript => Sys2Proof.Machine.execChallenge m slot transcript s
  | .getMeasurements m index signed transcript => Sys2Proof.Machine.execGetMeasurements m index signed transcript s
  | .calExport m offset length => Sys2Proof.Machine.execCalExport m offset length s
  | .calImport m offset bytes last => Sys2Proof.Machine.execCalImport m offset bytes last s
  | .logRead m first count => Sys2Proof.Machine.execLogRead m first count s
  | .fwCommitVendor m short => Sys2Proof.Machine.execFwCommitVendor m short s
  | .thermalRestart m => Sys2Proof.Machine.execThermalRestart m s
  | .regRead m offset => Sys2Proof.Machine.execRegRead m offset s
  | .regWrite m offset value => Sys2Proof.Machine.execRegWrite m offset value s
  | .pmbusPoll reads steps => Sys2Proof.Machine.execPmbusPoll reads steps s
  | .pmbAlert status => Sys2Proof.Machine.execPmbAlert status s
  | .logEntryWrite recnum note progOk eraseOk => Sys2Proof.Machine.execLogEntryWrite recnum note progOk eraseOk s
  | .sectorRetire place failed => Sys2Proof.Machine.execSectorRetire place failed s
  | .shutdownRecordCopy => Sys2Proof.Machine.execShutdownRecordCopy s
  | .configStoreCompaction => Sys2Proof.Machine.execConfigStoreCompaction s
  | .referenceClockLost => Sys2Proof.Machine.execReferenceClockLost s
  | .referenceClockReturn => Sys2Proof.Machine.execReferenceClockReturn s
  | .wakeCause cause => Sys2Proof.Machine.execWakeCause cause s
  | .t1IdleExpiry tier => Sys2Proof.Machine.execT1IdleExpiry tier s
  | .t2IdleExpiry tier => Sys2Proof.Machine.execT2IdleExpiry tier s
  | .tierT2Entry tier => Sys2Proof.Machine.execTierT2Entry tier s
  | .tierT2Wake tier us => Sys2Proof.Machine.execTierT2Wake tier us s
  | .t2UpdateLogFull tier => Sys2Proof.Machine.execT2UpdateLogFull tier s
  | .tierT3Entry tier => Sys2Proof.Machine.execTierT3Entry tier s
  | .tierT3Exit tier us facts => Sys2Proof.Machine.execTierT3Exit tier us facts s
  | .tierPllLockFail tier => Sys2Proof.Machine.execTierPllLockFail tier s
  | .pwrTierCtlGo path value => Sys2Proof.Machine.execPwrTierCtlGo path value s
  | .p4Req path value => Sys2Proof.Machine.execP4Req path value s
  | .p4WakeRailCheck ok => Sys2Proof.Machine.execP4WakeRailCheck ok s
  | .sensorSample tier readings => Sys2Proof.Machine.execSensorSample tier readings s
  | .thermalLadderTest tier => Sys2Proof.Machine.execThermalLadderTest tier s
  | .thermalMsix => Sys2Proof.Machine.execThermalMsix s
  | .thermalTrip => Sys2Proof.Machine.execThermalTrip s
  | .tripComparator tier sensor => Sys2Proof.Machine.execTripComparator tier sensor s
  | .trustMonitorReread reads => Sys2Proof.Machine.execTrustMonitorReread reads s
  | .otpWrite sense => Sys2Proof.Machine.execOtpWrite sense s
  | .genSecret sense => Sys2Proof.Machine.execGenSecret sense s
  | .advance sense => Sys2Proof.Machine.execAdvance sense s
  | .tapReset => Sys2Proof.Machine.execTapReset s
  | .idcode => Sys2Proof.Machine.execIdcode s
  | .samplePreload captured shifted => Sys2Proof.Machine.execSamplePreload captured shifted s
  | .extest captured shifted => Sys2Proof.Machine.execExtest captured shifted s
  | .extestPulse captured shifted => Sys2Proof.Machine.execExtestPulse captured shifted s
  | .extestTrain captured shifted => Sys2Proof.Machine.execExtestTrain captured shifted s
  | .clamp => Sys2Proof.Machine.execClamp s
  | .highz => Sys2Proof.Machine.execHighz s
  | .dtmcs value => Sys2Proof.Machine.execDtmcs value s
  | .dmi addr value op => Sys2Proof.Machine.execDmi addr value op s
  | .dieCfg value => Sys2Proof.Machine.execDieCfg value s
  | .dieScan captured shifted => Sys2Proof.Machine.execDieScan captured shifted s
  | .bypass code => Sys2Proof.Machine.execBypass code s
  | .authdataNonceRequest => Sys2Proof.Machine.execAuthdataNonceRequest s
  | .authdataResponse keyDigest sigOk => Sys2Proof.Machine.execAuthdataResponse keyDigest sigOk s
  | .unlockBackoffExpiry => Sys2Proof.Machine.execUnlockBackoffExpiry s
  | .relock path value => Sys2Proof.Machine.execRelock path value s
  | .hartHalt hart user => Sys2Proof.Machine.execHartHalt hart user s
  | .hartResume hart => Sys2Proof.Machine.execHartResume hart s
  | .hartSingleStep hart => Sys2Proof.Machine.execHartSingleStep hart s
  | .accessRegister hart regno write value => Sys2Proof.Machine.execAccessRegister hart regno write value s
  | .ndmreset => Sys2Proof.Machine.execNdmreset s
  | .triggerMatch hart trigger user => Sys2Proof.Machine.execTriggerMatch hart trigger user s
  | .systemBusAccess addr write size value => Sys2Proof.Machine.execSystemBusAccess addr write size value s
  | .oscillatorStart => Sys2Proof.Machine.execOscillatorStart s
  | .porstNFall => Sys2Proof.Machine.execPorstNFall s
  | .porstNRise => Sys2Proof.Machine.execPorstNRise s
  | .powerOn facts => Sys2Proof.Machine.execPowerOn facts s
  | .railEnRelease => Sys2Proof.Machine.execRailEnRelease s
  | .railToleranceTimeout => Sys2Proof.Machine.execRailToleranceTimeout s
  | .railOutOfBand rail back => Sys2Proof.Machine.execRailOutOfBand rail back s
  | .voltageGlitch => Sys2Proof.Machine.execVoltageGlitch s
  | .mainRailLoss => Sys2Proof.Machine.execMainRailLoss s
  | .vddAonLoss => Sys2Proof.Machine.execVddAonLoss s
  | .tierReset path value confirmed unissued => Sys2Proof.Machine.execTierReset path value confirmed unissued s
  | .portDieReset path value confirmed unissued => Sys2Proof.Machine.execPortDieReset path value confirmed unissued s
  | .engineDieReset path value => Sys2Proof.Machine.execEngineDieReset path value s
  | .portDieReturn tier facts => Sys2Proof.Machine.execPortDieReturn tier facts s
  | .engineDieReturn tier facts => Sys2Proof.Machine.execEngineDieReturn tier facts s
  | .dieResetHoldExpiry tier => Sys2Proof.Machine.execDieResetHoldExpiry tier s
  | .cisternDeclaredLost tier => Sys2Proof.Machine.execCisternDeclaredLost tier s
  | .warmRecovery facts => Sys2Proof.Machine.execWarmRecovery facts s

end Sys2Proof.Machine
end

