-- ==== Sys2Proof/Safety.lean ====
section
/-! DEFINITION. What counts as a safe run, in the terms the claims use: a command completes, a run that meets no fault, and the
canonical form of the stored memory. -/

namespace Sys2Proof.Safety

open Sys2Proof.Machine

/-- The command completes: it answers a next state with a property. -/
def Completes (c : Instr) (s : State) (post : State → Prop) : Prop := ∃ t, exec c s = .next t ∧ post t

/-- The memory that the spec addresses, line by line, is in canonical form. -/
def MemoryCanonical (s : State) : Prop := Sparse.wf (fun _ => none) s.cistern = true

/-- A run of `n` steps meets no fault and no refusal. -/
def SafeRun : Nat → State → Prop
  | 0, _ => True
  | n + 1, s => ∃ t, step s = .next t ∧ SafeRun n t

/-- Registers that taking a message can change: the fault blocks and the count of rill frames sent. -/
def faultReg (o : Nat) : Bool :=
  (fltBase ≤ o && o < fltBase + 0x10000) || o = rilBase + 0x40 || (0x100000 ≤ o && 0x60000 ≤ o % 0x100000)

/-- `t` differs from `s` at most by what the fault collector does with messages: its own registers and records, the
host event logs, frames and interrupts sent, and the clock the management processor asks for. -/
structure Reports (s t : State) : Prop where
  frame : t = { s with regs := t.regs, flt := t.flt, mgmt := t.mgmt, ports := t.ports, out := t.out, pool := t.pool }
  regs : ∀ o, faultReg o = false → t.reg o = s.reg o
  mgmt : t.mgmt = { s.mgmt with pllAt := t.mgmt.pllAt }

/-- A register of one word can be written over a path: the path is open, and the register's die is up (R470-R474). -/
structure Writable (path : Path) (o : Nat) (s : State) : Prop where
  opened : s.pathOpen path = true
  up : s.blockDown o = false
  present : o < 0x100000 ∨ o / 0x100000 - 1 < s.nTiers

/-- Only registers for which `p` holds can differ. -/
def OnlyRegs (p : Nat → Prop) (s t : State) : Prop := t = { s with regs := t.regs } ∧ ∀ o, ¬p o → t.reg o = s.reg o

/-! ### Host accesses -/

/-- A request of host address `hpa` is admitted at port `p`, lies in its committed decoder, and finds its tier awake. -/
structure Arrives (p hpa : Nat) (s : State) : Prop where
  admits : s.admits p = true
  committed : (s.port p).decoder.committed = true
  above : (s.port p).decoder.base ≤ hpa
  below : hpa < (s.port p).decoder.base + (s.port p).decoder.size
  awake : (s.tier (portTier p)).power = 0

/-- The device address of a host address at a port. -/
def dpaOf (p hpa : Nat) (s : State) : Nat := hpa - (s.port p).decoder.base
/-- The extent index of a device address within a window. -/
def indexOf (w : Window) (dpa : Nat) : Nat := (dpa - w.wbase * 2 ^ 28) / 2 ^ 21

/-- The request finds an open window of a context that is not FROZEN. -/
structure FindsWindow (p hpa : Nat) (w : Window) (s : State) : Prop extends Arrives p hpa s where
  window : ∃ i, (s.port p).windowAt (dpaOf p hpa s) = some (i, w)
  opened : w.opened = true
  thawed : (s.ctx w.ctx).state ≠ .frozen

/-- The request reaches an extent of a tier of this package that can serve it now, as the access `a`. -/
structure Reached (p hpa : Nat) (w : Window) (a : Acc) (s : State) : Prop extends FindsWindow p hpa w s where
  entry : ∃ e, s.ext w.ctx (indexOf w (dpaOf p hpa s)) = e ∧ e.valid = true ∧ e.retired = false ∧ e.remote = false ∧
    e.migrating = false ∧ a.t = e.pen / 2 ^ 20 % 8 ∧ a.off = e.pen % 2 ^ 20 * 2 ^ 21 + dpaOf p hpa s % 2 ^ 21
  access : a = { t := a.t, off := a.off, ctx := w.ctx, key := (s.ctx w.ctx).keyId, cls := (s.ctx w.ctx).cls
                 integ := (s.ctx w.ctx).integrity, noalloc := (s.ctx w.ctx).noalloc, wthru := (s.ctx w.ctx).wthru
                 dpa := dpaOf p hpa s / 64 * 64 }
  path : s.reaches (portTier p) a.t = true
  token : s.hasToken p a.cls = true
  serves : (s.tier a.t).power = 0
  ready : s.tierWait a.t = none
  readable : (s.validLine a.t (extOf a.off)).primaryBad = false ∧ (s.validLine a.t (extOf a.off)).shadowBad = false

/-- The line of an access stands in way `y` of its basin set, and every way entry of the set checks. -/
structure InWay (a : Acc) (y : Nat) (s : State) : Prop where
  checks : ∀ k, k < 16 → (s.way a.t (s.sliceOf a.t a.off) (setNo a.off) k).copy0Bad = false ∧
    (s.way a.t (s.sliceOf a.t a.off) (setNo a.off) k).copy1Bad = false
  found : s.findWay a.t (s.sliceOf a.t a.off) (setNo a.off) (sectorOf a.off) = some y
  present : (s.way a.t (s.sliceOf a.t a.off) (setNo a.off) y).present.getLsbD (basinLine a.off) = true
  clean : ((s.way a.t (s.sliceOf a.t a.off) (setNo a.off) y).line (basinLine a.off)).code = .clean
  cached : a.noalloc = false

/-- What tenants have stored, and the tables that place it, are the same. -/
structure Kept (s t : State) : Prop where
  ctxs : t.ctxs = s.ctxs
  exts : t.exts = s.exts
  alloc : t.alloc = s.alloc
  valid : t.valid = s.valid
  slices : t.slices = s.slices
  cistern : t.cistern = s.cistern
  chans : t.chans = s.chans
  tags : t.tagSets = s.tagSets
  keys : t.keys = s.keys
  poison : t.poison = s.poison

/-! ### Descriptors -/

/-- The descriptor has completed: it has left its buffer, and its completion is queued with a status and a result. -/
structure Done (d : DescRef) (status result : Nat) (s t : State) : Prop where
  left : t.fetched = s.fetched.filter (fun x => x.ref ≠ d)
  queued : ∃ q, t.cplQ = s.cplQ ++ [{ ring := d.ring, index := d.index, cookie := d.cookie, status := status, quiet := q
                                      result := result }]

/-- A change of the context table made on tier `u` commits at once: no change waits and every tier can acknowledge. -/
def CommitsNow (u : Nat) (s : State) : Prop := s.acks u = true ∧ s.commits = []

/-- No request of a context has passed its translation point and not left (R22). -/
def NoneUnder (c : Nat) (s : State) : Prop :=
  (∀ o ∈ s.remote, o.ctx ≠ c) ∧ (∀ r ∈ s.held, r.passed = true → r.remote = none → r.ctx ≠ c)

/-! ### Data tasks -/

/-- The data task of a descriptor begins: the descriptor executes, its task has the opcode, and its pieces wait or are placed. -/
def Begins (d : DescRef) (op : Nat) (s t : State) : Prop :=
  (∃ k, t.taskOf d = some k ∧ k.op = op ∧ k.status = 0 ∧ k.done = 0 ∧ ∃ p, (p ∈ t.pieces ∨ p ∈ k.toPlace) ∧ p.desc = d) ∧
  t.fetched = s.fetched.map (fun f => if f.ref = d then { f with running := true } else f) ∧
  t = { s with fetched := t.fetched, tasks := t.tasks, pieces := t.pieces, wakeReq := t.wakeReq }

/-- A context range that a data task may use: the context is in one of the states, and the range lies in its window with every
extent mapped. -/
def Usable (c off len : Nat) (legal : List CtxState) (s : State) : Prop :=
  c < 2 ^ 18 ∧ (s.ctx c).state ∈ legal ∧ s.rangeIn c off len = true ∧ s.rangeMapped c off len = true

/-! ### Metering -/

/-- A mark has closed the open tick under a number: the tick holds a record for every context that is not FREE or was released in
it, and joins the history where that fits; the next tick is open from now. -/
def Closes (num : Nat) (unsync : Bool) (s t : State) : Prop :=
  t.lastTick = num % 2 ^ 32 ∧ t.reg (mtrBase + 0x10) = BitVec.ofNat 64 s.us ∧ t.meter.openUnsync = unsync ∧
  t.meter.createdIn = [] ∧ t.meter.released = [] ∧ t.flag mtrBase MTR_STATUS_UNSYNC = unsync ∧
  ∃ k : Tick, k.num = num ∧ k.start = (s.reg (mtrBase + 0x10)).toNat ∧ k.duration = s.us - k.start ∧ k.markAt = s.us ∧
    k.unsync = (s.meter.openUnsync || unsync) ∧ k.finished = false ∧ k.sealed = none ∧
    (∀ c, c ∈ k.records.map (·.ctx) ↔ (∃ e ∈ s.ctxs, e.1 = c ∧ e.2.state ≠ .free) ∨ c ∈ s.meter.released.map (·.1)) ∧
    (s.historyFits (s.meter.ticks ++ [k]) = true → t.meter.ticks = s.meter.ticks ++ [k])

/-- The descriptor waits: it executes, and no completion is queued. -/
def Waits (d : DescRef) (s t : State) : Prop :=
  t.fetched = s.fetched.map (fun f => if f.ref = d then { f with running := true } else f) ∧ t.cplQ = s.cplQ

/-! ### MCTP -/

/-- Services takes an MCTP request: the package is up, not locked down, not in recovery and not SCRAPPED, Services runs with fewer
than four requests before it, and a request over PCIe has a control port's link (R368). -/
structure Asked (m : MctpReq) (s : State) : Prop where
  free : s.flt.lockedDown = false
  up : s.pkgMode.mode = .up
  reached : m.binding < 2 ∨ ∃ p ∈ s.controlPorts, s.linkUp p = true
  booted : s.recovery = false
  live : s.lifeCycle ≠ 5
  serves : s.servicesRun = true
  room : m.ahead < 4

/-- The answer to an MCTP request, and what else has changed. -/
def Answers (mtype code : Nat) (payload : List Nat) (s t : State) : Prop := t = (askPll s).emit (.mctp mtype code payload)

end Sys2Proof.Safety
end

