-- ==== Sys2Proof/Certificates/Slice0/Obligations.lean ====
section
/-! DEFINITION. The statements for the provers: one per family of commands and kind of state, the numbered rules stated whole, and what
every step keeps. -/

open Sys2Proof Sys2Proof.Machine Sys2Proof.Safety

/-- Taking a command: a step of a state whose queue holds the command c in front is exec of c on that state with the queue's rest; with none
waiting a step is the passing of time (the model's choice, assumption log entry 3). -/
def Obligations.StepTakesFront : Prop :=
  (∀ (c : Instr) (l : List Instr) (s : State), step { s with pending := c :: l } = exec c { s with pending := l }) ∧
  (∀ (s : State), s.pending = [] → step s = .next (passTime s))

/-- The state after reset, VDD_AON having just risen: no command waits, the time base reads 0, no register is written (each reads its reset
value), no context, key, ring or stored line exists, no output has been made, and the memory is in canonical form. The choices behind it
(which fuses and flash contents a part leaves the factory with) are assumption log entry 7's. -/
def Obligations.ResetState : Prop :=
  let s := State.reset
  s.pending = [] ∧ s.us = 0 ∧ s.frac = 0 ∧ s.out = [] ∧ s.regs = [] ∧ s.ctxs = [] ∧ s.exts = [] ∧ s.keys = [] ∧ s.rings = [] ∧
  s.cistern = [] ∧ s.slices = [] ∧ s.held = [] ∧ s.remote = [] ∧ s.cplQ = [] ∧ s.fetched = [] ∧
  (∀ o, s.reg o = regReset o) ∧ (∀ c, (s.ctx c).state = .free) ∧ (∀ k, s.key k = none) ∧
  s.pkgMode.mode = .aon ∧ s.pkgMode.railEn = false ∧ s.pkgMode.sysReady = false ∧ s.pkgMode.thermtrip = false ∧
  s.mgmt.services = false ∧ s.flt.lockedDown = false ∧ s.dbg.unlocked = false ∧
  (∀ p, s.admits p = false) ∧ MemoryCanonical s ∧ step s = .next s

/-- R41, R42, R50: a port that is enabled, out of reset and down comes up, when a lane passes, at the lower of the partner's rate and
TGT_SPEED, at x2 only with both lanes and without X1_ONLY; the polarity, the reversal and the CXL mode it found are shown, and the sticky
bits tell a rate or a width below the target and a partner without 256-byte flits. Nothing but registers, ports and what a message to the
collector changes is touched. R45, R44, R68 (chapter 02): the power states of a trained link, margining, a retrain and the loss of the link.
The narrowed link keeps one lane and returns to full width; an entry to L1 is taken from L0 and L0p; margining runs in L0 at 16 GT/s and
above and leaves a report; a lost link's requests go and its register shows no link. -/
def Obligations.LinkTrainingAndStates : Prop :=
  (∀ (p partner : Nat) (lane0 lane1 rev flit256 : Bool) (pol : BitVec 2) (s : State),
    s.mayTrain p = true → p < 12 * s.nTiers → s.portOn p = true → s.inPerst p = false → s.linkUp p = false →
    (s.port (p / 2 * 2)).bonded = false → (lane0 || lane1) = true →
    Completes (.linkTrainingComplete p partner lane0 lane1 rev pol flit256) s (fun t =>
      let b := hptBase p
      let tgt := min 5 (s.get b HPT_PORT_CFG_TGT_SPEED)
      let x1 := s.flag b HPT_PORT_CFG_X1_ONLY
      let width := if lane0 && lane1 && !x1 then 2 else 1
      t.ltssm p = 3 ∧
      t.get b HPT_LINK_STATUS_SPEED = min (min 5 partner) tgt ∧
      t.get b HPT_LINK_STATUS_WIDTH = width ∧
      t.flag b HPT_LINK_STATUS_LANE_REV = rev ∧
      t.get b HPT_LINK_STATUS_POL_INV = pol.toNat ∧
      t.flag b HPT_LINK_STATUS_CXL_MODE = flit256 ∧
      t.flag b HPT_ERR_STATUS_DOWNTRAIN_SPEED = (s.flag b HPT_ERR_STATUS_DOWNTRAIN_SPEED || decide (min 5 partner < tgt)) ∧
      t.flag b HPT_ERR_STATUS_DOWNTRAIN_WIDTH = (s.flag b HPT_ERR_STATUS_DOWNTRAIN_WIDTH || (decide (width = 1) && !x1)) ∧
      t.flag b HPT_ERR_STATUS_CXL_NEG_FAIL = (s.flag b HPT_ERR_STATUS_CXL_NEG_FAIL || !flit256) ∧
      t = { s with regs := t.regs, ports := t.ports, flt := t.flt, mgmt := t.mgmt, out := t.out, pool := t.pool })) ∧
  ((∀ (p : Nat) (s : State), s.flag (hptBase p) HPT_PORT_CFG_L0P_EN = true → s.ltssm p = 3 →
    s.get (hptBase p) HPT_LINK_STATUS_WIDTH = 2 → (s.port (p / 2 * 2)).bonded = false →
    ∀ c ∈ [Instr.l0pDeviceRequest p, Instr.l0pPartnerRequest p], Completes c s (fun t =>
      t.ltssm p = 4 ∧ t.get (hptBase p) HPT_LINK_STATUS_WIDTH = 1 ∧ (t.port p).fullWidth = 2 ∧
      t = { s with regs := t.regs, ports := t.ports } ∧ ∀ o, o ≠ hptBase p + 8 → t.reg o = s.reg o)) ∧
  (∀ (p : Nat) (s : State), s.flag (hptBase p) HPT_PORT_CFG_L0P_EN = false →
    exec (.l0pDeviceRequest p) s = .next s) ∧
  (∀ (p : Nat) (s : State), s.ltssm p = 4 → s.deepQueue = true → (s.port p).fullWidth < 4 →
    Completes (.linkWiden p) s (fun t =>
      t.ltssm p = 3 ∧ t.get (hptBase p) HPT_LINK_STATUS_WIDTH = (s.port p).fullWidth ∧ t = { s with regs := t.regs } ∧
      ∀ o, o ≠ hptBase p + 8 → t.reg o = s.reg o)) ∧
  (∀ (p : Nat) (s : State), s.ltssm p = 3 ∨ s.ltssm p = 4 → (s.port (p / 2 * 2)).bonded = false →
    Completes (.aspmL1Entry p) s (fun t => t.ltssm p = 6 ∧ t = { s with regs := t.regs } ∧
      ∀ o, o ≠ hptBase p + 8 → t.reg o = s.reg o)) ∧
  (∀ (p : Nat) (s : State), s.ltssm p = 6 → (s.port p).fullWidth < 4 →
    Completes (.aspmL1Exit p) s (fun t =>
      t.ltssm p = 3 ∧ t.get (hptBase p) HPT_LINK_STATUS_WIDTH = (s.port p).fullWidth ∧ t = { s with regs := t.regs } ∧
      ∀ o, o ≠ hptBase p + 8 → t.reg o = s.reg o)) ∧
  (∀ (p lane : Nat) (voltage : Bool) (result : BitVec 8) (s : State), s.ltssm p = 3 →
    3 ≤ s.get (hptBase p) HPT_LINK_STATUS_SPEED → lane < s.get (hptBase p) HPT_LINK_STATUS_WIDTH →
    Completes (.laneMargining p lane voltage result) s (fun t =>
      (t.port p).margin = some (lane, voltage, result) ∧ t.out = .marginReport p lane result :: s.out ∧
      t = { s with ports := t.ports, out := t.out })) ∧
  (∀ (p : Nat) (s : State), s.linkUp p = true → s.blockDown (hptBase p) = false →
    Completes (.retrain p) s (fun t => t.ltssm p = 5 ∧ t = { s with regs := t.regs } ∧
      ∀ o, o ≠ hptBase p + 8 → t.reg o = s.reg o)) ∧
  (∀ (p : Nat) (s : State), s.linkUp p = true →
    Completes (.flitReplayLimit p) s (fun t =>
      t.flag (hptBase p) HPT_ERR_STATUS_REPLAY_LIMIT = true ∧ t.ltssm p = 5 ∧ t.ctxs = s.ctxs ∧ t.cistern = s.cistern)) ∧
  (∀ (p : Nat) (s : State), s.linkUp p = true → (s.port (p / 2 * 2)).bonded = false →
    Completes (.linkDown p) s (fun t =>
      t.ltssm p = 0 ∧ t.get (hptBase p) HPT_LINK_STATUS_WIDTH = 0 ∧ t.flag (hptBase p) HPT_ERR_STATUS_LINK_DOWN = true ∧
      (∀ r ∈ t.held, r.port = p → r.remote.isSome = true) ∧ (∀ o ∈ t.remote, o.port = p → o.internal = true) ∧
      t.ctxs = s.ctxs ∧ t.exts = s.exts ∧ t.cistern = s.cistern ∧ t.slices = s.slices ∧ t.valid = s.valid)))

/-- R47, R65, R51 (chapter 02): PERST_N resets the link, the configuration space and the mailbox state of its four ports and nothing a
tenant stored; its release lets BOND and CTLFN take effect; the HDM decoder commits with one way and with base and size in multiples of 256
MiB only, and else shows that it has not. R34: losing a UCIe module lowers its link's live modules by one and no other link's, and touches
nothing a tenant stored. R63, R65, R66, R67: a port's configuration and its test loop. A third CTLFN, a CTLFN on a bonded port, and a BOND
on an odd port, past eight bonds, beside a CTLFN or over a bound context are ignored; clearing ENABLE drops the link. Errors count while the
checker is locked, and a partner that shows no pattern within the second fails the loop. -/
def Obligations.PortResets : Prop :=
  ((∀ (g : Nat) (s : State), Completes (.perstNAssert g) s (fun t =>
    Sparse.get (fun _ => false) t.perstLow g = true ∧
    (∀ p, p / 4 = g → p < 12 * s.nTiers → (t.port p).decoder = {} ∧ (t.port p).intPolicy = [] ∧ (t.port p).tsOffset = 0 ∧
      (t.port p).windows = (s.port p).windows ∧ (t.port p).blocks = (s.port p).blocks ∧ (t.port p).dc = (s.port p).dc) ∧
    t.ctxs = s.ctxs ∧ t.exts = s.exts ∧ t.alloc = s.alloc ∧ t.valid = s.valid ∧ t.cistern = s.cistern ∧ t.slices = s.slices ∧
    t.keys = s.keys)) ∧
  (∀ (g p : Nat) (sris : Bool) (s : State), p / 4 = g → p < 12 * s.nTiers →
    Completes (.perstNDeassert g sris) s (fun t =>
      Sparse.get (fun _ => false) t.perstLow g = false ∧
      (t.port p).ctlfn = s.flag (hptBase p) HPT_PORT_CFG_CTLFN ∧
      (t.port p).bonded = (decide (p % 2 = 0) && s.flag (hptBase p) HPT_PORT_CFG_BOND) ∧ (t.port p).sris = sris ∧
      t.ctxs = s.ctxs ∧ t.exts = s.exts ∧ t.cistern = s.cistern)) ∧
  (∀ (p base size ways : Nat) (s : State), s.hostPort p = true →
    let ok := decide (ways = 1 ∧ base % 2 ^ 28 = 0 ∧ size % 2 ^ 28 = 0)
    exec (.hdmDecoderCommit p base size ways) s = .next (s.setPort p { s.port p with
      decoder := { base := base, size := size, committed := ok, errNotCommitted := !ok } }))) ∧
  (∀ (l : Nat) (s : State), l < s.nTiers → 2 < s.nTiers → 0 < s.linkLive l →
    Completes (.cascadeModuleLost l) s (fun t =>
      t.linkLive l = s.linkLive l - 1 ∧ (∀ k, k ≠ l → t.linkLive k = s.linkLive k) ∧
      t.ctxs = s.ctxs ∧ t.exts = s.exts ∧ t.cistern = s.cistern ∧ t.held = s.held)) ∧
  ((∀ (path : Path) (p : Nat) (v : Word) (s : State), Writable path (hptBase p) s → p < 96 → s.locked = false →
    v.getLsbD 8 = false → v.getLsbD 9 = false → s.flag (hptBase p) HPT_PORT_CFG_ENABLE = true →
    v.getLsbD 0 = true →
    Completes (.hptPortCfgWrite path p v) s (fun t => OnlyRegs (· = hptBase p) s t ∧
      ∀ i, i < 10 → i ∉ [1, 2] → (t.reg (hptBase p)).getLsbD i = v.getLsbD i)) ∧
  (∀ (path : Path) (p : Nat) (v : Word) (s : State), Writable path (hptBase p) s → p < 96 → s.locked = false →
    v.getLsbD 9 = true → s.flag (hptBase p) HPT_PORT_CFG_CTLFN = false →
    2 ≤ (s.portList.filter (fun x => x ≠ p && s.flag (hptBase x) HPT_PORT_CFG_CTLFN)).length →
    Completes (.hptPortCfgWrite path p v) s (fun t => t.flag (hptBase p) HPT_PORT_CFG_CTLFN = false)) ∧
  (∀ (path : Path) (p : Nat) (v : Word) (s : State), Writable path (hptBase p) s → p < 96 → s.locked = false →
    v.getLsbD 8 = true → s.flag (hptBase p) HPT_PORT_CFG_BOND = false →
    p % 2 = 1 ∨ 8 ≤ (s.portList.filter (fun x => x ≠ p && s.flag (hptBase x) HPT_PORT_CFG_BOND)).length ∨
      s.portBound p = true ∨ s.portBound (p + 1) = true ∨ s.flag (hptBase (p + 1)) HPT_PORT_CFG_CTLFN = true →
    Completes (.hptPortCfgWrite path p v) s (fun t => t.flag (hptBase p) HPT_PORT_CFG_BOND = false)) ∧
  (∀ (path : Path) (p : Nat) (v : Word) (s : State), Writable path (hptBase p + 0x10) s → p < 96 →
    s.flag (hptBase p) HPT_PORT_CFG_ENABLE = true → v.getLsbD 4 = true →
    Completes (.hptLoopCtlWrite path p v) s (fun t => Reports s t)) ∧
  (∀ (path : Path) (p : Nat) (v : Word) (s : State), Writable path (hptBase p + 0x10) s → p < 96 →
    s.flag (hptBase p) HPT_PORT_CFG_ENABLE = false → v.getLsbD 4 = true → s.flag (hptBase p) HPT_LOOP_CTL_RUN = false →
    Completes (.hptLoopCtlWrite path p v) s (fun t => t.flag (hptBase p) HPT_LOOP_CTL_RUN = true ∧
      t.flag (hptBase p) HPT_LOOP_CTL_LOCK = false ∧ t.get (hptBase p) HPT_LOOP_ERR_COUNT = 0 ∧ t.ltssm p = 7 ∧
      OnlyRegs (fun o => o ∈ [hptBase p + 8, hptBase p + 0x10, hptBase p + 0x14]) s t)) ∧
  (∀ (p : Nat) (s : State), s.get (hptBase p) HPT_LOOP_CTL_MODE = 3 → s.flag (hptBase p) HPT_LOOP_CTL_RUN = true →
    s.flag (hptBase p) HPT_LOOP_CTL_LOCK = false →
    Completes (.loopPartnerTimeout p) s (fun t => t.flag (hptBase p) HPT_ERR_STATUS_LOOP_FAIL = true ∧
      Reports (s.putFlag (hptBase p) HPT_ERR_STATUS_LOOP_FAIL true) t)) ∧
  (∀ (p errors : Nat) (lock : Bool) (s : State), s.flag (hptBase p) HPT_LOOP_CTL_RUN = true →
    Completes (.prbsCheckerLock p lock errors) s (fun t => t.flag (hptBase p) HPT_LOOP_CTL_LOCK = lock ∧
      t.get (hptBase p) HPT_LOOP_ERR_COUNT = (if lock || s.flag (hptBase p) HPT_LOOP_CTL_LOCK then
        min 0xFFFFFFFF (s.get (hptBase p) HPT_LOOP_ERR_COUNT + errors) else s.get (hptBase p) HPT_LOOP_ERR_COUNT) ∧
      OnlyRegs (fun o => o = hptBase p + 0x10 ∨ o = hptBase p + 0x14) s t)))

/-- R53, R54 (chapter 02): the mailbox of a port that is up answers each command with a code and its payload. The commands that only report
leave the port as it is; records fetched are marked so; an unlisted command is unsupported. R53: the mailbox commands that change a port:
clearing records, the interrupt policy and the timestamp. -/
def Obligations.Mailbox : Prop :=
  (∀ (p : Nat) (s : State), s.mailboxUp p = true →
    let answers (c : Instr) (code : Nat) (payload : List Nat) : Prop := exec c s = .next (s.emit (.mailbox p code payload))
    (∀ log, Completes (.getEventRecords p log) s (fun t =>
      let lg := (s.port p).log log
      t.out = .mailbox p 0 ([lg.overflow, (lg.records.take 15).length, ofBool (lg.records.drop 15 ≠ [])] ++
        (lg.records.take 15).flatMap EventRec.fields) :: s.out ∧
      ((t.port p).log log).records.map (fun r => { r with fetched := false }) = lg.records.map (fun r => { r with fetched := false }) ∧
      t = { s with ports := t.ports, out := t.out })) ∧
    answers (.getEventInterruptPolicy p) 0
      ((upto 5).map (fun l => (Sparse.get (fun _ => (0 : BitVec 8)) (s.port p).intPolicy l).toNat)) ∧
    answers (.getTimestamp p) 0 [(BitVec.ofNat 64 (s.us * 1000) + (s.port p).tsOffset).toNat] ∧
    answers (.getSupportedLogs p) 0 [1, celUuid.toNat, celBytes.length] ∧
    (∀ off len, off + len ≤ celBytes.length → answers (.getLog p celUuid off len) 0 ((celBytes.drop off).take len)) ∧
    (∀ uuid off len, uuid ≠ celUuid → answers (.getLog p uuid off len) 2 []) ∧
    answers (.identifyMemoryDevice p) 0 [0, 0] ∧
    answers (.getHealthInfo p) 0 [(s.hottest (portTier p) / 8).toNat] ∧
    (∀ start, Completes (.getPoisonList p start) s (fun t =>
      t = { s with out := t.out } ∧ ∃ more ovf first, t.out = .mailbox p 0 ([more, ovf, first,
        min 32 (((s.portPoison p).drop start).length)] ++
        (((s.portPoison p).drop start).take 32).flatMap (fun e => [e.dpa, if e.extent then 2 ^ 21 else 64, e.source])) :: s.out)) ∧
    answers (.getDynamicCapacityConfiguration p) 0 [1, 0, 2 ^ 46, 2 ^ 28] ∧
    (∀ start count, answers (.getDynamicCapacityExtentList p start count) 0 (
      let all := (s.port p).dc.filter (fun e => e.accepted)
      [all.length, ((all.drop start).take count).length] ++
        ((all.drop start).take count).flatMap (fun e => [e.base, e.size, e.ctx, e.gen]))) ∧
    (∀ opcode, mailboxOpcodes.contains opcode = false → answers (.mailboxUnsupportedCommand p opcode) 3 [])) ∧
  (∀ (p : Nat) (s : State), s.mailboxUp p = true →
    (∀ log handles, (handles.all (fun h => ((s.port p).log log).records.any (fun r => r.handle = h))) = true →
      (s.port p).heldDc = [] →
      Completes (.clearEventRecords p log false handles) s (fun t =>
        t.out = .mailbox p 0 [] :: s.out ∧
        ((t.port p).log log).records = ((s.port p).log log).records.filter (fun r => !handles.contains r.handle) ∧
        t = { s with ports := t.ports, out := t.out })) ∧
    (∀ log handles h, h ∈ handles → ((s.port p).log log).records.any (fun r => r.handle = h) = false →
      exec (.clearEventRecords p log false handles) s = .next (s.emit (.mailbox p 0xE []))) ∧
    (∀ settings : List (BitVec 8), (∃ x ∈ settings, 2 ≤ x.toNat % 4) →
      exec (.setEventInterruptPolicy p settings) s = .next (s.emit (.mailbox p 2 []))) ∧
    (∀ settings : List (BitVec 8), (∀ x ∈ settings, x.toNat % 4 < 2) →
      Completes (.setEventInterruptPolicy p settings) s (fun t =>
        t.out = .mailbox p 0 [] :: s.out ∧ t = { s with ports := t.ports, out := t.out } ∧
        ∀ i (h : i < settings.length), Sparse.get (fun _ => (0 : BitVec 8)) (t.port p).intPolicy i = settings[i])) ∧
    (∀ ts : BitVec 64, Completes (.setTimestamp p ts) s (fun t =>
      t.out = .mailbox p 0 [] :: s.out ∧ t = { s with ports := t.ports, out := t.out } ∧
      BitVec.ofNat 64 (t.us * 1000) + (t.port p).tsOffset = ts)))

/-- R57, R58, R486, R53: the host's answers to dynamic capacity. Listing an offered extent accepts it; an empty list declines the oldest
offer and marks its window; naming what was never offered, or is not offered for release, returns Invalid Input and changes nothing; a
release, or REL_TMO, ends the pending release. Held events follow once the log has room. -/
def Obligations.DynamicCapacity : Prop :=
  (∀ (p : Nat) (r : DcRef) (s : State), s.mailboxUp p = true →
    (s.port p).dc.any (fun e => refNames r e && e.awaiting && !(s.port p).holdsBack 3 e) = true →
    Completes (.addDynamicCapacityResponse p (some r)) s (fun t =>
      t.out = .mailbox p 0 [] :: s.out ∧
      (t.port p).dc = (s.port p).dc.map (fun e => if refNames r e then { e with awaiting := false, accepted := true } else e) ∧
      (t.port p).windows = (s.port p).windows ∧ t = { s with ports := t.ports, out := t.out })) ∧
  (∀ (p : Nat) (r : DcRef) (s : State), s.mailboxUp p = true →
    (s.port p).dc.any (fun e => refNames r e && e.awaiting && !(s.port p).holdsBack 3 e) = false →
    exec (.addDynamicCapacityResponse p (some r)) s = .next (s.emit (.mailbox p 2 []))) ∧
  (∀ (p i : Nat) (e : DcExtent) (w : Window) (s : State), s.mailboxUp p = true →
    (s.port p).dc.find? (fun e => e.awaiting && !(s.port p).holdsBack 3 e) = some e → presentWindow (s.port p) e.ctx = some (i, w) →
    Completes (.addDynamicCapacityResponse p none) s (fun t =>
      Output.mailbox p 0 [] ∈ t.out ∧ (t.port p).window i = { w with declined := true } ∧ t.ctxs = s.ctxs)) ∧
  (∀ (p : Nat) (r : DcRef) (s : State), s.mailboxUp p = true →
    (s.port p).dc.find? (fun e => refNames r e && e.relDeadline.isSome && !(s.port p).holdsBack 4 e) = none →
    exec (.releaseDynamicCapacity p r) s = .next (s.emit (.mailbox p 2 []))) ∧
  (∀ (p : Nat) (r : DcRef) (e : DcExtent) (s : State), s.mailboxUp p = true →
    (s.port p).dc.find? (fun e => refNames r e && e.relDeadline.isSome && !(s.port p).holdsBack 4 e) = some e →
    Completes (.releaseDynamicCapacity p r) s (fun t =>
      t.out = .mailbox p 0 [] :: s.out ∧ (t.port p).dc = (s.port p).dc.filter (fun x => x ≠ e) ∧
      t = { s with ports := t.ports, out := t.out })) ∧
  (∀ (p base d : Nat) (e : DcExtent) (s : State), d ≤ s.us → e.relDeadline = some d →
    (s.port p).dc.find? (fun e => e.base = base && (e.relDeadline.elim false (fun d => decide (d ≤ s.us)))) = some e →
    Completes (.releaseTimeout p base) s (fun t =>
      (t.port p).dc = (s.port p).dc.filter (fun x => x ≠ e) ∧ t.ctxs = s.ctxs ∧ t.exts = s.exts ∧ t.cistern = s.cistern)) ∧
  (∀ (p : Nat) (s : State), Completes (.dcEventOfferWhenRoom p) s (fun t =>
    (t.port p).heldDc = (s.port p).heldDc.drop (64 - ((s.port p).log 4).records.length) ∧
    ((t.port p).log 4).records.length = min (max 64 ((s.port p).log 4).records.length)
      (((s.port p).log 4).records.length + (s.port p).heldDc.length) ∧
    t = { s with ports := t.ports, out := t.out }))

/-- R49, R50, R350: a port that admits no traffic takes none of the five requests. R51, R75, R79, R80, Table CTX-6: what a request finds
where it cannot be served. Outside the decoder, where no window or no extent is valid, on a retired extent or a tier out of reach a read
returns poison and a write its completion, and nothing stored changes; so in a window whose release is pending, without an event. A request
of a FROZEN context, and one for which its class has no token, is held and unanswered. R79, R106, R121, R202: the commands that take up held
requests. A token, a queue entry or victim-buffer room lets the oldest request that waits for it go; 1 ms after arrival the requests a port
holds for FROZEN contexts leave, the reads with poison. -/
def Obligations.HostRequests : Prop :=
  (∀ (p tag hpa : Nat) (l : Line) (be : BitVec 64) (poison : Bool) (s : State), s.admits p = false →
    ∀ c ∈ [Instr.memrd p tag hpa, .memrddata p tag hpa, .memwr p tag hpa l poison, .memwrptl p tag hpa be l poison,
      .meminv p tag hpa], exec c s = .next s) ∧
  (∀ (p tag hpa : Nat) (l : Line) (be : BitVec 64) (poison : Bool) (s : State),
    let reads := [Instr.memrd p tag hpa, .memrddata p tag hpa]
    let writes := [Instr.memwr p tag hpa l poison, .memwrptl p tag hpa be l poison]
    let lost : Prop :=
      (∀ c ∈ reads, Completes c s (fun t => (∃ d, Output.readResp p tag 0 true d ∈ t.out) ∧ Kept s t ∧ t.held = s.held)) ∧
      (∀ c ∈ writes, Completes c s (fun t => (∃ d, Output.writeResp p tag d ∈ t.out) ∧ Kept s t ∧ t.held = s.held))
    let holds (why : HoldWhy) : Prop := ∀ c ∈ reads ++ writes, Completes c s (fun t =>
      Kept s t ∧ t.out = s.out ∧ ∃ r, t.held = s.held ++ [r] ∧ r.port = p ∧ r.tag = tag ∧ r.why = why)
    (s.admits p = true → (s.tier (portTier p)).power = 0 → (s.port p).decoder.committed = false → lost) ∧
    (s.admits p = true → (s.tier (portTier p)).power = 0 → hpa < (s.port p).decoder.base ∨
      (s.port p).decoder.base + (s.port p).decoder.size ≤ hpa → lost) ∧
    (Arrives p hpa s → (s.port p).windowAt (dpaOf p hpa s) = none → lost) ∧
    (∀ i w, Arrives p hpa s → (s.port p).windowAt (dpaOf p hpa s) = some (i, w) → w.opened = false → lost) ∧
    (∀ i w, Arrives p hpa s → (s.port p).windowAt (dpaOf p hpa s) = some (i, w) → w.opened = false → w.pendrel = true →
      ∀ c ∈ reads, Completes c s (fun t => t.regs = s.regs ∧ t.flt = s.flt ∧ ∃ d, t.out = .readResp p tag 0 true d :: s.out)) ∧
    (∀ w, FindsWindow p hpa w s → (s.ext w.ctx (indexOf w (dpaOf p hpa s))).valid = false → lost) ∧
    (∀ w, FindsWindow p hpa w s → (s.ext w.ctx (indexOf w (dpaOf p hpa s))).valid = true →
      (s.ext w.ctx (indexOf w (dpaOf p hpa s))).retired = true → lost) ∧
    (∀ w e, FindsWindow p hpa w s → s.ext w.ctx (indexOf w (dpaOf p hpa s)) = e → e.valid = true → e.retired = false →
      e.remote = false → s.reaches (portTier p) (e.pen / 2 ^ 20 % 8) = false → lost) ∧
    (∀ i w, Arrives p hpa s → (s.port p).windowAt (dpaOf p hpa s) = some (i, w) → w.opened = true →
      (s.ctx w.ctx).state = .frozen → (s.held.filter (fun x => x.port = p && x.why = .frozen)).length < 64 →
      holds .frozen) ∧
    (∀ w e, FindsWindow p hpa w s → s.ext w.ctx (indexOf w (dpaOf p hpa s)) = e → e.valid = true → e.retired = false →
      e.remote = false → s.reaches (portTier p) (e.pen / 2 ^ 20 % 8) = true → s.hasToken p (s.ctx w.ctx).cls = false →
      holds .token) ∧
    (Arrives p hpa s → Completes (.meminv p tag hpa) s (fun t =>
      Kept s t ∧ ∃ d, t.out = .writeResp p tag d :: s.out ∧ t = { s with out := t.out, fresh := t.fresh })) ∧
    (s.admits p = true → (s.port p).decoder.committed = false →
      Completes (.meminv p tag hpa) s (fun t => (∃ d, Output.writeResp p tag d ∈ t.out) ∧ Kept s t))) ∧
  ((∀ (t c : Nat) (r : Req) (s : State),
    s.held.find? (fun r => r.tier = t && r.chan = c && (r.why = .queueFull || r.why = .rankHeld)) = some r →
    exec (.writeWaitsForQueueRoom t c) s = .next (serveReq r { s with held := s.held.erase r })) ∧
  (∀ (t c : Nat) (s : State), (∀ r ∈ s.held, r.why ≠ .queueFull ∧ r.why ≠ .rankHeld) →
    exec (.writeWaitsForQueueRoom t c) s = .next s) ∧
  (∀ (t j : Nat) (r : Req) (s : State),
    s.held.find? (fun r => r.tier = t && r.why = .victimFull && s.sliceOf t r.off = j) = some r →
    exec (.allocationWaitsForVictimRoom t j) s = .next (serveReq r { s with held := s.held.erase r })) ∧
  (∀ (p k : Nat) (s : State), (∀ r ∈ s.held, r.why ≠ .token) →
    Completes (.tokenReleaseHeldRequest p k) s (fun t => (t.portClass p k).used = (s.portClass p k).used - 1 ∧
      t = { s with portWeirs := t.portWeirs })) ∧
  (∀ (p : Nat) (s : State), Completes (.frozenHoldExpiry p) s (fun t =>
    let due (r : Req) : Prop := r.port = p ∧ r.why = .frozen ∧ r.arrival + 1000 ≤ s.us
    Kept s t ∧ (∀ r, r ∈ t.held ↔ r ∈ s.held ∧ ¬due r) ∧
    (∀ r ∈ s.held, due r → r.kind.isRead = true → ∃ d, Output.readResp p r.tag 0 true d ∈ t.out) ∧
    (∀ r ∈ s.held, due r → r.kind.isRead = false → ∃ d, Output.writeResp p r.tag d ∈ t.out))))

/-- R85, Table CTX-6: a read of a page never written returns zeros and stores nothing. R103: a read that hits a present line returns it, and
changes no line, page bit or table. R37, R38, R104, R105: a write that hits a present line of a write-back context in a slice at full width
is answered, stores the line in the basin, DIRTY, and stores nothing else: a whole write the line sent, a partial write the old line with
the enabled bytes replaced. R37, R103: a host reads back the line it wrote. -/
def Obligations.BasinHits : Prop :=
  (∀ (p tag hpa : Nat) (w : Window) (a : Acc) (s : State), Reached p hpa w a s → s.pageValid a.t a.off = false →
    ∀ c ∈ [Instr.memrd p tag hpa, .memrddata p tag hpa], Completes c s (fun t =>
      Kept s t ∧ t.regs = s.regs ∧ t.held = s.held ∧ ∃ d, t.out = .readResp p tag 0 false d :: s.out)) ∧
  (∀ (p tag hpa y : Nat) (w : Window) (a : Acc) (s : State), Reached p hpa w a s → s.pageValid a.t a.off = true → InWay a y s →
    ∀ c ∈ [Instr.memrd p tag hpa, .memrddata p tag hpa], Completes c s (fun t =>
      (∃ d, t.out = .readResp p tag ((s.way a.t (s.sliceOf a.t a.off) (setNo a.off) y).line (basinLine a.off)).data false d :: s.out) ∧
      t.ctxs = s.ctxs ∧ t.exts = s.exts ∧ t.valid = s.valid ∧ t.cistern = s.cistern ∧ t.chans = s.chans ∧ t.held = s.held ∧
      t.poison = s.poison ∧
      (∀ k i, (t.way a.t (s.sliceOf a.t a.off) (setNo a.off) k).line i = (s.way a.t (s.sliceOf a.t a.off) (setNo a.off) k).line i) ∧
      (∀ t' j n, (t', j, n) ≠ (a.t, s.sliceOf a.t a.off, setNo a.off) → t' < 8 → j < 16 →
        ∀ k, t.way t' j n k = s.way t' j n k))) ∧
  (∀ (p tag hpa y : Nat) (l : Line) (be : BitVec 64) (w : Window) (a : Acc) (s : State), Reached p hpa w a s →
    s.pageValid a.t a.off = true → InWay a y s → s.through a = false → s.get (eccBase a.t) ECC_INJ_CTL_COUNT = 0 →
    let j := s.sliceOf a.t a.off
    let n := setNo a.off
    let i := basinLine a.off
    let stores (c : Instr) (new : Line) : Prop := Completes c s (fun t =>
      (∃ d, t.out = .writeResp p tag d :: s.out) ∧ ((t.way a.t j n y).line i).data = new ∧
      (t.way a.t j n y).dirty.getLsbD i = true ∧ (t.way a.t j n y).present.getLsbD i = true ∧
      t.ctxs = s.ctxs ∧ t.exts = s.exts ∧ t.valid = s.valid ∧ t.cistern = s.cistern ∧ t.chans = s.chans ∧ t.held = s.held ∧
      (∀ k m, (k, m) ≠ (y, i) → (t.way a.t j n k).line m = (s.way a.t j n k).line m) ∧
      (∀ t' j' n', (t', j', n') ≠ (a.t, j, n) → t' < 8 → j' < 16 → ∀ k, t.way t' j' n' k = s.way t' j' n' k))
    stores (.memwr p tag hpa l false) l ∧
    stores (.memwrptl p tag hpa be l false) (mergeBytes ((s.way a.t j n y).line i).data l be)) ∧
  (∀ (p tag tag' hpa y : Nat) (l : Line) (w : Window) (a : Acc) (s t : State), Reached p hpa w a s →
    s.pageValid a.t a.off = true → InWay a y s → s.through a = false → s.get (eccBase a.t) ECC_INJ_CTL_COUNT = 0 →
    exec (.memwr p tag hpa l false) s = .next t → t.hasToken p a.cls = true →
    Completes (.memrd p tag' hpa) t (fun u => ∃ d, u.out = .readResp p tag' l false d :: t.out))

/-- R77, Table CTX-5, R253, R255: a context command in a state its row does not list completes WRONG_STATE, one whose CTXID is out of range
BAD_FIELD, and neither changes a context. R69, R174, Table CTX-5 action a: CTX_CREATE makes a FREE context BUILDING with the fields the
descriptor names, no port and no extent; a context that is not FREE is refused, and so is an EMPTY key or a context released in the open
tick. R258, R262: the queries put a context's 320 bytes, or 16 bytes for each extent entry, into host memory and change nothing. -/
def Obligations.ContextCreation : Prop :=
  (∀ (d : DescRef) (c : Nat) (f : Fetched) (s : State),
    let cmds : List (Instr × Nat × List CtxState) :=
      [(.ctxActivate d c, 0x0102, [.building]), (.ctxDrain d c, 0x0103, [.live, .frozen]), (.ctxFreeze d c, 0x0104, [.live]),
       (.ctxThaw d c, 0x0105, [.frozen]), (.ctxRelease d c, 0x0106, [.building, .draining])]
    ∀ x ∈ cmds, s.ready d x.2.1 [(8, 4, c)] = some f →
      (2 ^ 18 ≤ c → Completes x.1 s (fun t => Done d 0x02 0 s t ∧ Kept s t)) ∧
      (c < 2 ^ 18 → (s.ctx c).state ∉ x.2.2 → Completes x.1 s (fun t => Done d 0x05 0 s t ∧ Kept s t))) ∧
  (∀ (d : DescRef) (c account keyid cls cflags wbase wsize : Nat) (f : Fetched) (s : State),
    s.ready d 0x0100 [(8, 4, c), (12, 2, account), (14, 2, keyid), (16, 1, cls), (17, 1, cflags), (18, 4, wbase),
      (22, 2, wsize)] = some f → c < 0x3FFFF → 1 ≤ keyid → keyid < 4096 → cls < 64 → cflags < 16 → cflags % 4 ≠ 3 →
    1 ≤ wsize → wsize ≤ 8192 → wbase + wsize ≤ 262144 → CommitsNow f.tier s →
    let cmd := Instr.ctxCreate d c account keyid cls cflags wbase wsize
    ((s.ctx c).state ≠ .free → Completes cmd s (fun t => Done d 0x05 0 s t ∧ Kept s t)) ∧
    ((s.ctx c).state = .free → s.key keyid = none → Completes cmd s (fun t => Done d 0x02 0 s t ∧ Kept s t)) ∧
    ((s.ctx c).state = .free → s.key keyid ≠ none → Sparse.get (fun _ => none) s.meter.released c ≠ none →
      Completes cmd s (fun t => Done d 0x0D 0 s t ∧ Kept s t)) ∧
    ((s.ctx c).state = .free → s.key keyid ≠ none → Sparse.get (fun _ => none) s.meter.released c = none →
      claimList (s.homeTier c) c (wsize * 128) s = none → Completes cmd s (fun t => Done d 0x06 0 s t ∧ Kept s t)) ∧
    ((s.ctx c).state = .free → s.key keyid ≠ none → Sparse.get (fun _ => none) s.meter.released c = none →
      claimList (s.homeTier c) c (wsize * 128) s ≠ none → Completes cmd s (fun t =>
        (∃ r, Done d 0 r s t) ∧
        (∃ l, t.ctx c = { state := .building, keyId := keyid, cls := cls, account := account, wthru := bitAt cflags 0
                          noalloc := bitAt cflags 1, remoteOk := bitAt cflags 2, integrity := bitAt cflags 3, wbase := wbase
                          wsize := wsize, extptr := l, created := s.us, changed := s.us }) ∧
        (∀ x, x ≠ c → t.ctx x = s.ctx x) ∧ t.exts = s.exts ∧ t.alloc = s.alloc ∧ t.valid = s.valid ∧ t.slices = s.slices ∧
        t.cistern = s.cistern ∧ t.keys = s.keys ∧ t.ports = s.ports))) ∧
  ((∀ (d : DescRef) (c haddr : Nat) (f : Fetched) (s : State), s.ready d 0x0107 [(8, 4, c), (16, 8, haddr)] = some f →
    c < 2 ^ 18 → haddr % 64 = 0 → haddr ≠ 0 → Completes (.ctxQuery d c haddr) s (fun t =>
      Done d 0 ((s.ctx c).ctl + (s.ctx c).extCount * 2 ^ 32) s t ∧
      t.out = .dmaWrite (s.ring d.ring).dmaPort haddr (dwords 40 (s.ctxBlock c)) :: s.out ∧
      t = { s with fetched := t.fetched, cplQ := t.cplQ, out := t.out })) ∧
  (∀ (d : DescRef) (c index count haddr : Nat) (f : Fetched) (s : State),
    s.ready d 0x0203 [(8, 4, c), (12, 4, index), (20, 4, count), (24, 8, haddr)] = some f → c < 2 ^ 18 → 1 ≤ count →
    count ≤ 65536 → haddr % 16 = 0 → (s.ctx c).state ≠ .free → index + count ≤ (s.ctx c).wsize * 128 →
    Completes (.extQuery d c index count haddr) s (fun t => Done d 0 count s t ∧
      t.out = .dmaWrite (s.ring d.ring).dmaPort haddr
        ((upto count).flatMap (fun i => dwords 2 (s.ext c (index + i)).word)) :: s.out ∧
      t = { s with fetched := t.fetched, cplQ := t.cplQ, out := t.out })))

/-- R54, R55, R72, Table CTX-5 actions b to e: binding a port sets its bit and gives the binding the next generation; unbinding clears the
bit when the requests under the old entry have left, and a LIVE context keeps its last port. R22, R79, Table CTX-5 actions c and f to j: the
commands that move a context from state to state. Each takes the state its row names, its descriptor completes at once when nothing is under
the old entry, and what tenants stored stays. -/
def Obligations.ContextPortsAndMoves : Prop :=
  (∀ (d : DescRef) (c p : Nat) (f : Fetched) (s : State), c < 2 ^ 18 → p < 96 →
    (s.ready d 0x0101 [(8, 4, c), (12, 1, p), (13, 1, 0)] = some f →
      (s.ctx c).state = .building ∨ (s.ctx c).state = .live →
      (s.hostPort p = false ∨ (s.ctx c).ports.getLsbD p = true →
        Completes (.ctxBindPortBind d c p) s (fun t => Done d 0x02 0 s t ∧ Kept s t)) ∧
      (s.hostPort p = true → (s.ctx c).ports.getLsbD p = false →
        (∀ i, i < (s.ctx c).wsize → Sparse.get (fun _ => 0) (s.port p).blocks ((s.ctx c).wbase + i) = 0) →
        (∃ i, i < 8192 ∧ ((s.port p).window i).valid = false) → (s.ctx c).holds (portTier p) = true → CommitsNow f.tier s →
        Completes (.ctxBindPortBind d c p) s (fun t =>
          let gen := (Sparse.get (fun _ => 0) (s.port p).gens c + 1) % 2 ^ 32
          Done d 0 gen s t ∧ (t.ctx c).ports.getLsbD p = true ∧
          (∀ q, q ≠ p → (t.ctx c).ports.getLsbD q = (s.ctx c).ports.getLsbD q) ∧ (∀ q, q ≠ p → t.port q = s.port q) ∧
          Sparse.get (fun _ => 0) (t.port p).gens c = gen ∧ (∀ x, x ≠ c → t.ctx x = s.ctx x) ∧ t.exts = s.exts ∧
          t.valid = s.valid ∧ t.slices = s.slices ∧ t.cistern = s.cistern))) ∧
    (s.ready d 0x0101 [(8, 4, c), (12, 1, p), (13, 1, 1)] = some f →
      (s.ctx c).state = .building ∨ (s.ctx c).state = .live →
      ((s.ctx c).ports.getLsbD p = false ∨ ((s.ctx c).state = .live ∧ (s.ctx c).portList.length = 1) →
        Completes (.ctxBindPortUnbind d c p) s (fun t => Done d 0x02 0 s t ∧ Kept s t)) ∧
      ((s.ctx c).ports.getLsbD p = true → ((s.ctx c).state = .live → (s.ctx c).portList.length ≠ 1) → CommitsNow f.tier s →
        NoneUnder c s → Completes (.ctxBindPortUnbind d c p) s (fun t =>
          Done d 0 0 s t ∧ (t.ctx c).ports.getLsbD p = false ∧ (t.ctx c).state = (s.ctx c).state ∧
          (∀ q, q ≠ p → (t.ctx c).ports.getLsbD q = (s.ctx c).ports.getLsbD q) ∧
          (∀ x, x ≠ c → t.ctx x = s.ctx x) ∧ t.exts = s.exts ∧ t.valid = s.valid ∧ t.slices = s.slices ∧
          t.cistern = s.cistern)))) ∧
  (∀ (d : DescRef) (c : Nat) (f : Fetched) (s : State), c < 2 ^ 18 → CommitsNow f.tier s →
    let stays (t : State) : Prop := (∀ x, x ≠ c → t.ctx x = s.ctx x) ∧ t.exts = s.exts ∧ t.alloc = s.alloc ∧
      t.valid = s.valid ∧ t.slices = s.slices ∧ t.cistern = s.cistern ∧ t.keys = s.keys
    (s.ready d 0x0102 [(8, 4, c)] = some f → (s.ctx c).state = .building → (s.ctx c).ports ≠ 0 →
      Completes (.ctxActivate d c) s (fun t => Done d 0 (s.ctx c).portList.length s t ∧ (t.ctx c).state = .live ∧
        (t.ctx c).changed = s.us ∧ stays t)) ∧
    (s.ready d 0x0102 [(8, 4, c)] = some f → (s.ctx c).state = .building → (s.ctx c).ports = 0 →
      Completes (.ctxActivate d c) s (fun t => Done d 0x02 0 s t ∧ Kept s t)) ∧
    (s.ready d 0x0104 [(8, 4, c)] = some f → (s.ctx c).state = .live → NoneUnder c s →
      Completes (.ctxFreeze d c) s (fun t => Done d 0 0 s t ∧ (t.ctx c).state = .frozen ∧ (t.ctx c).faultFrozen = false ∧
        stays t)) ∧
    (∀ r ∈ s.held, s.ready d 0x0104 [(8, 4, c)] = some f → (s.ctx c).state = .live → r.ctx = c → r.passed = true →
      r.remote = none → Completes (.ctxFreeze d c) s (fun t => (t.ctx c).state = .frozen ∧ t.cplQ = s.cplQ ∧
        (∃ x ∈ t.fetched, x.ref = d) ∧ ∃ w, t.drains = s.drains ++ [w] ∧ w.desc = d ∧ w.next = .finish 0)) ∧
    (s.ready d 0x0105 [(8, 4, c)] = some f → (s.ctx c).state = .frozen → s.frozenHeld c = [] →
      Completes (.ctxThaw d c) s (fun t => Done d 0 0 s t ∧ (t.ctx c).state = .live ∧ (t.ctx c).faultFrozen = false ∧
        stays t)) ∧
    (s.ready d 0x0103 [(8, 4, c)] = some f → (s.ctx c).state = .live ∨ (s.ctx c).state = .frozen → NoneUnder c s →
      s.openMigrations c = [] → s.frozenHeld c = [] →
      Completes (.ctxDrain d c) s (fun t => Done d 0 0 s t ∧ (t.ctx c).state = .draining ∧ stays t)) ∧
    (s.ready d 0x0106 [(8, 4, c)] = some f → (s.ctx c).state = .building ∨ (s.ctx c).state = .draining →
      (∀ k ∈ s.tasks, k.ctxs.contains c = false) → (∀ e ∈ s.exts, e.1 / 2 ^ 20 = c → e.2.valid = true → e.2.remote = false) →
      Completes (.ctxRelease d c) s (fun t => (t.ctx c).state = .releasing ∧ t.cplQ = s.cplQ ∧
        (∃ r, t.releases = s.releases ++ [r] ∧ r.ctx = c ∧ r.desc = some d ∧
          r.cleared = (s.exts.filter (fun e => e.1 / 2 ^ 20 = c && e.2.valid)).length ∧ r.returned = 0) ∧
        t.clears = s.clears ++ (s.exts.filter (fun e => e.1 / 2 ^ 20 = c && e.2.valid)).map (fun e =>
          { tier := penTier e.2.pen, ext := penExt e.2.pen, ctx := some c }) ∧ stays t)))

/-- R21, R22, R23, R88: the ends of a context's changes. A release whose clears are done leaves the context FREE without extents; a
reduction of access completes when its requests have left; the oldest change that waits commits when every tier can acknowledge it; an
internal freeze request makes a LIVE context FROZEN and marks it. -/
def Obligations.ContextEnds : Prop :=
  (∀ (c : Nat) (r : Releasing) (d : DescRef) (s : State), s.releases.find? (fun r => r.ctx = c) = some r → r.desc = some d →
    (∃ f, s.fetchedOf d = some f) → (∀ j ∈ s.clears, j.ctx ≠ some c) → s.acks (s.homeTier c) = true →
    Completes (.releaseFinished c) s (fun t => Done d 0 (r.cleared + r.returned * 2 ^ 32) s t ∧ t.ctx c = {} ∧
      (∀ i, i < 2 ^ 20 → (t.ext c i).valid = false) ∧ (∀ x, x ≠ c → t.ctx x = s.ctx x) ∧
      (∀ x i, x ≠ c → i < 2 ^ 20 → t.ext x i = s.ext x i) ∧ t.releases = s.releases.erase r ∧
      t.slices = s.slices ∧ t.cistern = s.cistern)) ∧
  (∀ (c : Nat) (s : State), (∃ j ∈ s.clears, j.ctx = some c) → exec (.releaseFinished c) s = .next s) ∧
  (∀ (w : Drain) (n : Nat) (s : State), s.drains.find? (fun w => s.left w.txids w.reqs) = some w → w.next = .finish n →
    (∃ f, s.fetchedOf w.desc = some f) →
    Completes .accessReductionDrainDone s (fun t => Done w.desc 0 n s t ∧ t.drains = s.drains.erase w ∧ Kept s t)) ∧
  (∀ (d : Option DescRef) (ch : Change) (rest : List (Option DescRef × Change)) (s : State), s.commits = (d, ch) :: rest →
    let t := match d with
      | some d => (s.fetchedOf d).elim 0 (·.tier)
      | none => 0
    (s.acks t = true → exec .commitPoint s = .next (commitChange d ch (logReplicas ch.writes { s with commits := rest }))) ∧
    (s.acks t = false → exec .commitPoint s = .next s)) ∧
  (∀ (c : Nat) (s : State), s.flt.freezes.contains c = true → s.sluiceUp (s.homeTier c) = true → s.ctxBusy c = false →
    CommitsNow (s.homeTier c) s → (s.ctx c).state = .live →
    Completes (.faultFreeze c) s (fun t => (t.ctx c).state = .frozen ∧ (t.ctx c).faultFrozen = true ∧
      t.flt.freezes = s.flt.freezes.erase c ∧ (∀ x, x ≠ c → t.ctx x = s.ctx x) ∧ t.exts = s.exts ∧ t.valid = s.valid ∧
      t.slices = s.slices ∧ t.cistern = s.cistern))

/-- R76, R81, R253, R259: EXT_MAP of a run of this package's extents fills the entries from INDEX with the run, VALID, takes the allocation
bits and counts the extents; a taken extent or entry is IN_USE, an extent past the populated top BAD_FIELD whatever the context's state, and
an extent in range of a tier in T3 WRONG_STATE. R22, R86, R260: EXT_UNMAP empties the entries at once and queues each local extent's
valid-map line for clearing; the clear empties the line and frees the allocation bit, and the descriptor completes with the last one. -/
def Obligations.ExtentMapping : Prop :=
  ((∀ (d : DescRef) (c index pen count : Nat) (f : Fetched) (s : State),
    s.ready d 0x0200 [(8, 4, c), (12, 4, index), (16, 4, pen), (20, 4, count), (24, 4, 0)] = some f → c < 2 ^ 18 →
    1 ≤ count → count ≤ 65536 → pen < 2 ^ 27 → penExt pen + count ≤ 2 ^ 20 → penPkg pen = s.pkg →
    (s.ctx c).state = .building ∨ (s.ctx c).state = .live ∨ (s.ctx c).state = .frozen →
    let cmd := Instr.extMap d c index pen count 0
    (penTier pen < s.nTiers → (s.tier (penTier pen)).power = 3 → (∀ k, k < count → s.penInRange (pen + k) = true) →
      Completes cmd s (fun t => Done d 0x05 0 s t ∧ Kept s t)) ∧
    (∀ i, (s.tier (penTier pen)).power ≠ 3 → i < count → s.penBacked (pen + i) (s.ctx c).integrity = false →
      Completes cmd s (fun t => Done d 0x02 0 s t ∧ Kept s t)) ∧
    (∀ i, (s.tier (penTier pen)).power ≠ 3 → index + count ≤ (s.ctx c).wsize * 128 →
      (∀ k, k < count → s.penBacked (pen + k) (s.ctx c).integrity = true) → i < count →
      (s.ext c (index + i)).valid = true ∨ s.penTaken (pen + i) = true →
      Completes cmd s (fun t => Done d 0x0D 0 s t ∧ Kept s t)) ∧
    ((s.tier (penTier pen)).power ≠ 3 → index + count ≤ (s.ctx c).wsize * 128 → index + count ≤ 2 ^ 20 →
      (∀ k, k < count → s.penBacked (pen + k) (s.ctx c).integrity = true ∧ (s.ext c (index + k)).valid = false ∧
        s.penTaken (pen + k) = false) → CommitsNow f.tier s →
      Completes cmd s (fun t => Done d 0 count s t ∧
        (∀ k, k < count → t.ext c (index + k) = { valid := true, pen := pen + k } ∧
          t.allocBit (penTier pen) (penExt pen + k) = true) ∧
        (∀ x i, i < 2 ^ 20 → x ≠ c ∨ i < index ∨ index + count ≤ i → t.ext x i = s.ext x i) ∧
        (t.ctx c).extCount = (s.ctx c).extCount + count ∧ (∀ x, x ≠ c → t.ctx x = s.ctx x) ∧
        t.valid = s.valid ∧ t.slices = s.slices ∧ t.cistern = s.cistern))) ∧
  (∀ (d : DescRef) (c index pen count lease k : Nat) (f : Fetched) (s : State),
    s.ready d 0x0200 [(8, 4, c), (12, 4, index), (16, 4, pen), (20, 4, count), (24, 4, lease)] = some f →
    penPkg pen = s.pkg → k < count → s.penInRange (pen + k) = false →
    Completes (.extMap d c index pen count lease) s (fun t => Done d 0x02 0 s t ∧ Kept s t))) ∧
  ((∀ (d : DescRef) (c index count : Nat) (f : Fetched) (s : State),
    s.ready d 0x0201 [(8, 4, c), (12, 4, index), (20, 4, count)] = some f → c < 2 ^ 18 → 1 ≤ count → count ≤ 65536 →
    (s.ctx c).state = .building ∨ (s.ctx c).state = .live ∨ (s.ctx c).state = .frozen →
    index + count ≤ (s.ctx c).wsize * 128 →
    let l := s.exts.filter (fun e => e.1 / 2 ^ 20 = c && index ≤ e.1 % 2 ^ 20 && e.1 % 2 ^ 20 < index + count && e.2.valid)
    ((∃ e ∈ l, e.2.migrating = true) → Completes (.extUnmap d c index count) s (fun t => Done d 0x0D 0 s t ∧ Kept s t)) ∧
    ((∀ e ∈ l, e.2.migrating = false ∧ e.2.remote = false) → CommitsNow f.tier s → NoneUnder c s →
      Completes (.extUnmap d c index count) s (fun t =>
        (∀ i, i < 2 ^ 20 → index ≤ i → i < index + count → (t.ext c i).valid = false) ∧
        (∀ x i, i < 2 ^ 20 → x ≠ c ∨ i < index ∨ index + count ≤ i → t.ext x i = s.ext x i) ∧
        (t.ctx c).extCount = (s.ctx c).extCount - l.length ∧
        t.clears = s.clears ++ l.map (fun e => { tier := penTier e.2.pen, ext := penExt e.2.pen, desc := some d }) ∧
        (l = [] → Done d 0 0 s t) ∧ (l ≠ [] → t.cplQ = s.cplQ ∧ t.unmaps = s.unmaps ++ [(d, l.length)]) ∧
        t.alloc = s.alloc ∧ t.valid = s.valid ∧ t.slices = s.slices ∧ t.cistern = s.cistern))) ∧
  (∀ (t e : Nat) (j : ClearJob) (s : State), s.clears.find? (fun j => j.tier = t && j.ext = e) = some j →
    (s.tier t).power < 2 → (s.tier t).portReset = false → (s.tier t).engReset = false → s.reacting = false →
    Sparse.get (fun _ => 0) s.badExt (tierExt t e) = 0 →
    Completes (.validLineClear t e) s (fun u => u.validLine t e = {} ∧ u.allocBit t e = false ∧
      (∀ k, k ≠ tierExt t e → Sparse.get (fun _ => {}) u.valid k = Sparse.get (fun _ => {}) s.valid k) ∧
      u.clears = s.clears.erase j ∧ u.ctxs = s.ctxs ∧ u.exts = s.exts ∧ u.cistern = s.cistern ∧ u.slices = s.slices ∧
      (∀ d n g, j.desc = some d → (∀ x ∈ s.clears.erase j, x.desc ≠ some d) →
        s.unmaps.find? (fun x => x.1 = d) = some (d, n) → s.fetchedOf d = some g → Done d 0 n s u) ∧
      (j.desc = none → u.cplQ = s.cplQ))) ∧
  (∀ (t e : Nat) (s : State), (∀ j ∈ s.clears, ¬(j.tier = t ∧ j.ext = e)) → exec (.validLineClear t e) s = .next s))

/-- R89, R261, R274, R332: a migration. Its start marks the entry MIGRATING with its destination, whose allocation bit it takes and whose
valid-map line it clears; a RETIRED extent's completes BAD_FIELD; a 33rd of a source tier waits and starts later; a pass over a source with
no page written goes to the switch, which puts the destination in the entry; the end frees the source. -/
def Obligations.MigrationPhases : Prop :=
  (∀ (d : DescRef) (c index dest : Nat) (f : Fetched) (s : State),
    s.ready d 0x0202 [(8, 4, c), (12, 4, index), (16, 4, dest), (24, 4, 0)] = some f → c < 2 ^ 18 → dest < 2 ^ 27 →
    penPkg dest = s.pkg → (s.ctx c).state = .live ∨ (s.ctx c).state = .frozen → (s.ext c index).valid = true →
    (s.ext c index).migrating = false → (s.ext c index).remote = false → (s.ext c index).retired = false →
    index < (s.ctx c).wsize * 128 → (s.tier (penTier dest)).power < 2 → s.penBacked dest (s.ctx c).integrity = true → s.penTaken dest = false →
    (s.ctx c).migCount < 255 → s.migrations = [] → CommitsNow f.tier s →
    Completes (.extMigrate d c index dest 0) s (fun t =>
      t.ext c index = { s.ext c index with migrating := true, dest := dest } ∧
      t.allocBit (penTier dest) (penExt dest) = true ∧ t.validLine (penTier dest) (penExt dest) = {} ∧
      (t.ctx c).migCount = (s.ctx c).migCount + 1 ∧ t.cplQ = s.cplQ ∧
      (∃ m, t.migrations = [m] ∧ m.ctx = c ∧ m.index = index ∧ m.src = (s.ext c index).pen ∧ m.dest = dest ∧ m.desc = d ∧
        m.phase = .copying) ∧ t.slices = s.slices ∧ t.cistern = s.cistern)) ∧
  (∀ (d : DescRef) (c index dest lease : Nat) (f : Fetched) (s : State),
    s.ready d 0x0202 [(8, 4, c), (12, 4, index), (16, 4, dest), (24, 4, lease)] = some f → c < 2 ^ 18 →
    (s.ctx c).state = .live ∨ (s.ctx c).state = .frozen → s.destOff dest = false → (s.ext c index).retired = true →
    s.copying (s.migTier { ctx := c, src := (s.ext c index).pen }) < 32 →
    Completes (.extMigrate d c index dest lease) s (fun t => Done d 0x02 0 s t ∧ Kept s t)) ∧
  (∀ (d : DescRef) (c index dest lease : Nat) (f : Fetched) (s : State),
    s.ready d 0x0202 [(8, 4, c), (12, 4, index), (16, 4, dest), (24, 4, lease)] = some f → (s.ext c index).valid = true →
    32 ≤ s.copying (s.migTier { ctx := c, src := (s.ext c index).pen }) →
    Completes (.extMigrate d c index dest lease) s (fun t => t.cplQ = s.cplQ ∧ Kept s t ∧
      ∃ m, t.migrations = s.migrations ++ [m] ∧ m.phase = .waiting ∧ m.desc = d)) ∧
  (∀ (t : Nat) (m : Migration) (f : Fetched) (s : State),
    s.migrations.find? (fun m => m.phase = .waiting && s.migTier m = t) = some m → s.fetchedOf m.desc = some f →
    s.copying t < 32 → s.ctxBusy m.ctx = false → s.sluiceUp f.tier = true → s.flt.freezes.contains m.ctx = false →
    exec (.migrationWaitsForCopySlot t) s = .next (startMigration f.tier m.desc m.ctx m.index m.dest m.lease s)) ∧
  (∀ (c index : Nat) (answer : List (Nat × Option Line)) (m : Migration) (s : State),
    s.migrations.find? (fun m => m.ctx = c && m.index = index && m.phase = .copying) = some m →
    s.migReachable m = true → s.reacting = false → (s.tier (s.migTier m)).power < 2 → penPkg m.src = s.pkg → m.passes = 0 →
    (s.validLine (penTier m.src) (penExt m.src)).bits = 0 → m.dirty = 0 →
    (∀ x ∈ s.migrations, x.desc = m.desc → x = m) →
    Completes (.migrationCopyPassEnd c index answer) s (fun t =>
      ({ m with passes := 1, phase := .switching } ∈ t.migrations) ∧ Kept s t)) ∧
  (∀ (c index : Nat) (answer : List (Nat × Option Line)) (m : Migration) (s : State),
    s.migrations.find? (fun m => m.ctx = c && m.index = index && m.phase = .switching) = some m → index < 2 ^ 20 →
    s.migReachable m = true → s.reacting = false → s.acks (s.migTier m) = true → s.commits = [] → m.dirty = 0 →
    (∀ o ∈ s.remote, o.task ≠ some m.desc) →
    (∀ g ∈ s.fetched, g.ref ≠ m.desc → changes g.bytes ≠ some c) → penPkg m.dest = s.pkg →
    (∀ r ∈ s.held, r.why ≠ .migration) → (∀ x ∈ s.migrations, x.desc = m.desc → x = m) →
    Completes (.migrationSwitch c index answer) s (fun t => t.ext c index = { valid := true, pen := m.dest } ∧
      (∀ x i, i < 2 ^ 20 → (x, i) ≠ (c, index) → t.ext x i = s.ext x i) ∧
      (t.ctx c).migCount = (s.ctx c).migCount - 1 ∧ (∃ y ∈ t.migrations, y.desc = m.desc ∧ y.phase = .finishing) ∧
      t.slices = s.slices ∧ t.cistern = s.cistern ∧ t.valid = s.valid ∧ t.alloc = s.alloc)) ∧
  (∀ (c index : Nat) (m : Migration) (f : Fetched) (s : State),
    s.migrations.find? (fun m => m.ctx = c && m.index = index && m.phase = .finishing) = some m →
    s.left m.txids m.reqs = true → (∀ o ∈ s.remote, o.task ≠ some m.desc) → s.fetchedOf m.desc = some f →
    penPkg m.src = s.pkg → Sparse.get (fun _ => 0) s.badExt (tierExt (penTier m.src) (penExt m.src)) = 0 →
    Completes (.migrationFinish c index) s (fun t => (∃ r, Done m.desc 0 r s t ∧
        r % 2 ^ 40 = m.copied % 2 ^ 32 + m.passes % 256 * 2 ^ 32) ∧
      t.validLine (penTier m.src) (penExt m.src) = {} ∧ t.allocBit (penTier m.src) (penExt m.src) = false ∧
      t.migrations = s.migrations.filter (fun y => y.desc ≠ m.desc) ∧ t.exts = s.exts ∧ t.ctxs = s.ctxs ∧
      t.cistern = s.cistern ∧ t.slices = s.slices)) ∧
  (∀ (c index : Nat) (m : Migration) (f : Fetched) (s : State),
    (s.openMigrations c).find? (fun m => m.index = index) = some m → m.ctx = c → penPkg m.dest = s.pkg →
    s.reaches (s.migTier m) (penTier m.dest) = false → s.fetchedOf m.desc = some f → (∀ r ∈ s.held, r.why ≠ .migration) →
    Completes (.migrationAbort c index) s (fun t => (∃ r, Done m.desc 0x0A r s t) ∧
      (m.index = index → t.ext c index = { s.ext c index with migrating := false, dest := 0 }) ∧
      t.migrations = s.migrations.filter (fun y => y.desc ≠ m.desc) ∧ t.cistern = s.cistern ∧ t.slices = s.slices))

/-- R106, R111: heat and victim buffers. A sampled access counts its page, up to 255; a new page takes a free place, and is a tracker miss
when every place holds a page counted more than once; a page at the threshold is promoted and its count halved. A decay halves every count.
A victim buffer offers its oldest line to the line's channel, and drops a line whose page is no longer valid. R114, R115, R116, R484:
refresh of the basin's dies. A bank refresh is counted on a die that is not in self-refresh; a slice goes into self-refresh when its tier
sleeps or stops, and leaves it when it does not; a die that lost its clock goes in alone; the first reading sets the refresh rate from the
hottest die directly. -/
def Obligations.BasinUpkeep : Prop :=
  ((∀ (t j c page : Nat) (s : State), s.flag (bsnBase t 0) BSN_TIER_CFG_HEAT_EN = true → (s.tier t).power = 0 → t < s.nTiers →
    j < 16 → s.retiredJet t j = false → page < 2 ^ 29 →
    let key := heatKey c page
    let stored := Sparse.get (fun _ => 0) (s.slice t j).heat key
    let put := fun v => s.setSlice t j { s.slice t j with heat := Sparse.set (fun _ => 0) (s.slice t j).heat key v }
    (s.flag (bsnBase t 0) BSN_TIER_CFG_AUTO_PROMOTE = false → stored ≠ 0 →
      exec (.heatSample t j c page) s = .next (put (min 255 stored + 1))) ∧
    (s.flag (bsnBase t 0) BSN_TIER_CFG_AUTO_PROMOTE = false → stored = 0 → (s.slice t j).heat.length < 8192 →
      exec (.heatSample t j c page) s = .next (put 2)) ∧
    (stored = 0 → 8192 ≤ (s.slice t j).heat.length → (∀ e ∈ (s.slice t j).heat, 2 < e.2) → (∃ e ∈ (s.slice t j).heat, e.2 ≤ 256) →
      exec (.heatSample t j c page) s = .next (s.count (bsnBase t j + 0x30) 1)) ∧
    (s.flag (bsnBase t 0) BSN_TIER_CFG_AUTO_PROMOTE = true → stored ≠ 0 → (s.ctx c).noalloc = false →
      (s.cls (s.ctx c).cls).ways ≠ 0 → max 1 (s.get (bsnBase t 0) BSN_TIER_CFG_PROMOTE_THRESH) ≤ min 255 stored →
      Completes (.heatSample t j c page) s (fun u =>
        Sparse.get (fun _ => 0) (u.slice t j).heat key = min 255 stored / 2 + 1 ∧ u.ctxs = s.ctxs ∧ u.exts = s.exts ∧
        u.keys = s.keys ∧ u.held = s.held))) ∧
  (∀ (t j : Nat) (s : State), j < 16 → t < s.nTiers → s.flag (bsnBase t 0) BSN_TIER_CFG_AUTO_PROMOTE = false →
    (s.jet t j).heatAt + max 1 (s.get (bsnBase t 0) BSN_TIER_CFG_HEAT_DECAY) * 10000 ≤ s.us →
    Completes (.heatDecay t j) s (fun u => (u.slice t j).heat = (s.slice t j).heat.map (fun e => (e.1, (e.2 - 1) / 2 + 1)) ∧
      (u.jet t j).heatAt = s.us ∧ u = { s with slices := u.slices, jets := u.jets })) ∧
  (∀ (t j : Nat) (v : Victim) (rest : List Victim) (s : State),
    (s.tier t).portReset = false → (s.tier t).engReset = false → s.reacting = false → (s.slice t j).victims = v :: rest →
    let c := chanOf v.off
    (s.pageValid t v.off = false → exec (.victimBufferOffer t j) s = .next (s.setSlice t j { s.slice t j with victims := rest })) ∧
    (s.pageValid t v.off = true → v.off % 64 = 0 → s.fenced t c (rankOf v.off) = false → s.rankHeld t c (rankOf v.off) = false →
      v.line.integrity = false → (s.chan t c).entry v.off = none → s.poolRoom v.cls ((s.chan t c).writes.map (·.cls)) = true →
      s.get (eccBase t) ECC_INJ_CTL_COUNT = 0 →
      Completes (.victimBufferOffer t j) s (fun u => (u.slice t j).victims = rest ∧
        (∃ e, (u.chan t c).writes = (s.chan t c).writes ++ [e] ∧ e.off = v.off ∧ e.cls = v.cls ∧ e.ctx = v.line.ctx) ∧
        u.cistern = s.cistern ∧ u.ctxs = s.ctxs ∧ u.exts = s.exts ∧ u.valid = s.valid ∧ u.held = s.held)))) ∧
  ((∀ (t j die bank : Nat) (s : State), die < 8 → bank < 16 →
    ((s.slice t j).dieSr.getLsbD die = false → Completes (.basinBankRefresh t j die bank) s (fun u =>
      (∀ k, Sparse.get (fun _ => 0) (u.slice t j).refreshes k = Sparse.get (fun _ => 0) (s.slice t j).refreshes k +
        (if k = die * 16 + bank then 1 else 0)) ∧ (u.slice t j).sets = (s.slice t j).sets ∧ u = { s with slices := u.slices })) ∧
    ((s.slice t j).dieSr.getLsbD die = true → exec (.basinBankRefresh t j die bank) s = .next s)) ∧
  (∀ (t j : Nat) (s : State), t < s.nTiers → t < 8 → j < 16 →
    (s.basinSleeps t = true → Completes (.basinSelfRefreshEntry t j) s (fun u => (u.slice t j).dieSr = 0xFF ∧
      u.flag (bsnBase t j) BSN_SLICE_STATUS_SR = true ∧ (u.slice t j).sets = (s.slice t j).sets ∧
      (∀ k, k ≠ j → k < 16 → u.slice t k = s.slice t k) ∧ u = { s with slices := u.slices, regs := u.regs })) ∧
    (s.basinSleeps t = false → Completes (.basinSelfRefreshExit t j) s (fun u => (u.slice t j).dieSr = 0 ∧
      u.flag (bsnBase t j) BSN_SLICE_STATUS_SR = false ∧ (u.slice t j).sets = (s.slice t j).sets ∧
      (∀ k, k ≠ j → k < 16 → u.slice t k = s.slice t k) ∧ u = { s with slices := u.slices, regs := u.regs })) ∧
    (∀ die, die < 8 → (s.slice t j).dieSr.getLsbD die = false → Completes (.dieClockLossSelfRefresh t j die) s (fun u =>
      (∀ k, k < 8 → (u.slice t j).dieSr.getLsbD k = ((s.slice t j).dieSr.getLsbD k || decide (k = die))) ∧
      (u.slice t j).dieLoss.getLsbD die = true ∧ (u.slice t j).sets = (s.slice t j).sets ∧
      u = { s with slices := u.slices }))) ∧
  (∀ (t : Nat) (dies : List Int) (s : State), t < s.nTiers → t < 8 → (s.tierHeat t).sensed = false → s.pkgMode.mode = .up →
    (s.tier t).power ≠ 3 → dies.length = 8 →
    Completes (.firstSensorReading t dies) s (fun u => (u.tierHeat t).sensed = true ∧
      (∀ d, d < 8 → (u.sensor t (8 + d)).reading = dies.getD d 0 ∧ (u.sensor t (8 + d)).above85 = decide (680 < dies.getD d 0)) ∧
      (∀ j, j < 16 → (∃ v ∈ dies, 680 < v) → u.get (bsnBase t j) BSN_SLICE_STATUS_REFRATE = 2) ∧
      (∀ j, j < 16 → (∀ v ∈ dies, v < 360) → s.flag (bsnBase t 0) BSN_TIER_CFG_TCR_EN = true →
        u.get (bsnBase t j) BSN_SLICE_STATUS_REFRATE = 0) ∧
      u = { s with sensors := u.sensors, heat := u.heat, regs := u.regs })))

/-- R121, R122, R123: a column command takes the request the scheduler picks. A write stores its entry's line in the cistern and frees the
entry; a read frees its entry and stores nothing. Either opens its row when the row was not open, and no other line changes; with nothing
ready only the direction is settled. R126, R127, R129, R130: refresh, the sensor of an RDIMM, the row trackers and the penalty table. A
postponed refresh is owed, up to four; a fourth reading above 85 degrees, or an eighth failed one, doubles the refresh of both ranks of the
RDIMM; tREFW clears every tracker of the rank; a penalty leaves when it expires. -/
def Obligations.CisternCommands : Prop :=
  (∀ (t c : Nat) (ready : List Nat) (s : State),
    let s' := s.setChan t c { s.chan t c with writeMode := s.writeDirection t c }
    let ch := s.chan t c
    let wq := ch.writes.map (fun e => (e.off, e.cls, e.ctx, e.arrival))
    let rq := ch.reads.map (fun e => (e.off, e.cls, e.ctx, e.arrival))
    (∀ off cls ctx e, s.writeDirection t c = true → s'.pick t c wq ready = some (off, cls, ctx) → ch.entry off = some e →
      Completes (.columnCommandIssue t c ready) s (fun u =>
        u.cline t off = some e.line ∧ (u.chan t c).entry off = none ∧
        (∀ k, k ≠ lineKey t off → Sparse.get (fun _ => none) u.cistern k = Sparse.get (fun _ => none) s.cistern k) ∧
        (s.rowHit t c off = false → ((u.chan t c).bank (bankKey off)).row = rowOf off) ∧
        u.ctxs = s.ctxs ∧ u.exts = s.exts ∧ u.valid = s.valid ∧ u.slices = s.slices ∧ u.held = s.held)) ∧
    (∀ off cls ctx i, s.writeDirection t c = false → s'.pick t c rq ready = some (off, cls, ctx) →
      ch.reads.findIdx? (fun e => e.off = off && e.cls = cls && e.ctx = ctx) = some i →
      Completes (.columnCommandIssue t c ready) s (fun u =>
        (u.chan t c).reads = ch.reads.eraseIdx i ∧ (u.chan t c).writes = ch.writes ∧ u.cistern = s.cistern ∧
        (s.rowHit t c off = false → ((u.chan t c).bank (bankKey off)).row = rowOf off) ∧
        u.ctxs = s.ctxs ∧ u.exts = s.exts ∧ u.valid = s.valid ∧ u.slices = s.slices ∧ u.held = s.held)) ∧
    (s'.pick t c (if s.writeDirection t c then wq else rq) ready = none →
      exec (.columnCommandIssue t c ready) s = .next s')) ∧
  ((∀ (t c k : Nat) (s : State), s.rankState t c k = 1 → s.urgent t c k = true →
    s.flag (drcBase t c) DRC_CH_CFG_REF_MODE = false → (s.rank t c k).owed < 4 → (s.rank t c k).pulled = 0 →
    exec (.cisternRefreshDue t c k) s = .next (s.setRank t c k { s.rank t c k with owed := (s.rank t c k).owed + 1 })) ∧
  (∀ (t c k : Nat) (s : State), s.rankState t c k = 1 → s.urgent t c k = false → s.rankIdle t c k = false →
    (s.rank t c k).pulled = 0 → Completes (.cisternRefreshDue t c k) s (fun u => (u.rank t c k).owed = 0 ∧
      (u.rank t c k).pulled = 0 ∧ u = { s with chans := u.chans } ∧ (u.chan t c).writes = (s.chan t c).writes ∧
      (u.chan t c).reads = (s.chan t c).reads)) ∧
  (∀ (t c k : Nat) (s : State), s.rankState t c k = 5 ∨ s.rankState t c k = 3 ∨ s.rankState t c k = 0 →
    exec (.cisternRefreshDue t c k) s = .next s) ∧
  (∀ (t c d : Nat) (v : Int) (s : State), s.chanServes t c = true → 850 < v → d < 2 →
    (s.rank t c (d * 2)).hotReads = 3 → (s.rank t c (d * 2 + 1)).hotReads = 3 →
    Completes (.dimmSensorRead t c d (some v)) s (fun u =>
      bitAt (u.get (drcBase t c) DRC_RANK_STATUS_DOUBLED) (d * 2) = true ∧
      bitAt (u.get (drcBase t c) DRC_RANK_STATUS_DOUBLED) (d * 2 + 1) = true ∧ u.cistern = s.cistern ∧ u.held = s.held)) ∧
  (∀ (t c d : Nat) (s : State), s.chanServes t c = true → d < 2 →
    (s.rank t c (d * 2)).failReads = 7 → (s.rank t c (d * 2 + 1)).failReads = 7 →
    Completes (.dimmSensorRead t c d none) s (fun u =>
      (u.rank t c (d * 2)).sensorFailed = true ∧ (u.rank t c (d * 2 + 1)).sensorFailed = true ∧
      bitAt (u.get (drcBase t c) DRC_RANK_STATUS_DOUBLED) (d * 2) = true ∧ u.cistern = s.cistern ∧ u.held = s.held)) ∧
  (∀ (t c k : Nat) (s : State), Completes (.rowTrackerClear t c k) s (fun u =>
    (∀ b, b / 32 % 4 = k → ((u.chan t c).bank b).tracker = []) ∧
    (∀ b, b / 32 % 4 ≠ k → (u.chan t c).bank b = (s.chan t c).bank b) ∧ u = { s with chans := u.chans })) ∧
  (∀ (t c x : Nat) (s : State), Completes (.penaltyExpiry t c x) s (fun u =>
    (u.chan t c).penalties = (s.chan t c).penalties.filter (fun p => !(p.ctx = x && decide (p.expiry ≤ s.us))) ∧
    u = { s with chans := u.chans })))

/-- R131, R132, R138, R139: a command-parity alert. A replay that passes is counted and the failures start over; a third failure in a row
retrains the CA bus, and a rank whose bus fails that too is fenced: it takes no more entries, and its tier's other stored data stays. R135,
R136, R137: retraining. A due rank in SERVING is held, one at a time for a channel; a pass returns it to SERVING with its new set; a failure
keeps it on its last-known-good set when the short check passes and fences it when not; past HOLD_MAX less 0.2 ms it has failed. -/
def Obligations.CisternTraining : Prop :=
  (∀ (t c sub k : Nat) (s : State), s.chanServes t c = true → k < 4 → s.rankState t c k ≠ 0 → s.rankState t c k ≠ 5 →
    (∀ caPass, Completes (.caParityAlert t c sub k true caPass) s (fun u =>
      u.reg (drcBase t c + 0x40) = BitVec.ofNat 64 (min (2 ^ 64 - 1) ((s.reg (drcBase t c + 0x40)).toNat + 1)) ∧
      (u.rank t c k).failedReplays = 0 ∧ u.rankState t c k = s.rankState t c k ∧ u.cistern = s.cistern ∧ u.held = s.held)) ∧
    (∀ caPass, (s.rank t c k).failedReplays + 1 < 3 → Completes (.caParityAlert t c sub k false caPass) s (fun u =>
      (u.rank t c k).failedReplays = (s.rank t c k).failedReplays + 1 ∧ u = { s with chans := u.chans })) ∧
    ((s.rank t c k).failedReplays = 2 → Completes (.caParityAlert t c sub k false true) s (fun u =>
      (u.rank t c k).failedReplays = 0 ∧ u.rankState t c k = s.rankState t c k ∧ u.cistern = s.cistern ∧ u.held = s.held)) ∧
    ((s.rank t c k).failedReplays = 2 → (∀ r ∈ s.held, r.why ≠ .rankHeld) →
      Completes (.caParityAlert t c sub k false false) s (fun u =>
        u.rankState t c k = 5 ∧ u.fenced t c k = true ∧ (∀ e ∈ (u.chan t c).writes, rankOf e.off ≠ k) ∧
        (∀ e ∈ (u.chan t c).reads, rankOf e.off ≠ k) ∧ u.cistern = s.cistern ∧ u.slices = s.slices ∧ u.valid = s.valid ∧
        u.ctxs = s.ctxs ∧ u.exts = s.exts))) ∧
  (∀ (t c k : Nat) (s : State), k < 4 → c < 4 →
    (s.chanServes t c = true → s.retrainDue t c k = true → s.rankState t c k = 1 → s.changing t c = false →
      s.training t c = false → Completes (.periodicRetrainingDue t c k) s (fun u =>
        u.rankState t c k = 4 ∧ u.training t c = true ∧ (u.rank t c k).heldSince = some s.us ∧ (u.rank t c k).due = false ∧
        (∀ j, j < 4 → j ≠ k → u.rankState t c j = s.rankState t c j) ∧
        u = { s with regs := u.regs, chans := u.chans, chanWeirs := u.chanWeirs })) ∧
    (s.chanServes t c = true → s.retrainDue t c k = true → s.rankState t c k = 3 →
      exec (.periodicRetrainingDue t c k) s = .next (s.setRank t c k { s.rank t c k with due := true })) ∧
    (s.heldTraining t c k = true → (s.rank t c k).heldFromSr = false → (∀ r ∈ s.held, r.why ≠ .rankHeld) → ∀ short,
      Completes (.retrainingEnd t c k true short) s (fun u =>
        u.rankState t c k = 1 ∧ u.training t c = false ∧ (u.rank t c k).heldSince = none ∧ (u.rank t c k).trainTime = s.us ∧
        bitAt (u.get (drcBase t c) DRC_RANK_STATUS_LKG_USED) k = false ∧
        (u.rank t c k).lkg.getLsbD (s.get (drcBase t c) DRC_OP_STATUS_CUR_OP) =
          decide (s.get (drcBase t c) DRC_OP_STATUS_CUR_OP < 4) ∧
        u.cistern = s.cistern)) ∧
    (s.heldTraining t c k = true → (s.rank t c k).heldFromSr = false → (∀ r ∈ s.held, r.why ≠ .rankHeld) →
      let late := (∃ h, (s.rank t c k).heldSince = some h ∧
        h + (max 1 (s.get (drcBase t c) DRC_RETRAIN_HOLD_MAX) * 1000 - 200) ≤ s.us)
      ∀ cmd : Bool → Instr, cmd = .retrainingEnd t c k false ∨ (late ∧ cmd = .retrainHoldMaxExpiry t c k) →
        Completes (cmd true) s (fun u => u.rankState t c k = 1 ∧ u.training t c = false ∧
          bitAt (u.get (drcBase t c) DRC_RANK_STATUS_LKG_USED) k = true ∧ u.cistern = s.cistern) ∧
        Completes (cmd false) s (fun u => u.rankState t c k = 5 ∧ u.fenced t c k = true ∧ u.training t c = false ∧
          u.cistern = s.cistern)))

/-- R140, R141, R142, R143: low power. An idle rank enters power-down in LP_MODE 1 or 3 and self-refresh in LP_MODE 2 or 3 when its timer
has run; it serves again on an exit, and a rank that cannot complete its exit is fenced. R144, R145, R146, R483: operating points. A request
for another allowed point starts a change, or waits while one or a retraining runs; the change that completes makes its target current and
swaps the timing sets; a pending request then goes. A write of MAX_OP leaves as allowed the trained points from it down. -/
def Obligations.RankLowPower : Prop :=
  (∀ (t c k : Nat) (s : State), k < 4 → c < 4 →
    (s.rankState t c k = 1 → s.lpMode t c = 1 ∨ s.lpMode t c = 3 → s.rankIdle t c k = true →
      Completes (.powerDownTimerExpiry t c k) s (fun u => u.rankState t c k = 2 ∧
        (∀ j, j < 4 → j ≠ k → u.rankState t c j = s.rankState t c j) ∧ OnlyRegs (· = drcBase t c + 0x10) s u)) ∧
    (s.rankIdle t c k = false → exec (.powerDownTimerExpiry t c k) s = .next s) ∧
    (s.rankState t c k = 1 ∧ s.lpMode t c = 2 ∨ s.rankState t c k = 2 ∧ s.lpMode t c = 3 → s.rankIdle t c k = true →
      (s.rank t c k).idleSince + max 1 (s.get (drcBase t c) DRC_LP_TIMER_SR_TIMER) ≤ s.us →
      Completes (.selfRefreshTimerExpiry t c k) s (fun u => u.rankState t c k = 3 ∧
        (∀ j, j < 4 → j ≠ k → u.rankState t c j = s.rankState t c j) ∧ OnlyRegs (· = drcBase t c + 0x10) s u)) ∧
    (s.rankState t c k = 2 ∨ s.rankState t c k = 3 → (s.tier t).power ≤ 1 →
      (∀ completes, Completes (.rankLowPowerExit t c k false completes) s (fun u => u.rankState t c k = 1 ∧
        (u.rank t c k).idleSince = s.us ∧ u = { s with regs := u.regs, chans := u.chans })) ∧
      ((∀ r ∈ s.held, r.why ≠ .rankHeld) → Completes (.rankLowPowerExit t c k true false) s (fun u =>
        u.rankState t c k = 5 ∧ u.fenced t c k = true ∧ u.cistern = s.cistern)))) ∧
  ((∀ (t c op p : Nat) (s : State), s.chanServes t c = true → s.changing t c = false → s.training t c = false →
    s.mapPoint t c op = some p → p ≠ s.get (drcBase t c) DRC_OP_STATUS_CUR_OP →
    Completes (.operatingPointRequest t c op) s (fun u => u.changing t c = true ∧ (u.chan t c).target = some p ∧
      (u.chan t c).beforeChange = some (s.get (drcBase t c) DRC_OP_STATUS_CUR_OP) ∧
      u.flag (drcBase t c) DRC_OP_STATUS_PEND = false ∧ u = { s with regs := u.regs, chans := u.chans, chanWeirs := u.chanWeirs })) ∧
  (∀ (t c op p : Nat) (s : State), s.chanServes t c = true → s.training t c = true → s.changing t c = false →
    s.mapPoint t c op = some p → p ≠ s.get (drcBase t c) DRC_OP_STATUS_CUR_OP →
    Completes (.operatingPointRequest t c op) s (fun u => u.flag (drcBase t c) DRC_OP_STATUS_PEND = true ∧
      u.get (drcBase t c) DRC_OP_STATUS_PEND_OP = p ∧ OnlyRegs (· = drcBase t c + 0xC) s u)) ∧
  (∀ (t c p : Nat) (s : State), (s.chan t c).target = some p → s.changing t c = true → p < 4 → c < 4 → t < 8 →
    s.flag (drcBase t c) DRC_OP_STATUS_PEND = false → s.opWaits = [] → (∀ r ∈ s.held, r.why ≠ .rankHeld) →
    Completes (.frequencyChange t c 0) s (fun u => u.changing t c = false ∧ (u.chan t c).target = none ∧
      u.get (drcBase t c) DRC_OP_STATUS_CUR_OP = p ∧
      (∀ w, w < 4 → u.reg (drcBase t c + 0x200 + 4 * w) = s.reg (drcBase t c + 0x100 + 0x10 * p + 4 * w) ∧
        u.reg (drcBase t c + 0x210 + 4 * w) = s.reg (drcBase t c + 0x200 + 4 * w)) ∧
      u.cistern = s.cistern ∧ u.slices = s.slices)) ∧
  (∀ (t c : Nat) (s : State), s.flag (drcBase t c) DRC_OP_STATUS_PEND = true → s.changing t c = false →
    s.training t c = false → exec (.pendingChangeApplied t c) s = .next (requestPoint t c
      (s.get (drcBase t c) DRC_OP_STATUS_PEND_OP) (s.putFlag (drcBase t c) DRC_OP_STATUS_PEND false))) ∧
  (∀ (path : Path) (t c : Nat) (v : Word) (s : State), Writable path (drcBase t c) s → t < 8 → c < 4 → s.locked = false →
    s.chanServes t c = false ∨ ((s.chan t c).trained.getLsbD (s.get (drcBase t c) DRC_OP_STATUS_CUR_OP) = true ∧
      v.toNat / 64 % 4 ≤ s.get (drcBase t c) DRC_OP_STATUS_CUR_OP) →
    Completes (.maxOpWrite path t c v) s (fun u =>
      (∀ p, p < 4 → bitAt (u.get (drcBase t c) DRC_OP_STATUS_ALLOWED) p =
        ((s.chan t c).trained.getLsbD p && decide (u.get (drcBase t c) DRC_CH_CFG_MAX_OP ≤ p))) ∧
      OnlyRegs (fun o => o = drcBase t c ∨ o = drcBase t c + 0xC) s u)))

/-- R155, R164, Table ECC-4: the correctable windows restart; an uncorrectable word in an SRAM is counted at its checker and answered by its
row of the table: a queued read is answered with poison, a queued write becomes the marker, and in a cascade buffer nothing stored changes.
A checker the table does not hold changes nothing. A write of ECC_INJ_CTL stores its fields. R176: the entropy source. Its failure is
Degraded and is kept; the test 10 s later ends it when it passes, and else is run again 10 s after. R186, R188: tag lines. A dirty cached
tag line with no pending write goes to its channel and is clean; one with a pending write waits. A sweep makes every covered line of a
written page the poison marker, and ends. -/
def Obligations.StoredDataChecks : Prop :=
  ((∀ (s : State), Completes .ceWindowRestart s (fun t =>
    t = { s with ceWindow := t.ceWindow, unitCe := t.unitCe } ∧
    ∀ i, i < s.nTiers → Sparse.get (fun _ => 0) t.ceWindow i =
      s.us / (max 1 (s.get (eccBase i) ECC_CFG_CE_WINDOW) * 1000000) ∧
      (Sparse.get (fun _ => 0) s.ceWindow i ≠ s.us / (max 1 (s.get (eccBase i) ECC_CFG_CE_WINDOW) * 1000000) →
        ∀ u, u < 1024 → Sparse.get (fun _ => 0) t.unitCe (eccUnitKey i u) = 0))) ∧
  (∀ (t n off ctx : Nat) (routing : Bool) (s : State), n < 20 ∨ 57 ≤ n ∨ s.nTiers ≤ t →
    exec (.sramUncorrectable t n routing off ctx) s = .next s) ∧
  (∀ (t n off ctx : Nat) (routing : Bool) (s : State), t < s.nTiers → t < 8 → 20 ≤ n → n < 32 →
    Completes (.sramUncorrectable t n routing off ctx) s (fun u =>
      u.reg (eccBase t + 0x408 + 0x10 * n) =
        BitVec.ofNat 64 (min (2 ^ 64 - 1) ((s.reg (eccBase t + 0x408 + 0x10 * n)).toNat + 1)) ∧
      u.flag (eccBase t) ECC_STATUS_UE = true ∧ Kept s u ∧ u.held = s.held)) ∧
  (∀ (t n off ctx : Nat) (r : Req) (s : State), t < s.nTiers → t < 8 → 32 ≤ n → n < 36 →
    s.held.find? (fun r => r.passed && r.kind.isRead && r.remote.isNone && r.tier = t && r.off / 64 = off / 64) = some r →
    Completes (.sramUncorrectable t n false off ctx) s (fun u =>
      (∃ d, Output.readResp r.port r.tag 0 true d ∈ u.out) ∧ u.held = s.held.erase r ∧ Kept s u)) ∧
  (∀ (t n off ctx : Nat) (s : State), t < s.nTiers → t < 8 → 32 ≤ n → n < 36 → off % 64 = 0 →
    (∀ r ∈ s.held, ¬(r.tier = t ∧ r.off / 64 = off / 64)) → ((s.chan t (chanOf off)).entry off).isSome = true →
    Completes (.sramUncorrectable t n false off ctx) s (fun u =>
      ((u.chan t (chanOf off)).entry off).map (·.line) = some { data := markerLine, code := .marker } ∧
      u.cistern = s.cistern ∧ u.valid = s.valid ∧ u.ctxs = s.ctxs)) ∧
  (∀ (path : Path) (t : Nat) (v : Word) (s : State), Writable path (eccBase t + 4) s → t < 8 → s.locked = false →
    Completes (.eccInjCtlWrite path t v) s (fun u => (∀ i, i < 11 → (u.reg (eccBase t + 4)).getLsbD i = v.getLsbD i) ∧
      OnlyRegs (· = eccBase t + 4) s u))) ∧
  ((∀ (s : State), s.entropyFailed = false → Completes .entropyHealthFail s (fun t =>
    t.entropyFailed = true ∧ t.entropyTestAt = s.us + 10000000 ∧ t.flag (scrBase 0) SCR_STATUS_ENTROPY_FAIL = true ∧
    Kept s t ∧ t.held = s.held)) ∧
  (∀ (s : State), s.entropyFailed = true → exec .entropyHealthFail s = .next s) ∧
  (∀ (s : State), s.entropyFailed = true → s.mgmt.grotto = true → s.entropyTestAt ≤ s.us →
    Completes (.entropyRestartTest true) s (fun t => t.entropyFailed = false ∧ t.drbgDraws = 0 ∧ Kept s t) ∧
    exec (.entropyRestartTest false) s = .next { s with entropyTestAt := s.us + 10000000 }) ∧
  (∀ (pass : Bool) (s : State), s.us < s.entropyTestAt → exec (.entropyRestartTest pass) s = .next s)) ∧
  ((∀ (t x w : Nat) (s : State), (s.tagSet t x).find x = some w → ((s.tagSet t x).way w).dirty = true →
    ((s.tagSet t x).way w).pend = 0 → ((s.tagSet t x).way w).bad = false →
    let o := s.tagLineOff t x
    s.fenced t (chanOf o) (rankOf o) = false → s.rankHeld t (chanOf o) (rankOf o) = false →
    (s.chan t (chanOf o)).entry (o / 64 * 64) = none → s.poolRoom 0 ((s.chan t (chanOf o)).writes.map (·.cls)) = true →
    s.get (eccBase t) ECC_INJ_CTL_COUNT = 0 →
    Completes (.tagLineWriteback t x) s (fun u => ((u.tagSet t x).way w).dirty = false ∧
      ((u.tagSet t x).way w).data = ((s.tagSet t x).way w).data ∧
      (∃ e, (u.chan t (chanOf o)).writes = (s.chan t (chanOf o)).writes ++ [e] ∧ e.off = o / 64 * 64 ∧
        e.line = { data := ((s.tagSet t x).way w).data }) ∧
      u.cistern = s.cistern ∧ u.slices = s.slices ∧ u.ctxs = s.ctxs ∧ u.exts = s.exts ∧ u.valid = s.valid)) ∧
  (∀ (t x w : Nat) (s : State), (s.tagSet t x).find x = some w → ((s.tagSet t x).way w).pend ≠ 0 →
    exec (.tagLineWriteback t x) s = .next s) ∧
  (∀ (t x : Nat) (s : State), s.sweeps.contains (t, x) = true → (∀ r ∈ s.held, r.why ≠ .sweep) → s.tagLineOff t x / 1024 ≠ x →
    Completes (.tagSweep t x) s (fun u => (t, x) ∉ u.sweeps ∧ u.held = s.held ∧ u.valid = s.valid ∧ u.slices = s.slices ∧
      u.ctxs = s.ctxs ∧ u.exts = s.exts ∧ ∀ i, i < 16 → s.pageValid t (x * 1024 + i * 64) = true →
        (u.stored t (x * 1024 + i * 64)).1 = { data := markerLine, code := .marker })) ∧
  (∀ (t x : Nat) (s : State), s.sweeps.contains (t, x) = false → exec (.tagSweep t x) s = .next s))

/-- R179: a line descrambles under the key and the pool address it was scrambled with to what it was. -/
def Obligations.ScrambleInverse : Prop :=
  ∀ (k : BitVec 256) (pa : Nat) (l : Line), descramble k pa (scramble k pa l) = l ∧ scramble k pa (descramble k pa l) = l

/-- R174, R175, R176, R263: KEY_CREATE makes an EMPTY key LIVE with material drawn from the DRBG, the one named or the lowest EMPTY; a LIVE
key is IN_USE, and with the entropy source failed none is made. KEY_RETIRE empties a key no context uses. R197, R198, R210: at the end of a
window a class's step at a channel rises at once to the step its latency calls for and falls by one, never below MIN_STEP, and the window
starts over; MISS_N windows past the target times the miss factor put the class in a miss and set its bit. R210: the miss interrupt goes to
every control function, with the vector WEIR_GLB_CFG names, and not within 100 us of the last. -/
def Obligations.KeysAndWindows : Prop :=
  (∀ (d : DescRef) (keyid : Nat) (f : Fetched) (s : State),
    (s.ready d 0x0300 [(8, 2, keyid)] = some f →
      (4096 ≤ keyid → Completes (.keyCreate d keyid) s (fun t => Done d 0x02 0 s t ∧ Kept s t)) ∧
      (keyid ≠ 0 → keyid < 4096 → s.key keyid ≠ none →
        Completes (.keyCreate d keyid) s (fun t => Done d 0x0D 0 s t ∧ Kept s t)) ∧
      (keyid < 4096 → (∃ k, k < 4096 ∧ k ≠ 0 ∧ s.key k = none) → keyid = 0 ∨ s.key keyid = none → s.entropyFailed = true →
        Completes (.keyCreate d keyid) s (fun t => Done d 0x0A 0 s t ∧ Kept s t)) ∧
      (∀ k, k ≠ 0 → k < 4096 → s.key k = none → (keyid = k ∨ (keyid = 0 ∧ ∀ i, 1 ≤ i → i < k → s.key i ≠ none)) →
        s.entropyFailed = false → Completes (.keyCreate d keyid) s (fun t => Done d 0 k s t ∧
          t.key k = some (Config.randomBits s.fresh) ∧ (∀ i, i ≠ k → t.key i = s.key i) ∧
          t = { s with keys := t.keys, fetched := t.fetched, cplQ := t.cplQ, fresh := s.fresh + 1, drbgDraws := t.drbgDraws }))) ∧
    (s.ready d 0x0301 [(8, 2, keyid)] = some f → s.commits = [] →
      (keyid = 0 ∨ 4096 ≤ keyid → Completes (.keyRetire d keyid) s (fun t => Done d 0x02 0 s t ∧ Kept s t)) ∧
      (keyid ≠ 0 → keyid < 4096 → s.key keyid = none →
        Completes (.keyRetire d keyid) s (fun t => Done d 0x05 0 s t ∧ Kept s t)) ∧
      (keyid ≠ 0 → keyid < 4096 → s.key keyid ≠ none → (∃ x ∈ s.ctxs, x.2.state ≠ .free ∧ x.2.keyId = keyid) →
        Completes (.keyRetire d keyid) s (fun t => Done d 0x0D 0 s t ∧ Kept s t)) ∧
      (keyid ≠ 0 → keyid < 4096 → s.key keyid ≠ none → (∀ x ∈ s.ctxs, x.2.state = .free ∨ x.2.keyId ≠ keyid) →
        Completes (.keyRetire d keyid) s (fun t => Done d 0 0 s t ∧ t.key keyid = none ∧
          (∀ i, i ≠ keyid → t.key i = s.key i) ∧ t = { s with keys := t.keys, fetched := t.fetched, cplQ := t.cplQ })))) ∧
  (∀ (t c k : Nat) (lats : List WinLat) (l : WinLat) (s : State), t < s.nTiers → s.nTiers ≤ 8 → c < 4 → k < 64 →
    lats.find? (fun l => l.tier = t && l.chan = c && l.cls = k) = some l → (s.chanClass t c k).reads ≠ 0 →
    Completes (.weirWindowEnd lats) s (fun u =>
      let q := s.chanClass t c k
      let p := s.cls k
      let m := min 65535 l.lat
      let comp := stepFor m p.target
      let cur := max p.minStep q.step
      (u.chanClass t c k).lat = m ∧ (u.chanClass t c k).step = max p.minStep (if cur ≤ comp then comp else cur - 1) ∧
      (u.chanClass t c k).reads = 0 ∧ (u.chanClass t c k).lines = 0 ∧
      (q.miss = false → p.target ≠ 0 → (s.chanWeir t c).disturbed = false → p.target * p.missFact < m * 8 →
        p.missN ≤ q.missRun + 1 → (u.chanClass t c k).miss = true ∧
          u.regBit (weirBase + 0x10) k = true) ∧
      Kept s u ∧ u.held = s.held)) ∧
  ((∀ (s : State), s.missPending = true → (∀ m, s.missLast = some m → m + 100 ≤ s.us) →
    Completes .missInterrupt s (fun t => t.missPending = false ∧ t.missLast = some s.us ∧
      t.out = s.controlPorts.reverse.map (fun p => .msix p 1 (s.get weirBase WEIR_GLB_CFG_MISS_VEC)) ++ s.out ∧
      t = { s with missPending := false, missLast := some s.us, out := t.out })) ∧
  (∀ (s : State) (m : Nat), s.missLast = some m → s.us < m + 100 → exec .missInterrupt s = .next s))

/-- R194, R205, R206: CLASS_SET takes the entry whole when its fields are in range, its reserved entries fit 384 and its guarantee is
deliverable; out of range, or over the commitment without the flag, it changes nothing. CLASS_QUERY writes the four words of the entry to
host memory. CTX_SET_CLASS gives a context its class. -/
def Obligations.Classes : Prop :=
  (∀ (d : DescRef) (cls rankStep ways groups target guar ceil maxq rsv missFact missN : Nat) (f : Fetched) (s : State),
    s.ready d 0x0400 [(8, 1, cls), (9, 1, rankStep), (10, 1, ways), (11, 1, groups), (12, 2, target), (14, 2, guar),
      (16, 2, ceil), (18, 1, maxq), (19, 1, rsv), (20, 1, missFact), (21, 1, missN)] = some f → s.admissionLocked = false →
    let cmd := Instr.classSet d cls rankStep ways groups target guar ceil maxq rsv missFact missN
    let p : ClassParams :=
      { target := target, guar := guar, ceil := ceil, rank := rankStep % 16, minStep := rankStep / 16, ways := ways
        groups := BitVec.ofNat 8 groups, maxq := maxq, rsv := rsv, missFact := missFact, missN := missN }
    (64 ≤ cls ∨ 128 ≤ rankStep ∨ 16 < ways ∨ maxq = 0 ∨ 64 < maxq ∨ maxq < rsv ∨ (ceil ≠ 0 ∧ ceil < guar) ∨ missFact < 8 ∨
      missN = 0 ∨ 2 ^ s.nTiers ≤ groups → Completes cmd s (fun t => Done d 0x02 0 s t ∧ Kept s t ∧ t.classes = s.classes)) ∧
    (classOk s.nTiers cls rankStep ways groups guar ceil maxq rsv missFact missN = true →
      384 < s.rsvSum - (s.cls cls).rsv + rsv →
      Completes cmd s (fun t => Done d 0x06 0 s t ∧ Kept s t ∧ t.classes = s.classes)) ∧
    (classOk s.nTiers cls rankStep ways groups guar ceil maxq rsv missFact missN = true →
      s.rsvSum - (s.cls cls).rsv + rsv ≤ 384 → s.overGroups (s.withClass cls p) ≠ [] → descFlag f.bytes 0 = false →
      Completes cmd s (fun t => Done d 0x07 (tierMask (s.overGroups (s.withClass cls p))) s t ∧ Kept s t ∧
        t.classes = s.classes)) ∧
    (classOk s.nTiers cls rankStep ways groups guar ceil maxq rsv missFact missN = true →
      s.rsvSum - (s.cls cls).rsv + rsv ≤ 384 → s.overGroups (s.withClass cls p) = [] ∨ descFlag f.bytes 0 = true →
      Completes cmd s (fun t => (∃ r, Done d 0 r s t) ∧ t.cls cls = p ∧ (∀ k, k ≠ cls → t.cls k = s.cls k) ∧ Kept s t))) ∧
  (∀ (d : DescRef) (cls haddr : Nat) (f : Fetched) (s : State), s.ready d 0x0401 [(8, 1, cls), (16, 8, haddr)] = some f →
    (64 ≤ cls ∨ haddr % 32 ≠ 0 → Completes (.classQuery d cls haddr) s (fun t => Done d 0x02 0 s t ∧ Kept s t)) ∧
    (cls < 64 → haddr % 32 = 0 → haddr ≠ 0 → Completes (.classQuery d cls haddr) s (fun t => (∃ r, Done d 0 r s t) ∧
      (∃ w, t.out = .dmaWrite (s.ring d.ring).dmaPort haddr w :: s.out ∧ w.length = 4) ∧
      t = { s with fetched := t.fetched, cplQ := t.cplQ, out := t.out }))) ∧
  (∀ (d : DescRef) (c cls : Nat) (f : Fetched) (s : State), s.ready d 0x0402 [(8, 4, c), (12, 1, cls)] = some f →
    s.admissionLocked = false → cls < 64 → c < 2 ^ 18 →
    ((s.ctx c).state = .free ∨ (s.ctx c).state = .draining ∨ (s.ctx c).state = .releasing →
      Completes (.ctxSetClass d c cls) s (fun t => Done d 0x05 0 s t ∧ Kept s t)) ∧
    ((s.ctx c).state = .building ∨ (s.ctx c).state = .live ∨ (s.ctx c).state = .frozen → CommitsNow f.tier s →
      s.overGroups (relabel c cls s).cls = [] → Completes (.ctxSetClass d c cls) s (fun t => (∃ r, Done d 0 r s t) ∧
        t.ctx c = { s.ctx c with cls := cls } ∧ (∀ x, x ≠ c → t.ctx x = s.ctx x) ∧ t.exts = s.exts ∧ t.valid = s.valid ∧
        t.slices = s.slices ∧ t.cistern = s.cistern)))

/-- R222, R227, R228, R298, R480: marks. The own timer of a package in no pool closes the next tick when its interval has run, the manager
with its mark sent; a worker closes the tick of a mark above its last, and one without a mark for a millisecond past the interval goes on
unsynchronised; the named standby becomes the manager with the mark it sends. R222, R223, R224: folding. The last tier's fold makes records
final; a roll-up in time is added to its record and one too late is dropped with a Note; a done frame is kept; at ROLL_WAIT the records that
still wait are marked INDET and final; a tick whose records are final gets its nodes, and the manager builds the pool node of those that
came in time. R218, R224: a package node's counts are the sums of its records' counts, each stopping at its field's maximum. -/
def Obligations.TicksAndFolding : Prop :=
  (∀ (s : State), s.meter.openIndet = [] → s.meter.openIndetAll = false →
    let span := s.mInterval * 1000000
    (∀ m, s.role = 0 ∨ s.role = 3 → s.meter.markAt = some m →
      (m + span ≤ s.us → Completes .ownTimerMark s (fun t => Closes (s.lastTick + 1) false s t ∧ t.meter.markAt = some (m + span) ∧
        (s.role = 3 → Output.tickMark (s.lastTick + 1) ∈ t.out))) ∧
      (s.us < m + span → exec .ownTimerMark s = .next s)) ∧
    (s.role = 1 ∨ s.role = 2 → s.pool.managerNext = true → s.meter.lastMark + span ≤ s.us →
      Completes .ownTimerMark s (fun t => Closes (s.lastTick + 1) false s t ∧ t.role = 3 ∧ t.pool.epoch = s.pool.epoch + 1 ∧
        t.pool.managerNext = false ∧ Output.tickMark (s.lastTick + 1) ∈ t.out)) ∧
    (s.role = 1 ∨ s.role = 2 → ∀ n,
      (s.lastTick < n → Completes (.tickMark n) s (fun t => Closes n false s t ∧ t.meter.lastMark = s.us)) ∧
      (n ≤ s.lastTick → Completes (.tickMark n) s (fun t => t.meter = { s.meter with lastMark := s.us } ∧
        t.flag mtrBase MTR_STATUS_UNSYNC = false ∧ t = { s with meter := t.meter, regs := t.regs }))) ∧
    (s.role = 0 ∨ s.role = 3 → ∀ n, exec (.tickMark n) s = .next s) ∧
    (s.role = 1 ∨ s.role = 2 → s.flag mtrBase MTR_STATUS_UNSYNC = false → s.meter.lastMark + span + 1000 ≤ s.us →
      Completes .missingMarkDetected s (fun t => Closes (s.lastTick + 1) true s t ∧ t.meter.lastMark = s.us))) ∧
  ((∀ (t : Nat) (k : Tick) (s : State), s.meter.ticks = [k] → k.folding = [t] → k.late = [] → s.leaves = [] → s.remoteLeaves = [] →
    s.pool.granted = [] → (s.tier t).engReset = false → Completes (.localFoldEnd t) s (fun u =>
      u.meter.ticks = [{ ({ k with folding := [] } : Tick).finalize with donesSent := true }] ∧
      (u.tier t).idleSince = s.us ∧ u = { s with meter := u.meter, tiers := u.tiers })) ∧
  (∀ (src n c : Nat) (counts : List Nat) (s : State),
    (∀ k r, src < 16 → s.tickOf n = some k → k.finished = false → k.records.find? (fun r => r.ctx = c) = some r → r.final = false →
      Completes (.rollUpFrame src n c counts) s (fun t => ∃ k', t.tickOf n = some k' ∧ ∃ r' ∈ k'.records, r'.ctx = c ∧
        r'.counts = (r.counts.plus (Counts.ofList counts)).capped ∧ r'.pkgs.getLsbD src = true)) ∧
    (s.tickOf n = none → Completes (.rollUpFrame src n c counts) s (fun t => t.meter = s.meter ∧
      t.flag mtrBase MTR_STATUS_ROLL_LATE = true ∧
      t.reg (mtrBase + 0x50) = BitVec.ofNat 64 (min (2 ^ 64 - 1) ((s.reg (mtrBase + 0x50)).toNat + 1)) ∧ Kept s t))) ∧
  (∀ (src n frames : Nat) (un : List Nat) (k : Tick) (s : State), s.tickOf n = some k →
    (k.finished = false → (∀ x ∈ un, x = 0) → Completes (.doneFrame src n frames un) s (fun t =>
      t.tickOf n = some ({ k with dones := k.dones ++ [(src, frames)] } : Tick).finalize ∧ t = { s with meter := t.meter })) ∧
    (k.finished = true → exec (.doneFrame src n frames un) s = .next s)) ∧
  (∀ (n : Nat) (k : Tick) (s : State), s.tickOf n = some k → k.finished = false → k.folding = [] → k.markAt + s.rollWait ≤ s.us →
    Completes (.rollWaitExpiry n) s (fun t => ∃ k', t.tickOf n = some k' ∧ (∀ r ∈ k'.records, r.final = true) ∧
      ∀ r ∈ k.records, r.final = false → r.waitOn.all k.doneBy = false → ∃ r' ∈ k'.records, r'.ctx = r.ctx ∧ r'.indet = true)) ∧
  (∀ (n : Nat) (k : Tick) (s : State), s.tickOf n = some k → s.meter.waits = [] → s.role = 0 → k.finished = false → k.folding = [] →
    (∀ r ∈ k.records, r.final = true) → Completes (.tickFoldingFinished n) s (fun t =>
      t.tickOf n = some { k with finished := true, accounts := k.accountNodes, node := some (k.packageNode s.pkg) } ∧
      t = { s with meter := t.meter })) ∧
  (∀ (src n : Nat) (f : NodeFields) (k : Tick) (s : State), s.tickOf n = some k → k.poolNode = none → s.role = 3 →
    Completes (.packageNodeFrame src n f) s (fun t => ∃ k' x, t.tickOf n = some k' ∧
      k'.nodes = k.nodes.filter (fun y => y.id ≠ src) ++ [x] ∧ x.id = src ∧ x.counts.bytes = f.bytes ∧ t = { s with meter := t.meter })) ∧
  (∀ (n : Nat) (k : Tick) (s : State), s.tickOf n = some k → k.poolNode = none → s.role = 3 → s.meter.waits = [] →
    k.markAt + s.rollWait + 1000000 ≤ s.us → Completes (.poolNodeDeadline n) s (fun t => ∃ x, t.tickOf n = some { k with poolNode := some x } ∧
      x.children = k.nodes.length ∧ ((∃ p ∈ s.poolMembers, ∀ y ∈ k.nodes, y.id ≠ p) → x.indet = true) ∧ t = { s with meter := t.meter }))) ∧
  (∀ (k : Tick) (pkg : Nat), let n := k.packageNode pkg
    n.counts.lines = min ((k.records.map (·.counts.lines)).sum) ((2 ^ 64 - 1) / 64) ∧
    n.counts.bytes = min ((k.records.map (·.counts.bytes)).sum) (2 ^ 64 - 1) ∧
    n.counts.misses = min ((k.records.map (·.counts.misses)).sum) (2 ^ 32 - 1) ∧
    n.extSec = min ((k.records.map (·.extSec)).sum) (2 ^ 64 - 1) ∧
    (n.indet = true ↔ ∃ r ∈ k.records, r.indet = true))

/-- R229, R231: seals and storage errors. The oldest finished tick is sealed over its records and node; a sealed tick that changed is sealed
anew under the next generation; a tick without a seal 5 s after its mark is noted. Counts lost in a leaf, an accumulator or a record mark
their records, and no other. R228, R230, R231, R266: the metering descriptors. METER_SNAPSHOT writes the records of a final tick from FIRST
on and says what is left, waits for one that is not final, and refuses scopes a ring may not ask; METER_SEAL answers a seal or waits for it,
30 s at most; METER_CONFIG keeps its values for the next mark. -/
def Obligations.SealsAndMetering : Prop :=
  ((∀ (n : Nat) (k : Tick) (s : State), s.tickOf n = some k → s.meter.waits = [] → s.mgmt.grotto = true → s.identity = true →
    (s.meter.ticks.find? (fun k => k.finished && k.sealed.isNone) = some k → s.flag mtrBase MTR_CFG_AUTOSEAL = true → k.num = n →
      Completes (.autoseal n) s (fun t => ∃ z, t.tickOf n = some { k with sealed := some z, reseal := false } ∧ z.gen = 0 ∧
        z.records = k.records.length ∧ z.digest = Config.sha384 (sealInput k s.pkg 0) ∧
        z.signature = Config.sign z.digest s.fresh ∧ t = { s with meter := t.meter, regs := t.regs, fresh := t.fresh })) ∧
    (∀ z, k.sealed = some z → k.reseal = true → Completes (.reseal n) s (fun t => ∃ y,
      t.tickOf n = some { k with sealed := some y, reseal := false } ∧ y.gen = z.gen + 1 ∧
      y.digest = Config.sha384 (sealInput k s.pkg (z.gen + 1)) ∧ t = { s with meter := t.meter, regs := t.regs, fresh := t.fresh }))) ∧
  (∀ (n : Nat) (k : Tick) (s : State), s.tickOf n = some k → k.sealed = none → k.sealLate = false → k.markAt + 5000000 ≤ s.us →
    s.flag mtrBase MTR_CFG_AUTOSEAL = true → Completes (.sealLate n) s (fun t => t.flag mtrBase MTR_STATUS_SEAL_LATE = true ∧
      t.tickOf n = some { k with sealLate := true } ∧ Kept s t)) ∧
  (∀ (c : Nat) (s : State), Completes (.meteringStorageError (.accumulator c)) s (fun t =>
    Sparse.get (fun _ => 0) t.extAcc c = 0 ∧ Sparse.get (fun _ => 0) t.extAt c = s.us ∧ c ∈ t.meter.openIndet ∧
    (∀ x, x ≠ c → Sparse.get (fun _ => 0) t.extAcc x = Sparse.get (fun _ => 0) s.extAcc x) ∧
    t = { s with extAcc := t.extAcc, extAt := t.extAt, meter := t.meter })) ∧
  (∀ (u c : Nat) (s : State), Completes (.meteringStorageError (.leaf u c false)) s (fun t => c ∈ t.meter.openIndet ∧
    t.leaves = s.leaves.filter (fun e => e.1 / 8 ≠ (Sparse.get (fun _ => 0) s.leafBank u * 8 + u) * 2 ^ 18 + c) ∧
    t = { s with leaves := t.leaves, meter := t.meter })) ∧
  (∀ (n c : Nat) (k : Tick) (s : State), s.tickOf n = some k → Completes (.meteringStorageError (.record n c)) s (fun t =>
    ∃ k', t.tickOf n = some k' ∧ k'.records = k.records.map (fun r =>
      if r.ctx = c then { r with indet := true, counts := {}, extSec := 0, tiers := 0, pkgs := 0 } else r) ∧ Kept s t))) ∧
  ((∀ (d : DescRef) (tick scope first count haddr : Nat) (f : Fetched) (s : State),
    s.ready d 0x0600 [(8, 4, tick), (12, 1, scope), (16, 4, first), (20, 4, count), (24, 8, haddr)] = some f →
    let cmd := Instr.meterSnapshot d tick scope first count haddr
    (3 < scope ∨ haddr % 128 ≠ 0 ∨ s.tickOf tick = none ∨ (scope = 3 ∧ s.role ≠ 3) →
      Completes cmd s (fun t => Done d 0x02 0 s t ∧ Kept s t ∧ t.meter = s.meter)) ∧
    (∀ k, s.tickOf tick = some k → countOk count = true → haddr % 128 = 0 →
      (scope = 1 → first < 2 ^ 16 → (s.ring d.ring).tenant = true →
        Completes cmd s (fun t => Done d 0x08 0 s t ∧ Kept s t ∧ t.meter = s.meter)) ∧
      (scope = 0 → first < 2 ^ 18 → k.finished = true → (s.ring d.ring).tenant = false →
        let items := k.records.filter (fun r => first ≤ r.ctx)
        Completes cmd s (fun t => Done d 0 (snapResult (items.take count).length ((items.drop count).map (·.ctx))) s t ∧
          (items.take count ≠ [] → ∃ w, t.out = .dmaWrite (s.ring d.ring).dmaPort haddr w :: s.out ∧
            w.length = 16 * (items.take count).length) ∧ t = { s with fetched := t.fetched, cplQ := t.cplQ, out := t.out })) ∧
      (scope = 0 → first < 2 ^ 18 → k.finished = false → Completes cmd s (fun t => Waits d s t ∧ (∃ w, t.meter.waits = s.meter.waits ++ [w] ∧
        w.desc = d ∧ w.tick = tick ∧ w.toSeal = false) ∧ t = { s with fetched := t.fetched, meter := t.meter })))) ∧
  (∀ (d : DescRef) (tick haddr : Nat) (f : Fetched) (s : State), s.ready d 0x0601 [(8, 4, tick), (16, 8, haddr)] = some f →
    (haddr % 256 ≠ 0 ∨ s.tickOf tick = none → Completes (.meterSeal d tick haddr) s (fun t => Done d 0x02 0 s t ∧ Kept s t)) ∧
    (∀ k z, haddr % 256 = 0 → s.tickOf tick = some k → k.sealed = some z → Completes (.meterSeal d tick haddr) s (fun t =>
      Done d 0 z.gen s t ∧ (∃ w, t.out = .dmaWrite (s.ring d.ring).dmaPort haddr w :: s.out ∧ w.length = 32) ∧ t.meter = s.meter)) ∧
    (∀ k, haddr % 256 = 0 → s.tickOf tick = some k → k.sealed = none → s.flag mtrBase MTR_CFG_AUTOSEAL = true →
      Completes (.meterSeal d tick haddr) s (fun t => Waits d s t ∧ (∃ w, t.meter.waits = s.meter.waits ++ [w] ∧ w.desc = d ∧
        w.tick = tick ∧ w.toSeal = true ∧ w.since = s.us) ∧ t = { s with fetched := t.fetched, meter := t.meter }))) ∧
  (∀ (d : DescRef) (w : MeterWait) (s : State), s.meter.waits.find? (fun w => w.toSeal && w.desc = d) = some w →
    (s.us < w.since + 30000000 → exec (.meterSealTimeout d) s = .next s) ∧
    (w.since + 30000000 ≤ s.us → (s.fetchedOf d).isSome = true → Completes (.meterSealTimeout d) s (fun t => Done d 0x0B 0 s t ∧
      t.meter.waits = s.meter.waits.filter (fun x => x ≠ w) ∧ Kept s t))) ∧
  (∀ (d : DescRef) (interval rollWait autoseal : Nat) (f : Fetched) (s : State),
    s.ready d 0x0602 [(8, 2, interval), (10, 1, rollWait), (11, 1, autoseal)] = some f → s.role = 0 ∨ s.role = 3 →
    (interval = 0 ∨ 3600 < interval ∨ rollWait = 0 ∨ 40 < rollWait ∨ 1 < autoseal →
      Completes (.meterConfig d interval rollWait autoseal) s (fun t => Done d 0x02 0 s t ∧ t.meter = s.meter ∧ Kept s t)) ∧
    (0 < interval → interval ≤ 3600 → 0 < rollWait → rollWait ≤ 40 → autoseal ≤ 1 →
      Completes (.meterConfig d interval rollWait autoseal) s (fun t => Done d 0 0 s t ∧
        t.meter = { s.meter with config := some (interval, rollWait, decide (autoseal = 1)) } ∧
        t.regs = s.regs ∧ Kept s t))))

/-- R248, R256, R257, Table CMD-3: NOP answers the time. RING_CREATE makes an ABSENT ring RUNNING as its operands say; one that exists is
IN_USE, and operands out of range are BAD_FIELD. RING_DELETE makes an idle ring ABSENT, never ring 0 or its own. A FENCE answers what it
waited for. R248, R253, R256, Table SLU-5: RING_MODIFY. In its legal states each action applies the masked settings and moves the ring: a
stop takes a RUNNING ring to STOPPED, a start to RUNNING, a resync to RUNNING with the index and sequence it names. A ring in an illegal
state answers WRONG_STATE, and operands out of range BAD_FIELD; then the ring is unchanged. -/
def Obligations.RingCommands : Prop :=
  ((∀ (d : DescRef) (f : Fetched) (s : State), s.ready d 0x0000 [] = some f →
    Completes (.nop d) s (fun t => Done d 0 s.us s t ∧ t = { s with fetched := t.fetched, cplQ := t.cplQ })) ∧
  (∀ (d : DescRef) (ring ttype log2n dmaPort prio vector dbase cbase pollAddr account coalCount startSeq coalTime pollUs : Nat)
    (f : Fetched) (s : State),
    let cmd := Instr.ringCreate d ring ttype log2n dmaPort prio vector dbase cbase pollAddr account coalCount startSeq coalTime pollUs
    s.ready d 0x0001 [(8, 2, ring), (10, 1, ttype), (11, 1, log2n), (12, 1, dmaPort), (13, 1, prio), (14, 2, vector),
      (16, 8, dbase), (24, 8, cbase), (32, 8, pollAddr), (40, 2, account), (42, 1, coalCount), (43, 1, startSeq),
      (44, 2, coalTime), (46, 2, pollUs)] = some f →
    (ringRanges ring ttype log2n prio vector dbase cbase pollAddr coalTime pollUs = false →
      Completes cmd s (fun t => Done d 0x02 0 s t ∧ Kept s t ∧ t.rings = s.rings)) ∧
    (ringRanges ring ttype log2n prio vector dbase cbase pollAddr coalTime pollUs = true → s.ringPlaceOk ring ttype dmaPort = true →
      ((s.ring ring).state ≠ .absent → Completes cmd s (fun t => Done d 0x0D 0 s t ∧ Kept s t ∧ t.rings = s.rings)) ∧
      ((s.ring ring).state = .absent → ttype / 4 % 2 = 0 → Completes cmd s (fun t => Done d 0 0 s t ∧
        (t.ring ring).state = .running ∧ (t.ring ring).tenant = decide (ttype % 4 = 2) ∧ (t.ring ring).account = account ∧
        (t.ring ring).log2n = log2n ∧ (t.ring ring).dmaPort = dmaPort ∧ (t.ring ring).expSeq = startSeq ∧
        (t.ring ring).ci = 0 ∧ (t.ring ring).cqWrite = 0 ∧ (t.ring ring).phase = true ∧ (t.ring ring).dbase = dbase ∧
        (t.ring ring).cbase = cbase ∧ (∀ r, r ≠ ring → t.ring r = s.ring r) ∧
        t = { s with rings := t.rings, fetched := t.fetched, cplQ := t.cplQ })))) ∧
  (∀ (d : DescRef) (ring : Nat) (f : Fetched) (s : State), s.ready d 0x0002 [(8, 2, ring)] = some f →
    (ring = 0 ∨ ring = d.ring → Completes (.ringDelete d ring) s (fun t => Done d 0x02 0 s t ∧ Kept s t ∧ t.rings = s.rings)) ∧
    (ring ≠ 0 → ring ≠ d.ring → (s.ring ring).state = .absent →
      Completes (.ringDelete d ring) s (fun t => Done d 0x05 0 s t ∧ Kept s t ∧ t.rings = s.rings)) ∧
    (ring ≠ 0 → ring ≠ d.ring → (s.ring ring).state ≠ .absent → (s.ring ring).leaving = false →
      (∀ x ∈ s.fetched, x.ref.ring ≠ ring) → (∀ c ∈ s.cplQ, c.ring ≠ ring) → Completes (.ringDelete d ring) s (fun t =>
        Done d 0 0 s t ∧ t.ring ring = {} ∧ (∀ r, r ≠ ring → t.ring r = s.ring r) ∧
        t = { s with rings := t.rings, fetched := t.fetched, cplQ := t.cplQ }))) ∧
  (∀ (d : DescRef) (scope : Nat) (f : Fetched) (s : State), s.ready d 0x0F00 [(8, 1, scope)] = some f →
    (1 < scope → Completes (.fence d scope) s (fun t => Done d 0x02 0 s t ∧ Kept s t)) ∧
    (scope = 1 → (s.ring d.ring).tenant = true → Completes (.fence d scope) s (fun t => Done d 0x08 0 s t ∧ Kept s t)) ∧
    (scope = 0 ∨ scope = 1 ∧ (s.ring d.ring).tenant = false → Completes (.fence d scope) s (fun t =>
      Done d 0 f.waited s t ∧ t = { s with fetched := t.fetched, cplQ := t.cplQ })))) ∧
  (∀ (d : DescRef) (ring mask newCi newSeq prio vector intEn coalCount coalTime pollUs : Nat) (f : Fetched) (s : State),
    let g := s.ring ring
    let g' := g.modified mask prio vector intEn coalCount coalTime pollUs
    let vecOk := bitAt mask 1 = true → if g.tenant = true then 6 ≤ vector ∧ vector ≤ 63 else vector ≤ 2047
    let ready := fun action =>
      s.ready d 0x0003 (modifyOperands action ring mask newCi newSeq prio vector intEn coalCount coalTime pollUs) = some f
    let ranges := fun action => modifyRanges action ring mask prio intEn coalTime pollUs
    let becomes := fun (c : Instr) (h : Ring) => Completes c s (fun t => Done d 0 0 s t ∧ t.ring ring = h ∧
      (∀ r, r ≠ ring → t.ring r = s.ring r) ∧ t = { s with rings := t.rings, fetched := t.fetched, cplQ := t.cplQ })
    let fails := fun (c : Instr) (status : Nat) => Completes c s (fun t => Done d status 0 s t ∧ Kept s t ∧ t.rings = s.rings)
    let stop := Instr.ringModifyStop d ring mask newCi newSeq prio vector intEn coalCount coalTime pollUs
    let start := Instr.ringModifyStart d ring mask newCi newSeq prio vector intEn coalCount coalTime pollUs
    let resync := Instr.ringModifyResync d ring mask newCi newSeq prio vector intEn coalCount coalTime pollUs
    let settings := Instr.ringModifyAttributes d ring mask newCi newSeq prio vector intEn coalCount coalTime pollUs
    (ready 1 → (ranges 1 = false → fails stop 0x02) ∧ (ranges 1 = true → g.state = .absent → fails stop 0x05) ∧
      (ranges 1 = true → g.state = .running → vecOk → becomes stop { g' with state := .stopped, cause := 2 }) ∧
      (ranges 1 = true → g.state = .stopped ∨ g.state = .error → vecOk → becomes stop g')) ∧
    (ready 2 → (ranges 2 = true → g.state = .error ∨ g.state = .absent → fails start 0x05) ∧
      (ranges 2 = true → g.state = .running ∨ g.state = .stopped → vecOk → becomes start { g' with state := .running })) ∧
    (ready 3 → (ranges 3 = true → g.state = .running ∨ g.state = .absent → fails resync 0x05) ∧
      (ranges 3 = true → g.state = .stopped ∨ g.state = .error → g.n ≤ newCi → fails resync 0x02) ∧
      (ranges 3 = true → g.state = .stopped ∨ g.state = .error → newCi < g.n → vecOk →
        becomes resync { g' with state := .running, ci := newCi, expSeq := newSeq % 256 })) ∧
    (ready 0 → (ranges 0 = true → g.state = .absent → fails settings 0x05) ∧
      (ranges 0 = true → g.state ≠ .absent → vecOk → becomes settings g')))

/-- R241, R242, R243: doorbells. A write of legal indices to a ring that is not polled, or a poll when it is due, records them and wakes the
ring's tier; an index past the ring changes no ring and sets DB_ERR. R240, R244, R248: page grants and the admin ring. A grant is stored
unless another page holds the same port and slot or its page's rings forbid it, which changes nothing and sets GRANT_CONFLICT; enabling
makes ring 0 RUNNING from its registers, and disabling an idle ring 0 makes it ABSENT. -/
def Obligations.DoorbellsAndGrants : Prop :=
  ((∀ (port fn offset r : Nat) (value : BitVec 64) (s : State), s.linkUp port = true → s.reacting = false → offset % 8 = 0 →
    s.doorbellRing port fn offset = some r → (s.ring r).state ≠ .absent → (s.ring r).polled = false →
    (value.toNat % 65536 < (s.ring r).n → value.toNat / 2 ^ 32 % 65536 < (s.ring r).n →
      Completes (.doorbellWrite port fn offset 8 value) s (fun t =>
        t.ring r = { s.ring r with pi := value.toNat % 65536, cqHead := value.toNat / 2 ^ 32 % 65536 } ∧
        (∀ q, q ≠ r → t.ring q = s.ring q) ∧ (t.tier (s.ring r).tier).power ≠ 1 ∧
        t = { s with rings := t.rings, tiers := t.tiers, wakeReq := t.wakeReq, regs := t.regs })) ∧
    (value.toNat % 65536 < (s.ring r).n → (s.ring r).cqHead < (s.ring r).n →
      Completes (.doorbellWrite port fn offset 4 value) s (fun t => t.ring r = { s.ring r with pi := value.toNat % 65536 } ∧
        (∀ q, q ≠ r → t.ring q = s.ring q))) ∧
    ((s.ring r).n ≤ value.toNat % 65536 → Completes (.doorbellWrite port fn offset 8 value) s (fun t =>
      t.rings = s.rings ∧ t.regBit (sluBase + 0x2C) 0 = true ∧ Kept s t))) ∧
  (∀ (r : Nat) (value : BitVec 64) (s : State), (s.ring r).state ≠ .absent → (s.ring r).polled = true →
    (s.ring r).polledAt + (s.ring r).pollUs ≤ s.us → s.reacting = false → s.linkUp (s.ring r).dmaPort = true →
    (value.toNat % 65536 < (s.ring r).n → value.toNat / 2 ^ 32 % 65536 < (s.ring r).n →
      Completes (.doorbellPoll r value) s (fun t =>
        t.ring r = { s.ring r with pi := value.toNat % 65536, cqHead := value.toNat / 2 ^ 32 % 65536, polledAt := s.us } ∧
        (∀ q, q ≠ r → t.ring q = s.ring q) ∧
        t = { s with rings := t.rings, tiers := t.tiers, wakeReq := t.wakeReq, regs := t.regs })) ∧
    ((s.ring r).n ≤ value.toNat % 65536 → Completes (.doorbellPoll r value) s (fun t =>
      t.ring r = { s.ring r with polledAt := s.us } ∧ t.regBit (sluBase + 0x2C) 0 = true ∧ Kept s t))) ∧
  (∀ (r : Nat) (value : BitVec 64) (s : State), s.us < (s.ring r).polledAt + (s.ring r).pollUs →
    exec (.doorbellPoll r value) s = .next s)) ∧
  ((∀ (path : Path) (page : Nat) (v : Word) (s : State), 1 ≤ page → page ≤ 127 → Writable path (sluBase + 0x400 + 4 * page) s →
    let o := sluBase + 0x400 + 4 * page
    let pair := (v.toNat / 16 % 128, v.toNat % 16)
    let clash := (∃ q, 1 ≤ q ∧ q ≤ 127 ∧ q ≠ page ∧ s.grant q = some pair) ∨
      ∃ x ∈ s.rings, x.1 / 512 = page ∧ x.2.state ≠ .absent ∧ ¬(x.2.tenant = true ∧ x.2.dmaPort = v.toNat / 16 % 128)
    (v.getLsbD 31 = false → Completes (.sluDbGrantWrite path page v) s (fun t => t.grant page = none ∧
      OnlyRegs (· = o) s t)) ∧
    (v.getLsbD 31 = true → ¬clash → Completes (.sluDbGrantWrite path page v) s (fun t => t.grant page = some pair ∧
      OnlyRegs (· = o) s t)) ∧
    (v.getLsbD 31 = true → clash → Completes (.sluDbGrantWrite path page v) s (fun t => t.grant page = s.grant page ∧
      t.regBit (sluBase + 0x2C) 1 = true ∧ t.rings = s.rings ∧ Kept s t))) ∧
  (∀ (path : Path) (v : Word) (s : State), Writable path sluBase s → v.getLsbD 31 = true →
    s.flag sluBase SLU_ADMIN_CFG_ENABLE = false → Completes (.sluAdminEnable path v) s (fun t =>
      t.flag sluBase SLU_ADMIN_CFG_ENABLE = true ∧ (t.ring 0).state = .running ∧
      (t.ring 0).log2n = min 16 (max 6 (t.get sluBase SLU_ADMIN_CFG_LOG2N)) ∧
      (t.ring 0).dmaPort = t.get sluBase SLU_ADMIN_CFG_DMA_PORT ∧ (t.ring 0).ci = 0 ∧ (t.ring 0).expSeq = 0 ∧
      (∀ r, r ≠ 0 → t.ring r = s.ring r) ∧ t = { s with regs := t.regs, rings := t.rings })) ∧
  (∀ (path : Path) (v : Word) (s : State), Writable path sluBase s → v.getLsbD 31 = false →
    s.flag sluBase SLU_ADMIN_CFG_ENABLE = true → (s.ring 0).leaveDesc = none → (∀ x ∈ s.fetched, x.ref.ring ≠ 0) →
    (∀ c ∈ s.cplQ, c.ring ≠ 0) → Completes (.sluAdminDisable path v) s (fun t => t.flag sluBase SLU_ADMIN_CFG_ENABLE = false ∧
      t.ring 0 = {} ∧ (∀ r, r ≠ 0 → t.ring r = s.ring r) ∧ t = { s with regs := t.regs, rings := t.rings })))

/-- R236, R237, R238, R239, R245, R246, R248, Table SLU-3: fetch and completion. A fetched descriptor that passes its checks enters the
tier's buffer and the consumer index and the expected sequence advance; a wrong sequence stops the ring; a wrong check value and an
undefined opcode complete with their status. A completion is written at the ring's next entry with its phase, which turns at the end of the
ring. A failed read or write puts the ring into ERROR, and so does a lost DMA port. -/
def Obligations.FetchAndComplete : Prop :=
  (∀ (t r : Nat) (b : BitVec 512) (s : State), s.sluiceUp t = true → s.chooseRing t = some r → 0 < s.readable t r →
    let g := s.ring r
    let ref : DescRef := { ring := r, index := g.ci, cookie := descField b 4 4 }
    let passes := g.chkEn = true → descCheck r g.ci b = descField b 60 4
    (passes → descField b 3 1 = g.expSeq → s.checkOpcode g b = none → descOp b ≠ 0x0F00 →
      Completes (.descriptorFetch t [b]) s (fun u => u.fetched = s.fetched ++ [{ ref := ref, tier := t, bytes := b }] ∧
        u.ring r = { g with ci := (g.ci + 1) % g.n, expSeq := (g.expSeq + 1) % 256 } ∧ u.cplQ = s.cplQ ∧ Kept s u)) ∧
    (passes → descField b 3 1 = g.expSeq → ∀ st, s.checkOpcode g b = some st →
      Completes (.descriptorFetch t [b]) s (fun u => u.fetched = s.fetched ∧ (∃ q, u.cplQ = s.cplQ ++
          [{ ring := r, index := g.ci, cookie := ref.cookie, status := st, quiet := q }]) ∧
        u.ring r = { g with ci := (g.ci + 1) % g.n, expSeq := (g.expSeq + 1) % 256 } ∧ Kept s u)) ∧
    (passes → descField b 3 1 ≠ g.expSeq → Completes (.descriptorFetch t [b]) s (fun u => u.fetched = s.fetched ∧
      (∃ q, u.cplQ = s.cplQ ++ [{ ring := r, index := g.ci, cookie := ref.cookie, status := 0x04, stopped := true, quiet := q }]) ∧
      u.ring r = { g with ci := (g.ci + 1) % g.n, state := .stopped, cause := 1 } ∧ Kept s u)) ∧
    (g.chkEn = true → descCheck r g.ci b ≠ descField b 60 4 → Completes (.descriptorFetch t [b]) s (fun u =>
      u.fetched = s.fetched ∧ (∃ q, u.cplQ = s.cplQ ++
        [{ ring := r, index := g.ci, cookie := ref.cookie, status := 0x03, quiet := q }]) ∧
      u.ring r = { g with ci := (g.ci + 1) % g.n, expSeq := (g.expSeq + 1) % 256 } ∧ Kept s u))) ∧
  (∀ (r : Nat) (c : Cpl) (s : State), s.cplQ.find? (fun c => c.ring = r) = some c →
    (s.ring r).state = .running ∨ (s.ring r).state = .stopped → (s.ring r).leaving = false → c.status < 256 →
    Completes (.completionWrite r) s (fun t => t.cplQ = s.cplQ.erase c ∧
      (∃ w, Output.dmaWrite (s.ring r).dmaPort ((s.ring r).cbase + 16 * (s.ring r).cqWrite) w ∈ t.out ∧ w.length = 2 ∧
        (w.getD 0 0).getLsbD 40 = (s.ring r).phase ∧ w.getD 1 0 = BitVec.ofNat 64 c.result) ∧
      (t.ring r).cqWrite = (if (s.ring r).cqWrite + 1 = (s.ring r).n then 0 else (s.ring r).cqWrite + 1) ∧
      (t.ring r).phase = (if (s.ring r).cqWrite + 1 = (s.ring r).n then !(s.ring r).phase else (s.ring r).phase) ∧
      (t.ring r).ci = (s.ring r).ci ∧ (t.ring r).state = (s.ring r).state ∧ (∀ q, q ≠ r → t.ring q = s.ring q) ∧ Kept s t)) ∧
  (∀ (r : Nat) (s : State), r ≠ 0 → (s.ring r).state ≠ .absent → (s.ring r).intEn = true → (s.ring r).counted ≠ 0 →
    (s.ring r).coalTime ≠ 0 → (s.ring r).since + (s.ring r).coalTime ≤ s.us →
    exec (.coalesceTimerExpiry r) s = .next ((s.setRing r { s.ring r with counted := 0 }).emit
      (.msix (s.ring r).dmaPort (s.ring r).fn (s.ring r).vector))) ∧
  (∀ (r : Nat) (s : State), (s.ring r).state ≠ .absent → 0 < s.readable (s.ring r).tier r →
    Completes (.ringDmaError r false) s (fun t => t.ring r = { s.ring r with state := .error, cause := 3 } ∧
      t.cplQ = s.cplQ ++ [{ ring := r, index := (s.ring r).ci, status := 0x0A, stopped := true }] ∧
      t.regBit (sluBase + 0x2C) 2 = true ∧ Kept s t)) ∧
  (∀ (r : Nat) (c : Cpl) (s : State), (s.ring r).state ≠ .absent → s.cplQ.find? (fun c => c.ring = r) = some c →
    (s.ring r).leaving = false → Completes (.ringDmaError r true) s (fun t =>
      t.ring r = { s.ring r with state := .error, cause := 4 } ∧ t.cplQ = s.cplQ.erase c ∧ Kept s t)) ∧
  (∀ (r : Nat) (bme flr : Bool) (s : State), (s.ring r).state ≠ .absent →
    (s.linkUp (s.ring r).dmaPort = false ∨ s.inPerst (s.ring r).dmaPort = true ∨ bme = true ∨ flr = true →
      exec (.ringDmaPortLost r bme flr) s = .next (s.setRing r { s.ring r with state := .error, cause := 5 })))

/-- R252, R255, R264, R265, Table CMD-6: the data tasks. With the legal operands named here each descriptor begins its task; operands out of
range answer BAD_FIELD and a PROMOTE of a context that is not LIVE WRONG_STATE, and then nothing begins. -/
def Obligations.DataTasks : Prop :=
  ∀ (d : DescRef) (f : Fetched) (s : State), s.taskOf d = none →
    let fails := fun (c : Instr) (status : Nat) => Completes c s (fun t => Done d status 0 s t ∧ Kept s t ∧ t.tasks = s.tasks)
    (∀ srcKind dstKind srcCtx dstCtx src dst length, s.ready d 0x0500 [(8, 1, srcKind), (9, 1, dstKind), (12, 4, srcCtx),
        (16, 4, dstCtx), (20, 8, src), (28, 8, dst), (36, 8, length)] = some f →
      let cmd := Instr.copy d srcKind dstKind srcCtx dstCtx src dst length
      (src % 64 ≠ 0 ∨ dst % 64 ≠ 0 ∨ length % 64 ≠ 0 ∨ length = 0 ∨ (srcKind = 1 ∧ dstKind = 1) → fails cmd 0x02) ∧
      (src % 64 = 0 → dst % 64 = 0 → length % 64 = 0 → length ≠ 0 → srcKind ≤ 1 → dstKind ≤ 1 → ¬(srcKind = 1 ∧ dstKind = 1) →
        (srcKind = 0 → Usable srcCtx src length [.building, .live, .draining, .frozen] s) →
        (dstKind = 0 → Usable dstCtx dst length [.building, .live, .frozen] s) →
        ¬(srcKind = 0 ∧ dstKind = 0 ∧ srcCtx = dstCtx ∧ src < dst + length ∧ dst < src + length) →
        Completes cmd s (Begins d 0x0500 s))) ∧
    (∀ c offset length, s.ready d 0x0501 [(8, 4, c), (12, 8, offset), (20, 8, length)] = some f →
      (offset % 64 ≠ 0 ∨ length % 64 ≠ 0 ∨ length = 0 → fails (.zero d c offset length) 0x02) ∧
      (offset % 64 = 0 → length % 64 = 0 → length ≠ 0 → Usable c offset length [.building, .live, .frozen] s →
        Completes (.zero d c offset length) s (Begins d 0x0501 s))) ∧
    (∀ c offset length running poly xorout width mode, s.ready d 0x0502 [(8, 4, c), (12, 8, offset), (20, 8, length),
        (28, 8, running), (36, 8, poly), (44, 8, xorout), (52, 1, width), (53, 1, mode)] = some f →
      let cmd := Instr.crcRange d c offset length running poly xorout width mode
      (width < 8 ∨ 64 < width ∨ poly = 0 ∨ 2 ^ width ≤ poly ∨ 16 ≤ mode → fails cmd 0x02) ∧
      (offset % 64 = 0 → length % 64 = 0 → length ≠ 0 → 8 ≤ width → width ≤ 64 → poly ≠ 0 → poly < 2 ^ width →
        running < 2 ^ width → xorout < 2 ^ width → mode < 16 → Usable c offset length [.building, .live, .draining, .frozen] s →
        Completes cmd s (Begins d 0x0502 s))) ∧
    (∀ kind level cls c firstPage pages addr haddr, s.ready d 0x0503 [(8, 1, kind), (9, 1, level), (10, 1, cls), (12, 4, c),
        (16, 4, firstPage), (20, 4, pages), (24, 8, addr), (32, 8, haddr)] = some f →
      let cmd := Instr.scrubRange d kind level cls c firstPage pages addr haddr
      (2 < kind ∨ haddr % 64 ≠ 0 → fails cmd 0x02) ∧
      (kind = 0 → haddr % 64 = 0 → level = 0 → cls = 0 → addr = 0 → pages ≠ 0 → c < 2 ^ 18 →
        (s.ctx c).state ∈ [.building, .live, .draining, .frozen] → s.rangeIn c (firstPage * 4096) (pages * 4096) = true →
        Completes cmd s (Begins d 0x0503 s)) ∧
      (kind = 1 ∨ kind = 2 → haddr % 64 = 0 → level ≤ 6 → cls < 64 → c = 0 → firstPage = 0 → pages = 0 →
        s.placeOk kind level addr = true → 5 ≤ level → (s.ring f.ref.ring).tenant = false →
        s.placePieces d kind level addr ≠ [] → Completes cmd s (Begins d 0x0503 s))) ∧
    (∀ c firstPage pages, s.ready d 0x0504 [(8, 4, c), (12, 4, firstPage), (16, 4, pages)] = some f →
      (pages = 0 → fails (.promote d c firstPage pages) 0x02) ∧
      (pages ≠ 0 → (s.ctx c).noalloc = false → Usable c (firstPage * 4096) (pages * 4096) [.live] s →
        Completes (.promote d c firstPage pages) s (Begins d 0x0504 s)) ∧
      (pages ≠ 0 → c < 2 ^ 18 → (s.ctx c).state ≠ .live → fails (.promote d c firstPage pages) 0x05)) ∧
    (∀ c firstPage pages, s.ready d 0x0505 [(8, 4, c), (12, 4, firstPage), (16, 4, pages)] = some f →
      (pages = 0 → fails (.demote d c firstPage pages) 0x02) ∧
      (pages ≠ 0 → Usable c (firstPage * 4096) (pages * 4096) [.building, .live, .draining, .frozen] s →
        Completes (.demote d c firstPage pages) s (Begins d 0x0505 s))) ∧
    (∀ c maxPages haddr, s.ready d 0x0506 [(8, 4, c), (12, 4, maxPages), (16, 8, haddr)] = some f →
      (maxPages = 0 ∨ 65536 < maxPages ∨ haddr % 16 ≠ 0 → fails (.heatReport d c maxPages haddr) 0x02) ∧
      (maxPages ≠ 0 → maxPages ≤ 65536 → haddr % 16 = 0 → c < 2 ^ 18 → (s.ctx c).state ∈ [.live, .draining, .frozen] →
        Completes (.heatReport d c maxPages haddr) s (Begins d 0x0506 s)))

/-- R265, R272, R273, R274, R280, R282: pieces. A free jet takes a queued piece; the last piece of a task ends it with its RESULT, here a
line never written through CRC_RANGE, or with ABORTED where the extent's VALID has gone; queued pieces follow when there is room. R276,
R277, R278: jets. A piece past the watchdog's time goes back to its queue and its jet is reset; its second trip aborts its task, and a jet's
third retires it; an idle jet is gated and wakes with work; an uncorrectable error of its SRAM ends its task with MEDIA_ERROR; a jet that is
to reload does so once its piece has ended. R281, R285: the check-value unit. Jet 0 taken out of scheduling opens the unit's registers once
its piece has ended; a data write puts its low bytes through the unit and a value write is taken in the unit's width; a retired jet 0 cannot
be taken, and while the unit is not open its registers do not change. -/
def Obligations.PiecesAndJets : Prop :=
  ((∀ (t j : Nat) (p : Piece) (s : State), s.jetFree t j = true → s.foldingTier t = false →
    s.urgentWork t < ((upto 16).filter (s.jetFree t)).length → s.pieces.filter (s.takeable t j) = [p] →
    (∀ k ∈ s.tasks, k.toPlace = []) → Completes (.pieceStart t j) s (fun u =>
      u.pieces = s.pieces.map (fun x => if x = p then { x with jet := some j, startedAt := s.us } else x) ∧
      (u.jet t j).gated = false ∧
      u = { s with pieces := u.pieces, pieceSeq := s.pieceSeq + 1, tasks := u.tasks, migrations := u.migrations, jets := u.jets })) ∧
  (∀ (t j : Nat) (host remote : List (Nat × Option Line)) (ok : Bool) (p : Piece) (k : Task) (f : Fetched) (s : State),
    s.pieceOf t j = some p → s.pieces = [p] → s.tasks = [k] → k.desc = p.desc → k.toPlace = [] → k.status = 0 →
    s.fetchedOf p.desc = some f → s.sluiceUp t = true → (∀ o ∈ s.remote, o.task ≠ some p.desc) →
    let c := descField f.bytes 8 4
    let e := s.extOn c p.start
    let mode := descField f.bytes 53 1
    let crc := cvuRun k.crc (crcLineBytes (bitAt mode 3) p.start 0) (descField f.bytes 52 1) (descField f.bytes 36 8)
      (bitAt mode 0) (bitAt mode 1)
    (descOp f.bytes = 0x0502 → k.op = 0x0502 → p.len = 64 → e.valid = true → e.remote = false → e.retired = false →
      s.penReachable p.tier e.pen = true →
      (s.validLine (penTier e.pen) (extOf (s.ctxAcc c p.start).off)).primaryBad = false →
      (s.validLine (penTier e.pen) (extOf (s.ctxAcc c p.start).off)).shadowBad = false →
      s.pageValid (penTier e.pen) (s.ctxAcc c p.start).off = false →
      Completes (.pieceEnd t j host remote ok) s (fun u =>
        Done p.desc 0 (if bitAt mode 2 then crc ^^^ descField f.bytes 44 8 else crc) s u ∧ u.pieces = [] ∧ u.tasks = [] ∧
        Kept s u ∧ u.held = s.held)) ∧
    (descOp f.bytes = 0x0500 → k.op = 0x0500 → srcHost f.bytes = false →
      (s.extOn (descField f.bytes 12 4) (descField f.bytes 20 8 + p.start)).valid = false →
      Completes (.pieceEnd t j host remote ok) s (fun u => Done p.desc 0x0A k.done s u ∧ u.pieces = [] ∧ u.tasks = [] ∧
        Kept s u ∧ u.held = s.held))) ∧
  (∀ (t j : Nat) (host remote : List (Nat × Option Line)) (ok : Bool) (s : State), s.pieceOf t j = none →
    exec (.pieceEnd t j host remote ok) s = .next s) ∧
  (∀ (t : Nat) (k : Task) (s : State), s.tasks = [k] → k.toPlace ≠ [] → (∀ p ∈ k.toPlace, p.tier = t) →
    s.queuedPieces t + k.toPlace.length ≤ 4096 → Completes (.pieceQueuedWhenRoom t) s (fun u =>
      u.pieces = s.pieces ++ k.toPlace ∧ u.tasks = [{ k with toPlace := [] }] ∧
      u = { s with pieces := u.pieces, tasks := u.tasks, wakeReq := u.wakeReq }))) ∧
  ((∀ (t j : Nat) (p : Piece) (s : State), t < 8 → j < 16 → s.pieceOf t j = some p → p.startedAt + s.wdog t ≤ s.us →
    (s.jet t j).halted = false →
    (p.trips = 0 → (s.jet t j).trips < 2 → Completes (.jetWatchdog t j) s (fun u =>
      u.pieces = s.pieces.map (fun x => if x = p then { x with jet := none, trips := 1 } else x) ∧
      (u.jet t j).trips = (s.jet t j).trips + 1 ∧ (u.jet t j).resetTill = s.us + 1000 ∧
      u.regBit (jetBase t + 0xC) 0 = true ∧ u.fetched = s.fetched ∧ Kept s u)) ∧
    (p.trips = 1 → (s.jet t j).trips < 2 → (∀ m ∈ s.migrations, m.desc ≠ p.desc) → (∃ k, s.tasks = [k] ∧ k.desc = p.desc) →
      (s.fetchedOf p.desc).isSome = true → (∀ o ∈ s.remote, o.task ≠ some p.desc) → Completes (.jetWatchdog t j) s (fun u =>
        (∃ r, Done p.desc 0x0A r s u) ∧ (∀ x ∈ u.pieces, x.desc ≠ p.desc) ∧ Kept s u)) ∧
    (p.trips = 0 → (s.jet t j).trips = 2 → Completes (.jetWatchdog t j) s (fun u => (u.jet t j).retired = true ∧
      u.retiredJet t j = true ∧ u.flag (bsnBase t j) BSN_SLICE_STATUS_JET_RET = true ∧ (u.slice t j).heat = [] ∧
      u.cistern = s.cistern ∧ u.ctxs = s.ctxs ∧ u.exts = s.exts))) ∧
  (∀ (t j : Nat) (s : State), j < 16 → s.pieceOf t j = none → (∀ p ∈ s.pieces, s.takeable t j p = false) →
    (∀ c ∈ s.clears, c.tier ≠ t) → s.foldingTier t = false → (s.jet t j).idleSince + 1 ≤ s.us →
    exec (.jetClockGate t j) s = .next (s.setJet t j { s.jet t j with gated := true })) ∧
  (∀ (t j : Nat) (s : State), (s.jet t j).gated = true → s.retiredJet t j = false →
    (∃ p ∈ s.pieces, s.takeable t j p = true) ∨ s.foldingTier t = true →
    exec (.jetWake t j) s = .next (s.setJet t j { s.jet t j with gated := false, idleSince := s.us })) ∧
  (∀ (t j : Nat) (s : State), j < 16 → t < s.nTiers → s.pieceOf t j = none → exec (.jetSramUncorrectable t j) s =
    .next (s.setJet t j { s.jet t j with resetTill := s.us + 1000, gated := false, idleSince := s.us })) ∧
  (∀ (t j : Nat) (p : Piece) (k : Task) (s : State), t < 8 → s.pieceOf t j = some p → s.tasks = [k] → k.desc = p.desc →
    (∀ m ∈ s.migrations, m.desc ≠ p.desc) → (s.fetchedOf p.desc).isSome = true → (∀ o ∈ s.remote, o.task ≠ some p.desc) →
    Completes (.jetSramUncorrectable t j) s (fun u => (∃ r, Done p.desc 0x09 r s u) ∧ u.tasks = [] ∧
      (u.jet t j).resetTill = s.us + 1000 ∧ Kept s u)) ∧
  (∀ (t j : Nat) (s : State), (s.jet t j).reload = true → s.pieceOf t j = none →
    (∃ e ∈ s.jets, e.1 ≠ t * 16 + j ∧ e.2.reload = true) →
    exec (.jetFirmwareReload t j) s = .next (s.setJet t j { s.jet t j with reload := false }))) ∧
  (∀ (path : Path) (t : Nat) (s : State), t < 8 →
    (∀ v, Writable path (jetBase t) s → v.getLsbD 31 = false ∨ s.retiredJet t 0 = false →
      Completes (.cvuTestWrite path t v) s (fun u => (u.jet t 0).testing = v.getLsbD 31 ∧
        u = { s with regs := u.regs, jets := u.jets } ∧ (∀ o, o ≠ jetBase t → u.reg o = s.reg o))) ∧
    (∀ v, Writable path (jetBase t) s → v.getLsbD 31 = true → s.retiredJet t 0 = true →
      Completes (.cvuTestWrite path t v) s (fun u => u.jets = s.jets)) ∧
    (∀ v, Writable path (jetBase t + 0x128) s →
      (s.cvuOpen t = true → Completes (.jetCvuDataWrite path t v) s (fun u =>
        u.reg (jetBase t + 0x118) = BitVec.ofNat 64 (cvuRun (s.cvuReg t 0x118)
          (leBytes (s.get (jetBase t) JET_CVU_CFG_DLEN + 1) v.toNat) (s.cvuWidth t) (s.cvuReg t 0x108)
          (s.flag (jetBase t) JET_CVU_CFG_REFIN) (s.flag (jetBase t) JET_CVU_CFG_REFOUT)) ∧
        OnlyRegs (· = jetBase t + 0x118) s u)) ∧
      (s.cvuOpen t = false → exec (.jetCvuDataWrite path t v) s = .next s)) ∧
    (∀ v, Writable path (jetBase t + 0x118) s →
      (s.cvuOpen t = true → Completes (.jetCvuValWrite path t v) s (fun u =>
        u.reg (jetBase t + 0x118) = BitVec.ofNat 64 (v.toNat % 2 ^ s.cvuWidth t) ∧
        u = { s with regs := u.regs, paths := u.paths } ∧ (∀ o, o ≠ jetBase t + 0x118 → u.reg o = s.reg o))) ∧
      (s.cvuOpen t = false → Completes (.jetCvuValWrite path t v) s (fun u => u = { s with paths := u.paths }))))

/-- R190, R303: keying an aqueduct. A good exchange with a member gives the link its four keys, the lower package number sending in
direction 0, restarts the counts at 0 with full credits and takes it to L0; a bad signature, a stranger, or 500 ms without an exchange
leaves it down with KEY_FAIL set. R301, R302, R304: receiving a flit. A bad CRC sends one flit back, the first time, and takes nothing; a
good tag on the expected count takes the count on and the credits it carries, and sends one; a wrong tag takes nothing. -/
def Obligations.AqueductMessages : Prop :=
  ((∀ (a peer : Nat) (shared : BitVec 384) (s : State), a < 8 → s.get (aqdBase a) AQD_STATUS_STATE = 2 → s.mgmt.grotto = true →
    s.identity = true →
    ((s.link a).replay = [] → (s.link a).waiting = [] → Completes (.aqueductKeyExchange a peer true true shared) s (fun t =>
      t.get (aqdBase a) AQD_STATUS_STATE = 3 ∧ t.get (aqdBase a) AQD_STATUS_PEER = peer % 16 ∧ (t.link a).keyed = true ∧
      (s.pkg < peer → (t.link a).txMix = Config.hkdf shared 0 ∧ (t.link a).txTag = Config.hkdf shared 1 ∧
        (t.link a).rxMix = Config.hkdf shared 2 ∧ (t.link a).rxTag = Config.hkdf shared 3) ∧
      (peer ≤ s.pkg → (t.link a).txMix = Config.hkdf shared 2 ∧ (t.link a).txTag = Config.hkdf shared 3 ∧
        (t.link a).rxMix = Config.hkdf shared 0 ∧ (t.link a).rxTag = Config.hkdf shared 1) ∧
      (t.link a).txSeq = 0 ∧ (t.link a).rxSeq = 0 ∧ (t.link a).reqCredits = 512 ∧ (t.link a).respCredits = 512 ∧
      (t.link a).dataCredits = 768 ∧ t = { s with links := t.links, regs := t.regs })) ∧
    (∀ sigOk member, sigOk = false ∨ member = false → Completes (.aqueductKeyExchange a peer sigOk member shared) s (fun t =>
      t.get (aqdBase a) AQD_STATUS_STATE = 0 ∧ t.flag (aqdBase a) AQD_ERR_KEY_FAIL = true ∧ t.links = s.links ∧ Kept s t)) ∧
    ((s.link a).keyingSince + 500000 ≤ s.us → Completes (.aqueductKeyTimeout a) s (fun t =>
      t.get (aqdBase a) AQD_STATUS_STATE = 0 ∧ t.flag (aqdBase a) AQD_ERR_KEY_FAIL = true ∧ t.links = s.links ∧ Kept s t)) ∧
    (s.us < (s.link a).keyingSince + 500000 → exec (.aqueductKeyTimeout a) s = .next s)) ∧
  (∀ (a peer : Nat) (sigOk member : Bool) (shared : BitVec 384) (s : State), s.get (aqdBase a) AQD_STATUS_STATE ≠ 2 →
    exec (.aqueductKeyExchange a peer sigOk member shared) s = .next s)) ∧
  (∀ (a : Nat) (flit : BitVec 2048) (s : State), a < 8 → s.carrying a = true →
    let v := flit.toNat
    let l := s.link a
    let mixed := (upto 3).map (fun i => BitVec.ofNat 512 (v / 2 ^ (448 + 512 * i)))
    (crc32c (leBytes 252 (v % 2 ^ 2016)) ≠ v / 2 ^ 2016 → l.nakWait = false → Completes (.aqueductFlitReceive a flit) s (fun t =>
      (t.link a).nakWait = true ∧ (t.link a).rxSeq = l.rxSeq ∧ (∃ f, t.out = .aqFlit a f :: s.out) ∧ Kept s t ∧
      t.remote = s.remote ∧ t.held = s.held)) ∧
    (crc32c (leBytes 252 (v % 2 ^ 2016)) ≠ v / 2 ^ 2016 → l.nakWait = true → exec (.aqueductFlitReceive a flit) s = .next s) ∧
    (crc32c (leBytes 252 (v % 2 ^ 2016)) = v / 2 ^ 2016 → bitsAt v 27 24 = 1 → bitsAt v 11 0 = l.rxSeq % 4096 →
      flitTag (v % 2 ^ 448) mixed l.rxTag l.rxSeq ≠ BitVec.ofNat 32 (v / 2 ^ 1984) →
      Completes (.aqueductFlitReceive a flit) s (fun t => t.links = s.links ∧ Kept s t ∧ t.remote = s.remote ∧ t.held = s.held)) ∧
    (crc32c (leBytes 252 (v % 2 ^ 2016)) = v / 2 ^ 2016 → bitsAt v 27 24 = 1 → bitsAt v 11 0 = l.rxSeq % 4096 →
      l.rxSeq + 1 < 2 ^ 30 → flitTag (v % 2 ^ 448) mixed l.rxTag l.rxSeq = BitVec.ofNat 32 (v / 2 ^ 1984) →
      bitAt v 28 = false → l.waiting = [] → (∀ i, i < 3 → bitsAt v (191 + 128 * i) (188 + 128 * i) = 0) →
      Completes (.aqueductFlitReceive a flit) s (fun t => (t.link a).rxSeq = l.rxSeq + 1 ∧ (t.link a).nakWait = false ∧
        (t.link a).reqCredits = min 512 (l.reqCredits + bitsAt v 39 32) ∧
        (t.link a).respCredits = min 512 (l.respCredits + bitsAt v 47 40) ∧
        (t.link a).dataCredits = min 768 (l.dataCredits + bitsAt v 55 48) ∧ (t.link a).replay = l.replay ∧
        (∃ f, t.out = .aqFlit a f :: s.out) ∧ Kept s t ∧ t.remote = s.remote ∧ t.held = s.held)))

/-- R302, R303, R304, R306, R307: replay and loss. A NAK or a timeout drops what it acknowledges and sends the rest of the replay buffer
again; four retransmissions in succession retrain the link, which waits for new keys; a link out of L0 is zeroised; credits come back up to
what was advertised; a remote request without its answer in time ends, a read in poison. -/
def Obligations.AqueductRecovery : Prop :=
  (∀ (a : Nat) (s : State), a < 8 → s.carrying a = true → (s.link a).replay ≠ [] →
    Completes (.aqueductReplayTimeout a) s (fun t =>
      (t.link a).replay = (s.link a).replay.map (fun f => { f with resent := f.resent + 1 }) ∧
      (t.link a).txSeq = (s.link a).txSeq ∧ Kept s t ∧ t.remote = s.remote ∧ t.held = s.held)) ∧
  (∀ (a ack i : Nat) (s : State), a < 8 → s.carrying a = true →
    (s.link a).replay.findIdx? (fun f => f.seq % 4096 = ack) = some i → Completes (.aqueductNak a ack) s (fun t =>
      (t.link a).replay = ((s.link a).replay.drop (i + 1)).map (fun f => { f with resent := f.resent + 1 }) ∧
      (t.link a).txSeq = (s.link a).txSeq ∧ Kept s t ∧ t.remote = s.remote ∧ t.held = s.held)) ∧
  (∀ (a : Nat) (s : State), a < 8 → s.carrying a = true → (∃ f ∈ (s.link a).replay, 4 ≤ f.resent) →
    (∀ x ∈ (s.link a).retrains, x + 1000000 ≤ s.us) → Completes (.aqueductRetrain a) s (fun t =>
      t.get (aqdBase a) AQD_STATUS_STATE = 2 ∧ (t.link a).keyed = false ∧ (t.link a).txMix = 0 ∧ (t.link a).rxMix = 0 ∧
      (t.link a).keyingSince = s.us ∧ (t.link a).replay = (s.link a).replay.map (fun f => { f with resent := 0 }) ∧
      (t.link a).waiting = (s.link a).waiting ∧ t.flag (aqdBase a) AQD_ERR_RETRAIN = true ∧ Kept s t ∧ t.remote = s.remote)) ∧
  (∀ (a : Nat) (s : State), a < 8 → s.get (aqdBase a) AQD_STATUS_STATE ≠ 0 → (s.link a).replay = [] → (s.link a).waiting = [] →
    Completes (.aqueductLeavesL0 a) s (fun t => t.get (aqdBase a) AQD_STATUS_STATE = 1 ∧
      t.link a = { retrains := (s.link a).retrains } ∧ t = { s with links := t.links, regs := t.regs })) ∧
  (∀ (a q r d : Nat) (s : State), s.carrying a = true → (s.link a).waiting = [] →
    Completes (.aqueductCreditReturn a q r d) s (fun t => (t.link a).reqCredits = min 512 ((s.link a).reqCredits + q) ∧
      (t.link a).respCredits = min 512 ((s.link a).respCredits + r) ∧
      (t.link a).dataCredits = min 768 ((s.link a).dataCredits + d) ∧ (∀ b, b ≠ a → t.link b = s.link b) ∧
      t = { s with links := t.links })) ∧
  (∀ (a : Nat) (s : State), (s.link a).txWrap = true → (s.link a).rxWrap = false → (s.link a).waiting = [] →
    Completes (.aqueductCountWrapRekey a) s (fun t => (t.link a).txWrap = false ∧
      (t.link a).rxMix = (s.link a).rxMix ∧ (t.link a).rxTag = (s.link a).rxTag ∧
      (∃ secret, (t.link a).txMix = Config.hkdf secret 4 ∧ (t.link a).txTag = Config.hkdf secret 5) ∧
      t = { s with links := t.links })) ∧
  (∀ (txid : Nat) (o : Outstanding) (s : State), s.remote.find? (fun o => o.txid = txid) = some o →
    o.sentAt + max 1 (s.get aqdRegBase AQD_CFG_E2E_TMO) * 10 ≤ s.us → o.internal = false →
    Completes (.endToEndTimeout txid) s (fun t => t.remote = s.remote.filter (fun x => x.txid ≠ txid) ∧
      (o.read = true → ∃ d, Output.readResp o.port o.tag 0 true d ∈ t.out) ∧
      (o.read = false → ∃ d, Output.writeResp o.port o.tag d ∈ t.out) ∧ Kept s t ∧ t.held = s.held))

/-- R268, R287, R288, R292, R293, R298: the pool descriptors. Each that its conditions allow begins its operation and waits for the pool's
answer; a package in no pool or in the wrong role answers WRONG_STATE or IN_USE, and one without its answer for a second REMOTE_UNREACHABLE.
R287, R288, R289, R290: membership. FORM makes a package of a manager's order code in no pool the manager of a new one; the manager answers
a join with the lowest number and lists the member; a new number takes every local extent with it at one commit point; a reset package
rejoins in its role. -/
def Obligations.PoolMembers : Prop :=
  (∀ (d : DescRef) (f : Fetched) (s : State),
    let fails := fun (c : Instr) (status : Nat) => Completes c s (fun t => Done d status 0 s t ∧ Kept s t ∧ t.pool.ops = s.pool.ops)
    let begins := fun (c : Instr) (opcode : Nat) => Completes c s (fun t => Waits d s t ∧ (∃ o, t.pool.ops = s.pool.ops ++ [o] ∧
      o.desc = d ∧ o.opcode = opcode ∧ o.since = s.us) ∧ t = { s with fetched := t.fetched, pool := t.pool, regs := t.regs, out := t.out })
    (∀ poolId pkg role, s.ready d 0x0900 [(8, 4, poolId), (12, 1, pkg), (13, 1, role)] = some f →
      (16 ≤ pkg ∧ pkg ≠ 0xFF ∨ 1 < role → fails (.poolJoin d poolId pkg role) 0x02) ∧
      (pkg < 16 ∨ pkg = 0xFF → role ≤ 1 → s.role ≠ 0 → fails (.poolJoin d poolId pkg role) 0x0D) ∧
      (pkg < 16 ∨ pkg = 0xFF → role ≤ 1 → s.role = 0 → s.pool.change = none → (∀ o ∈ s.pool.ops, o.opcode ≠ 0x0900) →
        (role = 1 → s.wired.mgr = false → fails (.poolJoin d poolId pkg role) 0x08) ∧
        (role = 0 ∨ s.wired.mgr = true → begins (.poolJoin d poolId pkg role) 0x0900))) ∧
    (∀ pkg, s.ready d 0x0901 [(12, 1, pkg)] = some f →
      (pkg < 16 ∨ pkg = 0xFF → s.role = 0 → fails (.poolLeave d pkg) 0x05) ∧
      (pkg = 0xFF ∨ pkg = s.pkg → s.role ≠ 0 → s.poolTied = true → fails (.poolLeave d pkg) 0x0D) ∧
      (pkg = 0xFF ∨ pkg = s.pkg → s.role = 1 ∨ s.role = 2 → s.poolTied = false → begins (.poolLeave d pkg) 0x0901) ∧
      (pkg = 0xFF → s.role = 3 → s.poolTied = false → s.pkg = 0 → Completes (.poolLeave d pkg) s (fun t => Done d 0 0 s t ∧
        t.role = 0 ∧ t.pool.stored = none ∧ (∀ p, p < 16 → (t.member p).member = false) ∧ Kept s t))) ∧
    (∀ owner otier count, s.ready d 0x0902 [(12, 1, owner), (13, 1, otier), (16, 4, count)] = some f →
      (count = 0 ∨ 4096 < count ∨ 16 ≤ owner ∨ (8 ≤ otier ∧ otier ≠ 0xFF) → fails (.leaseGrant d owner otier count) 0x02) ∧
      (0 < count → count ≤ 4096 → owner < 16 → otier < 8 ∨ otier = 0xFF →
        (s.role = 0 → fails (.leaseGrant d owner otier count) 0x05) ∧
        (s.role ≠ 0 → owner = s.pkg ∨ owner ∉ s.poolMembers → fails (.leaseGrant d owner otier count) 0x02) ∧
        (s.role = 1 ∨ s.role = 2 → owner ≠ s.pkg → owner ∈ s.poolMembers →
          s.pool.leasesHeld.length + (s.pool.ops.filter (fun o => o.opcode = 0x0902)).length < 4096 →
          begins (.leaseGrant d owner otier count) 0x0902))) ∧
    (∀ lease, s.ready d 0x0903 [(8, 4, lease)] = some f → s.role = 1 ∨ s.role = 2 →
      ((∀ l ∈ s.pool.leasesHeld, l.num ≠ lease) → fails (.leaseReturn d lease) 0x02) ∧
      ((∃ l ∈ s.pool.leasesHeld, l.num = lease) → (∃ e ∈ s.exts, e.2.valid = true ∧ e.2.remote = true ∧ e.2.lease = lease) →
        fails (.leaseReturn d lease) 0x0D) ∧
      ((∃ l ∈ s.pool.leasesHeld, l.num = lease) → (∀ e ∈ s.exts, e.2.valid = false ∨ e.2.remote = false ∧ e.2.migrating = false) →
        begins (.leaseReturn d lease) 0x0903)) ∧
    (∀ pkg, s.ready d 0x0904 [(12, 1, pkg)] = some f → pkg < 16 →
      (s.role ≠ 3 ∨ s.pool.standby ≠ some pkg ∨ s.pool.standbyActive = false → fails (.managerHandover d pkg) 0x05) ∧
      (s.role = 3 → s.pool.handover = false → s.pool.standby = some pkg → s.pool.standbyActive = true → s.pool.mgrOps = [] →
        (∀ o ∈ s.pool.ops, o.opcode ≠ 0x0904) → (∀ x ∈ s.pool.frames, x.ftype ≠ 0x41) →
        Completes (.managerHandover d pkg) s (fun t => Waits d s t ∧ t.pool.handover = true ∧
          ∃ x ∈ t.pool.frames, x.ftype = 0x41 ∧ x.dst = pkg ∧ x.payload = [s.pool.epoch + 1] ∧ x.op = some d))) ∧
    (∀ o, s.pool.ops.find? (fun o => o.desc = d) = some o → (s.fetchedOf d).isSome = true →
      (o.since + 1000000 ≤ s.us → Completes (.remoteAnswerTimeout d) s (fun t => Done d 0x0C 0 s t ∧
        t.pool.ops = s.pool.ops.filter (fun x => x.desc ≠ d) ∧ Kept s t)) ∧
      (s.us < o.since + 1000000 → exec (.remoteAnswerTimeout d) s = .next s))) ∧
  ((∀ (path : Path) (v : Word) (s : State), Writable path rilBase s → v.getLsbD 31 = true →
    (s.wired.mgr = true → s.role = 0 → s.pool.change = none → (s.reg (rilBase + 4)).toNat ≠ 0 → s.pkg = 0 → v.toNat / 2 ^ 24 % 16 = 0 →
      Completes (.rilForm path v) s (fun t => t.role = 3 ∧ t.mgrNum = 0 ∧ t.pkg = 0 ∧ t.pool.epoch = 1 ∧
        (∃ k, t.pool.stored = some k ∧ k.role = 3 ∧ k.poolId = (s.reg (rilBase + 4)).toNat) ∧ Kept s t)) ∧
    (s.wired.mgr = false ∨ s.role ≠ 0 → Completes (.rilForm path v) s (fun t => t.role = s.role ∧ t.pool.stored = s.pool.stored ∧
      Kept s t))) ∧
  (∀ (src tag : Nat) (s : State), s.mgmt.services = true → s.role = 3 → s.pool.handover = false → s.pool.standby = none → src < 16 →
    src ∉ s.poolMembers → Completes (.joinFrame src tag (s.reg (rilBase + 4)).toNat 0xFF 0) s (fun t =>
      (t.member src).member = true ∧ (∀ p, p ≠ src → t.member p = s.member p) ∧ Kept s t ∧
      (s.flag rilBase RIL_POOL_CFG_RING_A_EN = true → ∃ r p, Output.rillFrame r 0x03 0xFF p ∈ t.out))) ∧
  (∀ (m : Membership) (s : State), s.pool.change = some m → s.commits = [] → s.acks 0 = true → m.number < 16 → m.role < 4 →
    Completes .packageNumberRewrite s (fun t => t.pkg = m.number ∧ t.role = m.role ∧ t.pool.change = none ∧
      (∀ c i, (s.ext c i).valid = true → (s.ext c i).remote = false → (t.ext c i).pen = renumberPen s.pkg m.number (s.ext c i).pen) ∧
      (∀ c i, (s.ext c i).valid = true → (s.ext c i).remote = true → (t.ext c i).pen = (s.ext c i).pen) ∧
      t.cistern = s.cistern ∧ t.valid = s.valid ∧ t.ctxs = s.ctxs)) ∧
  (∀ (cold : Bool) (k : StoredPool) (s : State), s.pool.rejoin = some cold → s.pool.stored = some k → k.role < 4 → k.number < 16 →
    Completes .poolRejoin s (fun t => t.role = k.role ∧ t.pkg = k.number ∧ t.pool.epoch = k.epoch ∧ t.pool.rejoin = none ∧
      t.pool.rebuilding = (cold && decide (k.role = 3)) ∧ Kept s t)))

/-- R92, R292, R293, R294, R295: leases. The manager asks the owner under a lease number of its own; the owner claims the lowest free run of
the tier asked for and answers; a returned extent is cleared by its owner; the standby applies the changes mirrored to it, and a standby
that does not acknowledge is given up until it has been brought up again. -/
def Obligations.Leases : Prop :=
  (∀ (src tag owner otier count : Nat) (s : State), s.mgmt.services = true → s.managing = true → owner ≠ src → owner ∈ s.poolMembers →
    s.pool.directory.length + s.pool.mgrOps.length < 16384 → owner ≠ s.pkg → (s.member owner).current = true →
    Completes (.leaseRequestFrame src tag owner otier count) s (fun t =>
      t.pool.mgrOps = s.pool.mgrOps ++ [.asking s.leaseNumber src tag owner s.us] ∧
      (∃ x, t.pool.frames = s.pool.frames ++ [x] ∧ x.dst = owner ∧ x.ftype = 0x10 ∧ x.payload = [1, s.leaseNumber, otier, count, src]) ∧
      t.pool.directory = s.pool.directory ∧ Kept s t)) ∧
  (∀ (src lease otier count borrower a : Nat) (s : State), s.mgmt.services = true → s.role ≠ 0 → otier < s.nTiers → otier < 8 →
    s.pool.granted.length < 4096 → (s.tier otier).power ≠ 3 → s.freeRun otier count = some a → src < 16 →
    Completes (.leaseClaimAtOwner src lease otier count borrower) s (fun t =>
      (∀ i, i < count → t.allocBit otier (a + i) = true) ∧
      t.pool.granted = s.pool.granted ++ [{ num := lease, owner := s.pkg, tier := otier, first := a, count := count, borrower := borrower }] ∧
      (∃ x ∈ t.pool.frames, x.dst = src ∧ x.ftype = 0x11 ∧
        x.payload = [1, lease, 0, s.pkg * 2 ^ 23 + otier * 2 ^ 20 + a, count]) ∧ t.exts = s.exts ∧ t.ctxs = s.ctxs ∧ t.cistern = s.cistern)) ∧
  (∀ (src lease pen : Nat) (l : Lease) (s : State), s.mgmt.services = true → src ≠ s.pkg → s.role ≠ 3 →
    s.pool.granted.find? (fun l => l.num = lease) = some l → penTier pen = l.tier → l.first ≤ penExt pen →
    penExt pen < l.first + l.count → pen ∉ l.returned → Completes (.extentReturnFrame src lease pen) s (fun t =>
      (∃ j, t.clears = s.clears ++ [j] ∧ j.tier = l.tier ∧ j.ext = penExt pen) ∧
      t.pool.granted = shrinkLease lease pen s.pool.granted ∧ Kept s t)) ∧
  (∀ (lease pen : Nat) (rest : List (Nat × Nat)) (s : State), s.pool.returns = (lease, pen) :: rest → s.managerUp = true → s.role ≠ 3 →
    Completes .leaseReturnHandover s (fun t => t.pool.returns = rest ∧ (∃ x, t.pool.frames = s.pool.frames ++ [x] ∧ x.ftype = 0x13 ∧
      x.payload = [lease, pen] ∧ x.dst = s.mgrNum) ∧ Kept s t)) ∧
  (∀ (l : LeaseInfo) (s : State), s.role ≠ 0 → l.tier < 8 → Completes (.coldOwnerRejoin [l]) s (fun t =>
    (∀ i, i < l.count → t.allocBit l.tier (l.first + i) = true) ∧ (∃ g ∈ t.pool.granted, g.num = l.num ∧ g.lost = true ∧
      g.owner = s.pkg ∧ g.count = l.count) ∧ t.exts = s.exts ∧ t.ctxs = s.ctxs ∧ t.cistern = s.cistern)) ∧
  (∀ (src num owner tier first count borrower : Nat) (s : State), s.role = 2 → s.mgmt.services = true → src = s.mgrNum →
    Completes (.mirrorFrame src [0, num, owner, tier, first, count, borrower]) s (fun t =>
      t.pool.directory = s.pool.directory.filter (fun x => x.num ≠ num) ++
        [{ num := num, owner := owner, tier := tier, first := first, count := count, borrower := borrower }] ∧
      t = { s with pool := t.pool }) ∧
    Completes (.mirrorFrame src [2, num]) s (fun t => t.pool.directory = s.pool.directory.filter (fun x => x.num ≠ num) ∧
      t = { s with pool := t.pool })) ∧
  (∀ (n at_ : Nat) (s : State), s.pool.mgrOps = [.mirroring n at_ []] → at_ + 1000 ≤ s.us → (∀ o ∈ s.pool.ops, o.opcode ≠ 0x0904) →
    Completes (.standbyAckTimeout n) s (fun t => t.pool.standbyActive = false ∧ t.pool.mgrOps = [] ∧
      t.pool.directory = s.pool.directory ∧ Kept s t)) ∧
  (∀ (p : Nat) (s : State), s.pool.standby = some p → s.role = 3 → s.pool.standbyActive = false → (s.member p).current = true →
    s.mgmt.services = true → Completes .standbyResync s (fun t => t.pool.standbyActive = true ∧
      t.pool.directory = s.pool.directory ∧ Kept s t))

/-- R296, R297, R298: heartbeats, loss and takeover. A heartbeat shows its member current, and a manager of a higher epoch is obeyed; a
member not heard for the timeout is LOST; a standby with quorum takes over from a lost manager under the next epoch, a cold manager audits
its leases, and a handover frame names the standby. R308, R309, R310, R311: the rill. A bad CRC is counted and takes nothing; a frame for
another package goes on with one hop more; an acknowledgement ends the frame it names; a frame is sent again on the other ring after 100
microseconds and given up after 1 s; a mark goes on at once; an input that fails loses its ring's distances, and one that comes up takes its
polarity. -/
def Obligations.HeartbeatsAndRill : Prop :=
  ((∀ (s : State), s.role ≠ 0 → s.pool.hbSentAt + s.hbPeriod ≤ s.us → Completes .heartbeatSend s (fun t => t.pool.hbSentAt = s.us ∧
    (s.flag rilBase RIL_POOL_CFG_RING_A_EN = true → ∃ r p, Output.rillFrame r 0x01 0xFF p ∈ t.out) ∧
    t = { s with pool := t.pool, regs := t.regs, out := t.out })) ∧
  (∀ (ring src hops epoch role : Nat) (members : BitVec 16) (s : State), s.role ≠ 0 → src ≠ s.pkg → src < 16 →
    let cmd := Instr.heartbeatReceive ring src hops epoch (s.reg (rilBase + 4)).toNat role members
    (role = 1 → Completes cmd s (fun t => (t.member src).current = true ∧ (t.member src).lost = false ∧ (t.member src).hbAt = s.us ∧
      (if ring = 0 then (t.member src).hopsA else (t.member src).hopsB) = hops + 1 ∧ t.role = s.role ∧ t.mgrNum = s.mgrNum ∧
      (∀ p, p ≠ src → t.member p = s.member p) ∧ Kept s t)) ∧
    (role = 3 → s.pool.epoch < epoch → Completes cmd s (fun t => t.mgrNum = src ∧ t.pool.epoch = epoch ∧
      t.role = (if s.role = 3 then 2 else s.role) ∧ (∀ p, p < 16 → p ≠ s.pkg → (t.member p).member = members.getLsbD p) ∧ Kept s t))) ∧
  (∀ (p : Nat) (s : State), s.role ≠ 0 → (s.member p).member = true → (s.member p).lost = false → p ≠ s.pkg → s.pool.standby ≠ some p →
    (s.member p).hbAt + s.hbTimeout ≤ s.us → Completes (.heartbeatTimeout p) s (fun t => (t.member p).lost = true ∧
      (t.member p).current = false ∧ (∀ q, q ≠ p → t.member q = s.member q) ∧ t.regBit (rilBase + 0x18) 3 = true ∧ Kept s t)) ∧
  (∀ (s : State), s.role = 2 → s.wired.mgr = true → (s.member s.mgrNum).lost = true → s.flag rilBase RIL_STATUS_QUORUM = true →
    Completes (.takeover []) s (fun t => t.role = 3 ∧ t.mgrNum = s.pkg ∧ t.pool.epoch = s.pool.epoch + 1 ∧
      (∀ l ∈ s.pool.leasesHeld, ∃ x ∈ t.pool.directory, x.num = l.num) ∧ Kept s t)) ∧
  (∀ (s : State), s.role = 3 → s.pool.rebuilding = true → Completes (.takeover []) s (fun t => t.pool.rebuilding = false ∧
    t.role = 3 ∧ (∀ l ∈ s.pool.leasesHeld, ∃ x ∈ t.pool.directory, x.num = l.num) ∧ Kept s t)) ∧
  (∀ (src epoch : Nat) (s : State), s.mgmt.services = true → s.role = 2 → src = s.mgrNum → s.pool.epoch < epoch →
    exec (.handoverFrame src epoch) s = .next { s with pool := { s.pool with managerNext := true } })) ∧
  ((∀ (ring dst src ftype fseq hops epoch : Nat) (p : List Nat) (s : State), ring < 2 →
    Completes (.rillFrameReceive ring false dst src ftype fseq hops epoch p) s (fun t =>
      t.reg (rilBase + 0x50) = BitVec.ofNat 64 (min (2 ^ 64 - 1) ((s.reg (rilBase + 0x50)).toNat + 1)) ∧
      t.regBit (rilBase + 0x18) 0 = true ∧ t.pool.seen = s.pool.seen ∧ t.pool.members = s.pool.members ∧ Kept s t)) ∧
  (∀ (dst src ftype fseq hops epoch : Nat) (p : List Nat) (s : State), s.role ≠ 0 → src ≠ s.pkg →
    (dst ≠ s.pkg → dst ≠ 0xFF → hops < 15 → s.flag rilBase RIL_POOL_CFG_RING_A_EN = true →
      exec (.rillFrameReceive 0 true dst src ftype fseq hops epoch p) s =
        .next (s.emit (.rillForward 0 dst src ftype fseq (hops + 1) epoch p))) ∧
    (∀ n x, dst = s.pkg → ftype = 0x7F → p = [n] → s.pkg ≠ 0xFF → (src, fseq) ∉ s.pool.seen →
      s.pool.frames.find? (fun f => f.dst = src && f.fseq = n) = some x → x.ftype ≠ 0x41 → s.pool.mgrOps = [] →
      Completes (.rillFrameReceive 0 true dst src ftype fseq hops epoch p) s (fun t =>
        t.pool.frames = s.pool.frames.filter (fun y => !(y.dst = src && y.fseq = n)) ∧ Kept s t)) ∧
    (src = s.pkg → exec (.rillFrameReceive 0 true dst src ftype fseq hops epoch p) s = .next s)) ∧
  (∀ (fseq : Nat) (x : RillFrame) (s : State), s.pool.frames.find? (fun f => f.fseq = fseq) = some x →
    (x.lastAt + 100 ≤ s.us → s.us < x.sentAt + 1000000 → Completes (.rillResend fseq) s (fun t =>
      t.out = .rillFrame (ofBool !x.ringB) x.ftype x.dst x.payload :: s.out ∧
      t.pool.frames = s.pool.frames.map (fun y => if y = x then { x with ringB := !x.ringB, lastAt := s.us, resends := x.resends + 1 } else y) ∧
      t = { s with pool := t.pool, regs := t.regs, out := t.out })) ∧
    (s.us < x.lastAt + 100 → exec (.rillResend fseq) s = .next s) ∧
    (x.sentAt + 1000000 ≤ s.us → x.op = none → Completes (.rillFrameUnacknowledged fseq) s (fun t =>
      x ∉ t.pool.frames ∧ t.regBit (rilBase + 0x18) 5 = true ∧ t.fetched = s.fetched ∧ Kept s t)) ∧
    (x.sentAt + 1000000 ≤ s.us → ∀ d, x.op = some d → (s.fetchedOf d).isSome = true →
      Completes (.rillFrameUnacknowledged fseq) s (fun t => Done d 0x0C 0 s t ∧ (∀ o ∈ t.pool.ops, o.desc ≠ d) ∧ Kept s t))) ∧
  (∀ (n : Nat) (s : State), s.role = 1 ∨ s.role = 2 → s.flag rilBase RIL_POOL_CFG_RING_A_EN = true → s.meter.openIndet = [] →
    s.meter.openIndetAll = false → s.lastTick < n → Completes (.rillTickMark n 0) s (fun t => Output.tickMark n ∈ t.out ∧ Closes n false s t)) ∧
  (∀ (s : State), s.flag rilBase RIL_STATUS_A_UP = true → Completes (.rillInputDown 0) s (fun t =>
    t.flag rilBase RIL_STATUS_A_UP = false ∧ t.regBit (rilBase + 0x18) 1 = true ∧ (∀ p, p < 16 → (t.member p).hopsA = 0 ∧
      (t.member p).hopsB = (s.member p).hopsB) ∧ Kept s t)) ∧
  (∀ (inverted : Bool) (s : State), s.flag rilBase RIL_STATUS_B_UP = false → Completes (.rillInputUp 1 inverted) s (fun t =>
    t.flag rilBase RIL_STATUS_B_UP = true ∧ t.flag rilBase RIL_STATUS_B_POL = inverted ∧ t = { s with regs := t.regs })) ∧
  (∀ (path : Path) (v : Word) (s : State), Writable path (rilBase + 0x20) s → v.getLsbD 6 = false → v.getLsbD 4 = true →
    (s.flag rilBase RIL_POOL_CFG_RING_A_EN = true → Completes (.rilLoopCtlWrite path v) s (fun t => Reports s t)) ∧
    (s.flag rilBase RIL_POOL_CFG_RING_A_EN = false → s.flag rilBase RIL_LOOP_CTL_RUN = false →
      Completes (.rilLoopCtlWrite path v) s (fun t => t.flag rilBase RIL_LOOP_CTL_RUN = true ∧
        t.flag rilBase RIL_LOOP_CTL_LOCK = false ∧ t.reg (rilBase + 0x24) = 0 ∧
        OnlyRegs (fun o => o = rilBase + 0x20 ∨ o = rilBase + 0x24) s t))))

/-- R321, R322, R324, R100: what a failing pair brings about. With a free spare and the runnel at full width the spare takes its place, is
shown and goes to the repair fuses; without one at full width the runnel narrows and its slice begins its flush, or is lost; a runnel that
is lost keeps no line, and no slice-map entry names it while another serves. R323, R319: a narrowed slice's flush walks its sets in order
and ends when no dirty set is left; a dirty line goes to the victim buffer. A command parity error is kept for the window; a pair past its
threshold counts a window, and fails at the fourth in a row. -/
def Obligations.FailingPairs : Prop :=
  (∀ (t j h g p : Nat) (s : State), t < 8 → j < 16 → h < 8 → g < 3 →
    (∀ i, s.fate t j h g p = .spare i → Completes (.coilSpareReplace t j h g p) s (fun u =>
      p ∈ (u.coil t j h g).bad ∧ ((s.coil t j h g).served g p, i) ∈ (u.coil t j h g).taken ∧ u.width t j = s.width t j ∧
      u.flag (bsnBase t 0) BSN_REPAIR_STATUS_COIL_SPARE = true ∧
      (u.rep t).queued = (s.rep t).queued ++ [BitVec.ofNat 64 (coilEntry j h g p i + s.us / 2 ^ 20 % 2 ^ 32)] ∧ Kept s u)) ∧
    (s.fate t j h g p = .narrow → s.migrations = [] → Completes (.runnelNarrow t j h g p) s (fun u =>
      (u.width t j = 1 ∧ (u.slice t j).flush = some 0 ∧ u.flag (bsnBase t 0) BSN_REPAIR_STATUS_NARROW = true) ∨
      (u.width t j = 2 ∧ u.flag (bsnBase t 0) BSN_REPAIR_STATUS_LOST = true))) ∧
    (s.fate t j h g p = .lose → s.migrations = [] → Completes (.runnelLost t j h g p) s (fun u =>
      u.width t j = 2 ∧ (u.slice t j).sets = [] ∧ (u.slice t j).dirtyExt = [] ∧ (u.slice t j).flush = none ∧
      u.flag (bsnBase t 0) BSN_REPAIR_STATUS_LOST = true ∧
      ((∃ r, r < 16 ∧ r ≠ j ∧ s.width t r ≠ 2) → ∀ v, v < 64 →
        bitsAt (u.reg (bsnBase t 0 + 0x210 + 4 * (v / 8))).toNat (4 * (v % 8) + 3) (4 * (v % 8)) ≠ j))) ∧
    (s.fate t j h g p = .none → exec (.coilSpareReplace t j h g p) s = .next s ∧
      exec (.runnelNarrow t j h g p) s = .next s ∧ exec (.runnelLost t j h g p) s = .next s)) ∧
  ((∀ (t j pos : Nat) (s : State), (s.slice t j).flush = some pos → (upto 16).any (s.jetFree t) = true → s.reacting = false →
    (∀ e ∈ (s.slice t j).sets, pos ≤ e.1 → ∀ w ∈ e.2, w.2.dirty = 0) →
    exec (.sliceFlush t j) s = .next (s.setSlice t j { s.slice t j with flush := none, dirtyExt := [] })) ∧
  (∀ (t j pos n w i : Nat) (way : Way) (s : State), (s.slice t j).flush = some pos → (upto 16).any (s.jetFree t) = true →
    s.reacting = false → pos ≤ n → (s.slice t j).sets = [(n, [(w, way)])] → i < 32 → way.dirty = BitVec.ofNat 32 (2 ^ i) →
    (way.line i).code = .clean → (s.slice t j).victims.length < 64 → s.pageValid t (way.tag * 2048 + i * 64) = true →
    Completes (.sliceFlush t j) s (fun u =>
      (u.slice t j).victims = (s.slice t j).victims ++ [{ off := way.tag * 2048 + i * 64, cls := way.cls, line := way.line i }] ∧
      (u.slice t j).flush = some (n + 1) ∧ (u.way t j n w).dirty = 0 ∧ u = { s with slices := u.slices, regs := u.regs } ∧
      (∀ o, o ≠ bsnBase t j + 0x18 → u.reg o = s.reg o))) ∧
  (∀ (t j : Nat) (s : State), (s.slice t j).flush = none → exec (.sliceFlush t j) s = .next s) ∧
  (∀ (t j h : Nat) (s : State), (j, h) ∉ (s.rep t).parity → s.width t j < 2 → exec (.relayCommandParityError t j h) s =
    .next (s.setRep t { s.rep t with parity := (s.rep t).parity ++ [(j, h)] })) ∧
  (∀ (t j h g p n : Nat) (s : State), (s.rep t).parity = [] → max 1 (s.get (bsnBase t 0) BSN_REPAIR_CFG_GB_THRESH) < n →
    let run := Sparse.get (fun _ => 0) (s.rep t).gb (groupKey j h g * 128 + p)
    (run < 3 → Completes (.guardBandWindow t [(j, h, g, p, n)]) s (fun u => u = { s with repair := u.repair } ∧
      Sparse.get (fun _ => 0) (u.rep t).gb (groupKey j h g * 128 + p) = run + 1)) ∧
    (3 ≤ run → Completes (.guardBandWindow t [(j, h, g, p, n)]) s (fun u => p ∈ (u.coil t j h g).bad))))

/-- R149, R327-R331: row repair. A failing basin row takes a spare row of its bank and is queued for the fuses; a failing cistern row is
read, corrected and written back, what was uncorrectable becoming the marker; with the bank group's resource used it is left to a spare
extent, which takes the extent's place, and an extent in use that cannot be replaced is withheld once free. R315, R317, R318, R333: the
field self-test. RUN starts it in T0 and T1 and defers it in T2 and T3, and it begins when the tier is awake again; it ends with its time, a
pair below its width failed and the least width of its hop shown. At a permitted point Grotto writes the queued repair entries, each to the
next blank word, and writes again one whose margin read failed. -/
def Obligations.RepairAndSelfTest : Prop :=
  ((∀ (t j die r : Nat) (w : RowWatch) (s : State), t < 8 → j < 16 →
    let row := (j * 8 + die) * 16384 + r
    let key := (j * 8 + die) * 16 + r % 16
    s.watched t true row = some w → w.failing = true → (s.tier t).engReset = false → s.width t j < 2 →
    (Sparse.get (fun _ => []) (s.rep t).rows key).length < 2 →
    Completes (.basinRowRepair t j die r) s (fun u =>
      Sparse.get (fun _ => []) (u.rep t).rows key = Sparse.get (fun _ => []) (s.rep t).rows key ++ [r] ∧
      (∃ e, (u.rep t).queued = (s.rep t).queued ++ [e]) ∧ u.watched t true row = none ∧
      u.flag (bsnBase t 0) BSN_REPAIR_STATUS_ROW_REPAIR = true ∧ u.cistern = s.cistern ∧ u.chans = s.chans ∧
      u.ctxs = s.ctxs ∧ u.exts = s.exts ∧ u.valid = s.valid ∧ u.held = s.held)) ∧
  (∀ (t j die r : Nat) (s : State), s.watched t true ((j * 8 + die) * 16384 + r) = none →
    exec (.basinRowRepair t j die r) s = .next s) ∧
  (∀ (t c sub k group bank r : Nat) (device : Option Nat) (w : RowWatch) (s : State), t < 8 → c < 4 → k < 4 → group < 8 →
    let row := (c * 128 + ((sub * 4 + k) * 8 + group) * 4 + bank) * 2 ^ 18 + r
    s.watched t false row = some w → w.failing = true → w.noPpr = false → s.fenced t c k = false → s.rankHeld t c k = false →
    ((s.rank t c k).spprUsed.getLsbD group = false →
      Completes (.softPostPackageRepair t c sub k group bank r device) s (fun u =>
        (∀ x l, x / 2 ^ 35 = t → cisternRow (x % 2 ^ 35 * 64) = row → Sparse.get (fun _ => none) s.cistern x = some l →
          Sparse.get (fun _ => none) u.cistern x = some (if l.code = .correctable then { l with code := .clean }
            else if l.code = .uncorrectable then { data := markerLine, code := .marker } else l)) ∧
        (∀ x, ¬(x / 2 ^ 35 = t ∧ cisternRow (x % 2 ^ 35 * 64) = row) →
          Sparse.get (fun _ => none) u.cistern x = Sparse.get (fun _ => none) s.cistern x) ∧
        (u.rank t c k).spprUsed.getLsbD group = true ∧ u.watched t false row = none ∧
        (∃ x ∈ (u.rep t).hard, x.row = r ∧ x.bank = bank ∧ x.group = group ∧ x.rank = k) ∧
        u.slices = s.slices ∧ u.ctxs = s.ctxs ∧ u.exts = s.exts ∧ u.valid = s.valid)) ∧
    ((s.rank t c k).spprUsed.getLsbD group = true →
      Completes (.softPostPackageRepair t c sub k group bank r device) s (fun u => Kept s u ∧
        ∃ x, u.watched t false row = some x ∧ x.noPpr = true))) ∧
  (∀ (t e : Nat) (w : RowWatch) (s : State), t < 8 → ((Sparse.get (fun _ => []) s.rowWatch t).filter
      (fun w => !w.basin && w.noPpr)).find? (fun w => rowLines e w.row ≠ []) = some w →
    (s.ownerOf t e = none → (∀ l ∈ s.pool.granted, ¬(l.tier = t ∧ l.first ≤ e ∧ e < l.first + l.count)) →
      Completes (.spareExtentRemap t e) s (fun u => u.allocBit t e = true ∧
        Sparse.get (fun _ => 0) u.badExt (tierExt t e) ≠ 0 ∧ u.watched t false w.row = none ∧ u.cistern = s.cistern)) ∧
    (∀ c idx spare, s.ownerOf t e = some (c, idx) → (s.ext c idx).migrating = false → s.freeSpareExt t = some spare →
      s.ctxBusy c = false → s.reacting = false → (s.tier t).power < 2 → (s.under c).2 = [] → s.acks t = true →
      Completes (.spareExtentRemap t e) s (fun u => (u.ext c idx).pen = s.pkg * 2 ^ 23 + t * 2 ^ 20 + spare ∧
        u.allocBit t e = true ∧ spare ∈ (u.rep t).sparesUsed ∧ u.watched t false w.row = none ∧
        u.flag (bsnBase t 0) BSN_REPAIR_STATUS_REMAP = true)) ∧
    (∀ c idx, s.ownerOf t e = some (c, idx) → (s.ext c idx).migrating = false → s.freeSpareExt t = none →
      Completes (.spareExtentRemap t e) s (fun u => Sparse.get (fun _ => 0) u.badExt (tierExt t e) = 2 ∧
        u.flag (bsnBase t 0) BSN_REPAIR_STATUS_SPARE_OUT = true ∧ u.exts = s.exts)))) ∧
  ((∀ (path : Path) (t : Nat) (v : Word) (s : State), t < 8 → v.getLsbD 31 = true → Writable path (bsnBase t 0 + 0x260) s →
    s.flag (bsnBase t 0) BSN_FST_STATUS_BUSY = false →
    Completes (.run path t v) s (fun u =>
      u.flag (bsnBase t 0) BSN_FST_STATUS_BUSY = decide ((s.tier t).power ≤ 1) ∧
      (1 < (s.tier t).power → u.flag (bsnBase t 0) BSN_FST_STATUS_DEFERRED = true) ∧ Kept s u)) ∧
  (∀ (t : Nat) (s : State), s.flag (bsnBase t 0) BSN_FST_STATUS_DEFERRED = true → (s.tier t).power = 0 →
    exec (.fieldSelfTestDeferredStart t) s = .next ((s.putFlag (bsnBase t 0) BSN_FST_STATUS_DEFERRED false).putFlag
      (bsnBase t 0) BSN_FST_STATUS_BUSY true)) ∧
  (∀ (t bond via : Nat) (eyes : List PairEye) (s : State), t < s.nTiers → 2 ≤ (s.tier t).power →
    s.flag (bsnBase t 0) BSN_FST_STATUS_BUSY = true →
    exec (.fieldSelfTest t eyes bond via) s = .next ((s.putFlag (bsnBase t 0) BSN_FST_STATUS_BUSY false).putFlag (bsnBase t 0)
      BSN_FST_STATUS_DEFERRED true)) ∧
  (∀ (t : Nat) (e : PairEye) (s : State), t < 8 → t < s.nTiers → e.runnel < 16 → e.hop < 8 → e.group < 3 → e.width < s.failW t →
    (s.tier t).power < 2 → (s.tier t).engReset = false → (s.tier t).portReset = false → s.migrations = [] →
    s.flag (bsnBase t 0) BSN_FST_STATUS_BUSY = true →
    Completes (.fieldSelfTest t [e] 255 255) s (fun u => e.pair ∈ (u.coil t e.runnel e.hop e.group).bad ∧
      u.get (bsnBase t e.runnel + 4 * e.hop) BSN_HOP_MIN_W = min 255 e.width ∧
      u.flag (bsnBase t 0) BSN_FST_STATUS_BUSY = false ∧ u.reg (bsnBase t 0 + 0x268) = BitVec.ofNat 64 s.us)) ∧
  (∀ (t : Nat) (margins : List Bool) (s : State), s.permitted t = false ∨ s.grottoRuns = false →
    exec (.repairFuseWrite t margins) s = .next s) ∧
  (∀ (t : Nat) (e : DWord) (rest : List DWord) (s : State), t < 8 → s.permitted t = true → s.grottoRuns = true →
    (s.rep t).queued = e :: rest → (s.rep t).fuses.length < 247 →
    Completes (.repairFuseWrite t [true]) s (fun u => (u.rep t).fuses = (s.rep t).fuses ++ [(e, true)] ∧
      (u.rep t).queued = rest ∧ Kept s u) ∧
    Completes (.repairFuseWrite t [false]) s (fun u => (u.rep t).fuses = (s.rep t).fuses ++ [(e, false)] ∧
      (u.rep t).queued = e :: rest ∧ Kept s u)))

/-- R337, R340-R346: a message that the collector accepts makes one record at the queue's end, with the class of R340, and sets its source's
status; a Note met by an unacknowledged record of the same source, kind and class is merged into it; the CE_LIMIT-th Corrected message of a
second adds the source's kind 0x3F; a message met by a full input buffer is lost and counted. R266, R346, R349: the event descriptors answer
the records not yet released, oldest first, and release all up to a record number; the collector's interrupt is sent at most once in 10 us;
a record a worker sends becomes a record of the manager's. -/
def Obligations.FaultRecords : Prop :=
  ((∀ (src kind level addr detail d : Nat) (s : State), s.flt.lockedDown = false → s.kindClass src kind = some d →
    (sourceIsTier src = false ∨ s.reaches (sourceTier src) 0 = true) → src < 512 → s.flt.reaction = .none →
    s.flt.queue.length < 64 → s.fltClass src d ≠ 1 →
    (∀ r ∈ s.flt.queue, ¬(r.src = src ∧ r.kind = kind ∧ r.cls = s.fltClass src d ∧ r.released = false)) →
    Completes (.messageAccept src kind level addr detail false) s (fun t => ∃ r : FRec, t.flt.queue = s.flt.queue ++ [r] ∧
      r.src = src ∧ r.kind = kind ∧ r.cls = s.fltClass src d ∧ r.level = level ∧ r.addr = addr ∧ r.detail = detail ∧
      r.time = s.us ∧ r.recnum = s.flt.nextRec ∧ r.merges = 0 ∧ t.flag (srcCfg src) FLT_SRC_STAT_STICKY = true ∧
      t.get (srcCfg src) FLT_SRC_STAT_COUNT = min 0xFFFF (s.get (srcCfg src) FLT_SRC_STAT_COUNT + 1) ∧
      t.flt.reaction = (if r.cls = 4 then .stop r.recnum s.us else if r.cls = 5 then .lockdown r.recnum else .none) ∧
      Reports s t)) ∧
  (∀ (src kind level addr detail d : Nat) (r : FRec) (s : State), s.flt.lockedDown = false → s.kindClass src kind = some d →
    (sourceIsTier src = false ∨ s.reaches (sourceTier src) 0 = true) → src < 512 → s.flt.reaction = .none →
    s.fltClass src d = 0 → s.flt.queue = [r] → r.src = src → r.kind = kind → r.cls = 0 → r.released = false →
    r.marked 5 = false →
    Completes (.messageAccept src kind level addr detail false) s (fun t =>
      t.flt.queue = [{ r with merges := r.merges + 1, merged := true, last := s.us }] ∧ t.flt.nextRec = s.flt.nextRec ∧
      Reports s t)) ∧
  (∀ (src kind level addr detail d : Nat) (s : State), s.flt.lockedDown = false → s.kindClass src kind = some d →
    (sourceIsTier src = false ∨ s.reaches (sourceTier src) 0 = true) → src < 512 → s.flt.reaction = .none →
    s.fltClass src d = 1 → 2 ≤ s.fltClass src 3 → s.flt.queue = [] → s.flt.ceSecond = s.us / 1000000 →
    Sparse.get (fun _ => 0) s.flt.ceCount src + 1 = s.get (srcCfg src) FLT_SRC_CFG_CE_LIMIT →
    Completes (.messageAccept src kind level addr detail false) s (fun t => ∃ a b : FRec, t.flt.queue = [a, b] ∧
      a.src = src ∧ a.kind = kind ∧ a.cls = 1 ∧ b.src = src ∧ b.kind = 0x3F ∧ b.cls = s.fltClass src 3 ∧ b.addr = addr ∧
      b.detail = detail)) ∧
  (∀ (src kind level addr detail d : Nat) (s : State), s.flt.lockedDown = false → s.kindClass src kind = some d → src < 512 →
    s.flt.reaction = .none →
    Completes (.messageAccept src kind level addr detail true) s (fun t => Reports s t ∧
      t.reg (fltBase + 0x50) = BitVec.ofNat 64 (min (2 ^ 64 - 1) ((s.reg (fltBase + 0x50)).toNat + 1)) ∧
      t.flag fltBase FLT_STATUS_INPUT_LOST = true ∧
      (s.get (srcCfg src) FLT_SRC_CFG_FLOOR = 4 → t.flt.reaction = .stop 0 s.us))) ∧
  (∀ (src kind level addr detail : Nat) (full : Bool) (s : State), s.flt.lockedDown = true ∨ s.kindClass src kind = none →
    exec (.messageAccept src kind level addr detail full) s = .next s) ∧
  (∀ (n : Nat) (s : State), exec (.recordLeavesQueue n) s =
    .next (s.setQueue (s.flt.queue.filter (fun r => !(r.recnum = n && (r.released && r.marked 4 && r.marked 0)))))) ∧
  (∀ (n : Nat) (r : FRec) (s : State), s.servicesRun = true → s.slotsToCopy = false → s.flt.queue = [r] → r.recnum = n →
    r.marked 4 = false → s.ramLog = false → s.flash.entry < 62 →
    Completes (.recordFlashCopy n) s (fun t => t.flt.queue = [r.mark 4] ∧ (∃ e, t.flash.log = s.flash.log ++ [e] ∧
      e.words = r.words ++ r.tail ∧ e.seq = s.flash.seq ∧ e.place = s.flash.place) ∧ t.flash.entry = s.flash.entry + 1 ∧
      t.flash.seq = s.flash.seq + 1))) ∧
  ((∀ (d : DescRef) (maxRecs haddr : Nat) (f : Fetched) (s : State), s.ready d 0x0700 [(8, 2, maxRecs), (16, 8, haddr)] = some f →
    (maxRecs = 0 ∨ 64 < maxRecs → Completes (.eventFetch d maxRecs haddr) s (fun t => Done d 0x02 0 s t ∧ t.flt = s.flt)) ∧
    (1 ≤ maxRecs → maxRecs ≤ 64 → Completes (.eventFetch d maxRecs haddr) s (fun t => t.flt = s.flt ∧
      let l := s.flt.queue.filter (fun r => !r.released)
      Done d 0 (min maxRecs l.length + l.length * 2 ^ 16) s t ∧
      (l ≠ [] → ∃ x, Output.dmaWrite (s.ring f.ref.ring).dmaPort haddr x ∈ t.out ∧ x.length = 4 * min maxRecs l.length)))) ∧
  (∀ (d : DescRef) (n : Nat) (f : Fetched) (s : State), s.ready d 0x0701 [(8, 4, n)] = some f →
    (n = 0 ∨ s.flt.nextRec ≤ n → Completes (.eventAck d n) s (fun t => Done d 0x02 0 s t ∧ t.flt = s.flt)) ∧
    (1 ≤ n → n < s.flt.nextRec → Completes (.eventAck d n) s (fun t =>
      Done d 0 (s.flt.queue.filter (fun r => r.recnum ≤ n && !r.released)).length s t ∧
      t.flt.queue = s.flt.queue.map (fun r => if r.recnum ≤ n then { r with released := true } else r)))) ∧
  (∀ (s : State), s.flt.msixPending = true → s.flt.reaction = .none → s.pkgMode.mode = .up →
    ((∀ a, s.flt.msixLast = some a → a + 10 ≤ s.us) → Completes .faultMsix s (fun t =>
      t.flt = { s.flt with msixPending := false, msixLast := some s.us } ∧ t = { s with flt := t.flt, out := t.out } ∧
      ∀ p ∈ s.controlPorts, Output.msix p 1 (s.get fltBase FLT_CFG_VEC) ∈ t.out)) ∧
    (∀ a, s.flt.msixLast = some a → s.us < a + 10 → exec .faultMsix s = .next s)) ∧
  (∀ (s : State), s.flt.msixPending = false → exec .faultMsix s = .next s) ∧
  (∀ (pkg src kind cls level addr detail time : Nat) (s : State),
    (s.role ≠ 3 → exec (.faultEscalationFrame pkg src kind cls level addr detail time) s = .next s) ∧
    (s.role = 3 → s.flt.queue.length < 64 → Completes (.faultEscalationFrame pkg src kind cls level addr detail time) s (fun t =>
      ∃ r : FRec, t.flt.queue = s.flt.queue ++ [r] ∧ r.src = src ∧ r.kind = kind ∧ r.cls = cls ∧ r.level = level ∧ r.addr = addr ∧
        r.detail = detail ∧ r.time = time ∧ r.pkg = pkg ∧ r.recnum = s.flt.nextRec ∧ r.marked 5 = true ∧
        t = { s with flt := t.flt }))))

/-- R357, Table MGT-3: the gates that answer at once. Each returns its code and payload to Services: READY, FUSE_READ, FUSE_REPAIR,
KEY_MAKE, KEY_ZERO, SEAL, SPDM_SIGN, ARB_ADVANCE and LOCKDOWN; while Services does not run nothing happens. R357, R360, R364, R381, R427:
the gates that take longer than 1 ms return BUSY at once, and their result is collected by the next call: LINK_KEYS, IMG_VERIFY, BANK_SET,
CAL_WRITE, DBG_UNLOCK and SLOT_ERASE. While a result waits no other is begun. -/
def Obligations.Gates : Prop :=
  (∀ (s : State),
    let returns := fun (c : Instr) (n code : Nat) (payload : List Nat) (post : State → Prop) =>
      Completes c s (fun t => t.out.head? = some (.gate n code payload) ∧ post t)
    (s.servicesRun = false → ∀ c ∈ ([.ready, .fuseRead 0, .keyMake 1, .keyZero 1, .sealGate 0, .spdmSign 0, .imgVerify, .bankSet true,
      .arbAdvance [], .calWrite, .lockdownGate, .slotErase 0, .gateBusyRetry 0] : List Instr), exec c s = .next s) ∧
    (s.servicesRun = true →
      (s.mgmt.activation = none → exec .ready s =
        .next ((s.mgmtSet { s.mgmt with isReady := true, readyAt := s.us, pllAt := some s.us }).emit (.gate 0 0 []))) ∧
      (∀ n, exec (.fuseRead n) s = .next (s.emit (if 256 ≤ n then .gate 1 2 [] else if isSecret n then .gate 1 1 []
        else .gate 1 0 [(s.fuseUsed n).toNat]))) ∧
      (∀ t margins, (s.nTiers ≤ t → exec (.fuseRepair t margins) s = .next (s.emit (.gate 2 2 []))) ∧
        (t < s.nTiers → s.permitted t = false → exec (.fuseRepair t margins) s = .next (s.emit (.gate 2 1 []))) ∧
        (∀ e rest, t < 8 → s.permitted t = true → (s.rep t).queued = e :: rest → (s.rep t).fuses.length < 247 →
          returns (.fuseRepair t [true]) 2 0 [] (fun u => (u.rep t).fuses = (s.rep t).fuses ++ [(e, true)] ∧
            (u.rep t).queued = rest))) ∧
      (∀ k, (k = 0 ∨ 4096 ≤ k → exec (.keyMake k) s = .next (s.emit (.gate 3 2 []))) ∧
        (1 ≤ k → k < 4096 → s.entropyFailed = true → exec (.keyMake k) s = .next (s.emit (.gate 3 1 []))) ∧
        (1 ≤ k → k < 4096 → s.entropyFailed = false → s.key k = none →
          returns (.keyMake k) 3 0 [] (fun t => t.key k ≠ none ∧ ∀ i, i ≠ k → t.key i = s.key i))) ∧
      (∀ k, k < 4096 → exec (.keyZero k) s = .next ((s.setKey k none).emit (.gate 4 0 []))) ∧
      (∀ n, (s.tickOf n = none → exec (.sealGate n) s = .next (s.emit (.gate 6 2 []))) ∧
        (∀ k, s.tickOf n = some k → k.finished = true → s.identity = true →
          returns (.sealGate n) 6 0 [] (fun t => ∃ z, (t.tickOf n).bind (·.sealed) = some z))) ∧
      (∀ hash, exec (.spdmSign hash) s = .next (if s.identity then
          (askPll s.drawn).emit (.gate 7 0 [(Config.sign hash s.fresh).toNat / 2 ^ 384, (Config.sign hash s.fresh).toNat % 2 ^ 384])
        else s.emit (.gate 7 4 []))) ∧
      (∀ short, (s.lifeCycle = 0 ∨ 3 < s.lifeCycle → exec (.arbAdvance short) s = .next (s.emit (.gate 10 1 []))) ∧
        (1 ≤ s.lifeCycle → s.lifeCycle ≤ 3 → (∀ k, 1 ≤ k → k ≤ 127 → s.stepBlown k = decide (k ≤ s.arbCount)) →
          s.arbCount ≤ s.runSv → s.runSv ≤ 127 →
          returns (.arbAdvance []) 10 0 [s.runSv] (fun t => t.arbCount = s.runSv ∧ t.arb &&& s.arb = s.arb)) ∧
        (1 ≤ s.lifeCycle → s.lifeCycle ≤ 3 → s.arbCount < s.runSv → s.arbCount < 127 → s.arbCount + 1 ∈ short →
          returns (.arbAdvance short) 10 4 [s.arbCount] (fun t => t.arb = s.arb ∧
            t.flag mgtBase MGT_ERR_STATUS_COMMIT_SHORT = true))) ∧
      (s.flt.reaction = .none → s.flt.queue.length < 64 → s.fltClass 2 5 = 5 →
        returns .lockdownGate 13 0 [] (fun t => t.flt.reaction = .lockdown s.flt.nextRec)))) ∧
  (∀ (s : State), s.servicesRun = true →
    let later := fun (c : Instr) (n code : Nat) (post : State → Prop) =>
      Completes c s (fun t => t.out.head? = some (.gate n 3 []) ∧ t.mgmt.gateDone = some (n, code, []) ∧ post t)
    (s.mgmt.gateDone.isSome = true → ∀ c n, (c, n) ∈ ([(.linkKeys 0 0 true 0, 5), (.imgVerify, 8), (.bankSet true, 9), (.calWrite, 11),
      (.dbgUnlock 0 true, 12), (.slotErase 0, 14)] : List (Instr × Nat)) → exec c s = .next (s.emit (.gate n 3 []))) ∧
    (s.mgmt.gateDone = none →
      (∀ a peer sigOk shared, (8 ≤ a → later (.linkKeys a peer sigOk shared) 5 2 (fun _ => True)) ∧
        (a < 8 → (s.member peer).member = false → later (.linkKeys a peer sigOk shared) 5 1 (fun _ => True)) ∧
        (a < 8 → (s.member peer).member = true → s.get (aqdBase a) AQD_STATUS_STATE = 2 → s.identity = true →
          later (.linkKeys a peer true shared) 5 0 (fun _ => True))) ∧
      later .imgVerify 8 (if s.bankValid s.stageBank then 0 else 4) (fun t => t.mgmt.staged = s.bankValid s.stageBank) ∧
      (s.mgmt.staged = false → later (.bankSet false) 9 1 (fun t => t.bootRec = s.bootRec)) ∧
      (s.mgmt.staged = true → s.bootRec.seq + 1 < 2 ^ 32 → later (.bankSet false) 9 0 (fun t =>
        t.bootRec.active = s.stageBank ∧ t.bootRec.prev = s.runBank ∧ t.bootRec.trial = true ∧ t.bootRec.tried = 0)) ∧
      (s.bootRec.seq + 1 < 2 ^ 32 → later (.bankSet true) 9 0 (fun t => t.bootRec.trial = false ∧ t.mgmt.activated = false ∧
        t.bootRec.active = s.bootRec.active ∧ t.flag mgtBase MGT_STATUS_TRIAL = false)) ∧
      (s.lifeCycle = 0 ∨ 3 < s.lifeCycle → later .calWrite 11 1 (fun t => t.flash.cal = s.flash.cal)) ∧
      (∀ m, 1 ≤ s.lifeCycle → s.lifeCycle ≤ 3 → s.flash.calNew = some m → calChecks m = true →
        later .calWrite 11 0 (fun t => t.flash.cal = m ∧ t.flash.calGood = true ∧ t.flash.calNew = none)) ∧
      (1 ≤ s.lifeCycle → s.lifeCycle ≤ 3 → s.flash.calNew = none → later .calWrite 11 4 (fun t => t.flash.cal = s.flash.cal)) ∧
      (∀ k sigOk, (s.authBusy = false → later (.dbgUnlock k sigOk) 12 2 (fun t => t.dbg = s.dbg)) ∧
        (s.authBusy = true → s.responseOk k sigOk = true → later (.dbgUnlock k sigOk) 12 0 (fun t => t.dbg.unlocked = true ∧
          t.dbg.nonce = none)) ∧
        (s.authBusy = true → s.responseOk k sigOk = false → later (.dbgUnlock k sigOk) 12 1 (fun t =>
          t.dbg.unlocked = s.dbg.unlocked ∧ t.dbg.nonce = none ∧ t.refusals = min 8 (s.refusals + 1) ∧
          t.dbg.backoffTill = some (s.us + 10000000)))) ∧
      (∀ i, (64 ≤ i ∨ Sparse.get (fun _ => none) s.flash.slots i = none → later (.slotErase i) 14 2 (fun t => t.flash = s.flash)) ∧
        (∀ r, i < 64 → Sparse.get (fun _ => none) s.flash.slots i = some r →
          (r.copied = false → later (.slotErase i) 14 1 (fun t => t.flash = s.flash)) ∧
          (r.copied = true → later (.slotErase i) 14 0 (fun t => Sparse.get (fun _ => none) t.flash.slots i = none)))) ∧
      (∀ n, 15 ≤ n → exec (.gateBusyRetry n) s = .next (s.emit (.gate n 2 [])))) ∧
    (∀ n code payload, s.mgmt.gateDone = some (n, code, payload) → exec (.gateBusyRetry n) s =
      .next (((s.mgmtSet { s.mgmt with gateDone := none }).flashSet { s.flash with busy := 0 }).emit (.gate n code payload))))

/-- R358, R362-R364: management-only resets and the boot. A Services fault and a reset that is asked for stop the management processor,
forget a staging and keep all that tenants stored, the banks, the boot record and the fuses; the ROM then starts Services from the bank of
the record, falls back once a trial has failed, and waits for an update when no bank is valid. -/
def Obligations.ManagementResets : Prop :=
  let reset := fun (s t : State) => t.get mgtBase MGT_STATUS_MODE = 2 ∧ t.mgmt.services = false ∧ t.mgmt.grotto = false ∧
    t.mgmt.staged = false ∧ t.mgmt.staging = none ∧ t.mgmt.bankA = s.mgmt.bankA ∧ t.mgmt.bankB = s.mgmt.bankB ∧
    t.mgmt.boot0 = s.mgmt.boot0 ∧ t.mgmt.boot1 = s.mgmt.boot1 ∧ t.fuses = s.fuses ∧ t.arb = s.arb ∧ Kept s t ∧
    t.held = s.held ∧ t.fetched = s.fetched
  (∀ (s : State), s.servicesRun = true → s.mgmt.isReady = true → s.mgmt.readyAt + 1000000 < s.us →
    Completes .servicesWatchdogMiss s (fun t => reset s t ∧ t.flag mgtBase MGT_ERR_STATUS_SVC_FAULT = true)) ∧
  (∀ (s : State), s.us ≤ s.mgmt.readyAt + 1000000 → exec .servicesWatchdogMiss s = .next s) ∧
  (∀ (s : State), s.servicesRun = true → Completes .servicesTrap s (fun t => reset s t ∧
    t.flag mgtBase MGT_ERR_STATUS_SVC_FAULT = true)) ∧
  (∀ (s : State), s.mpPowered = true → s.mgmt.grotto = true → s.flt.reaction = .none → s.flt.queue.length < 64 →
    s.fltClass 2 5 = 5 → Completes .machineModeTrap s (fun t => t.flt.reaction = .lockdown s.flt.nextRec ∧ Reports s t)) ∧
  (∀ (s : State), s.mpPowered = true → Completes .managementOnlyReset s (fun t => reset s t ∧
    t.reg (mgtBase + 0x40) = BitVec.ofNat 64 (min (2 ^ 64 - 1) ((s.reg (mgtBase + 0x40)).toNat + 1)))) ∧
  (∀ (path : Path) (v : Word) (s : State), Writable path (mgtBase + 0x14) s → v.getLsbD 0 = true → s.mpPowered = true →
    (s.locked = false → Completes (.mgtReset path v) s (reset s)) ∧
    (s.locked = true → Completes (.mgtReset path v) s (fun t => Kept s t ∧ t.mgmt.services = s.mgmt.services ∧
      t.mgmt.staged = s.mgmt.staged))) ∧
  (∀ (a : Activation) (s : State), s.mgmt.activation = some a → s.servicesRun = true → s.mgmt.isReady = false →
    (a.since + 10000000 ≤ s.us → Completes .activationReadyTimeout s (reset s)) ∧
    (s.us < a.since + 10000000 → exec .activationReadyTimeout s = .next s)) ∧
  (∀ (s : State), s.mpPowered = true → s.get mgtBase MGT_STATUS_MODE = 2 → s.mgmt.activation = none →
    Completes (.romBoot false) s (fun t => t.get mgtBase MGT_STATUS_MODE = 0 ∧ t.mgmt.services = s.mgmt.services) ∧
    (∀ i, 1 ≤ s.lifeCycle → s.lifeCycle ≤ 4 → s.bootRec.trial = false → s.bankImage s.bootRec.active = some i →
      s.bootRec.active ≤ 1 → s.imageValid i = true → s.flash.sectors = [] → s.pkgMode.tripped = false → s.pool.inbox = [] →
      Completes (.romBoot true) s (fun t => t.get mgtBase MGT_STATUS_MODE = 1 ∧ t.get mgtBase MGT_STATUS_BANK = s.bootRec.active ∧
        t.mgmt.services = true ∧ t.mgmt.grotto = true ∧ t.mgmt.running = some i ∧ t.get mgtBase MGT_FW_VER_SV = i.sv)) ∧
    (1 ≤ s.lifeCycle → s.lifeCycle ≤ 4 → s.bootRec.trial = false → s.bankValid 0 = false → s.bankValid 1 = false →
      Completes (.romBoot true) s (fun t => t.get mgtBase MGT_STATUS_MODE = 3 ∧ t.mgmt.running = none))) ∧
  (∀ (ok : Bool) (s : State), s.get mgtBase MGT_STATUS_MODE ≠ 2 → exec (.romBoot ok) s = .next s) ∧
  (∀ (s : State), s.mpPowered = true → s.refPresent = true → s.pllWanted = true →
    exec .mpPllSwitch s = .next (s.putFlag mgtBase MGT_STATUS_PLL true)) ∧
  (∀ (s : State), s.pllWanted = false → s.flag mgtBase MGT_STATUS_PLL = true →
    exec .mpIdleReturn s = .next (s.putFlag mgtBase MGT_STATUS_PLL false))

/-- R269, R364-R366: the firmware descriptors. FW_STAGE takes the bytes in order and verifies the image with the last; FW_ACTIVATE writes
the boot record and resets the processor, or has the jets reload; FW_COMMIT advances the anti-rollback count. -/
def Obligations.FirmwareDescriptors : Prop :=
  (∀ (d : DescRef) (haddr offset length : Nat) (last progOk : Bool) (image : Option Image) (f : Fetched) (s : State),
    s.ready d 0x0A00 [(8, 8, haddr), (16, 4, offset), (20, 4, length)] = some f → descFlag f.bytes 2 = last →
    s.servicesRun = true → let cmd := Instr.fwStage d haddr offset length last image progOk
    (haddr % 4096 ≠ 0 ∨ length < 4096 ∨ 2 ^ 20 < length ∨ (last = false ∧ length % 4096 ≠ 0) ∨
      (offset ≠ 0 ∧ offset ≠ s.stagedBytes) → Completes cmd s (fun t => Done d 0x02 0 s t ∧ t.mgmt = s.mgmt)) ∧
    (haddr % 4096 = 0 → 4096 ≤ length → length ≤ 2 ^ 20 → (last = true ∨ length % 4096 = 0) → (offset = 0 ∨ offset = s.stagedBytes) →
      offset + length ≤ 2 ^ 24 →
      (s.fwBusy = true ∨ s.mgmt.updating = true → Completes cmd s (fun t => Done d 0x0D 0 s t ∧ t.mgmt = s.mgmt)) ∧
      (s.fwBusy = false → s.mgmt.updating = false →
        (progOk = false → Completes cmd s (fun t => Done d 0x09 0 s t ∧ t.mgmt = s.mgmt)) ∧
        (progOk = true → last = false → Completes cmd s (fun t => Done d 0 (offset + length) s t ∧
          t.stagedBytes = offset + length)) ∧
        (∀ i, progOk = true → last = true → image = some i →
          (s.imageValid i = true → Completes cmd s (fun t => Done d 0 (offset + length) s t ∧ t.mgmt.staged = true ∧
            t.bankImage s.stageBank = some i ∧ t.stagedBytes = 0)) ∧
          (s.imageValid i = false → Completes cmd s (fun t => Done d 0x08 0 s t ∧ t.mgmt.staged = false)))))) ∧
  (∀ (d : DescRef) (target : Nat) (f : Fetched) (s : State), s.ready d 0x0A01 [(8, 1, target)] = some f → s.servicesRun = true →
    let cmd := Instr.fwActivate d target
    (1 < target → Completes cmd s (Done d 0x02 0 s)) ∧
    (target ≤ 1 → s.fwBusy = true ∨ s.mgmt.updating = true → Completes cmd s (Done d 0x0D 0 s)) ∧
    (s.fwBusy = false → s.mgmt.updating = false →
      (target = 0 → s.mgmt.staged = false → Completes cmd s (fun t => Done d 0x05 0 s t ∧ t.bootRec = s.bootRec)) ∧
      (target = 0 → s.mgmt.staged = true → s.bootRec.seq + 1 < 2 ^ 32 → Completes cmd s (fun t => Waits d s t ∧
        t.bootRec.active = s.stageBank ∧ t.bootRec.trial = true ∧ t.get mgtBase MGT_STATUS_MODE = 2 ∧
        t.mgmt.services = false)) ∧
      (target = 1 → s.mgmt.activated = false → Completes cmd s (fun t => Done d 0x05 0 s t ∧ t.jets = s.jets)) ∧
      (∀ t0 j, target = 1 → s.mgmt.activated = true → t0 ∈ s.tierList → j < 16 → s.retiredJet t0 j = false →
        (s.tier t0).power ≠ 3 → Completes cmd s (fun t => Waits d s t ∧ (t.jet t0 j).reload = true)))) ∧
  (∀ (d : DescRef) (short : List Nat) (f : Fetched) (s : State), s.ready d 0x0A02 [] = some f → s.servicesRun = true →
    (s.fwBusy = true ∨ s.mgmt.updating = true → Completes (.fwCommit d short) s (fun t => Done d 0x0D 0 s t ∧ t.arb = s.arb)) ∧
    (s.fwBusy = false → s.mgmt.updating = false →
      (s.mayCommit = false → Completes (.fwCommit d short) s (fun t => Done d 0x05 0 s t ∧ t.arb = s.arb)) ∧
      (s.mayCommit = true → Completes (.fwCommit d short) s (fun t => Done d 0 t.arbCount s t ∧ t.mgmt.activated = false ∧
        t.flag mgtBase MGT_STATUS_TRIAL = false ∧ t.mgmt.jetImage = s.mgmt.running ∧ t.arb &&& s.arb = s.arb))))

/-- R372-R379: regulators and the flash. A poll takes each regulator's readings or counts a failed read; a log entry goes to the write
position or to the log RAM, and a sector that fails is replaced by a spare; a shutdown record is copied to the log and its slot erased; a
compaction moves the live records of the configuration store to its other half. -/
def Obligations.RegulatorsAndFlash : Prop :=
  (∀ (r : Regulator) (s : State), s.servicesRun = true → s.flash.regulators = [r] →
    (∀ v i t, Completes (.pmbusPoll [some (v, i, t, 0)] [0]) s (fun u => u.flash =
      { s.flash with regulators := [{ r with fails := 0, vout := v, iout := i, temp := t, status := 0 }] } ∧
      u = { s with flash := u.flash })) ∧
    (r.fails < 2 → Completes (.pmbusPoll [none] [0]) s (fun u => u = { s with flash := { s.flash with
      regulators := [{ r with fails := r.fails + 1 }] } })) ∧
    (r.fails = 2 → Completes (.pmbusPoll [none] [0]) s (fun u => Reports { s with flash := { s.flash with
      regulators := [{ r with fails := 3 }] } } u ∧ u.flash.regulators = [{ r with fails := 3 }])) ∧
    (∀ w, Completes (.pmbAlert [some w]) s (fun u => u.flash.regulators = [{ r with status := w }] ∧ Kept s u ∧
      (w = 0 → u = { s with flash := u.flash })))) ∧
  (∀ (note : List Nat) (s : State), s.servicesRun = true → s.slotsToCopy = false →
    (s.ramLog = false → s.flash.entry < 62 → Completes (.logEntryWrite none note true true) s (fun t =>
      (∃ e, t.flash.log = s.flash.log ++ [e] ∧ e.words = note.take 8 ∧ e.place = s.flash.place ∧ e.seq = s.flash.seq) ∧
      t.flash.entry = s.flash.entry + 1 ∧ t.flash.seq = s.flash.seq + 1)) ∧
    (s.ramLog = true → s.flash.ram.length < 1024 → Completes (.logEntryWrite none note true true) s (fun t =>
      (∃ e, t.flash.ram = s.flash.ram ++ [e] ∧ e.words = note.take 8) ∧ t.flash.log = s.flash.log)) ∧
    (s.ramLog = false → s.flash.spared.length < 256 → Completes (.logEntryWrite none note false true) s (fun t =>
      t.flash.spared = s.flash.spared ++ [(s.flash.place, s.flash.spared.length)] ∧
      t.flag mgtBase MGT_ERR_STATUS_SECTOR_RETIRED = true ∧ ∃ e ∈ t.flash.log, e.words = note.take 8))) ∧
  (∀ (s : State), s.servicesRun = true →
    (∀ p, p < 4096 → (s.sector p).state ≠ 4 → s.flash.spared.length < 256 → Completes (.sectorRetire p true) s (fun t =>
      t.flash.spared = s.flash.spared ++ [(p, s.flash.spared.length)] ∧ (∀ e ∈ t.flash.log, e.place ≠ p) ∧ Kept s t)) ∧
    (∀ p, p < 4096 → (s.sector p).erases < 100000 → exec (.sectorRetire p false) s = .next s) ∧
    (∀ p, 4096 ≤ p → p < 5120 → s.flash.cfgBad.contains (p - 4096) = false → Completes (.sectorRetire p true) s (fun t =>
      t.flash.cfgBad = (p - 4096) :: s.flash.cfgBad)) ∧
    (∀ i r, s.flash.slots = [(i, some r)] → r.copied = false → r.flashOp ≠ 2 → s.mgmt.gateDone = none → s.ramLog = false →
      s.flash.entry < 62 → Completes .shutdownRecordCopy s (fun t => t.flash.slots = [] ∧
        ∃ e, t.flash.log = s.flash.log ++ [e] ∧ e.kind = 1 ∧ e.words = r.words)) ∧
    (s.flash.slots = [] → exec .shutdownRecordCopy s = .next s) ∧
    Completes .configStoreCompaction s (fun t => t.flash = { s.flash with half := 1 - s.flash.half, records := t.flash.records } ∧
      t.flash.records = s.flash.overrides.length + s.flash.sris.length + s.flash.regulators.length + 2 ∧
      OnlyRegs (· = mgtBase + 0x50) { s with flash := t.flash } t))

/-- R352, R362, R368: who answers an MCTP request. Locked down, every request over SMBus or I3C is answered 0x80; in recovery one that is no
part of the update is refused; with Services down it is not answered; a fifth request is answered busy, and changes nothing. R368, R369,
Table MGT-7: the control messages and PLDM monitoring. Endpoint IDs 8 to 254 are assigned and read back, and the versions, types, records,
readings and states are answered as the tables give them. (The numbers of completion codes, of sensors and of records are assumption log
entries.) -/
def Obligations.MctpControl : Prop :=
  (∀ (m : MctpReq) (s : State),
    let general := fun (c : Instr) (mtype : Nat) =>
      (s.flt.lockedDown = true → m.binding < 2 → exec c s = .next (s.emit (.mctp mtype 0x80 []))) ∧
      (s.flt.lockedDown = true → 2 ≤ m.binding → exec c s = .next s) ∧
      (s.flt.lockedDown = false → s.pkgMode.mode ≠ .up → exec c s = .next s) ∧
      (s.flt.lockedDown = false → s.pkgMode.mode = .up → m.binding < 2 →
        (s.recovery = true → exec c s = .next (s.emit (.mctp mtype (mctpRefuse mtype) []))) ∧
        (s.recovery = false → s.lifeCycle ≠ 5 → s.servicesRun = false → exec c s = .next s) ∧
        (s.recovery = false → s.lifeCycle ≠ 5 → s.servicesRun = true → 4 ≤ m.ahead →
          exec c s = .next (s.emit (.mctp mtype (if mtype = 5 then 0x03 else 0x04) []))))
    (∀ c ∈ ([.getEndpointId m, .getEndpointUuid m, .getMessageTypeSupport m] : List Instr), general c 0) ∧
    (∀ c ∈ ([.gettid m, .getpldmtypes m, .getpdr m 0] : List Instr), general c 1) ∧
    (∀ c ∈ ([.getVersion m, .getCapabilities m, .getDigests m] : List Instr), general c 5) ∧
    (∀ c ∈ ([.calExport m 0 0, .logRead m 0 0, .regRead m 0, .regWrite m 0 0] : List Instr), general c 0x7E)) ∧
  (∀ (m : MctpReq) (s : State), Asked m s →
    (∀ eid, (8 ≤ eid → eid ≤ 254 → Completes (.setEndpointId m eid) s (fun t => t.eid = eid ∧
        OnlyRegs (· = mgtBase + 0x18) { askPll s with out := t.out } t)) ∧
      (eid < 8 ∨ 254 < eid → Completes (.setEndpointId m eid) s (Answers 0 2 [] s))) ∧
    Completes (.getEndpointId m) s (Answers 0 0 [s.eid, 0, 0] s) ∧
    Completes (.getEndpointUuid m) s (Answers 0 0 [Config.endpointUuid.toNat] s) ∧
    Completes (.getMctpVersionSupport m 0xFF) s (Answers 0 0 [1, 0xF1F3FF00] s) ∧
    (∀ mtype, mtype ∉ [0, 1, 5, 0x7E, 0xFF] → Completes (.getMctpVersionSupport m mtype) s (Answers 0 0x80 [] s)) ∧
    Completes (.getMessageTypeSupport m) s (Answers 0 0 [0, 1, 5, 0x7E] s) ∧
    Completes (.gettid m) s (Answers 1 0 [s.mgmt.tid] s) ∧
    (∀ tid, 1 ≤ tid → tid < 255 → Completes (.settid m tid) s (fun t => t.mgmt.tid = tid ∧ Kept s t)) ∧
    Completes (.getpldmversion m 2) s (Answers 1 0 [0xF1F2FF00] s) ∧
    Completes (.getpldmversion m 5) s (Answers 1 0 [0xF1F1FF00] s) ∧
    Completes (.getpldmtypes m) s (Answers 1 0 [0, 2, 5] s) ∧
    (∀ ptype, ptype ∈ [0, 2, 5] → ∃ l, Completes (.getpldmcommands m ptype) s (Answers 1 0 l s) ∧ l ≠ []) ∧
    (∀ k id, 1 ≤ k → s.sensorIds[k - 1]? = some id → Completes (.getpdr m k) s
      (Answers 1 0 [if k < s.sensorIds.length then k + 1 else 0, k, id] s)) ∧
    (∀ t z, t < s.nTiers → z < 3 → Completes (.getsensorreading m (3 * t + z)) s (fun u =>
      u.out.head? = some (.mctp 1 0 [((s.zone t z).temp.emod 65536).toNat]) ∧ Kept s u)) ∧
    (∀ t, t < s.nTiers → Completes (.getstatesensorreadings m (0x300 + t)) s (Answers 1 0 [(s.tier t).power] s)) ∧
    (∀ eid, Completes (.seteventreceiver m eid) s (fun t => t.mgmt.receiver = some eid ∧ Kept s t)))

/-- R363, R364, R368: the PLDM firmware update. A request begins it unless a staging or an update runs; 4 KiB blocks in order stage the
image, the last has it verified, and a verified image can be activated. R371, R414: SPDM. Without a device secret every request is an error;
a request before its turn is unexpected; in order, the version, capabilities and algorithms are agreed, and digests, certificate, signed
challenges and measurements answered. -/
def Obligations.UpdateAndSpdm : Prop :=
  (∀ (m : MctpReq) (s : State), Asked m s →
    (s.mgmt.updating = true ∨ s.mgmt.staging.isSome = true ∨ s.fwBusy = true →
      Completes (.requestupdate m) s (Answers 1 0x80 [] s)) ∧
    (s.mgmt.updating = false → s.mgmt.staging = none → s.fwBusy = false →
      Completes (.requestupdate m) s (fun t => t.mgmt.updating = true ∧ t.out.head? = some (.mctp 1 0 []) ∧ Kept s t)) ∧
    (∀ offset length last image progOk, s.mgmt.updating = false →
      Completes (.pldmFirmwareTransfer m offset length last image progOk) s (Answers 1 1 [] s)) ∧
    (∀ offset image, s.mgmt.updating = true → offset = 0 ∨ offset = s.stagedBytes → offset + 4096 ≤ 2 ^ 24 →
      Completes (.pldmFirmwareTransfer m offset 4096 false image true) s (fun t => t.stagedBytes = offset + 4096 ∧
        t.out.head? = some (.mctp 1 0 []) ∧ Kept s t)) ∧
    (∀ offset length i, s.mgmt.updating = true → offset = s.stagedBytes → 1 ≤ length → length ≤ 4096 → offset + length ≤ 2 ^ 24 →
      s.imageValid i = true → Completes (.pldmFirmwareTransfer m offset length true (some i) true) s (fun t =>
        t.mgmt.staged = true ∧ t.bankImage s.stageBank = some i ∧ t.out.head? = some (.mctp 1 0 []))) ∧
    (∀ offset length i, s.mgmt.updating = true → offset = s.stagedBytes → 1 ≤ length → length ≤ 4096 → offset + length ≤ 2 ^ 24 →
      s.imageValid i = false → Completes (.pldmFirmwareTransfer m offset length true (some i) true) s (fun t =>
        t.mgmt.staged = false ∧ t.out.head? = some (.mctp 1 1 []))) ∧
    (s.mgmt.updating = true → s.mgmt.staged = true → s.fwBusy = false → s.bootRec.seq + 1 < 2 ^ 32 →
      Completes (.activatefirmware m) s (fun t => t.bootRec.active = s.stageBank ∧ t.bootRec.trial = true ∧
        t.get mgtBase MGT_STATUS_MODE = 2 ∧ t.mgmt.services = false ∧ Kept s t)) ∧
    (s.mgmt.staged = false → Completes (.activatefirmware m) s (Answers 1 1 [] s)) ∧
    (∀ i, s.mgmt.running = some i → s.mgmt.staged = false →
      Completes (.getFirmwareParameters m) s (Answers 1 0 [0x000A, 0x0001, i.version, 0] s))) ∧
  (∀ (m : MctpReq) (s : State), Asked m s →
    (s.identity = false → ∀ c ∈ ([.getVersion m, .getCapabilities m, .getDigests m, .challenge m 0 0] : List Instr),
      Completes c s (Answers 5 0x05 [] s)) ∧
    (s.identity = true →
      Completes (.getVersion m) s (fun t => t.mgmt.spdm = 1 ∧ t.out.head? = some (.mctp 5 0 [0x1200]) ∧ Kept s t) ∧
      (s.mgmt.spdm = 0 → Completes (.getCapabilities m) s (Answers 5 0x04 [] s)) ∧
      (1 ≤ s.mgmt.spdm → Completes (.getCapabilities m) s (fun t => t.mgmt.spdm = 2 ∧ Kept s t)) ∧
      (2 ≤ s.mgmt.spdm → Completes (.negotiateAlgorithms m true) s (fun t => t.mgmt.spdm = 3 ∧ Kept s t) ∧
        Completes (.negotiateAlgorithms m false) s (Answers 5 0x01 [] s)) ∧
      (s.mgmt.spdm < 3 → ∀ c ∈ ([.getDigests m, .getCertificate m 0 0 0, .challenge m 0 0, .getMeasurements m 0 false 0] : List Instr),
        Completes c s (Answers 5 0x04 [] s)) ∧
      (3 ≤ s.mgmt.spdm →
        Completes (.getDigests m) s (Answers 5 0 [1, certDigest] s) ∧
        (∀ offset length, offset < certBytes.length → Completes (.getCertificate m 0 offset length) s
          (Answers 5 0 ([((certBytes.drop offset).take length).length,
            certBytes.length - offset - ((certBytes.drop offset).take length).length] ++ (certBytes.drop offset).take length) s)) ∧
        (∀ slot offset length, slot ≠ 0 → Completes (.getCertificate m slot offset length) s (Answers 5 0x01 [] s)) ∧
        (∀ tr, Completes (.challenge m 0 tr) s (fun t => t.fresh = s.fresh + 1 ∧ Kept s t ∧ t.out.head? =
          some (.mctp 5 0 [certDigest, (Config.sign tr s.fresh).toNat / 2 ^ 384, (Config.sign tr s.fresh).toNat % 2 ^ 384]))) ∧
        (∀ i tr, 1 ≤ i → i ≤ 6 → Completes (.getMeasurements m i false tr) s (Answers 5 0 [s.measurement i] s)) ∧
        (∀ tr, Completes (.getMeasurements m 0 false tr) s (Answers 5 0 [6] s)) ∧
        (∀ i signed tr, 6 < i → i ≠ 255 → Completes (.getMeasurements m i signed tr) s (Answers 5 0x01 [] s)))))

/-- R370, R381, R366, R401, Table MGT-8: the vendor commands: the calibration set is read and replaced whole once its CRC checks; log
entries from a number on; the commit; register reads and writes; and the restart out of thermal shutdown below 80 degrees. -/
def Obligations.VendorCommands : Prop :=
  ∀ (m : MctpReq) (s : State),
    (Asked m s →
      (∀ offset length, length ≤ 1024 → offset + length ≤ 65536 → Completes (.calExport m offset length) s
        (Answers 0x7E 0 ((upto length).map (fun i => (s.calByte (offset + i)).toNat)) s)) ∧
      (∀ offset length, 1024 < length ∨ 65536 < offset + length → Completes (.calExport m offset length) s (Answers 0x7E 2 [] s)) ∧
      (∀ offset bytes last, m.binding = 2 ∨ s.lifeCycle = 0 ∨ 3 < s.lifeCycle →
        Completes (.calImport m offset bytes last) s (Answers 0x7E 3 [] s)) ∧
      (∀ offset bytes, m.binding < 2 → 1 ≤ s.lifeCycle → s.lifeCycle ≤ 3 → bytes.length ≤ 1024 → offset + bytes.length ≤ 65536 →
        Completes (.calImport m offset bytes false) s (fun t => t.flash.cal = s.flash.cal ∧ Kept s t ∧
          t.out.head? = some (.mctp 0x7E 0 []) ∧ ∃ now, t.flash.calNew = some now ∧
          ∀ i (h : i < bytes.length), Sparse.get calFactory now (offset + i) = bytes[i])) ∧
      (m.binding < 2 → 1 ≤ s.lifeCycle → s.lifeCycle ≤ 3 → s.flash.calNew.isSome = true → ∀ now, s.flash.calNew = some now →
        (calChecks now = true → Completes (.calImport m 0 [] true) s (fun t => t.flash.cal = now ∧ t.flash.calGood = true ∧
          t.flash.calNew = none)) ∧
        (calChecks now = false → Completes (.calImport m 0 [] true) s (fun t => t.flash.cal = s.flash.cal ∧
          t.flash.calNew = none ∧ t.out.head? = some (.mctp 0x7E 2 [])))) ∧
      (∀ first count, 15 < count → Completes (.logRead m first count) s (Answers 0x7E 2 [] s)) ∧
      (∀ first count, count ≤ 15 → Completes (.logRead m first count) s (Answers 0x7E 0
        ((((s.flash.log ++ s.flash.ram).filter (fun e => first ≤ e.seq)).take count).flatMap
          (fun e => [e.seq, e.boots, e.kind] ++ e.words)) s)) ∧
      (∀ short, (s.fwBusy = true ∨ s.mgmt.updating = true → Completes (.fwCommitVendor m short) s (Answers 0x7E 4 [] s)) ∧
        (s.fwBusy = false → s.mgmt.updating = false → s.mayCommit = false →
          Completes (.fwCommitVendor m short) s (Answers 0x7E 3 [] s)) ∧
        (s.fwBusy = false → s.mgmt.updating = false → s.mayCommit = true → Completes (.fwCommitVendor m short) s (fun t =>
          t.out.head? = some (.mctp 0x7E 0 [t.arbCount]) ∧ t.mgmt.activated = false ∧ t.arb &&& s.arb = s.arb))) ∧
      (∀ o, o % 4 ≠ 0 ∨ 2 ^ 24 ≤ o → Completes (.regRead m o) s (Answers 0x7E 2 [] s)) ∧
      (∀ o r, regAt o = some (r, o) → r.wide = false → o % 4 = 0 → o < 2 ^ 24 → o ≠ 0x20030 → Writable .mctp o s →
        Completes (.regRead m o) s (Answers 0x7E 0 [(BitVec.ofNat 32 ((askPll s).regShown (s.path (pathNum .mctp))
          ((Config.freeWord s.fresh).getLsbD 0) o)).toNat] s)) ∧
      (∀ o v, m.binding = 2 → Completes (.regWrite m o v) s (Answers 0x7E 3 [] s)) ∧
      (∀ v r, m.binding < 2 → Writable .mctp 0x20000 s → regAt 0x20000 = some (r, 0x20000) →
        Completes (.regWrite m 0x20000 v) s (fun t => Kept s t ∧ t.out.head? = some (.mctp 0x7E 0 []) ∧
          t.reg 0x20000 = r.written s.locked (s.reg 0x20000) (v.zeroExtend 64))) ∧
      Completes (.thermalRestart m) s (Answers 0x7E 3 [] s)) ∧
    (s.pkgMode.mode = .shutdown → s.flt.lockedDown = false → m.binding = 0 →
      ((∀ e ∈ s.sensors, e.2.reading < 640) → Completes (.thermalRestart m) s (fun t => t.pkgMode.mode = .rails ∧
        t.pkgMode.railEn = true ∧ t.pkgMode.thermtrip = false ∧ t.us = s.us)) ∧
      ((∃ e ∈ s.sensors, 640 ≤ e.2.reading) → exec (.thermalRestart m) s = .next (s.emit (.mctp 0x7E 3 []))))

/-- R267, R391, Tables PWR-2 and CMD-8: what asks for a tier state. TIER_SLEEP and TIER_WAKE between T0 and T1 are executed at once with the
state reached as RESULT, and one for T2 waits for the entry; PWR_TIER_CTL asks the same; the idle timers act in an idle tier. -/
def Obligations.TierStateRequests : Prop :=
  (∀ (d : DescRef) (t st : Nat) (f : Fetched) (s : State), s.ready d 0x0800 [(8, 1, t), (9, 1, st)] = some f →
    (s.nTiers ≤ t ∨ 3 < st ∨ st = 0 → Completes (.tierSleep d t st) s (Done d 0x02 0 s)) ∧
    (t < s.nTiers → st = 3 → (s.tier t).power ≠ 3 → s.tierInUse t = true → Completes (.tierSleep d t st) s (fun u =>
      Done d 0x0D 0 s u ∧ u.tiers = s.tiers)) ∧
    (t < s.nTiers → st = 2 → s.jetHalted t = true → Completes (.tierSleep d t st) s (Done d 0x0D 0 s)) ∧
    (t < s.nTiers → 1 ≤ st → st ≤ 2 → s.jetHalted t = false → (s.tier t).power = st → s.reqOf t = none →
      Completes (.tierSleep d t st) s (fun u => Done d 0 st s u ∧ u.tiers = s.tiers)) ∧
    (t < s.nTiers → st = 1 → (s.tier t).power = 0 → s.reqOf t = none → Completes (.tierSleep d t st) s (fun u =>
      Done d 0 1 s u ∧ (u.tier t).power = 1 ∧ Kept s u)) ∧
    (t < s.nTiers → st = 2 → s.jetHalted t = false → (s.tier t).power ≤ 1 → s.reqOf t = none →
      Completes (.tierSleep d t st) s (fun u => Waits d s u ∧ u.tierReqs = s.tierReqs ++ [{ tier := t, target := 2, desc := some d }] ∧
        u.tiers = s.tiers))) ∧
  (∀ (d : DescRef) (t : Nat) (f : Fetched) (s : State), s.ready d 0x0801 [(8, 1, t)] = some f →
    (s.nTiers ≤ t → Completes (.tierWake d t) s (Done d 0x02 0 s)) ∧
    (t < s.nTiers → s.reqOf t = none →
      ((s.tier t).power = 0 → Completes (.tierWake d t) s (fun u => Done d 0 0 s u ∧ (u.tier t).power = 0)) ∧
      ((s.tier t).power = 1 → Completes (.tierWake d t) s (fun u => (∃ r, Done d 0 r s u) ∧ (u.tier t).power = 0 ∧ Kept s u)) ∧
      (2 ≤ (s.tier t).power → Completes (.tierWake d t) s (fun u => Waits d s u ∧ u.tiers = s.tiers ∧
        u.tierReqs = s.tierReqs ++ [{ tier := t, target := 0, desc := some d, wake := true }])))) ∧
  (∀ (d : DescRef) (t mask op : Nat) (f : Fetched) (s : State), s.ready d 0x0802 [(8, 1, t), (9, 1, mask), (10, 1, op)] = some f →
    (s.nTiers ≤ t ∨ 15 < mask ∨ 3 < op → Completes (.oppointSet d t mask op) s (fun u => Done d 0x02 0 s u ∧ u.chans = s.chans)) ∧
    (t < s.nTiers → mask ≤ 15 → op ≤ 3 → Completes (.oppointSet d t mask op) s (fun u =>
      (∀ c, c < 4 → bitAt mask c = true → (u.chan t c).reqPolicy = some op) ∧ u.ctxs = s.ctxs ∧ u.exts = s.exts))) ∧
  (∀ (path : Path) (v : Word) (s : State), Writable path (pwrBase + 8) s → v.getLsbD 31 = true →
    let t := bitsAt v.toNat 10 8
    let st := bitsAt v.toNat 1 0
    (s.nTiers ≤ t → Completes (.pwrTierCtlGo path v) s (fun u => u.flag pwrBase PWR_STATUS_REFUSED = true ∧ u.tiers = s.tiers ∧
      Kept s u)) ∧
    (t < s.nTiers → st = 1 → (s.tier t).power = 0 → s.reqOf t = none → Completes (.pwrTierCtlGo path v) s (fun u =>
      (u.tier t).power = 1 ∧ Kept s u)) ∧
    (t < s.nTiers → st = 2 → s.jetHalted t = false → (s.tier t).power ≤ 1 → s.reqOf t = none →
      Completes (.pwrTierCtlGo path v) s (fun u => u.tierReqs = s.tierReqs ++ [{ tier := t, target := 2 }] ∧ u.tiers = s.tiers))) ∧
  (∀ (t : Nat) (s : State), t < s.nTiers →
    ((s.tier t).power = 0 → bitAt (s.get pwrBase PWR_AUTO_AUTO_T1) t = true → s.get pwrBase PWR_CFG_T1_IDLE ≠ 0 →
      s.tierIdle t (s.get pwrBase PWR_CFG_T1_IDLE) = true →
      Completes (.t1IdleExpiry t) s (fun u => (u.tier t).power = 1 ∧ u = { s with tiers := u.tiers, jets := u.jets } ∧
        ∀ j, j < 16 → s.pieceOf t j = none → (u.jet t j).gated = true)) ∧
    (bitAt (s.get pwrBase PWR_AUTO_AUTO_T1) t = false → exec (.t1IdleExpiry t) s = .next s) ∧
    ((s.tier t).power ≤ 1 → bitAt (s.get pwrBase PWR_AUTO_AUTO_T2) t = true → s.get pwrBase PWR_CFG_T2_IDLE ≠ 0 →
      s.tierIdle t (s.get pwrBase PWR_CFG_T2_IDLE * 10000) = true → s.jetHalted t = false →
      exec (.t2IdleExpiry t) s = .next { s with tierReqs := s.tierReqs ++ [{ tier := t, target := 2 }] }) ∧
    (s.jetHalted t = true → exec (.t2IdleExpiry t) s = .next s))

/-- R388-R391, Tables PWR-3 and PWR-4: entry to T2 and T3, the wakes from them, the update log of T2 and a PLL that does not lock. A tier in
use refuses T3; a wake takes the tier to T0 and shows its time; a tier whose PLL fails stays where it was. -/
def Obligations.TierSleepAndWake : Prop :=
  (∀ (t : Nat) (r : TierReq) (s : State), t < 8 → s.reqOf t = some r → r.desc = none → r.target = 2 → (s.tier t).power ≤ 1 →
    (∀ p ∈ s.pieces, ¬(p.tier = t ∧ p.jet.isSome = true)) → (s.tier t).portReset = false → (s.tier t).engReset = false →
    s.reacting = false → s.changeFree t = true → Completes (.tierT2Entry t) s (fun u => (u.tier t).power = 2 ∧
      u.tierReqs = s.tierReqs.erase r ∧ (∀ j, j < 16 → u.flag (bsnBase t j) BSN_SLICE_STATUS_SR = true) ∧
      u.ctxs = s.ctxs ∧ u.exts = s.exts ∧ u.valid = s.valid ∧ u.alloc = s.alloc ∧ u.keys = s.keys)) ∧
  (∀ (t : Nat) (s : State), s.reqOf t = none → exec (.tierT2Entry t) s = .next s ∧ exec (.tierT3Entry t) s = .next s) ∧
  (∀ (t us : Nat) (s : State), t < 8 → (s.tier t).power = 2 → Sparse.get (fun _ => false) s.wakeReq t = true → s.refPresent = true →
    s.reacting = false → s.reqOf t = none → (∀ r ∈ s.held, ¬(r.tier = t ∧ r.why = .tierAsleep)) →
    Completes (.tierT2Wake t us) s (fun u => (u.tier t).power = 0 ∧ Sparse.get (fun _ => 0) u.updateLog t = 0 ∧
      Sparse.get (fun _ => false) u.wakeReq t = false ∧ u.reg (pwrBase + 0x3C) = BitVec.ofNat 64 (us % 2 ^ 32) ∧
      (∀ j, j < 16 → u.flag (bsnBase t j) BSN_SLICE_STATUS_SR = false) ∧ u.cistern = s.cistern ∧ u.ctxs = s.ctxs ∧
      u.exts = s.exts ∧ u.keys = s.keys)) ∧
  (∀ (t us : Nat) (s : State), s.refPresent = false ∨ (s.tier t).power ≠ 2 → exec (.tierT2Wake t us) s = .next s) ∧
  (∀ (t : Nat) (s : State), (s.tier t).power = 2 → Sparse.get (fun _ => 0) s.updateLog t = 4096 →
    exec (.t2UpdateLogFull t) s = .next { s with updateLog := Sparse.set (fun _ => 0) s.updateLog t 0 }) ∧
  (∀ (t : Nat) (r : TierReq) (s : State), t < 8 → s.reqOf t = some r → r.desc = none → r.target = 3 → (s.tier t).power ≠ 3 →
    (∀ p ∈ s.pieces, p.tier ≠ t) → (s.tier t).portReset = false → (s.tier t).engReset = false → s.reacting = false →
    (∀ c ∈ s.clears, c.tier ≠ t) → s.changeFree t = true →
    (s.tierInUse t = true → Completes (.tierT3Entry t) s (fun u => u.tierReqs = s.tierReqs.erase r ∧ u.tiers = s.tiers ∧
      u.flag pwrBase PWR_STATUS_REFUSED = true ∧ Kept s u)) ∧
    (s.tierInUse t = false → Completes (.tierT3Entry t) s (fun u => (u.tier t).power = 3 ∧ u.tierReqs = s.tierReqs.erase r ∧
      (∀ j n, (u.slice t j).set n = [] ∨ 16 ≤ j) ∧ u.ctxs = s.ctxs ∧ u.exts = s.exts ∧ u.keys = s.keys))) ∧
  (∀ (t us : Nat) (fx : Restart) (r : TierReq) (s : State), t < 8 → (s.tier t).power = 3 → s.tierReqs = [r] → r.tier = t →
    r.target = 0 → r.desc = none → s.refPresent = true → s.reacting = false → s.migrations = [] →
    Completes (.tierT3Exit t us fx) s (fun u => (u.tier t).power = 0 ∧ u.get glbBase GLB_RESET_CAUSE_CAUSE = 7 ∧
      u.get glbBase GLB_RESET_CAUSE_TIER = t ∧ u.tierReqs = [] ∧ u.reg (pwrBase + 0x3C) = BitVec.ofNat 64 (us % 2 ^ 32))) ∧
  (∀ (t : Nat) (s : State), (s.tier t).power = 2 → Sparse.get (fun _ => false) s.wakeReq t = true → s.reqOf t = none →
    s.reacting = false → Completes (.tierPllLockFail t) s (fun u => (u.tier t).power = 2 ∧ (u.tier t).pllFail = true ∧
      u.flag pwrBase PWR_STATUS_PLL_FAIL = true ∧ Kept s u ∧ u.held = s.held)) ∧
  (∀ (t : Nat) (s : State), (s.tier t).power < 2 → exec (.tierPllLockFail t) s = .next s)

/-- R385, R386, R392, R447: the time base's sources and P4. The loss of the reference is shown and raised; P4 is entered only with every
tier in T3 and drops RAIL_EN; an enabled wake cause raises it again, and rails that do not come back in time return the package to P4.
R394-R400: heat. A round of sensors that all read alike, below Warm, shows that temperature in every zone; the fourth round at the trip
threshold trips the package; a trip zeroises the keys, loses memory and asserts THERMTRIP_N, once; the ladder lowers L by one step on a rise
of STEP_DELTA; the thermal interrupt is sent at most once in 10 ms. -/
def Obligations.ClocksAndHeat : Prop :=
  ((∀ (s : State), s.refPresent = true → Completes .referenceClockLost s (fun t => t.refPresent = false ∧ t.frac = 0 ∧ t.us = s.us ∧
    t.flag pwrBase PWR_STATUS_REF_LOST = true ∧ Kept s t)) ∧
  (∀ (s : State), s.refPresent = false → exec .referenceClockLost s = .next s) ∧
  (∀ (s : State), exec .referenceClockReturn s = .next { s with refPresent := true, frac := 0 }) ∧
  (∀ (s : State), exec .oscillatorStart s = .next { s with xtalRunning := true }) ∧
  (∀ (path : Path) (v : Word) (s : State), Writable path (pwrBase + 0x10) s → v.getLsbD 0 = true →
    (s.inP3 = false → Completes (.p4Req path v) s (fun t => t.flag pwrBase PWR_STATUS_REFUSED = true ∧ t.pkgMode = s.pkgMode ∧
      Kept s t)) ∧
    (s.inP3 = true → Completes (.p4Req path v) s (fun t => t.pkgMode.mode = .aon ∧ t.pkgMode.railEn = false ∧
      t.pkgMode.asleep = true ∧ t.mgmt.services = false ∧ (∀ u c, (t.chan u c).trained = 0) ∧ t.cistern = s.cistern ∧
      t.ctxs = s.ctxs ∧ t.exts = s.exts ∧ t.keys = s.keys))) ∧
  (∀ (cause : Nat) (s : State), s.pkgMode.mode = .aon → s.pkgMode.asleep = true → s.pkgMode.porstLow = none →
    (cause < 2 → s.regBit (pwrBase + 0x14) cause = true → s.pkgMode.attempts = 0 → Completes (.wakeCause cause) s (fun t =>
      t.pkgMode.mode = .rails ∧ t.pkgMode.waking = true ∧ t.pkgMode.asleep = false ∧ t.pkgMode.railEn = true ∧
      t.pkgMode.railAt = s.us ∧ Kept s t)) ∧
    (cause < 2 → s.regBit (pwrBase + 0x14) cause = false → exec (.wakeCause cause) s = .next s) ∧
    Completes (.wakeCause 2) s (fun t => t.pkgMode.mode = .shutdown)) ∧
  (∀ (s : State), s.pkgMode.mode = .rails → s.pkgMode.waking = true →
    Completes (.p4WakeRailCheck false) s (fun t => t.pkgMode.mode = .aon ∧ t.pkgMode.asleep = true ∧ t.pkgMode.waking = false ∧
      t.pkgMode.railEn = false ∧ t.flag pwrBase PWR_STATUS_WAKE_FAIL = true ∧ Kept s t) ∧
    Completes (.p4WakeRailCheck true) s (fun t => t.pkgMode.mode = .up ∧ t.pkgMode.waking = false ∧
      t.flag pwrBase PWR_STATUS_P4_WAKE = true))) ∧
  (let tripped := fun (t : State) => t.pkgMode.mode = .shutdown ∧ t.pkgMode.tripped = true ∧ t.pkgMode.thermtrip = true ∧
    t.pkgMode.sysReady = false ∧ t.keys = [] ∧ t.cistern = [] ∧ t.slices = [] ∧ t.held = [] ∧ t.mgmt.services = false
  (∀ (t : Nat) (x : Int) (s : State), t < s.nTiers → t < 8 → s.pkgMode.mode = .up → (∀ k, k < 16 → (s.sensor t k).suspect = false) →
    (x < 680 → (s.tierHeat t).warnSince = none → (∀ z, z < 3 → s.zoneState t z = 0 ∧
      (s.zoneOf t z).crossed = [false, false, false, false, false] ∧ (s.zoneOf t z).run = [0, 0, 0, 0, 0]) →
      Completes (.sensorSample t (List.replicate 16 x)) s (fun u => (∀ k, k < 16 → (u.sensor t k).reading = x) ∧
        (∀ z, z < 3 → (u.zoneOf t z).temp = x ∧ u.zoneState t z = 0) ∧ u.pkgMode = s.pkgMode ∧ Kept s u)) ∧
    (880 ≤ x → (∀ z, z < 3 → s.zoneState t z = 3 ∧ (s.zoneOf t z).crossed = [true, true, true, true, false] ∧
      (s.zoneOf t z).run = [0, 0, 0, 0, 3]) →
      Completes (.sensorSample t (List.replicate 16 x)) s tripped)) ∧
  (∀ (t : Nat) (readings : List Int) (s : State), readings.length ≠ 16 ∨ s.nTiers ≤ t →
    exec (.sensorSample t readings) s = .next s) ∧
  (∀ (t w : Nat) (b : Int) (s : State), t < 8 → (s.tierHeat t).warnSince = some w → (s.tierHeat t).base = some b →
    s.pkgMode.mode = .up → w + s.grace ≤ s.us → (s.tierHeat t).baseAt + 10000 ≤ s.us →
    Completes (.thermalLadderTest t) s (fun u => (u.tierHeat t).base = some (s.hottestZone t) ∧ (u.tierHeat t).baseAt = s.us ∧
      u.flag (thmBase + 4 * t) THM_ZONE_GRACE = false ∧ Kept s u ∧
      u.get (thmBase + 4 * t) THM_ZONE_L = (if ((max 1 (s.get thmBase THM_CFG_STEP_DELTA) : Nat) : Int) ≤ s.hottestZone t - b
        then max 1 (s.get (thmBase + 4 * t) THM_ZONE_L - 1) else s.get (thmBase + 4 * t) THM_ZONE_L))) ∧
  (∀ (t : Nat) (s : State), (s.tierHeat t).warnSince = none → exec (.thermalLadderTest t) s = .next s) ∧
  (∀ (s : State), s.thmMsixPending = true → s.reacting = false →
    ((∀ a, s.thmMsixLast = some a → a + 10000 ≤ s.us) → Completes .thermalMsix s (fun t =>
      t = { s with thmMsixPending := false, thmMsixLast := some s.us, out := t.out } ∧
      ∀ p ∈ s.controlPorts, Output.msix p 1 (s.get thmBase THM_CFG_VEC) ∈ t.out)) ∧
    (∀ a, s.thmMsixLast = some a → s.us < a + 10000 → exec .thermalMsix s = .next s)) ∧
  (∀ (s : State), s.pkgMode.mode ≠ .shutdown → Completes .thermalTrip s (fun t => tripped t ∧ t.us = s.us ∧ t.fuses = s.fuses)) ∧
  (∀ (s : State), s.pkgMode.mode = .shutdown → exec .thermalTrip s = .next s) ∧
  (∀ (t k : Nat) (s : State), t < s.nTiers → k < 16 →
    ((s.sensor t k).suspect = true → exec (.tripComparator t k) s = .next s) ∧
    ((s.sensor t k).suspect = false → s.pkgMode.mode ≠ .shutdown → Completes (.tripComparator t k) s tripped)))

/-- R404-R415, Tables OTP-1, OTP-5 and OTP-11: programming the fuses. A WRITE is checked in the order reserved, state and locks, blank,
precondition, condition, and writes one word; GEN_SECRET writes the four words of the owner secret; ADVANCE takes the life cycle to its next
state. A word once written is not written again. The monitor's finding of a changed word is a Lockdown. -/
def Obligations.FuseProgramming : Prop :=
  let ends := fun (code : Nat) (t : State) => t.flag otpBase OTP_PROG_RESULT_BUSY = false ∧ t.get otpBase OTP_PROG_RESULT_CODE = code
  (∀ (sense : Nat) (s : State), s.progRuns 0 = true →
    let n := s.get otpBase OTP_PROG_ADDR_WORD
    let v := s.reg (otpBase + 0x108)
    let refused := fun (code : Nat) => Completes (.otpWrite sense) s (fun t => ends code t ∧ t.fuses = s.fuses ∧
      OnlyRegs (· = otpBase + 0x114) s t)
    (s.writable n = none → refused 2) ∧ (s.writable n = some false → refused 1) ∧
    (s.writable n = some true → isMark n = true → v ≠ markValue n → refused 1) ∧
    (s.writable n = some true → s.pkgMode.scan = false → isMark n = false ∨ v = markValue n →
      ((s.fuse n).written = true → refused 3) ∧
      ((s.fuse n).written = false → (s.fuse n).destroyed = false →
        (s.precondition n = false → refused 6) ∧
        (s.precondition n = true → s.fuseCondition = false → refused 5) ∧
        (s.precondition n = true → s.fuseCondition = true →
          (sense = 0 → Completes (.otpWrite sense) s (fun t => ends 0 t ∧ t.fuse n = { written := true, data := v } ∧
            (∀ i, i ≠ n → t.fuse i = s.fuse i) ∧ t.arb = s.arb)) ∧
          (sense ≠ 0 → Completes (.otpWrite sense) s (fun t => ends 4 t ∧ (t.fuse n).data = v ∧ t.regBit (otpBase + 0x128) 0 = true ∧
            (∀ i, i ≠ n → t.fuse i = s.fuse i))))))) ∧
  (∀ (sense : Nat) (s : State), s.progRuns 0 = false → exec (.otpWrite sense) s = .next s) ∧
  (∀ (sense : Nat) (s : State), s.progRuns 1 = true →
    (s.lifeCycle ≠ 2 → s.lifeCycle ≠ 3 → Completes (.genSecret sense) s (fun t => ends 1 t ∧ t.fuses = s.fuses)) ∧
    (s.lifeCycle = 2 → s.pkgMode.scan = false → (∀ i, i < 4 → (s.fuse (104 + i)).written = false ∧ (s.fuse (104 + i)).destroyed = false) →
      s.fuseCondition = true → Completes (.genSecret 0) s (fun t => ends 0 t ∧ (∀ i, i < 4 → (t.fuse (104 + i)).written = true) ∧
        (∀ i, i < 104 ∨ 107 < i → t.fuse i = s.fuse i)))) ∧
  (∀ (sense : Nat) (s : State), s.progRuns 2 = true →
    (s.lifeCycle = 5 → Completes (.advance sense) s (fun t => ends 1 t ∧ t.fuses = s.fuses)) ∧
    (s.lifeCycle < 5 → s.deployedOk = true → s.pkgMode.scan = false →
      (s.advanceOk (s.lifeCycle + 1) = false → Completes (.advance sense) s (fun t => ends 6 t ∧ t.fuses = s.fuses)) ∧
      (s.advanceOk (s.lifeCycle + 1) = true → s.fuseCondition = true → Completes (.advance 0) s (fun t => ends 0 t ∧
        t.lifeCycle = s.lifeCycle + 1 ∧ (s.lifeCycle = 3 → t.ownerLive = false) ∧ (s.lifeCycle = 4 → t.identity = false) ∧
        ∀ i, i < 96 → i ≠ 8 + s.lifeCycle → t.fuse i = s.fuse i)))) ∧
  (∀ (reads : List (Nat × Option (BitVec 64))) (s : State),
    ((∀ r ∈ reads, isCritical r.1 = true → r.2 = some (s.fuse r.1).data) → exec (.trustMonitorReread reads) s = .next s) ∧
    (∀ r ∈ reads, isCritical r.1 = true → (s.fuse r.1).sense = 0 → (s.fuse r.1).destroyed = false → r.2 ≠ some (s.fuse r.1).data →
      s.pkgMode.mode = .up → s.flt.reaction = .none → s.flt.queue.length < 64 → s.fltClass 2 5 = 5 →
      Completes (.trustMonitorReread reads) s (fun t => t.flt.reaction = .lockdown s.flt.nextRec ∧
        t.regBit (otpBase + 0x128) 1 = true)))

/-- R418-R424, R433, Table DBG-1: the TAP. A reset selects IDCODE and clears DIE_CFG; IDCODE answers even when locked down; a pin-driving
instruction outside scan mode, and any other under Lockdown, acts as BYPASS and is shown as REFUSED; unlisted codes act as BYPASS.
R426-R428: unlocking. A nonce is issued unless the module is in back-off; a response under a fresh nonce, signed by the key of the life
cycle, unlocks; any other is counted as refused and begins 10 s of back-off; a relock ends the unlock and runs halted harts again. -/
def Obligations.TapAndUnlocking : Prop :=
  ((∀ (s : State), s.tapPowered = false → ∀ c ∈ ([.tapReset, .idcode, .samplePreload 0 0, .extest 0 0, .extestPulse 0 0, .extestTrain 0 0,
    .clamp, .highz, .dtmcs 0, .dmi 0 0 0, .dieCfg 0, .dieScan 0 0, .bypass 0] : List Instr), exec c s = .next s) ∧
  (∀ (s : State), s.tapPowered = true →
    exec .tapReset s = .next { s with dbg := { s.dbg with ir := 1, dieCfg := 0 } } ∧
    Completes .idcode s (fun t => t.dbg = { s.dbg with ir := 0x01 } ∧ t.out.head? =
      some (.tdo 32 ((2 ^ 28 + 0xD808 * 2 ^ 12 + Config.jedecMfr.toNat * 2 + 1) % 2 ^ 32))) ∧
    (∀ code, code ∉ [0x01, 0x02, 0x03, 0x04, 0x05, 0x06, 0x07, 0x10, 0x11, 0x20, 0x21] →
      exec (.bypass code) s = .next (({ s with dbg := { s.dbg with ir := 0xFF } }).emit (.tdo 1 0))) ∧
    (∀ captured shifted c, c ∈ ([.extest captured shifted, .extestPulse captured shifted, .extestTrain captured shifted, .clamp, .highz,
        .dieScan captured shifted] : List Instr) →
      s.pkgMode.scan = false ∨ s.scanOpen = false ∨ s.flt.lockedDown = true →
      Completes c s (fun t => t.flag dbgBase DBG_STATUS_REFUSED = true ∧ t.dbg = { s.dbg with ir := 0xFF } ∧
        t.out.head? = some (.tdo 1 0))) ∧
    (∀ captured shifted a v op w x, s.flt.lockedDown = true → ∀ c ∈ ([.samplePreload captured shifted, .dtmcs v, .dmi a w op, .dieCfg x] :
        List Instr), Completes c s (fun t => t.flag dbgBase DBG_STATUS_REFUSED = true ∧ t.dbg = { s.dbg with ir := 0xFF } ∧
        t.out.head? = some (.tdo 1 0))) ∧
    (s.flt.lockedDown = false →
      (∀ captured shifted, let n := Config.boundaryLength s.nTiers
        let shifts := fun (c : Instr) (code : Nat) => exec c s =
          .next (({ s with dbg := { s.dbg with ir := code, boundary := shifted % 2 ^ n } }).emit (.tdo n (captured % 2 ^ n)))
        shifts (.samplePreload captured shifted) 0x02 ∧
        (s.pkgMode.scan = true → s.scanOpen = true → shifts (.extest captured shifted) 0x03 ∧
          shifts (.extestPulse captured shifted) 0x04 ∧ shifts (.extestTrain captured shifted) 0x05 ∧
          exec .clamp s = .next (({ s with dbg := { s.dbg with ir := 0x06 } }).emit (.tdo 1 0)) ∧
          exec .highz s = .next (({ s with dbg := { s.dbg with ir := 0x07 } }).emit (.tdo 1 0)) ∧
          (s.dbg.dieCfg ≠ 0 → let w := Config.wrapperLength s.dbg.dieCfg
            exec (.dieScan captured shifted) s = .next (({ s with dbg := { s.dbg with ir := 0x21, wrapper := shifted % 2 ^ w } }).emit
              (.tdo w (captured % 2 ^ w)))) ∧
          (s.dbg.dieCfg = 0 → exec (.dieScan captured shifted) s = .next (({ s with dbg := { s.dbg with ir := 0xFF } }).emit
            (.tdo 1 0))))) ∧
      (∀ v : BitVec 32, Completes (.dtmcs v) s (fun t => t.dbg.ir = 0x10 ∧ t.dbg.dmiStat =
        (if v.getLsbD 16 || v.getLsbD 17 then 0 else s.dbg.dmiStat))) ∧
      (∀ v : BitVec 16, Completes (.dieCfg v) s (fun t => t.dbg.dieCfg = v &&& BitVec.ofNat 16 (2 ^ (2 * s.nTiers) - 1) ∧
        t.out.head? = some (.tdo 16 s.dbg.dieCfg.toNat)))))) ∧
  ((∀ (s : State), s.grottoRuns = true → s.authBusy = false →
    (s.inBackoff = true → exec .authdataNonceRequest s = .next { s with dbg := { s.dbg with nonce := none, nonceReads := 0, response := none } }) ∧
    (s.inBackoff = false → Completes .authdataNonceRequest s (fun t => (∃ n, t.dbg.nonce = some (n, s.us)) ∧ t.dbg.response = none ∧
      Kept s t)) ∧
    (∀ k sigOk,
      (s.responseOk k sigOk = true → Completes (.authdataResponse k sigOk) s (fun t => t.dbg.unlocked = true ∧ t.dbg.nonce = none ∧
        Kept s t)) ∧
      (s.responseOk k sigOk = false → Completes (.authdataResponse k sigOk) s (fun t => t.dbg.unlocked = s.dbg.unlocked ∧
        t.dbg.nonce = none ∧ t.refusals = min 8 (s.refusals + 1) ∧ t.dbg.backoffTill = some (s.us + 10000000) ∧ Kept s t)))) ∧
  (∀ (k : BitVec 384) (s : State), s.responseOk k false = false ∧ (s.dbg.nonce = none → s.responseOk k true = false)) ∧
  (∀ (s : State), s.grottoRuns = false → exec .authdataNonceRequest s = .next s) ∧
  (∀ (a : Nat) (s : State), s.dbg.backoffTill = some a →
    (a ≤ s.us → exec .unlockBackoffExpiry s = .next { s with dbg := { s.dbg with backoffTill := none } }) ∧
    (s.us < a → exec .unlockBackoffExpiry s = .next s)) ∧
  (∀ (path : Path) (v : Word) (s : State), Writable path (dbgBase + 0x4) s → v.getLsbD 0 = true → s.dbg.harts = [] →
    Completes (.relock path v) s (fun t => t.dbg = { s.dbg with unlocked := false } ∧ Kept s t)))

/-- R419, R425, R429-R432: the debug module. A closed module answers 0 and takes no write but to dmstatus and authdata; a halt request stops
a hart that answers, the management processor only in user mode outside BLANK; resume and single step run it; registers are accessed only in
a halted hart, and the system bus answers where the table opens the address. -/
def Obligations.DebugModule : Prop :=
  (∀ (a : Nat) (v : Word) (s : State), s.tapPowered = true → s.flt.lockedDown = false → s.authenticated = false → a < 128 → a ≠ 0x11 →
    a ≠ 0x30 → Completes (.dmi a v 1) s (fun t => t.dbg = { s.dbg with ir := 0x11, dmiAddr := a, dmiData := 0 }) ∧
      Completes (.dmi a v 2) s (fun t => t.dbg = { s.dbg with ir := 0x11, dmiAddr := a, dmiData := v })) ∧
  (∀ (v : Word) (s : State), s.tapPowered = true → s.flt.lockedDown = false → s.authenticated = true → s.dbg.active = true →
    Completes (.dmi 0x04 v 2) s (fun t => t.dbg.data0 = v) ∧
    Completes (.dmi 0x04 v 1) s (fun t => t.dbg.dmiData = s.dbg.data0)) ∧
  (∀ (h : Nat) (user : Bool) (s : State), s.hartReady h = true → (s.hart h).halted = false →
    (h ≠ 0 ∨ user = true ∨ s.lifeCycle = 0 → Completes (.hartHalt h user) s (fun t => (t.hart h).halted = true ∧
      (t.hart h).since = s.us ∧ Kept s t)) ∧
    (h = 0 → user = false → s.lifeCycle ≠ 0 → exec (.hartHalt h user) s = .next (s.setHart h { s.hart h with haltReq := true }))) ∧
  (∀ (h : Nat) (s : State), s.hartReady h = true → (s.hart h).halted = true →
    ((s.hart h).step = false → Completes (.hartResume h) s (fun t => (t.hart h).halted = false ∧ (t.hart h).resumeAck = true ∧
      Kept s t)) ∧
    Completes (.hartSingleStep h) s (fun t => (t.hart h).halted = true ∧ (t.hart h).step = true ∧ (t.hart h).resumeAck = true)) ∧
  (∀ (h : Nat) (s : State), s.hartReady h = false ∨ (s.hart h).halted = false → exec (.hartResume h) s = .next s ∧
    exec (.hartSingleStep h) s = .next s) ∧
  (∀ (h regno : Nat) (v : Word) (s : State), s.authenticated = true → s.dbg.cmderr = 0 →
    (s.hartReady h = false ∨ (s.hart h).halted = false → Completes (.accessRegister h regno false v) s (fun t =>
      t = { s with dbg := { s.dbg with cmderr := 4 } })) ∧
    (s.hartReady h = true → (s.hart h).halted = true → 0x1001 ≤ regno → regno < 0x1020 →
      Completes (.accessRegister h regno true v) s (fun t => t.hartReg h regno = v ∧ (t.hart h).halted = true) ∧
      Completes (.accessRegister h regno false v) s (fun t => t.dbg.data0 = s.hartReg h regno ∧
        t.out.head? = some (.tdo 32 (s.hartReg h regno).toNat)))) ∧
  (∀ (s : State), s.authenticated = true → s.mpPowered = true → Completes .ndmreset s (fun t => t.get mgtBase MGT_STATUS_MODE = 2 ∧
    t.mgmt.services = false ∧ Kept s t)) ∧
  (∀ (s : State), s.authenticated = false → exec .ndmreset s = .next s) ∧
  (∀ (h k : Nat) (user : Bool) (s : State), s.hartReady h = true → (s.hart h).halted = false → k < 4 →
    let x := (Sparse.get (fun _ => ((0x20000000 : Word), (0 : Word))) (s.hart h).triggers k).1.toNat
    (x % 8 ≠ 0 → bitAt x (if user then 3 else 6) = true → h ≠ 0 ∨ user = true ∨ s.lifeCycle = 0 →
      Completes (.triggerMatch h k user) s (fun t => (t.hart h).halted = true ∧ Kept s t)) ∧
    (x % 8 = 0 → exec (.triggerMatch h k user) s = .next s)) ∧
  (∀ (addr size : Nat) (v : Word) (s : State), s.authenticated = true → s.pkgMode.mode = .up → s.dbg.sberror = 0 →
    (size ≠ 4 → Completes (.systemBusAccess addr true size v) s (fun t => t = { s with dbg := { s.dbg with sberror := 4 } })) ∧
    (addr % 4 ≠ 0 → Completes (.systemBusAccess addr true 4 v) s (fun t => t = { s with dbg := { s.dbg with sberror := 3 } })) ∧
    (addr % 4 = 0 → s.busRegion addr = .denied → Completes (.systemBusAccess addr true 4 v) s (fun t =>
      t = { s with dbg := { s.dbg with sberror := 2 } })) ∧
    (addr % 4 = 0 → s.busRegion addr = .rom → Completes (.systemBusAccess addr false 4 v) s (fun t =>
      t.dbg = { s.dbg with sbData := Config.romWord (addr / 4) } ∧
      t.out.head? = some (.tdo 32 (Config.romWord (addr / 4)).toNat))) ∧
    (∀ r, addr = 0x40000000 + 0x20000 → s.busRegion addr = .bar0 → Writable .debugBus 0x20000 s → regAt 0x20000 = some (r, 0x20000) →
      Completes (.systemBusAccess addr true 4 v) s (fun t => Kept s t ∧
        t.reg 0x20000 = r.written s.locked (s.reg 0x20000) (v.zeroExtend 64))))

/-- R441-R444: rails and pins. RAIL_EN is released 2 ms after VDD_AON is good and 1 s after a failed attempt; the third failed attempt
leaves the package in P4; a rail out of its band raises its record once; the loss of the main rails zeroises the keys and keeps the time
base, the loss of VDD_AON nothing but fuses and flash; PORST_N acts from 1 ms, not at all below 100 us, and between them the run stops.
R457, Table RST-1: the power-on. It waits for the rails to stand for 1 ms, and for no PORST_N; with sound fuses, a bootable image and no
scan mode it ends with the wired features taken, key 0 drawn, Services running and SYS_READY high. -/
def Obligations.PowerOn : Prop :=
  ((∀ (s : State), s.pkgMode.mode = .aon → s.pkgMode.asleep = false → s.flt.lockedDown = false →
    let gap := if s.pkgMode.attempts = 0 then 2000 else 1000000
    (s.pkgMode.railAt + gap ≤ s.us → Completes .railEnRelease s (fun t => t.pkgMode.mode = .rails ∧ t.pkgMode.railEn = true ∧
      t.pkgMode.railAt = s.us ∧ t = { s with pkgMode := t.pkgMode, out := t.out })) ∧
    (s.us < s.pkgMode.railAt + gap → exec .railEnRelease s = .next s)) ∧
  (∀ (s : State), s.pkgMode.mode = .rails → s.pkgMode.waking = false → s.pkgMode.railAt + 100000 ≤ s.us →
    Completes .railToleranceTimeout s (fun t => t.pkgMode.mode = .aon ∧ t.pkgMode.railEn = false ∧
      t.pkgMode.attempts = min (s.pkgMode.attempts + 1) 3 ∧ t.pkgMode.asleep = decide (2 ≤ s.pkgMode.attempts) ∧
      (2 ≤ s.pkgMode.attempts → t.flag pwrBase PWR_STATUS_WAKE_FAIL = true) ∧ Kept s t)) ∧
  (∀ (rail : Nat) (s : State), rail ≤ 8 → s.pkgMode.mode = .up →
    (s.pkgMode.badRails.contains rail = false → Completes (.railOutOfBand rail false) s (fun t =>
      t.pkgMode.badRails = rail :: s.pkgMode.badRails ∧ t.flag (srcCfg 0x00F) FLT_SRC_STAT_LIVE = true ∧ Kept s t)) ∧
    Completes (.railOutOfBand rail true) s (fun t => t.pkgMode.badRails = s.pkgMode.badRails.erase rail ∧
      t.flag (srcCfg 0x00F) FLT_SRC_STAT_LIVE = decide (s.pkgMode.badRails.erase rail ≠ []) ∧ Kept s t)) ∧
  (∀ (s : State), s.pkgMode.mode = .up → s.flt.reaction = .none → s.flt.queue.length < 64 → s.fltClass 2 5 = 5 →
    Completes .voltageGlitch s (fun t => t.flt.reaction = .lockdown s.flt.nextRec ∧ Reports s t)) ∧
  (∀ (s : State), s.pkgMode.mode = .up → s.flt.lockedDown = false → Completes .mainRailLoss s (fun t => t.pkgMode.mode = .aon ∧
    t.pkgMode.railEn = false ∧ t.pkgMode.sysReady = false ∧ t.keys = [] ∧ t.cistern = [] ∧ t.ctxs = [] ∧ t.us = s.us ∧
    t.fuses = s.fuses ∧ t.arb = s.arb)) ∧
  (∀ (s : State), s.pkgMode.mode = .up → s.flt.lockedDown = true → Completes .mainRailLoss s (fun t => t.pkgMode.mode = .aon ∧
    t.flt.lockedDown = true ∧ t.pkgMode.railEn = false ∧ t.keys = [])) ∧
  (∀ (s : State), Completes .vddAonLoss s (fun t => t.us = 0 ∧ t.frac = 0 ∧ t.pkgMode.mode = .aon ∧ t.pkgMode.railEn = false ∧
    t.keys = [] ∧ t.cistern = [] ∧ t.ctxs = [] ∧ t.regs = [] ∧ t.fuses = s.fuses ∧ t.arb = s.arb ∧
    t.mgmt.bankA = s.mgmt.bankA ∧ t.mgmt.bankB = s.mgmt.bankB)) ∧
  (∀ (s : State), s.pkgMode.porstLow = none → exec .porstNFall s = .next { s with pkgMode := { s.pkgMode with porstLow := some s.us } } ∧
    exec .porstNRise s = .next s) ∧
  (∀ (a : Nat) (s : State), s.pkgMode.porstLow = some a →
    (s.us < a + 100 → exec .porstNRise s = .next { s with pkgMode := { s.pkgMode with porstLow := none } }) ∧
    (a + 100 ≤ s.us → s.us < a + 1000 → exec .porstNRise s = .fault .porstPulseUndefined) ∧
    (a + 1000 ≤ s.us → s.flt.lockedDown = true ∨ s.pkgMode.mode = .shutdown →
      exec .porstNRise s = .next { s with pkgMode := { s.pkgMode with porstLow := none } }) ∧
    (a + 1000 ≤ s.us → s.flt.lockedDown = false → s.pkgMode.mode ≠ .shutdown → Completes .porstNRise s (fun t =>
      t.pkgMode.sysReady = false ∧ t.pkgMode.porstLow = none ∧ t.us = s.us ∧ t.keys = [] ∧ t.cistern = [] ∧ t.fuses = s.fuses ∧
      (t.pkgMode.mode = .rails ↔ s.pkgMode.railEn = true))))) ∧
  ((∀ (f : PowerOnFacts) (s : State), s.pkgMode.mode ≠ .rails ∨ s.pkgMode.waking = true ∨ s.pkgMode.porstLow.isSome = true ∨
    s.us < s.pkgMode.railAt + 1000 ∨ f.cold = true → exec (.powerOn f) s = .next s) ∧
  (∀ (f : PowerOnFacts) (i : Image) (s : State), s.pkgMode.mode = .rails → s.pkgMode.waking = false → s.pkgMode.porstLow = none →
    s.pkgMode.railAt + 1000 ≤ s.us → f.cold = false → f.testLow = false → f.sense = [] → f.mpOk = true →
    (∀ e ∈ s.fuses, e.2.sense = 0) → Sparse.wf fuseFactory s.fuses = true → 1 ≤ s.lifeCycle → s.lifeCycle ≤ 4 → s.bootRec.trial = false → s.bootRec.active ≤ 1 →
    s.bankImage s.bootRec.active = some i → s.imageValid i = true → s.flash.sectors = [] → s.pkgMode.tripped = false →
    s.pool.inbox = [] → s.flt.lockedDown = false → (s.hart 0).halted = false → s.mgmt.activation = none → s.migrations = [] →
    Completes (.powerOn f) s (fun t => t.pkgMode.mode = .up ∧ t.pkgMode.sysReady = true ∧ t.mgmt.services = true ∧
      t.mgmt.running = some i ∧ t.mgmt.jetImage = some i ∧ t.key 0 ≠ none ∧ t.wired = s.wiredFrom ∧ t.fuses = s.fuses ∧
      t.arb = s.arb)))

/-- R460-R463, R465, Table RST-2: die resets. With its key a write of GLB_RESET_CTL resets a port die, an engine die or both and shows the
cause; without it nothing is reset. The port die returns with its ranks, its retained addresses marked and its contexts asked to freeze;
requests held past the limit complete with poison. -/
def Obligations.DieResets : Prop :=
  (∀ (path : Path) (v : Word) (confirmed : BitVec 4) (unissued : List (Nat × Nat)) (s : State), s.pathOpen path = true →
    (s.tier 0).portReset = false → s.migrations = [] →
    let t := bitsAt v.toNat 10 8
    let scope := bitsAt v.toNat 1 0
    let same := fun (u : State) => u.ctxs = s.ctxs ∧ u.exts = s.exts ∧ u.alloc = s.alloc ∧ u.keys = s.keys
    (bitsAt v.toNat 31 24 ≠ 0xA5 →
      (scope = 1 → Completes (.tierReset path v confirmed unissued) s (fun u => u.tiers = s.tiers ∧ Kept s u)) ∧
      (scope = 2 → Completes (.portDieReset path v confirmed unissued) s (fun u => u.tiers = s.tiers ∧ Kept s u)) ∧
      (scope = 3 → Completes (.engineDieReset path v) s (fun u => u.tiers = s.tiers ∧ Kept s u))) ∧
    (bitsAt v.toNat 31 24 = 0xA5 → t < s.nTiers → (s.tier t).power = 0 → (s.tier t).portReset = false → (s.tier t).engReset = false →
      let shows := fun (cause : Nat) (u : State) => u.get glbBase GLB_RESET_CAUSE_CAUSE = cause ∧
        u.get glbBase GLB_RESET_CAUSE_TIER = t ∧ (u.tier t).resetAt = s.us ∧ same u
      (scope = 1 → Completes (.tierReset path v confirmed unissued) s (fun u => (u.tier t).portReset = true ∧
        (u.tier t).engReset = true ∧ shows 7 u)) ∧
      (scope = 2 → Completes (.portDieReset path v confirmed unissued) s (fun u => (u.tier t).portReset = true ∧
        (u.tier t).engReset = false ∧ shows 8 u ∧ ∀ p ∈ s.portList, portTier p = t → u.ltssm p = 0)) ∧
      (scope = 3 → Completes (.engineDieReset path v) s (fun u => (u.tier t).portReset = false ∧ (u.tier t).engReset = true ∧
        shows 9 u ∧ ∀ r, portTier (s.ring r).dmaPort = t → (u.ring r).state = .absent)))) ∧
  (∀ (t : Nat) (f : Restart) (s : State), t < 8 →
    ((s.tier t).portReset = false ∨ (s.tier t).unconfirmed = true → exec (.portDieReturn t f) s = .next s) ∧
    ((s.tier t).portReset = true → (s.tier t).unconfirmed = false → s.reacting = false → (s.tier t).engReset = true →
      Completes (.portDieReturn t f) s (fun u => (u.tier t).portReset = false ∧ (∀ c, c < 4 → (u.chan t c).retained = []) ∧
        u.ctxs = s.ctxs ∧ u.exts = s.exts)) ∧
    ((s.tier t).portReset = true → (s.tier t).unconfirmed = false → s.reacting = false → (s.tier t).engReset = false →
      (s.tier t).freezeDue = true → (∀ r ∈ s.held, ¬(r.tier = t ∧ r.why = .dieReset)) →
      Completes (.portDieReturn t f) s (fun u => (u.tier t).portReset = false ∧
        ∀ e ∈ s.ctxs, e.2.state = .live → s.touches t e.1 = true → e.1 ∈ u.flt.freezes)) ∧
    ((s.tier t).engReset = false → exec (.engineDieReturn t f) s = .next s) ∧
    ((s.tier t).engReset = true → s.reacting = false → (s.tier t).portReset = true → s.migrations = [] →
      Completes (.engineDieReturn t f) s (fun u => (u.tier t).engReset = false ∧ u.ctxs = s.ctxs ∧ u.exts = s.exts ∧
        ∀ j, j < 16 → u.flag (bsnBase t j) BSN_SLICE_STATUS_SR = false))) ∧
  (∀ (t : Nat) (s : State), s.reacting = false → (s.tier t).portReset = true ∨ (s.tier t).engReset = true →
    (s.us < (s.tier t).resetAt + s.engHold → exec (.dieResetHoldExpiry t) s = .next s) ∧
    ((s.tier t).holdOver = false → (s.tier t).resetAt + s.engHold ≤ s.us → Completes (.dieResetHoldExpiry t) s (fun u =>
      (u.tier t).holdOver = true ∧ (∀ r ∈ u.held, ¬(r.tier = t ∧ r.why = .dieReset)) ∧ u.ctxs = s.ctxs ∧ u.exts = s.exts)))

/-- R350, R351: a Stop. Work in flight ends, victims return, ranks and basin go to self-refresh; SYS_READY falls for the warm reset, or,
when the last Stops came too close, the package halts with its ports disabled. R352, R353, Table FLT-8: a Lockdown. Every key is zeroised,
queued writes are discarded, the ports are down, Services is halted and a fuse request not yet written is ABORTED. R464, R467, Table CTX-5:
what follows a Stop or a reset. A cistern that is declared lost retires every entry that maps one of its extents; a warm recovery freezes
every LIVE and DRAINING context, forgets what was in flight and raises SYS_READY. -/
def Obligations.StopLockdownRecovery : Prop :=
  ((∀ (n t0 : Nat) (unissued : List (Nat × Nat × Nat)) (confirmed : BitVec 32) (s : State), s.flt.reaction = .stop n t0 →
    s.flt.stopped = false → s.flag fltBase FLT_STATUS_HALTED = false →
    (s.stopHalts t0 = false → Completes (.stop unissued confirmed) s (fun t => t.held = [] ∧ t.flt.stopped = true ∧
      t.pkgMode.sysReady = false ∧ t.get glbBase GLB_RESET_CAUSE_CAUSE = 4 ∧ t.flag fltBase FLT_STATUS_STOP_SEEN = true ∧
      (∀ p ∈ s.portList, t.ltssm p = 0) ∧ t.ctxs = s.ctxs ∧ t.exts = s.exts ∧ t.keys = s.keys)) ∧
    (s.stopHalts t0 = true → Completes (.stop unissued confirmed) s (fun t => t.held = [] ∧
      t.flag fltBase FLT_STATUS_HALTED = true ∧ t.pkgMode.sysReady = s.pkgMode.sysReady ∧ (∀ p ∈ s.portList, t.ltssm p = 8) ∧
      t.ctxs = s.ctxs ∧ t.exts = s.exts ∧ t.keys = s.keys))) ∧
  (∀ (unissued : List (Nat × Nat × Nat)) (confirmed : BitVec 32) (s : State), s.flt.reaction = .none →
    exec (.stop unissued confirmed) s = .next s)) ∧
  ((∀ (n : Nat) (s : State), s.flt.reaction = .lockdown n → s.flt.lockedDown = false → s.pkgMode.mode = .up →
    Completes .lockdown s (fun t => t.flt.lockedDown = true ∧ t.keys = [] ∧ (∀ u c, (t.chan u c).writes = []) ∧
      (∀ u j, (t.slice u j).victims = []) ∧ t.held = [] ∧ t.fetched = [] ∧ t.mgmt.services = false ∧
      t.get mgtBase MGT_STATUS_MODE = 4 ∧ t.pkgMode.sysReady = false ∧ t.dbg.unlocked = false ∧ t.fuses = s.fuses ∧
      t.cistern = s.cistern ∧ t.ctxs = s.ctxs ∧ (∀ p ∈ s.portList, t.reg (hptBase p + 8) = 0) ∧
      (s.flag otpBase OTP_PROG_RESULT_BUSY = true → t.flag otpBase OTP_PROG_RESULT_BUSY = false ∧
        t.get otpBase OTP_PROG_RESULT_CODE = 7))) ∧
  (∀ (s : State), s.flt.lockedDown = true ∨ s.flt.reaction = .none → exec .lockdown s = .next s)) ∧
  ((∀ (t : Nat) (s : State), (s.tier t).unconfirmed = false → exec (.cisternDeclaredLost t) s = .next s) ∧
  (∀ (t : Nat) (s : State), t < 8 → (s.tier t).unconfirmed = true → Completes (.cisternDeclaredLost t) s (fun u =>
    (u.tier t).lost = true ∧ (u.tier t).unconfirmed = false ∧ (∀ c, c < 4 → (u.chan t c).trained = 0) ∧ u.ctxs = s.ctxs ∧
    ∀ e idx c, e < 2 ^ 20 → s.allocBit t e = true → s.isSpare t e = false → s.withheld t e = false →
      (s.ext c idx).valid = true → (s.ext c idx).remote = false → (s.ext c idx).pen = s.pkg * 2 ^ 23 + t * 2 ^ 20 + e →
      (u.ext c idx).retired = true)) ∧
  (∀ (n t0 : Nat) (f : Restart) (s : State), s.flt.reaction = .stop n t0 → s.flt.stopped = true →
    (∀ t ∈ s.tierList, (s.tier t).unconfirmed = false) → s.migrations = [] → s.drains = [] →
    Completes (.warmRecovery f) s (fun t => t.flt.reaction = .none ∧ t.flt.stopped = false ∧ t.pkgMode.sysReady = true ∧
      t.flt.recoveries = s.flt.recoveries ++ [s.us] ∧ t.held = [] ∧ t.fetched = [] ∧ t.tasks = [] ∧ t.rings = [] ∧
      t.pool.rejoin = some false ∧ t.exts = s.exts ∧
      (∀ c, (s.ctx c).state = .live ∨ (s.ctx c).state = .draining → (t.ctx c).state = .frozen ∧ (t.ctx c).faultFrozen = true) ∧
      ∀ c, (s.ctx c).state = .building ∨ (s.ctx c).state = .free → (t.ctx c).state = (s.ctx c).state)) ∧
  (∀ (f : Restart) (s : State), s.flt.reaction = .none → exec (.warmRecovery f) s = .next s))

/-- R10: the access types. After a write of `v` to a register, each RW bit reads what was written, each RWL bit too unless the set-up lock
holds it, a W1C bit is cleared by a 1, the W1S bit set by one, and every other bit keeps its value. R10, R473, R474, R477: a write of one
word to a register that has no effect beyond its fields leaves the register as its access types say, and changes no other register but the
collector's; where no locked field would have changed, nothing but that register differs. An unmapped offset and a register of an absent
tier ignore the write, and a write to a register whose die is down changes at most what the collector does with messages. R12, R472: two
reads of a 64-bit register over one path, the low word then the high word, return the halves of the value it showed at the low-word read,
whatever other paths do between; the first loads that path's latch and the second leaves it. A high-word read with another register in the
latch, or none, returns 0 and leaves the latch. R9, R370: an access of another size or alignment changes no register. A host path completes
it as unsupported, MCTP answers vendor status 2, and the system bus sets its error field when it is clear. -/
def Obligations.RegisterAccesses : Prop :=
  (∀ r ∈ regRows, ∀ (locked : Bool) (old v : DWord) (i : Nat),
    let b := (r.written locked old v).getLsbD i
    (r.rw.getLsbD i = true → b = v.getLsbD i) ∧
    (r.rwl.getLsbD i = true → b = if locked then old.getLsbD i else v.getLsbD i) ∧
    (r.w1c.getLsbD i = true → b = (old.getLsbD i && !v.getLsbD i)) ∧
    (r.w1s.getLsbD i = true → b = (old.getLsbD i || v.getLsbD i)) ∧
    (r.rw.getLsbD i = false → r.rwl.getLsbD i = false → r.w1c.getLsbD i = false → r.w1s.getLsbD i = false →
      b = old.getLsbD i)) ∧
  ((∀ (path : Path) (o : Nat) (v : Word) (r : RegRow) (s : State),
    o ∈ [0x18, 0x8018, 0x10100, 0x20000, 0x20004, 0x20014, 0x30000, 0x30004, 0x40000, 0x5002C, 0x60004, 0x70004, 0x70008,
      0x80000, 0x90004, 0x9000C, 0x90018] → regAt o = some (r, o) → Writable path o s →
    Completes (.registerWrite path o v) s (fun t =>
      (faultReg o = false → t.reg o = r.written s.locked (s.reg o) (v.zeroExtend 64)) ∧
      (∀ q, q ≠ o → faultReg q = false → t.reg q = s.reg q) ∧
      (r.lockHit s.locked (s.reg o) (v.zeroExtend 64) = false → OnlyRegs (· = o) s t))) ∧
  (∀ (path : Path) (o : Nat) (v : Word) (s : State), s.regOf o = none → exec (.registerWrite path o v) s = .next s) ∧
  (∀ (path : Path) (o : Nat) (v : Word) (s : State), s.blockDown o = true →
    Completes (.registerWrite path o v) s (fun t => Reports s t)) ∧
  (∀ (path : Path) (o : Nat) (v : Word) (s : State), s.pathOpen path = false → exec (.registerWrite path o v) s = .next s)) ∧
  ((∀ (path other : Path) (o lo : Nat) (r : RegRow) (s : State), regAt o = some (r, o) → r.wide = true → o % 4 = 0 →
    Writable path o s → Writable path (o + 4) s → s.regOf (o + 4) = some (r, o) → pathNum other ≠ pathNum path →
    ∃ t u x : State, ∃ v : DWord, exec (.registerReadLatch path o) s = .next t ∧
      exec (.registerReadLatch other lo) t = .next u ∧ exec (.registerReadLatch path (o + 4)) u = .next x ∧
      t.out = .regValue path (v.truncate 32) :: s.out ∧ x.out = .regValue path (v.extractLsb' 32 32) :: u.out ∧
      x = { u with out := x.out } ∧
      v = BitVec.ofNat 64 (s.regShown (s.path (pathNum path)) ((Config.freeWord s.fresh).getLsbD 0) o)) ∧
  (∀ (path : Path) (o lo : Nat) (r : RegRow) (s : State), s.regOf o = some (r, lo) → r.wide = true → o ≠ lo → o % 4 = 0 →
    s.pathOpen path = true → (∀ w, (s.path (pathNum path)).latch ≠ some (lo, w)) →
    exec (.registerReadLatch path o) s = .next (s.emit (.regValue path 0))) ∧
  (∀ (path : Path) (o lo : Nat) (r : RegRow) (s : State), s.regOf o = some (r, lo) → r.wide = false → o % 4 = 0 →
    s.pathOpen path = true → s.blockDown o = false → lo ≠ 0x20030 →
    exec (.registerReadLatch path o) s = .next (s.emit (.regValue path
      (BitVec.ofNat 32 (s.regShown (s.path (pathNum path)) ((Config.freeWord s.fresh).getLsbD 0) lo))))) ∧
  (∀ (path : Path) (o : Nat) (s : State), s.regOf o = none → s.pathOpen path = true → o % 4 = 0 →
    exec (.registerReadLatch path o) s = .next (s.emit (.regValue path 0)))) ∧
  (∀ (o size : Nat) (w : Bool) (s : State), size ≠ 4 ∨ o % 4 ≠ 0 →
    (∀ p, s.pathOpen (.control p) = true →
      exec (.unsupportedRegisterAccess (.control p) o size w) s = .next (s.emit (.unsupported p 0))) ∧
    (s.pathOpen .mctp = true → exec (.unsupportedRegisterAccess .mctp o size w) s = .next (s.emit (.mctp 0x7E 2 []))) ∧
    (s.pathOpen .debugBus = true → Completes (.unsupportedRegisterAccess .debugBus o size w) s (fun t =>
      t = { s with dbg := t.dbg } ∧ t.dbg = { s.dbg with sberror := t.dbg.sberror } ∧ t.dbg.sberror ≠ 0)))

/-- R477, R184: setting the set-up lock over any path; a fuse request not yet written completes ABORTED. Tag checking does not change while
the lock is set, and is as written on a tier without allocated extents while it is not. R117, R354, R344, R336: the commands that clear
counters or a source's status, and an injected message. R351, R352: RESUME over MCTP takes a halted package to its warm reset; over another
path it changes nothing, and in a package that is not halted it changes at most what the collector does with messages. -/
def Obligations.RegisterCommands : Prop :=
  ((∀ (path : Path) (s : State), Writable path 0x10 s → Completes (.lock path) s (fun t =>
    t.locked = true ∧ (s.locked = true → t = s) ∧
    (s.locked = false → s.flag otpBase OTP_PROG_RESULT_BUSY = true →
      t.flag otpBase OTP_PROG_RESULT_BUSY = false ∧ t.get otpBase OTP_PROG_RESULT_CODE = 7) ∧
    OnlyRegs (fun o => o = 0x10 ∨ o = otpBase + 0x114) s t)) ∧
  (∀ (path : Path) (tier : Nat) (v : Word) (s : State), Writable path (scrBase tier) s → tier < 8 →
    s.flag (scrBase tier) SCR_TIER_CFG_TAG_EN ≠ v.getLsbD 0 → s.locked = true →
    Completes (.tagEnWrite path tier v) s (fun t => Reports s t)) ∧
  (∀ (path : Path) (tier : Nat) (v : Word) (s : State), Writable path (scrBase tier) s → tier < 8 → s.locked = false →
    (∀ e ∈ s.alloc, e.1 / 2 ^ 20 ≠ tier) →
    Completes (.tagEnWrite path tier v) s (fun t => t.flag (scrBase tier) SCR_TIER_CFG_TAG_EN = v.getLsbD 0 ∧
      t.ctxs = s.ctxs ∧ t.exts = s.exts ∧ t.cistern = s.cistern))) ∧
  ((∀ (path : Path) (t j : Nat) (s : State), Writable path (bsnBase t j + 4) s → t < 8 → j < 16 →
    Completes (.clrCnt path t j) s (fun u => (∀ i, i < 6 → u.reg (bsnBase t j + 8 + 8 * i) = 0) ∧
      OnlyRegs (fun o => ∃ i, i < 6 ∧ o = bsnBase t j + 8 + 8 * i) s u)) ∧
  (∀ (path : Path) (s : State), Writable path (fltBase + 8) s → Completes (.fltClrCnt path) s (fun u =>
    u.reg (fltBase + 0x40) = 0 ∧ u.reg (fltBase + 0x48) = 0 ∧ u.reg (fltBase + 0x50) = 0 ∧
    OnlyRegs (fun o => o = fltBase + 0x40 ∨ o = fltBase + 0x48 ∨ o = fltBase + 0x50) s u)) ∧
  (∀ (path : Path) (src : Nat) (s : State), Writable path (fltBase + 0x2000 + 4 * src) s → src < 512 →
    Completes (.fltSrcStatClear path src) s (fun u =>
      u.flag (srcCfg src) FLT_SRC_STAT_STICKY = false ∧ u.get (srcCfg src) FLT_SRC_STAT_MAXCLASS = 0 ∧
      u.get (srcCfg src) FLT_SRC_STAT_COUNT = 0 ∧ OnlyRegs (· = srcCfg src + 0x2000) s u)) ∧
  (∀ (path : Path) (s : State), Writable path (fltBase + 0x18) s → s.locked = false →
    s.sourceExists (s.get fltBase FLT_INJECT_SOURCE) = true →
    exec (.go path) s = .next (acceptRaised (s.get fltBase FLT_INJECT_SOURCE) (s.get fltBase FLT_INJECT_KIND)
      (s.get fltBase FLT_INJECT_CLASS) (s.get fltBase FLT_INJECT_LEVEL) 0 0
      (s.setReg (fltBase + 0x18) (s.reg (fltBase + 0x18))))) ∧
  (∀ (path : Path) (s : State), Writable path (fltBase + 0x18) s → s.locked = true →
    Completes (.go path) s (fun u => Reports s u))) ∧
  ((∀ (s : State), Writable .mctp (fltBase + 8) s → s.flag fltBase FLT_STATUS_HALTED = true → s.pkgMode.sysReady = true →
    Completes (.resume .mctp) s (fun t => t.flag fltBase FLT_STATUS_HALTED = false ∧ t.pkgMode.sysReady = false ∧
      t.get glbBase GLB_RESET_CAUSE_CAUSE = 5 ∧ t.flt = { s.flt with stopped := true } ∧
      t.out = .pin "SYS_READY" false :: s.out ∧ t = { s with regs := t.regs, flt := t.flt, pkgMode := t.pkgMode, out := t.out })) ∧
  (∀ (path : Path) (s : State), Writable path (fltBase + 8) s → s.flag fltBase FLT_STATUS_HALTED = true → path ≠ .mctp →
    exec (.resume path) s = .next s) ∧
  (∀ (path : Path) (s : State), Writable path (fltBase + 8) s → s.flag fltBase FLT_STATUS_HALTED = false →
    Completes (.resume path) s (fun t => Reports s t)))

/-- R385, R447: the time base. It reads 0 when VDD_AON rises; with no command waiting it counts 1 with the reference, and 15,625/512 through
the 9-bit fraction with the crystal alone; the loss of the reference shows REF_LOST and raises source 0x00F kind 2, its return keeps the
count; and no step makes it go back but the loss of VDD_AON. -/
def Obligations.TimeBaseNeverFalls : Prop :=
  State.reset.us = 0 ∧
  (∀ (s : State), Completes .vddAonLoss s (fun t => t.us = 0 ∧ t.frac = 0 ∧ t.xtalRunning = false)) ∧
  (∀ (s : State), s.pending = [] →
    (s.refPresent = true → step s = .next { s with us := s.us + 1 }) ∧
    (s.refPresent = false → s.xtalRunning = true → s.frac < 512 → ∃ t, step s = .next t ∧
      t.us * 512 + t.frac = s.us * 512 + s.frac + 15625 ∧ t.frac < 512 ∧ (t.us = s.us + 30 ∨ t.us = s.us + 31) ∧
      t = { s with us := t.us, frac := t.frac }) ∧
    (s.refPresent = false → s.xtalRunning = false → step s = .next s)) ∧
  (∀ (s : State), s.refPresent = true → s.pkgMode.mode = .up →
    exec .referenceClockLost s =
      .next (raiseOpen 0x00F 2 ({ s with refPresent := false, frac := 0 }.putFlag pwrBase PWR_STATUS_REF_LOST true))) ∧
  (∀ (s : State), Completes .referenceClockReturn s (fun t => t.us = s.us ∧ t.frac = 0 ∧ t.refPresent = true)) ∧
  (∀ (s t : State), step s = .next t → s.us ≤ t.us ∨ ∃ rest, s.pending = Instr.vddAonLoss :: rest)

/-- Every step keeps the stored memory in its canonical form: lines in rising order of place, and none that reads as never written. -/
def Obligations.MemoryStaysCanonical : Prop :=
  ∀ (s t : State), MemoryCanonical s → step s = .next t → MemoryCanonical t

/-- R366, R416: a blown bit of the anti-rollback field stays blown through every step, power-on and loss of power included, and with it
every step of the count that reads as blown; and a step takes just the front of the queue. -/
def Obligations.AntiRollbackNeverFalls : Prop :=
  ∀ (s t : State), step s = .next t →
    t.arb &&& s.arb = s.arb ∧ (∀ k, 1 ≤ k → k ≤ 127 → s.stepBlown k = true → t.stepBlown k = true) ∧ s.arbCount ≤ t.arbCount ∧
    (∀ c rest, s.pending = c :: rest → t.pending = rest) ∧ (s.pending = [] → t.pending = [])

/-- R217: a context whose release completes joins the open tick's released contexts, and a CTX_CREATE that names one of them completes with
IN_USE, so one tick never holds two lives of one context ID. -/
def Obligations.ReleasedInTick : Prop :=
  (∀ (c : Nat) (r : Releasing) (d : DescRef) (s : State), s.releases.find? (fun r => r.ctx = c) = some r → r.desc = some d →
    (∃ f, s.fetchedOf d = some f) → (∀ j ∈ s.clears, j.ctx ≠ some c) → s.acks (s.homeTier c) = true →
    Completes (.releaseFinished c) s (fun t => (t.ctx c).state = .free ∧ Sparse.get (fun _ => none) t.meter.released c ≠ none)) ∧
  (∀ (d : DescRef) (c account keyid cls cflags wbase wsize : Nat) (f : Fetched) (s : State),
    s.ready d 0x0100 [(8, 4, c), (12, 2, account), (14, 2, keyid), (16, 1, cls), (17, 1, cflags), (18, 4, wbase),
      (22, 2, wsize)] = some f → c < 0x3FFFF → 1 ≤ keyid → keyid < 4096 → cls < 64 → cflags < 16 → cflags % 4 ≠ 3 →
    1 ≤ wsize → wsize ≤ 8192 → wbase + wsize ≤ 262144 → CommitsNow f.tier s → (s.ctx c).state = .free → s.key keyid ≠ none →
    Sparse.get (fun _ => none) s.meter.released c ≠ none →
    Completes (.ctxCreate d c account keyid cls cflags wbase wsize) s (fun t => Done d 0x0D 0 s t ∧ Kept s t))

/-- R59: a binding that would place a window over a DPA range that is pending release fails with IN_USE and binds nothing. -/
def Obligations.PendingReleaseRefusesBinding : Prop :=
  ∀ (d : DescRef) (c p i k : Nat) (f : Fetched) (s : State), c < 2 ^ 18 → s.ready d 0x0101 [(8, 4, c), (12, 1, p), (13, 1, 0)] = some f →
    (s.ctx c).state = .building ∨ (s.ctx c).state = .live → s.hostPort p = true → (s.ctx c).ports.getLsbD p = false →
    i < (s.ctx c).wsize → ((s.port p).window k).valid = true → ((s.port p).window k).pendrel = true →
    Sparse.get (fun _ => 0) (s.port p).blocks ((s.ctx c).wbase + i) = k + 1 →
    Completes (.ctxBindPortBind d c p) s (fun t => Done d 0x0D 0 s t ∧ Kept s t ∧ t.port p = s.port p)

/-- R367: at a count of 127 FW_COMMIT of an image with SV 127, as a descriptor or over MCTP, blows nothing and answers 127; an image with SV
127 stays valid, and one above 127 is refused when it is staged and is not valid at boot. R204: the commit ceiling of a group is the
deliverable bandwidth times CEIL_PCT over 100, rounded down, and its commitment the sum of GUAR over the classes whose GROUPS hold it; the
thermal cap changes neither. -/
def Obligations.CounterExhausted : Prop :=
  ((∀ (d : DescRef) (short : List Nat) (f : Fetched) (s : State), s.ready d 0x0A02 [] = some f → s.servicesRun = true →
    s.fwBusy = false → s.mgmt.updating = false → s.mayCommit = true → s.arbCount = 127 → s.runSv = 127 →
    Completes (.fwCommit d short) s (fun t => Done d 0 127 s t ∧ t.arb = s.arb)) ∧
  (∀ (m : MctpReq) (short : List Nat) (s : State), Asked m s → s.fwBusy = false → s.mgmt.updating = false → s.mayCommit = true →
    s.arbCount = 127 → s.runSv = 127 → Completes (.fwCommitVendor m short) s (fun t => t.arb = s.arb ∧
      t.out.head? = some (.mctp 0x7E 0 [127]))) ∧
  (∀ (i : Image) (s : State), i.headerOk = true → i.digestOk = true → i.sigOk = true → s.keyTrusted i.keyDigest = true →
    (i.sv = 127 → s.imageValid i = true) ∧ (127 < i.sv → s.imageValid i = false)) ∧
  (∀ (d : DescRef) (haddr offset length : Nat) (i : Image) (f : Fetched) (s : State),
    s.ready d 0x0A00 [(8, 8, haddr), (16, 4, offset), (20, 4, length)] = some f → descFlag f.bytes 2 = true → s.servicesRun = true →
    haddr % 4096 = 0 → 4096 ≤ length → length ≤ 2 ^ 20 → (offset = 0 ∨ offset = s.stagedBytes) → offset + length ≤ 2 ^ 24 →
    s.fwBusy = false → s.mgmt.updating = false → 127 < i.sv →
    Completes (.fwStage d haddr offset length true (some i) true) s (fun t => Done d 0x08 0 s t ∧ t.mgmt.staged = false)) ∧
  (∀ (b : Nat) (i : Image) (s : State), s.bankImage b = some i → 127 < i.sv → s.bankValid b = false)) ∧
  (∀ (t : Nat) (s : State),
    (let pct := max 1 (min 100 (s.get weirBase WEIR_GLB_CFG_CEIL_PCT))
     s.commitCeil t * 100 ≤ s.deliverable t * pct ∧ s.deliverable t * pct < (s.commitCeil t + 1) * 100) ∧
    (∀ (k : Nat) (p : ClassParams), k < 64 → commitment (s.withClass k p) t + (if (s.cls k).groups.getLsbD t then (s.cls k).guar else 0) =
      commitment s.cls t + (if p.groups.getLsbD t then p.guar else 0)) ∧
    ((∀ k, k < 64 → (s.cls k).groups.getLsbD t = false) → commitment s.cls t = 0) ∧
    (∀ (u : Nat) (v : Nat), u < 8 → (s.put (thmBase + 4 * u) THM_ZONE_F v).commitCeil t = s.commitCeil t))
end

