-- ==== Sys2Proof/Laws/Sparse.lean ====
section
/-! SUPPORT. Laws of sparse maps: reading after writing, the canonical form, and the bit fields of words. -/

namespace Sys2Proof

variable {β : Type}

theorem Sparse.get_erase (d : Nat → β) (m : Sparse β) (k j : Nat) :
    Sparse.get d (Sparse.erase m k) j = if j = k then d j else Sparse.get d m j := by
  induction m with
  | nil => simp [Sparse.erase, Sparse.get]
  | cons e m ih =>
    obtain ⟨a, b⟩ := e
    by_cases h : a = k
    · subst h
      by_cases hj : j = a
      · subst hj; simpa [Sparse.erase] using ih
      · simp [Sparse.erase, ih, hj, Sparse.get, Ne.symm hj]
    · by_cases hj : a = j
      · subst hj; simp [Sparse.erase, Sparse.get, h]
      · simp [Sparse.erase, Sparse.get, h, hj, ih]

theorem Sparse.get_insert (d : Nat → β) (m : Sparse β) (k j : Nat) (v : β)
    (h : ∀ e ∈ m, e.1 ≠ k) :
    Sparse.get d (Sparse.insert m k v) j = if j = k then v else Sparse.get d m j := by
  induction m with
  | nil => simp [Sparse.insert, Sparse.get, eq_comm]
  | cons e m ih =>
    obtain ⟨a, b⟩ := e
    have hak : a ≠ k := h (a, b) (by simp)
    have ih := ih (fun e he => h e (by simp [he]))
    by_cases hk : k < a
    · simp [Sparse.insert, hk, Sparse.get, eq_comm]
    · by_cases hj : a = j
      · subst hj; simp [Sparse.insert, hk, Sparse.get, hak]
      · simp [Sparse.insert, hk, Sparse.get, hj, ih]

theorem Sparse.mem_erase (m : Sparse β) (k : Nat) (e : Nat × β) :
    e ∈ Sparse.erase m k ↔ e ∈ m ∧ e.1 ≠ k := by
  induction m with
  | nil => simp [Sparse.erase]
  | cons x m ih =>
    obtain ⟨a, b⟩ := x
    by_cases h : a = k
    · simp only [Sparse.erase, h, if_true, ih, List.mem_cons]
      constructor
      · rintro ⟨h1, h2⟩; exact ⟨.inr h1, h2⟩
      · rintro ⟨h1 | h1, h2⟩
        · exact absurd (by rw [h1]) h2
        · exact ⟨h1, h2⟩
    · simp only [Sparse.erase, h, if_false, ih, List.mem_cons]
      constructor
      · rintro (h1 | ⟨h1, h2⟩)
        · exact ⟨.inl h1, by rw [h1]; exact h⟩
        · exact ⟨.inr h1, h2⟩
      · rintro ⟨h1 | h1, h2⟩
        · exact .inl h1
        · exact .inr ⟨h1, h2⟩

/-- Reading after a write: the value at the key written, and every other key as before. -/
theorem Sparse.get_set [DecidableEq β] (d : Nat → β) (m : Sparse β) (k j : Nat) (v : β) :
    Sparse.get d (Sparse.set d m k v) j = if j = k then v else Sparse.get d m j := by
  unfold Sparse.set
  split
  · next h => rw [Sparse.get_erase]; split <;> simp_all
  · rw [Sparse.get_insert _ _ _ _ _ (fun e he => ((Sparse.mem_erase m k e).1 he).2), Sparse.get_erase]
    split <;> simp_all

@[simp] theorem Sparse.get_set_same [DecidableEq β] (d : Nat → β) (m : Sparse β) (k : Nat) (v : β) :
    Sparse.get d (Sparse.set d m k v) k = v := by simp [Sparse.get_set]

theorem Sparse.get_set_ne [DecidableEq β] (d : Nat → β) (m : Sparse β) {k j : Nat} (v : β) (h : j ≠ k) :
    Sparse.get d (Sparse.set d m k v) j = Sparse.get d m j := by simp [Sparse.get_set, h]

/-! ### The canonical form -/

/-- The canonical form says that keys rise strictly and no entry holds its default. -/
theorem Sparse.wf_iff [DecidableEq β] (d : Nat → β) (m : Sparse β) :
    Sparse.wf d m = true ↔ m.Pairwise (fun a b => a.1 < b.1) ∧ ∀ e ∈ m, e.2 ≠ d e.1 := by
  induction m with
  | nil => simp [Sparse.wf]
  | cons e m ih =>
    obtain ⟨a, b⟩ := e
    cases m with
    | nil => simp [Sparse.wf]
    | cons e' m =>
      obtain ⟨a', b'⟩ := e'
      rw [Sparse.wf]
      simp only [Bool.and_eq_true, decide_eq_true_eq, ih, List.pairwise_cons, List.mem_cons, forall_eq_or_imp]
      constructor
      · rintro ⟨⟨h1, h2⟩, ⟨h3, h4⟩, h5, h6⟩
        exact ⟨⟨⟨h1, fun x hx => lt_trans h1 (h3 x hx)⟩, h3, h4⟩, h2, h5, h6⟩
      · rintro ⟨⟨⟨h1, -⟩, h3, h4⟩, h2, h5, h6⟩
        exact ⟨⟨h1, h2⟩, ⟨h3, h4⟩, h5, h6⟩

theorem Sparse.wf_filter [DecidableEq β] (d : Nat → β) (m : Sparse β) (p : Nat × β → Bool) (h : Sparse.wf d m = true) :
    Sparse.wf d (m.filter p) = true := by
  rw [Sparse.wf_iff] at h ⊢
  exact ⟨h.1.sublist List.filter_sublist, fun e he => h.2 e (List.mem_of_mem_filter he)⟩

theorem Sparse.erase_eq (m : Sparse β) (k : Nat) : Sparse.erase m k = m.filter (fun e => decide (e.1 ≠ k)) := by
  induction m with
  | nil => rfl
  | cons e m ih =>
    obtain ⟨a, b⟩ := e
    by_cases h : a = k <;> simp [Sparse.erase, h, ih]

theorem Sparse.wf_erase [DecidableEq β] (d : Nat → β) (m : Sparse β) (k : Nat) (h : Sparse.wf d m = true) :
    Sparse.wf d (Sparse.erase m k) = true := by rw [Sparse.erase_eq]; exact Sparse.wf_filter d m _ h

theorem Sparse.mem_insert (m : Sparse β) (k : Nat) (v : β) (e : Nat × β) :
    e ∈ Sparse.insert m k v ↔ e = (k, v) ∨ e ∈ m := by
  induction m with
  | nil => simp [Sparse.insert]
  | cons x m ih =>
    obtain ⟨a, b⟩ := x
    by_cases h : k < a
    · simp [Sparse.insert, h]
    · simp only [Sparse.insert, h, if_false, List.mem_cons, ih]; tauto

theorem Sparse.wf_insert [DecidableEq β] (d : Nat → β) (m : Sparse β) (k : Nat) (v : β) (h : Sparse.wf d m = true)
    (hk : ∀ e ∈ m, e.1 ≠ k) (hv : v ≠ d k) : Sparse.wf d (Sparse.insert m k v) = true := by
  rw [Sparse.wf_iff] at h ⊢
  refine ⟨?_, fun e he => ?_⟩
  · obtain ⟨h, -⟩ := h
    induction m with
    | nil => simp [Sparse.insert]
    | cons x m ih =>
      obtain ⟨a, b⟩ := x
      have hak : a ≠ k := hk (a, b) (by simp)
      rw [List.pairwise_cons] at h
      by_cases hlt : k < a
      · simp only [Sparse.insert, hlt, if_true, List.pairwise_cons]
        refine ⟨fun e he => ?_, h⟩
        rcases List.mem_cons.1 he with rfl | he
        · exact hlt
        · exact lt_trans hlt (h.1 e he)
      · simp only [Sparse.insert, hlt, if_false, List.pairwise_cons]
        refine ⟨fun e he => ?_, ih (fun e he => hk e (by simp [he])) h.2⟩
        rcases (Sparse.mem_insert m k v e).1 he with rfl | he
        · exact lt_of_le_of_ne (not_lt.1 hlt) hak
        · exact h.1 e he
  · rcases (Sparse.mem_insert m k v e).1 he with rfl | he
    · exact hv
    · exact h.2 e he

/-- Writing keeps the canonical form. -/
theorem Sparse.wf_set [DecidableEq β] (d : Nat → β) (m : Sparse β) (k : Nat) (v : β) (h : Sparse.wf d m = true) :
    Sparse.wf d (Sparse.set d m k v) = true := by
  unfold Sparse.set
  split
  · exact Sparse.wf_erase d m k h
  · next hv => exact Sparse.wf_insert d _ k v (Sparse.wf_erase d m k h) (fun e he => ((Sparse.mem_erase m k e).1 he).2) hv

theorem Sparse.wf_keep [DecidableEq β] (d : Nat → β) (p : Nat → Bool) (m : Sparse β) (h : Sparse.wf d m = true) :
    Sparse.wf d (Sparse.keep p m) = true := Sparse.wf_filter d m _ h

/-- Changing every listed value keeps the canonical form. -/
theorem Sparse.wf_mapVals [DecidableEq β] (d : Nat → β) (f : Nat → β → β) (m : Sparse β) (h : Sparse.wf d m = true) :
    Sparse.wf d (Sparse.mapVals d f m) = true := by
  rw [Sparse.wf_iff] at h ⊢
  refine ⟨?_, fun e he => by simpa [Sparse.mapVals] using List.of_mem_filter he⟩
  exact List.Pairwise.sublist List.filter_sublist (List.pairwise_map.2 h.1)

/-- Equal maps in canonical form: a map is determined by what it reads. -/
theorem Sparse.get_of_mem [DecidableEq β] (d : Nat → β) (m : Sparse β) (h : Sparse.wf d m = true) {e : Nat × β} (he : e ∈ m) :
    Sparse.get d m e.1 = e.2 := by
  obtain ⟨h, -⟩ := (Sparse.wf_iff d m).1 h
  induction m with
  | nil => simp at he
  | cons x m ih =>
    obtain ⟨a, b⟩ := x
    rw [List.pairwise_cons] at h
    rcases List.mem_cons.1 he with rfl | he'
    · simp [Sparse.get]
    · have : a ≠ e.1 := Nat.ne_of_lt (h.1 e he')
      simp only [Sparse.get, this, if_false]
      exact ih (by rw [Sparse.wf_iff]; exact ⟨h.2, fun x hx => ((Sparse.wf_iff d _).1 ‹_›).2 x (by simp [hx])⟩) he' h.2

/-! ### Runs over a list -/

@[simp] theorem forEach_nil {α σ : Type} (f : α → σ → σ) (s : σ) : forEach [] f s = s := rfl
@[simp] theorem forEach_cons {α σ : Type} (a : α) (l : List α) (f : α → σ → σ) (s : σ) :
    forEach (a :: l) f s = forEach l f (f a s) := rfl

/-- What every single application keeps, the run keeps. -/
theorem forEach_keeps {α σ : Type} (P : σ → Prop) (l : List α) (f : α → σ → σ) (h : ∀ a s, P s → P (f a s)) (s : σ)
    (hs : P s) : P (forEach l f s) := by
  induction l generalizing s with
  | nil => exact hs
  | cons a l ih => exact ih (f a s) (h a s hs)

/-- A field that every single application leaves alone, the run leaves alone. -/
theorem forEach_field {α σ τ : Type} (g : σ → τ) (l : List α) (f : α → σ → σ) (h : ∀ a s, g (f a s) = g s) (s : σ) :
    g (forEach l f s) = g s := by
  induction l generalizing s with
  | nil => rfl
  | cons a l ih => rw [forEach_cons, ih, h]

/-! ### Bit fields -/

theorem setBits_lt {n hi lo v w : Nat} (hn : n < 2 ^ w) (hw : hi < w) (h : lo ≤ hi) : setBits n hi lo v < 2 ^ w := by
  unfold setBits
  have e : 2 ^ (hi + 1) = 2 ^ (hi + 1 - lo) * 2 ^ lo := by rw [← pow_add]; congr 1; omega
  have a : v % 2 ^ (hi + 1 - lo) * 2 ^ lo + n % 2 ^ lo < 2 ^ (hi + 1) := by
    have h1 : v % 2 ^ (hi + 1 - lo) < 2 ^ (hi + 1 - lo) := Nat.mod_lt _ (by positivity)
    have h2 : n % 2 ^ lo < 2 ^ lo := Nat.mod_lt _ (by positivity)
    have h3 := Nat.mul_le_mul_right (2 ^ lo) (Nat.succ_le_of_lt h1)
    rw [Nat.succ_mul] at h3
    rw [e]; omega
  have f : 2 ^ w = 2 ^ (w - (hi + 1)) * 2 ^ (hi + 1) := by rw [← pow_add]; congr 1; omega
  have b : n / 2 ^ (hi + 1) < 2 ^ (w - (hi + 1)) := by
    rw [Nat.div_lt_iff_lt_mul (by positivity), ← f]; exact hn
  have c := Nat.mul_le_mul_right (2 ^ (hi + 1)) (Nat.succ_le_of_lt b)
  rw [Nat.succ_mul] at c
  rw [f]; omega

/-- A field reads back as it was stored, in its width. -/
theorem bitsAt_setBits_same (n hi lo v : Nat) (h : lo ≤ hi) :
    bitsAt (setBits n hi lo v) hi lo = v % 2 ^ (hi + 1 - lo) := by
  unfold bitsAt setBits
  have e : 2 ^ (hi + 1) = 2 ^ (hi + 1 - lo) * 2 ^ lo := by rw [← pow_add]; congr 1; omega
  have h2 : n % 2 ^ lo < 2 ^ lo := Nat.mod_lt _ (by positivity)
  have : n / 2 ^ (hi + 1) * 2 ^ (hi + 1) + v % 2 ^ (hi + 1 - lo) * 2 ^ lo + n % 2 ^ lo =
      n % 2 ^ lo + 2 ^ lo * (n / 2 ^ (hi + 1) * 2 ^ (hi + 1 - lo) + v % 2 ^ (hi + 1 - lo)) := by rw [e]; ring
  rw [this, Nat.add_mul_div_left _ _ (by positivity), Nat.div_eq_of_lt h2, Nat.zero_add, mul_comm, Nat.mul_add_mod,
    Nat.mod_mod]

theorem setBits_mod (n hi lo v : Nat) (h : lo ≤ hi) : setBits n hi lo v % 2 ^ lo = n % 2 ^ lo := by
  unfold setBits
  have e : 2 ^ (hi + 1) = 2 ^ (hi + 1 - lo) * 2 ^ lo := by rw [← pow_add]; congr 1; omega
  have : n / 2 ^ (hi + 1) * 2 ^ (hi + 1) + v % 2 ^ (hi + 1 - lo) * 2 ^ lo + n % 2 ^ lo =
      n % 2 ^ lo + 2 ^ lo * (n / 2 ^ (hi + 1) * 2 ^ (hi + 1 - lo) + v % 2 ^ (hi + 1 - lo)) := by rw [e]; ring
  rw [this, Nat.add_mul_mod_self_left, Nat.mod_mod]

theorem setBits_div (n hi lo v : Nat) (h : lo ≤ hi) : setBits n hi lo v / 2 ^ (hi + 1) = n / 2 ^ (hi + 1) := by
  unfold setBits
  have e : 2 ^ (hi + 1) = 2 ^ (hi + 1 - lo) * 2 ^ lo := by rw [← pow_add]; congr 1; omega
  have a : v % 2 ^ (hi + 1 - lo) * 2 ^ lo + n % 2 ^ lo < 2 ^ (hi + 1) := by
    have h1 : v % 2 ^ (hi + 1 - lo) < 2 ^ (hi + 1 - lo) := Nat.mod_lt _ (by positivity)
    have h2 : n % 2 ^ lo < 2 ^ lo := Nat.mod_lt _ (by positivity)
    have h3 := Nat.mul_le_mul_right (2 ^ lo) (Nat.succ_le_of_lt h1)
    rw [Nat.succ_mul] at h3
    rw [e]; omega
  rw [Nat.add_assoc, Nat.add_comm, Nat.add_mul_div_right _ _ (by positivity), Nat.div_eq_of_lt a, Nat.zero_add]

/-- Storing a field leaves a field below it, and one above it, as they were. -/
theorem bitsAt_setBits_other (n hi lo v hi' lo' : Nat) (h : lo ≤ hi) (d : hi' < lo ∨ hi < lo') (h' : lo' ≤ hi') :
    bitsAt (setBits n hi lo v) hi' lo' = bitsAt n hi' lo' := by
  unfold bitsAt
  rcases d with d | d
  · have e : ∀ m : Nat, m / 2 ^ lo' % 2 ^ (hi' + 1 - lo') = m % 2 ^ lo / 2 ^ lo' % 2 ^ (hi' + 1 - lo') := by
      intro m
      have hp : 2 ^ lo = 2 ^ lo' * 2 ^ (lo - lo') := by rw [← pow_add]; congr 1; omega
      rw [hp, Nat.mod_mul_right_div_self]
      have hq : 2 ^ (lo - lo') = 2 ^ (hi' + 1 - lo') * 2 ^ (lo - (hi' + 1)) := by rw [← pow_add]; congr 1; omega
      rw [hq, Nat.mod_mul_right_mod]
    rw [e, setBits_mod n hi lo v h, ← e]
  · have e : ∀ m : Nat, m / 2 ^ lo' = m / 2 ^ (hi + 1) / 2 ^ (lo' - (hi + 1)) := by
      intro m
      rw [Nat.div_div_eq_div_mul, ← pow_add]; congr 2; omega
    rw [e, setBits_div n hi lo v h, ← e]

end Sys2Proof
end

