-- ==== Sys2Proof/Laws/State.lean ====
section
/-! SUPPORT. Laws of the state: what each named update leaves alone, field by field, and what it reads back. -/

namespace Sys2Proof.Machine

/-! ### What an update leaves alone -/

@[simp] theorem State.setReg_frame (s : State) (o : Nat) (v : DWord) :
    (s.setReg o v).pending = s.pending ∧ (s.setReg o v).out = s.out ∧ (s.setReg o v).fresh = s.fresh ∧
    (s.setReg o v).us = s.us ∧ (s.setReg o v).frac = s.frac ∧ (s.setReg o v).refPresent = s.refPresent ∧
    (s.setReg o v).xtalRunning = s.xtalRunning ∧ (s.setReg o v).paths = s.paths ∧ (s.setReg o v).wired = s.wired ∧
    (s.setReg o v).tiers = s.tiers ∧ (s.setReg o v).ports = s.ports ∧ (s.setReg o v).perstLow = s.perstLow ∧
    (s.setReg o v).modulesLost = s.modulesLost ∧ (s.setReg o v).ctxs = s.ctxs ∧ (s.setReg o v).exts = s.exts ∧
    (s.setReg o v).listUse = s.listUse ∧ (s.setReg o v).alloc = s.alloc ∧ (s.setReg o v).valid = s.valid ∧
    (s.setReg o v).held = s.held ∧ (s.setReg o v).slices = s.slices ∧ (s.setReg o v).cistern = s.cistern ∧
    (s.setReg o v).chans = s.chans ∧ (s.setReg o v).poison = s.poison ∧ (s.setReg o v).ovfTime = s.ovfTime ∧
    (s.setReg o v).unitCe = s.unitCe ∧ (s.setReg o v).ceWindow = s.ceWindow ∧ (s.setReg o v).keys = s.keys ∧
    (s.setReg o v).drbgDraws = s.drbgDraws ∧ (s.setReg o v).entropyFailed = s.entropyFailed ∧
    (s.setReg o v).entropyTestAt = s.entropyTestAt ∧ (s.setReg o v).tagSets = s.tagSets ∧
    (s.setReg o v).classes = s.classes ∧ (s.setReg o v).chanWeirs = s.chanWeirs ∧
    (s.setReg o v).portWeirs = s.portWeirs ∧ (s.setReg o v).effective = s.effective ∧
    (s.setReg o v).missPending = s.missPending ∧ (s.setReg o v).missLast = s.missLast ∧
    (s.setReg o v).rowWatch = s.rowWatch ∧ (s.setReg o v).retiredSets = s.retiredSets ∧
    (s.setReg o v).leaves = s.leaves ∧ (s.setReg o v).leafBank = s.leafBank ∧
    (s.setReg o v).remoteLeaves = s.remoteLeaves ∧ (s.setReg o v).sweeps = s.sweeps ∧ (s.setReg o v).links = s.links ∧
    (s.setReg o v).remote = s.remote ∧ (s.setReg o v).nextTxid = s.nextTxid ∧ (s.setReg o v).noRoute = s.noRoute ∧
    (s.setReg o v).pool = s.pool ∧ (s.setReg o v).migrations = s.migrations ∧ (s.setReg o v).flt = s.flt ∧
    (s.setReg o v).pkgMode = s.pkgMode ∧ (s.setReg o v).sensors = s.sensors ∧ (s.setReg o v).heat = s.heat ∧
    (s.setReg o v).thmMsixLast = s.thmMsixLast ∧ (s.setReg o v).thmMsixPending = s.thmMsixPending ∧
    (s.setReg o v).tierReqs = s.tierReqs ∧ (s.setReg o v).opWaits = s.opWaits ∧ (s.setReg o v).fuses = s.fuses ∧
    (s.setReg o v).arb = s.arb ∧ (s.setReg o v).flash = s.flash ∧ (s.setReg o v).dbg = s.dbg ∧
    (s.setReg o v).rings = s.rings ∧ (s.setReg o v).fetched = s.fetched ∧ (s.setReg o v).cplQ = s.cplQ ∧
    (s.setReg o v).sluiceRr = s.sluiceRr ∧ (s.setReg o v).commits = s.commits ∧ (s.setReg o v).drains = s.drains ∧
    (s.setReg o v).clears = s.clears ∧ (s.setReg o v).unmaps = s.unmaps ∧ (s.setReg o v).releases = s.releases ∧
    (s.setReg o v).extAcc = s.extAcc ∧ (s.setReg o v).extAt = s.extAt ∧ (s.setReg o v).meter = s.meter ∧
    (s.setReg o v).mgmt = s.mgmt ∧ (s.setReg o v).updateLog = s.updateLog ∧ (s.setReg o v).wakeReq = s.wakeReq ∧
    (s.setReg o v).tasks = s.tasks ∧ (s.setReg o v).pieces = s.pieces ∧ (s.setReg o v).jets = s.jets ∧
    (s.setReg o v).pieceSeq = s.pieceSeq ∧ (s.setReg o v).badExt = s.badExt ∧ (s.setReg o v).repair = s.repair := by
  repeat' first | exact rfl | refine ⟨rfl, ?_⟩

@[simp] theorem State.put_frame (s : State) (b : Nat) (f : Fld) (v : Nat) :
    (s.put b f v).pending = s.pending ∧ (s.put b f v).out = s.out ∧ (s.put b f v).fresh = s.fresh ∧
    (s.put b f v).us = s.us ∧ (s.put b f v).frac = s.frac ∧ (s.put b f v).refPresent = s.refPresent ∧
    (s.put b f v).xtalRunning = s.xtalRunning ∧ (s.put b f v).paths = s.paths ∧ (s.put b f v).wired = s.wired ∧
    (s.put b f v).tiers = s.tiers ∧ (s.put b f v).ports = s.ports ∧ (s.put b f v).perstLow = s.perstLow ∧
    (s.put b f v).modulesLost = s.modulesLost ∧ (s.put b f v).ctxs = s.ctxs ∧ (s.put b f v).exts = s.exts ∧
    (s.put b f v).listUse = s.listUse ∧ (s.put b f v).alloc = s.alloc ∧ (s.put b f v).valid = s.valid ∧
    (s.put b f v).held = s.held ∧ (s.put b f v).slices = s.slices ∧ (s.put b f v).cistern = s.cistern ∧
    (s.put b f v).chans = s.chans ∧ (s.put b f v).poison = s.poison ∧ (s.put b f v).ovfTime = s.ovfTime ∧
    (s.put b f v).unitCe = s.unitCe ∧ (s.put b f v).ceWindow = s.ceWindow ∧ (s.put b f v).keys = s.keys ∧
    (s.put b f v).drbgDraws = s.drbgDraws ∧ (s.put b f v).entropyFailed = s.entropyFailed ∧
    (s.put b f v).entropyTestAt = s.entropyTestAt ∧ (s.put b f v).tagSets = s.tagSets ∧
    (s.put b f v).classes = s.classes ∧ (s.put b f v).chanWeirs = s.chanWeirs ∧ (s.put b f v).portWeirs = s.portWeirs ∧
    (s.put b f v).effective = s.effective ∧ (s.put b f v).missPending = s.missPending ∧
    (s.put b f v).missLast = s.missLast ∧ (s.put b f v).rowWatch = s.rowWatch ∧
    (s.put b f v).retiredSets = s.retiredSets ∧ (s.put b f v).leaves = s.leaves ∧ (s.put b f v).leafBank = s.leafBank ∧
    (s.put b f v).remoteLeaves = s.remoteLeaves ∧ (s.put b f v).sweeps = s.sweeps ∧ (s.put b f v).links = s.links ∧
    (s.put b f v).remote = s.remote ∧ (s.put b f v).nextTxid = s.nextTxid ∧ (s.put b f v).noRoute = s.noRoute ∧
    (s.put b f v).pool = s.pool ∧ (s.put b f v).migrations = s.migrations ∧ (s.put b f v).flt = s.flt ∧
    (s.put b f v).pkgMode = s.pkgMode ∧ (s.put b f v).sensors = s.sensors ∧ (s.put b f v).heat = s.heat ∧
    (s.put b f v).thmMsixLast = s.thmMsixLast ∧ (s.put b f v).thmMsixPending = s.thmMsixPending ∧
    (s.put b f v).tierReqs = s.tierReqs ∧ (s.put b f v).opWaits = s.opWaits ∧ (s.put b f v).fuses = s.fuses ∧
    (s.put b f v).arb = s.arb ∧ (s.put b f v).flash = s.flash ∧ (s.put b f v).dbg = s.dbg ∧
    (s.put b f v).rings = s.rings ∧ (s.put b f v).fetched = s.fetched ∧ (s.put b f v).cplQ = s.cplQ ∧
    (s.put b f v).sluiceRr = s.sluiceRr ∧ (s.put b f v).commits = s.commits ∧ (s.put b f v).drains = s.drains ∧
    (s.put b f v).clears = s.clears ∧ (s.put b f v).unmaps = s.unmaps ∧ (s.put b f v).releases = s.releases ∧
    (s.put b f v).extAcc = s.extAcc ∧ (s.put b f v).extAt = s.extAt ∧ (s.put b f v).meter = s.meter ∧
    (s.put b f v).mgmt = s.mgmt ∧ (s.put b f v).updateLog = s.updateLog ∧ (s.put b f v).wakeReq = s.wakeReq ∧
    (s.put b f v).tasks = s.tasks ∧ (s.put b f v).pieces = s.pieces ∧ (s.put b f v).jets = s.jets ∧
    (s.put b f v).pieceSeq = s.pieceSeq ∧ (s.put b f v).badExt = s.badExt ∧ (s.put b f v).repair = s.repair := by
  repeat' first | exact rfl | refine ⟨rfl, ?_⟩

@[simp] theorem State.putFlag_frame (s : State) (b : Nat) (f : Fld) (v : Bool) :
    (s.putFlag b f v).pending = s.pending ∧ (s.putFlag b f v).out = s.out ∧ (s.putFlag b f v).fresh = s.fresh ∧
    (s.putFlag b f v).us = s.us ∧ (s.putFlag b f v).frac = s.frac ∧ (s.putFlag b f v).refPresent = s.refPresent ∧
    (s.putFlag b f v).xtalRunning = s.xtalRunning ∧ (s.putFlag b f v).paths = s.paths ∧
    (s.putFlag b f v).wired = s.wired ∧ (s.putFlag b f v).tiers = s.tiers ∧ (s.putFlag b f v).ports = s.ports ∧
    (s.putFlag b f v).perstLow = s.perstLow ∧ (s.putFlag b f v).modulesLost = s.modulesLost ∧
    (s.putFlag b f v).ctxs = s.ctxs ∧ (s.putFlag b f v).exts = s.exts ∧ (s.putFlag b f v).listUse = s.listUse ∧
    (s.putFlag b f v).alloc = s.alloc ∧ (s.putFlag b f v).valid = s.valid ∧ (s.putFlag b f v).held = s.held ∧
    (s.putFlag b f v).slices = s.slices ∧ (s.putFlag b f v).cistern = s.cistern ∧ (s.putFlag b f v).chans = s.chans ∧
    (s.putFlag b f v).poison = s.poison ∧ (s.putFlag b f v).ovfTime = s.ovfTime ∧ (s.putFlag b f v).unitCe = s.unitCe ∧
    (s.putFlag b f v).ceWindow = s.ceWindow ∧ (s.putFlag b f v).keys = s.keys ∧
    (s.putFlag b f v).drbgDraws = s.drbgDraws ∧ (s.putFlag b f v).entropyFailed = s.entropyFailed ∧
    (s.putFlag b f v).entropyTestAt = s.entropyTestAt ∧ (s.putFlag b f v).tagSets = s.tagSets ∧
    (s.putFlag b f v).classes = s.classes ∧ (s.putFlag b f v).chanWeirs = s.chanWeirs ∧
    (s.putFlag b f v).portWeirs = s.portWeirs ∧ (s.putFlag b f v).effective = s.effective ∧
    (s.putFlag b f v).missPending = s.missPending ∧ (s.putFlag b f v).missLast = s.missLast ∧
    (s.putFlag b f v).rowWatch = s.rowWatch ∧ (s.putFlag b f v).retiredSets = s.retiredSets ∧
    (s.putFlag b f v).leaves = s.leaves ∧ (s.putFlag b f v).leafBank = s.leafBank ∧
    (s.putFlag b f v).remoteLeaves = s.remoteLeaves ∧ (s.putFlag b f v).sweeps = s.sweeps ∧
    (s.putFlag b f v).links = s.links ∧ (s.putFlag b f v).remote = s.remote ∧ (s.putFlag b f v).nextTxid = s.nextTxid ∧
    (s.putFlag b f v).noRoute = s.noRoute ∧ (s.putFlag b f v).pool = s.pool ∧
    (s.putFlag b f v).migrations = s.migrations ∧ (s.putFlag b f v).flt = s.flt ∧
    (s.putFlag b f v).pkgMode = s.pkgMode ∧ (s.putFlag b f v).sensors = s.sensors ∧ (s.putFlag b f v).heat = s.heat ∧
    (s.putFlag b f v).thmMsixLast = s.thmMsixLast ∧ (s.putFlag b f v).thmMsixPending = s.thmMsixPending ∧
    (s.putFlag b f v).tierReqs = s.tierReqs ∧ (s.putFlag b f v).opWaits = s.opWaits ∧
    (s.putFlag b f v).fuses = s.fuses ∧ (s.putFlag b f v).arb = s.arb ∧ (s.putFlag b f v).flash = s.flash ∧
    (s.putFlag b f v).dbg = s.dbg ∧ (s.putFlag b f v).rings = s.rings ∧ (s.putFlag b f v).fetched = s.fetched ∧
    (s.putFlag b f v).cplQ = s.cplQ ∧ (s.putFlag b f v).sluiceRr = s.sluiceRr ∧ (s.putFlag b f v).commits = s.commits ∧
    (s.putFlag b f v).drains = s.drains ∧ (s.putFlag b f v).clears = s.clears ∧ (s.putFlag b f v).unmaps = s.unmaps ∧
    (s.putFlag b f v).releases = s.releases ∧ (s.putFlag b f v).extAcc = s.extAcc ∧ (s.putFlag b f v).extAt = s.extAt ∧
    (s.putFlag b f v).meter = s.meter ∧ (s.putFlag b f v).mgmt = s.mgmt ∧ (s.putFlag b f v).updateLog = s.updateLog ∧
    (s.putFlag b f v).wakeReq = s.wakeReq ∧ (s.putFlag b f v).tasks = s.tasks ∧ (s.putFlag b f v).pieces = s.pieces ∧
    (s.putFlag b f v).jets = s.jets ∧ (s.putFlag b f v).pieceSeq = s.pieceSeq ∧ (s.putFlag b f v).badExt = s.badExt ∧
    (s.putFlag b f v).repair = s.repair := by
  repeat' first | exact rfl | refine ⟨rfl, ?_⟩

@[simp] theorem State.setRegBit_frame (s : State) (o i : Nat) (v : Bool) :
    (s.setRegBit o i v).pending = s.pending ∧ (s.setRegBit o i v).out = s.out ∧ (s.setRegBit o i v).fresh = s.fresh ∧
    (s.setRegBit o i v).us = s.us ∧ (s.setRegBit o i v).frac = s.frac ∧ (s.setRegBit o i v).refPresent = s.refPresent ∧
    (s.setRegBit o i v).xtalRunning = s.xtalRunning ∧ (s.setRegBit o i v).paths = s.paths ∧
    (s.setRegBit o i v).wired = s.wired ∧ (s.setRegBit o i v).tiers = s.tiers ∧ (s.setRegBit o i v).ports = s.ports ∧
    (s.setRegBit o i v).perstLow = s.perstLow ∧ (s.setRegBit o i v).modulesLost = s.modulesLost ∧
    (s.setRegBit o i v).ctxs = s.ctxs ∧ (s.setRegBit o i v).exts = s.exts ∧ (s.setRegBit o i v).listUse = s.listUse ∧
    (s.setRegBit o i v).alloc = s.alloc ∧ (s.setRegBit o i v).valid = s.valid ∧ (s.setRegBit o i v).held = s.held ∧
    (s.setRegBit o i v).slices = s.slices ∧ (s.setRegBit o i v).cistern = s.cistern ∧
    (s.setRegBit o i v).chans = s.chans ∧ (s.setRegBit o i v).poison = s.poison ∧
    (s.setRegBit o i v).ovfTime = s.ovfTime ∧ (s.setRegBit o i v).unitCe = s.unitCe ∧
    (s.setRegBit o i v).ceWindow = s.ceWindow ∧ (s.setRegBit o i v).keys = s.keys ∧
    (s.setRegBit o i v).drbgDraws = s.drbgDraws ∧ (s.setRegBit o i v).entropyFailed = s.entropyFailed ∧
    (s.setRegBit o i v).entropyTestAt = s.entropyTestAt ∧ (s.setRegBit o i v).tagSets = s.tagSets ∧
    (s.setRegBit o i v).classes = s.classes ∧ (s.setRegBit o i v).chanWeirs = s.chanWeirs ∧
    (s.setRegBit o i v).portWeirs = s.portWeirs ∧ (s.setRegBit o i v).effective = s.effective ∧
    (s.setRegBit o i v).missPending = s.missPending ∧ (s.setRegBit o i v).missLast = s.missLast ∧
    (s.setRegBit o i v).rowWatch = s.rowWatch ∧ (s.setRegBit o i v).retiredSets = s.retiredSets ∧
    (s.setRegBit o i v).leaves = s.leaves ∧ (s.setRegBit o i v).leafBank = s.leafBank ∧
    (s.setRegBit o i v).remoteLeaves = s.remoteLeaves ∧ (s.setRegBit o i v).sweeps = s.sweeps ∧
    (s.setRegBit o i v).links = s.links ∧ (s.setRegBit o i v).remote = s.remote ∧
    (s.setRegBit o i v).nextTxid = s.nextTxid ∧ (s.setRegBit o i v).noRoute = s.noRoute ∧
    (s.setRegBit o i v).pool = s.pool ∧ (s.setRegBit o i v).migrations = s.migrations ∧
    (s.setRegBit o i v).flt = s.flt ∧ (s.setRegBit o i v).pkgMode = s.pkgMode ∧
    (s.setRegBit o i v).sensors = s.sensors ∧ (s.setRegBit o i v).heat = s.heat ∧
    (s.setRegBit o i v).thmMsixLast = s.thmMsixLast ∧ (s.setRegBit o i v).thmMsixPending = s.thmMsixPending ∧
    (s.setRegBit o i v).tierReqs = s.tierReqs ∧ (s.setRegBit o i v).opWaits = s.opWaits ∧
    (s.setRegBit o i v).fuses = s.fuses ∧ (s.setRegBit o i v).arb = s.arb ∧ (s.setRegBit o i v).flash = s.flash ∧
    (s.setRegBit o i v).dbg = s.dbg ∧ (s.setRegBit o i v).rings = s.rings ∧ (s.setRegBit o i v).fetched = s.fetched ∧
    (s.setRegBit o i v).cplQ = s.cplQ ∧ (s.setRegBit o i v).sluiceRr = s.sluiceRr ∧
    (s.setRegBit o i v).commits = s.commits ∧ (s.setRegBit o i v).drains = s.drains ∧
    (s.setRegBit o i v).clears = s.clears ∧ (s.setRegBit o i v).unmaps = s.unmaps ∧
    (s.setRegBit o i v).releases = s.releases ∧ (s.setRegBit o i v).extAcc = s.extAcc ∧
    (s.setRegBit o i v).extAt = s.extAt ∧ (s.setRegBit o i v).meter = s.meter ∧ (s.setRegBit o i v).mgmt = s.mgmt ∧
    (s.setRegBit o i v).updateLog = s.updateLog ∧ (s.setRegBit o i v).wakeReq = s.wakeReq ∧
    (s.setRegBit o i v).tasks = s.tasks ∧ (s.setRegBit o i v).pieces = s.pieces ∧ (s.setRegBit o i v).jets = s.jets ∧
    (s.setRegBit o i v).pieceSeq = s.pieceSeq ∧ (s.setRegBit o i v).badExt = s.badExt ∧
    (s.setRegBit o i v).repair = s.repair := by
  repeat' first | exact rfl | refine ⟨rfl, ?_⟩

@[simp] theorem State.count_frame (s : State) (o n : Nat) :
    (s.count o n).pending = s.pending ∧ (s.count o n).out = s.out ∧ (s.count o n).fresh = s.fresh ∧
    (s.count o n).us = s.us ∧ (s.count o n).frac = s.frac ∧ (s.count o n).refPresent = s.refPresent ∧
    (s.count o n).xtalRunning = s.xtalRunning ∧ (s.count o n).paths = s.paths ∧ (s.count o n).wired = s.wired ∧
    (s.count o n).tiers = s.tiers ∧ (s.count o n).ports = s.ports ∧ (s.count o n).perstLow = s.perstLow ∧
    (s.count o n).modulesLost = s.modulesLost ∧ (s.count o n).ctxs = s.ctxs ∧ (s.count o n).exts = s.exts ∧
    (s.count o n).listUse = s.listUse ∧ (s.count o n).alloc = s.alloc ∧ (s.count o n).valid = s.valid ∧
    (s.count o n).held = s.held ∧ (s.count o n).slices = s.slices ∧ (s.count o n).cistern = s.cistern ∧
    (s.count o n).chans = s.chans ∧ (s.count o n).poison = s.poison ∧ (s.count o n).ovfTime = s.ovfTime ∧
    (s.count o n).unitCe = s.unitCe ∧ (s.count o n).ceWindow = s.ceWindow ∧ (s.count o n).keys = s.keys ∧
    (s.count o n).drbgDraws = s.drbgDraws ∧ (s.count o n).entropyFailed = s.entropyFailed ∧
    (s.count o n).entropyTestAt = s.entropyTestAt ∧ (s.count o n).tagSets = s.tagSets ∧
    (s.count o n).classes = s.classes ∧ (s.count o n).chanWeirs = s.chanWeirs ∧ (s.count o n).portWeirs = s.portWeirs ∧
    (s.count o n).effective = s.effective ∧ (s.count o n).missPending = s.missPending ∧
    (s.count o n).missLast = s.missLast ∧ (s.count o n).rowWatch = s.rowWatch ∧
    (s.count o n).retiredSets = s.retiredSets ∧ (s.count o n).leaves = s.leaves ∧ (s.count o n).leafBank = s.leafBank ∧
    (s.count o n).remoteLeaves = s.remoteLeaves ∧ (s.count o n).sweeps = s.sweeps ∧ (s.count o n).links = s.links ∧
    (s.count o n).remote = s.remote ∧ (s.count o n).nextTxid = s.nextTxid ∧ (s.count o n).noRoute = s.noRoute ∧
    (s.count o n).pool = s.pool ∧ (s.count o n).migrations = s.migrations ∧ (s.count o n).flt = s.flt ∧
    (s.count o n).pkgMode = s.pkgMode ∧ (s.count o n).sensors = s.sensors ∧ (s.count o n).heat = s.heat ∧
    (s.count o n).thmMsixLast = s.thmMsixLast ∧ (s.count o n).thmMsixPending = s.thmMsixPending ∧
    (s.count o n).tierReqs = s.tierReqs ∧ (s.count o n).opWaits = s.opWaits ∧ (s.count o n).fuses = s.fuses ∧
    (s.count o n).arb = s.arb ∧ (s.count o n).flash = s.flash ∧ (s.count o n).dbg = s.dbg ∧
    (s.count o n).rings = s.rings ∧ (s.count o n).fetched = s.fetched ∧ (s.count o n).cplQ = s.cplQ ∧
    (s.count o n).sluiceRr = s.sluiceRr ∧ (s.count o n).commits = s.commits ∧ (s.count o n).drains = s.drains ∧
    (s.count o n).clears = s.clears ∧ (s.count o n).unmaps = s.unmaps ∧ (s.count o n).releases = s.releases ∧
    (s.count o n).extAcc = s.extAcc ∧ (s.count o n).extAt = s.extAt ∧ (s.count o n).meter = s.meter ∧
    (s.count o n).mgmt = s.mgmt ∧ (s.count o n).updateLog = s.updateLog ∧ (s.count o n).wakeReq = s.wakeReq ∧
    (s.count o n).tasks = s.tasks ∧ (s.count o n).pieces = s.pieces ∧ (s.count o n).jets = s.jets ∧
    (s.count o n).pieceSeq = s.pieceSeq ∧ (s.count o n).badExt = s.badExt ∧ (s.count o n).repair = s.repair := by
  repeat' first | exact rfl | refine ⟨rfl, ?_⟩

@[simp] theorem State.emit_frame (s : State) (o : Output) :
    (s.emit o).pending = s.pending ∧ (s.emit o).fresh = s.fresh ∧ (s.emit o).us = s.us ∧ (s.emit o).frac = s.frac ∧
    (s.emit o).refPresent = s.refPresent ∧ (s.emit o).xtalRunning = s.xtalRunning ∧ (s.emit o).regs = s.regs ∧
    (s.emit o).paths = s.paths ∧ (s.emit o).wired = s.wired ∧ (s.emit o).tiers = s.tiers ∧ (s.emit o).ports = s.ports ∧
    (s.emit o).perstLow = s.perstLow ∧ (s.emit o).modulesLost = s.modulesLost ∧ (s.emit o).ctxs = s.ctxs ∧
    (s.emit o).exts = s.exts ∧ (s.emit o).listUse = s.listUse ∧ (s.emit o).alloc = s.alloc ∧
    (s.emit o).valid = s.valid ∧ (s.emit o).held = s.held ∧ (s.emit o).slices = s.slices ∧
    (s.emit o).cistern = s.cistern ∧ (s.emit o).chans = s.chans ∧ (s.emit o).poison = s.poison ∧
    (s.emit o).ovfTime = s.ovfTime ∧ (s.emit o).unitCe = s.unitCe ∧ (s.emit o).ceWindow = s.ceWindow ∧
    (s.emit o).keys = s.keys ∧ (s.emit o).drbgDraws = s.drbgDraws ∧ (s.emit o).entropyFailed = s.entropyFailed ∧
    (s.emit o).entropyTestAt = s.entropyTestAt ∧ (s.emit o).tagSets = s.tagSets ∧ (s.emit o).classes = s.classes ∧
    (s.emit o).chanWeirs = s.chanWeirs ∧ (s.emit o).portWeirs = s.portWeirs ∧ (s.emit o).effective = s.effective ∧
    (s.emit o).missPending = s.missPending ∧ (s.emit o).missLast = s.missLast ∧ (s.emit o).rowWatch = s.rowWatch ∧
    (s.emit o).retiredSets = s.retiredSets ∧ (s.emit o).leaves = s.leaves ∧ (s.emit o).leafBank = s.leafBank ∧
    (s.emit o).remoteLeaves = s.remoteLeaves ∧ (s.emit o).sweeps = s.sweeps ∧ (s.emit o).links = s.links ∧
    (s.emit o).remote = s.remote ∧ (s.emit o).nextTxid = s.nextTxid ∧ (s.emit o).noRoute = s.noRoute ∧
    (s.emit o).pool = s.pool ∧ (s.emit o).migrations = s.migrations ∧ (s.emit o).flt = s.flt ∧
    (s.emit o).pkgMode = s.pkgMode ∧ (s.emit o).sensors = s.sensors ∧ (s.emit o).heat = s.heat ∧
    (s.emit o).thmMsixLast = s.thmMsixLast ∧ (s.emit o).thmMsixPending = s.thmMsixPending ∧
    (s.emit o).tierReqs = s.tierReqs ∧ (s.emit o).opWaits = s.opWaits ∧ (s.emit o).fuses = s.fuses ∧
    (s.emit o).arb = s.arb ∧ (s.emit o).flash = s.flash ∧ (s.emit o).dbg = s.dbg ∧ (s.emit o).rings = s.rings ∧
    (s.emit o).fetched = s.fetched ∧ (s.emit o).cplQ = s.cplQ ∧ (s.emit o).sluiceRr = s.sluiceRr ∧
    (s.emit o).commits = s.commits ∧ (s.emit o).drains = s.drains ∧ (s.emit o).clears = s.clears ∧
    (s.emit o).unmaps = s.unmaps ∧ (s.emit o).releases = s.releases ∧ (s.emit o).extAcc = s.extAcc ∧
    (s.emit o).extAt = s.extAt ∧ (s.emit o).meter = s.meter ∧ (s.emit o).mgmt = s.mgmt ∧
    (s.emit o).updateLog = s.updateLog ∧ (s.emit o).wakeReq = s.wakeReq ∧ (s.emit o).tasks = s.tasks ∧
    (s.emit o).pieces = s.pieces ∧ (s.emit o).jets = s.jets ∧ (s.emit o).pieceSeq = s.pieceSeq ∧
    (s.emit o).badExt = s.badExt ∧ (s.emit o).repair = s.repair := by
  repeat' first | exact rfl | refine ⟨rfl, ?_⟩

@[simp] theorem State.drawn_frame (s : State) :
    (s.drawn).pending = s.pending ∧ (s.drawn).out = s.out ∧ (s.drawn).us = s.us ∧ (s.drawn).frac = s.frac ∧
    (s.drawn).refPresent = s.refPresent ∧ (s.drawn).xtalRunning = s.xtalRunning ∧ (s.drawn).regs = s.regs ∧
    (s.drawn).paths = s.paths ∧ (s.drawn).wired = s.wired ∧ (s.drawn).tiers = s.tiers ∧ (s.drawn).ports = s.ports ∧
    (s.drawn).perstLow = s.perstLow ∧ (s.drawn).modulesLost = s.modulesLost ∧ (s.drawn).ctxs = s.ctxs ∧
    (s.drawn).exts = s.exts ∧ (s.drawn).listUse = s.listUse ∧ (s.drawn).alloc = s.alloc ∧ (s.drawn).valid = s.valid ∧
    (s.drawn).held = s.held ∧ (s.drawn).slices = s.slices ∧ (s.drawn).cistern = s.cistern ∧ (s.drawn).chans = s.chans ∧
    (s.drawn).poison = s.poison ∧ (s.drawn).ovfTime = s.ovfTime ∧ (s.drawn).unitCe = s.unitCe ∧
    (s.drawn).ceWindow = s.ceWindow ∧ (s.drawn).keys = s.keys ∧ (s.drawn).drbgDraws = s.drbgDraws ∧
    (s.drawn).entropyFailed = s.entropyFailed ∧ (s.drawn).entropyTestAt = s.entropyTestAt ∧
    (s.drawn).tagSets = s.tagSets ∧ (s.drawn).classes = s.classes ∧ (s.drawn).chanWeirs = s.chanWeirs ∧
    (s.drawn).portWeirs = s.portWeirs ∧ (s.drawn).effective = s.effective ∧ (s.drawn).missPending = s.missPending ∧
    (s.drawn).missLast = s.missLast ∧ (s.drawn).rowWatch = s.rowWatch ∧ (s.drawn).retiredSets = s.retiredSets ∧
    (s.drawn).leaves = s.leaves ∧ (s.drawn).leafBank = s.leafBank ∧ (s.drawn).remoteLeaves = s.remoteLeaves ∧
    (s.drawn).sweeps = s.sweeps ∧ (s.drawn).links = s.links ∧ (s.drawn).remote = s.remote ∧
    (s.drawn).nextTxid = s.nextTxid ∧ (s.drawn).noRoute = s.noRoute ∧ (s.drawn).pool = s.pool ∧
    (s.drawn).migrations = s.migrations ∧ (s.drawn).flt = s.flt ∧ (s.drawn).pkgMode = s.pkgMode ∧
    (s.drawn).sensors = s.sensors ∧ (s.drawn).heat = s.heat ∧ (s.drawn).thmMsixLast = s.thmMsixLast ∧
    (s.drawn).thmMsixPending = s.thmMsixPending ∧ (s.drawn).tierReqs = s.tierReqs ∧ (s.drawn).opWaits = s.opWaits ∧
    (s.drawn).fuses = s.fuses ∧ (s.drawn).arb = s.arb ∧ (s.drawn).flash = s.flash ∧ (s.drawn).dbg = s.dbg ∧
    (s.drawn).rings = s.rings ∧ (s.drawn).fetched = s.fetched ∧ (s.drawn).cplQ = s.cplQ ∧
    (s.drawn).sluiceRr = s.sluiceRr ∧ (s.drawn).commits = s.commits ∧ (s.drawn).drains = s.drains ∧
    (s.drawn).clears = s.clears ∧ (s.drawn).unmaps = s.unmaps ∧ (s.drawn).releases = s.releases ∧
    (s.drawn).extAcc = s.extAcc ∧ (s.drawn).extAt = s.extAt ∧ (s.drawn).meter = s.meter ∧ (s.drawn).mgmt = s.mgmt ∧
    (s.drawn).updateLog = s.updateLog ∧ (s.drawn).wakeReq = s.wakeReq ∧ (s.drawn).tasks = s.tasks ∧
    (s.drawn).pieces = s.pieces ∧ (s.drawn).jets = s.jets ∧ (s.drawn).pieceSeq = s.pieceSeq ∧
    (s.drawn).badExt = s.badExt ∧ (s.drawn).repair = s.repair := by
  repeat' first | exact rfl | refine ⟨rfl, ?_⟩

@[simp] theorem State.setPort_frame (s : State) (p : Nat) (v : Port) :
    (s.setPort p v).pending = s.pending ∧ (s.setPort p v).out = s.out ∧ (s.setPort p v).fresh = s.fresh ∧
    (s.setPort p v).us = s.us ∧ (s.setPort p v).frac = s.frac ∧ (s.setPort p v).refPresent = s.refPresent ∧
    (s.setPort p v).xtalRunning = s.xtalRunning ∧ (s.setPort p v).regs = s.regs ∧ (s.setPort p v).paths = s.paths ∧
    (s.setPort p v).wired = s.wired ∧ (s.setPort p v).tiers = s.tiers ∧ (s.setPort p v).perstLow = s.perstLow ∧
    (s.setPort p v).modulesLost = s.modulesLost ∧ (s.setPort p v).ctxs = s.ctxs ∧ (s.setPort p v).exts = s.exts ∧
    (s.setPort p v).listUse = s.listUse ∧ (s.setPort p v).alloc = s.alloc ∧ (s.setPort p v).valid = s.valid ∧
    (s.setPort p v).held = s.held ∧ (s.setPort p v).slices = s.slices ∧ (s.setPort p v).cistern = s.cistern ∧
    (s.setPort p v).chans = s.chans ∧ (s.setPort p v).poison = s.poison ∧ (s.setPort p v).ovfTime = s.ovfTime ∧
    (s.setPort p v).unitCe = s.unitCe ∧ (s.setPort p v).ceWindow = s.ceWindow ∧ (s.setPort p v).keys = s.keys ∧
    (s.setPort p v).drbgDraws = s.drbgDraws ∧ (s.setPort p v).entropyFailed = s.entropyFailed ∧
    (s.setPort p v).entropyTestAt = s.entropyTestAt ∧ (s.setPort p v).tagSets = s.tagSets ∧
    (s.setPort p v).classes = s.classes ∧ (s.setPort p v).chanWeirs = s.chanWeirs ∧
    (s.setPort p v).portWeirs = s.portWeirs ∧ (s.setPort p v).effective = s.effective ∧
    (s.setPort p v).missPending = s.missPending ∧ (s.setPort p v).missLast = s.missLast ∧
    (s.setPort p v).rowWatch = s.rowWatch ∧ (s.setPort p v).retiredSets = s.retiredSets ∧
    (s.setPort p v).leaves = s.leaves ∧ (s.setPort p v).leafBank = s.leafBank ∧
    (s.setPort p v).remoteLeaves = s.remoteLeaves ∧ (s.setPort p v).sweeps = s.sweeps ∧
    (s.setPort p v).links = s.links ∧ (s.setPort p v).remote = s.remote ∧ (s.setPort p v).nextTxid = s.nextTxid ∧
    (s.setPort p v).noRoute = s.noRoute ∧ (s.setPort p v).pool = s.pool ∧ (s.setPort p v).migrations = s.migrations ∧
    (s.setPort p v).flt = s.flt ∧ (s.setPort p v).pkgMode = s.pkgMode ∧ (s.setPort p v).sensors = s.sensors ∧
    (s.setPort p v).heat = s.heat ∧ (s.setPort p v).thmMsixLast = s.thmMsixLast ∧
    (s.setPort p v).thmMsixPending = s.thmMsixPending ∧ (s.setPort p v).tierReqs = s.tierReqs ∧
    (s.setPort p v).opWaits = s.opWaits ∧ (s.setPort p v).fuses = s.fuses ∧ (s.setPort p v).arb = s.arb ∧
    (s.setPort p v).flash = s.flash ∧ (s.setPort p v).dbg = s.dbg ∧ (s.setPort p v).rings = s.rings ∧
    (s.setPort p v).fetched = s.fetched ∧ (s.setPort p v).cplQ = s.cplQ ∧ (s.setPort p v).sluiceRr = s.sluiceRr ∧
    (s.setPort p v).commits = s.commits ∧ (s.setPort p v).drains = s.drains ∧ (s.setPort p v).clears = s.clears ∧
    (s.setPort p v).unmaps = s.unmaps ∧ (s.setPort p v).releases = s.releases ∧ (s.setPort p v).extAcc = s.extAcc ∧
    (s.setPort p v).extAt = s.extAt ∧ (s.setPort p v).meter = s.meter ∧ (s.setPort p v).mgmt = s.mgmt ∧
    (s.setPort p v).updateLog = s.updateLog ∧ (s.setPort p v).wakeReq = s.wakeReq ∧ (s.setPort p v).tasks = s.tasks ∧
    (s.setPort p v).pieces = s.pieces ∧ (s.setPort p v).jets = s.jets ∧ (s.setPort p v).pieceSeq = s.pieceSeq ∧
    (s.setPort p v).badExt = s.badExt ∧ (s.setPort p v).repair = s.repair := by
  repeat' first | exact rfl | refine ⟨rfl, ?_⟩

@[simp] theorem State.setTier_frame (s : State) (t : Nat) (v : Tier) :
    (s.setTier t v).pending = s.pending ∧ (s.setTier t v).out = s.out ∧ (s.setTier t v).fresh = s.fresh ∧
    (s.setTier t v).us = s.us ∧ (s.setTier t v).frac = s.frac ∧ (s.setTier t v).refPresent = s.refPresent ∧
    (s.setTier t v).xtalRunning = s.xtalRunning ∧ (s.setTier t v).regs = s.regs ∧ (s.setTier t v).paths = s.paths ∧
    (s.setTier t v).wired = s.wired ∧ (s.setTier t v).ports = s.ports ∧ (s.setTier t v).perstLow = s.perstLow ∧
    (s.setTier t v).modulesLost = s.modulesLost ∧ (s.setTier t v).ctxs = s.ctxs ∧ (s.setTier t v).exts = s.exts ∧
    (s.setTier t v).listUse = s.listUse ∧ (s.setTier t v).alloc = s.alloc ∧ (s.setTier t v).valid = s.valid ∧
    (s.setTier t v).held = s.held ∧ (s.setTier t v).slices = s.slices ∧ (s.setTier t v).cistern = s.cistern ∧
    (s.setTier t v).chans = s.chans ∧ (s.setTier t v).poison = s.poison ∧ (s.setTier t v).ovfTime = s.ovfTime ∧
    (s.setTier t v).unitCe = s.unitCe ∧ (s.setTier t v).ceWindow = s.ceWindow ∧ (s.setTier t v).keys = s.keys ∧
    (s.setTier t v).drbgDraws = s.drbgDraws ∧ (s.setTier t v).entropyFailed = s.entropyFailed ∧
    (s.setTier t v).entropyTestAt = s.entropyTestAt ∧ (s.setTier t v).tagSets = s.tagSets ∧
    (s.setTier t v).classes = s.classes ∧ (s.setTier t v).chanWeirs = s.chanWeirs ∧
    (s.setTier t v).portWeirs = s.portWeirs ∧ (s.setTier t v).effective = s.effective ∧
    (s.setTier t v).missPending = s.missPending ∧ (s.setTier t v).missLast = s.missLast ∧
    (s.setTier t v).rowWatch = s.rowWatch ∧ (s.setTier t v).retiredSets = s.retiredSets ∧
    (s.setTier t v).leaves = s.leaves ∧ (s.setTier t v).leafBank = s.leafBank ∧
    (s.setTier t v).remoteLeaves = s.remoteLeaves ∧ (s.setTier t v).sweeps = s.sweeps ∧
    (s.setTier t v).links = s.links ∧ (s.setTier t v).remote = s.remote ∧ (s.setTier t v).nextTxid = s.nextTxid ∧
    (s.setTier t v).noRoute = s.noRoute ∧ (s.setTier t v).pool = s.pool ∧ (s.setTier t v).migrations = s.migrations ∧
    (s.setTier t v).flt = s.flt ∧ (s.setTier t v).pkgMode = s.pkgMode ∧ (s.setTier t v).sensors = s.sensors ∧
    (s.setTier t v).heat = s.heat ∧ (s.setTier t v).thmMsixLast = s.thmMsixLast ∧
    (s.setTier t v).thmMsixPending = s.thmMsixPending ∧ (s.setTier t v).tierReqs = s.tierReqs ∧
    (s.setTier t v).opWaits = s.opWaits ∧ (s.setTier t v).fuses = s.fuses ∧ (s.setTier t v).arb = s.arb ∧
    (s.setTier t v).flash = s.flash ∧ (s.setTier t v).dbg = s.dbg ∧ (s.setTier t v).rings = s.rings ∧
    (s.setTier t v).fetched = s.fetched ∧ (s.setTier t v).cplQ = s.cplQ ∧ (s.setTier t v).sluiceRr = s.sluiceRr ∧
    (s.setTier t v).commits = s.commits ∧ (s.setTier t v).drains = s.drains ∧ (s.setTier t v).clears = s.clears ∧
    (s.setTier t v).unmaps = s.unmaps ∧ (s.setTier t v).releases = s.releases ∧ (s.setTier t v).extAcc = s.extAcc ∧
    (s.setTier t v).extAt = s.extAt ∧ (s.setTier t v).meter = s.meter ∧ (s.setTier t v).mgmt = s.mgmt ∧
    (s.setTier t v).updateLog = s.updateLog ∧ (s.setTier t v).wakeReq = s.wakeReq ∧ (s.setTier t v).tasks = s.tasks ∧
    (s.setTier t v).pieces = s.pieces ∧ (s.setTier t v).jets = s.jets ∧ (s.setTier t v).pieceSeq = s.pieceSeq ∧
    (s.setTier t v).badExt = s.badExt ∧ (s.setTier t v).repair = s.repair := by
  repeat' first | exact rfl | refine ⟨rfl, ?_⟩

@[simp] theorem State.setCtx_frame (s : State) (c : Nat) (v : Ctx) :
    (s.setCtx c v).pending = s.pending ∧ (s.setCtx c v).out = s.out ∧ (s.setCtx c v).fresh = s.fresh ∧
    (s.setCtx c v).us = s.us ∧ (s.setCtx c v).frac = s.frac ∧ (s.setCtx c v).refPresent = s.refPresent ∧
    (s.setCtx c v).xtalRunning = s.xtalRunning ∧ (s.setCtx c v).regs = s.regs ∧ (s.setCtx c v).paths = s.paths ∧
    (s.setCtx c v).wired = s.wired ∧ (s.setCtx c v).tiers = s.tiers ∧ (s.setCtx c v).ports = s.ports ∧
    (s.setCtx c v).perstLow = s.perstLow ∧ (s.setCtx c v).modulesLost = s.modulesLost ∧ (s.setCtx c v).exts = s.exts ∧
    (s.setCtx c v).listUse = s.listUse ∧ (s.setCtx c v).alloc = s.alloc ∧ (s.setCtx c v).valid = s.valid ∧
    (s.setCtx c v).held = s.held ∧ (s.setCtx c v).slices = s.slices ∧ (s.setCtx c v).cistern = s.cistern ∧
    (s.setCtx c v).chans = s.chans ∧ (s.setCtx c v).poison = s.poison ∧ (s.setCtx c v).ovfTime = s.ovfTime ∧
    (s.setCtx c v).unitCe = s.unitCe ∧ (s.setCtx c v).ceWindow = s.ceWindow ∧ (s.setCtx c v).keys = s.keys ∧
    (s.setCtx c v).drbgDraws = s.drbgDraws ∧ (s.setCtx c v).entropyFailed = s.entropyFailed ∧
    (s.setCtx c v).entropyTestAt = s.entropyTestAt ∧ (s.setCtx c v).tagSets = s.tagSets ∧
    (s.setCtx c v).classes = s.classes ∧ (s.setCtx c v).chanWeirs = s.chanWeirs ∧
    (s.setCtx c v).portWeirs = s.portWeirs ∧ (s.setCtx c v).effective = s.effective ∧
    (s.setCtx c v).missPending = s.missPending ∧ (s.setCtx c v).missLast = s.missLast ∧
    (s.setCtx c v).rowWatch = s.rowWatch ∧ (s.setCtx c v).retiredSets = s.retiredSets ∧
    (s.setCtx c v).leaves = s.leaves ∧ (s.setCtx c v).leafBank = s.leafBank ∧
    (s.setCtx c v).remoteLeaves = s.remoteLeaves ∧ (s.setCtx c v).sweeps = s.sweeps ∧ (s.setCtx c v).links = s.links ∧
    (s.setCtx c v).remote = s.remote ∧ (s.setCtx c v).nextTxid = s.nextTxid ∧ (s.setCtx c v).noRoute = s.noRoute ∧
    (s.setCtx c v).pool = s.pool ∧ (s.setCtx c v).migrations = s.migrations ∧ (s.setCtx c v).flt = s.flt ∧
    (s.setCtx c v).pkgMode = s.pkgMode ∧ (s.setCtx c v).sensors = s.sensors ∧ (s.setCtx c v).heat = s.heat ∧
    (s.setCtx c v).thmMsixLast = s.thmMsixLast ∧ (s.setCtx c v).thmMsixPending = s.thmMsixPending ∧
    (s.setCtx c v).tierReqs = s.tierReqs ∧ (s.setCtx c v).opWaits = s.opWaits ∧ (s.setCtx c v).fuses = s.fuses ∧
    (s.setCtx c v).arb = s.arb ∧ (s.setCtx c v).flash = s.flash ∧ (s.setCtx c v).dbg = s.dbg ∧
    (s.setCtx c v).rings = s.rings ∧ (s.setCtx c v).fetched = s.fetched ∧ (s.setCtx c v).cplQ = s.cplQ ∧
    (s.setCtx c v).sluiceRr = s.sluiceRr ∧ (s.setCtx c v).commits = s.commits ∧ (s.setCtx c v).drains = s.drains ∧
    (s.setCtx c v).clears = s.clears ∧ (s.setCtx c v).unmaps = s.unmaps ∧ (s.setCtx c v).releases = s.releases ∧
    (s.setCtx c v).extAcc = s.extAcc ∧ (s.setCtx c v).extAt = s.extAt ∧ (s.setCtx c v).meter = s.meter ∧
    (s.setCtx c v).mgmt = s.mgmt ∧ (s.setCtx c v).updateLog = s.updateLog ∧ (s.setCtx c v).wakeReq = s.wakeReq ∧
    (s.setCtx c v).tasks = s.tasks ∧ (s.setCtx c v).pieces = s.pieces ∧ (s.setCtx c v).jets = s.jets ∧
    (s.setCtx c v).pieceSeq = s.pieceSeq ∧ (s.setCtx c v).badExt = s.badExt ∧ (s.setCtx c v).repair = s.repair := by
  repeat' first | exact rfl | refine ⟨rfl, ?_⟩

@[simp] theorem State.setExt_frame (s : State) (c i : Nat) (v : ExtEntry) :
    (s.setExt c i v).pending = s.pending ∧ (s.setExt c i v).out = s.out ∧ (s.setExt c i v).fresh = s.fresh ∧
    (s.setExt c i v).us = s.us ∧ (s.setExt c i v).frac = s.frac ∧ (s.setExt c i v).refPresent = s.refPresent ∧
    (s.setExt c i v).xtalRunning = s.xtalRunning ∧ (s.setExt c i v).regs = s.regs ∧ (s.setExt c i v).paths = s.paths ∧
    (s.setExt c i v).wired = s.wired ∧ (s.setExt c i v).tiers = s.tiers ∧ (s.setExt c i v).ports = s.ports ∧
    (s.setExt c i v).perstLow = s.perstLow ∧ (s.setExt c i v).modulesLost = s.modulesLost ∧
    (s.setExt c i v).ctxs = s.ctxs ∧ (s.setExt c i v).listUse = s.listUse ∧ (s.setExt c i v).alloc = s.alloc ∧
    (s.setExt c i v).valid = s.valid ∧ (s.setExt c i v).held = s.held ∧ (s.setExt c i v).slices = s.slices ∧
    (s.setExt c i v).cistern = s.cistern ∧ (s.setExt c i v).chans = s.chans ∧ (s.setExt c i v).poison = s.poison ∧
    (s.setExt c i v).ovfTime = s.ovfTime ∧ (s.setExt c i v).unitCe = s.unitCe ∧
    (s.setExt c i v).ceWindow = s.ceWindow ∧ (s.setExt c i v).keys = s.keys ∧
    (s.setExt c i v).drbgDraws = s.drbgDraws ∧ (s.setExt c i v).entropyFailed = s.entropyFailed ∧
    (s.setExt c i v).entropyTestAt = s.entropyTestAt ∧ (s.setExt c i v).tagSets = s.tagSets ∧
    (s.setExt c i v).classes = s.classes ∧ (s.setExt c i v).chanWeirs = s.chanWeirs ∧
    (s.setExt c i v).portWeirs = s.portWeirs ∧ (s.setExt c i v).effective = s.effective ∧
    (s.setExt c i v).missPending = s.missPending ∧ (s.setExt c i v).missLast = s.missLast ∧
    (s.setExt c i v).rowWatch = s.rowWatch ∧ (s.setExt c i v).retiredSets = s.retiredSets ∧
    (s.setExt c i v).leaves = s.leaves ∧ (s.setExt c i v).leafBank = s.leafBank ∧
    (s.setExt c i v).remoteLeaves = s.remoteLeaves ∧ (s.setExt c i v).sweeps = s.sweeps ∧
    (s.setExt c i v).links = s.links ∧ (s.setExt c i v).remote = s.remote ∧ (s.setExt c i v).nextTxid = s.nextTxid ∧
    (s.setExt c i v).noRoute = s.noRoute ∧ (s.setExt c i v).pool = s.pool ∧
    (s.setExt c i v).migrations = s.migrations ∧ (s.setExt c i v).flt = s.flt ∧ (s.setExt c i v).pkgMode = s.pkgMode ∧
    (s.setExt c i v).sensors = s.sensors ∧ (s.setExt c i v).heat = s.heat ∧
    (s.setExt c i v).thmMsixLast = s.thmMsixLast ∧ (s.setExt c i v).thmMsixPending = s.thmMsixPending ∧
    (s.setExt c i v).tierReqs = s.tierReqs ∧ (s.setExt c i v).opWaits = s.opWaits ∧ (s.setExt c i v).fuses = s.fuses ∧
    (s.setExt c i v).arb = s.arb ∧ (s.setExt c i v).flash = s.flash ∧ (s.setExt c i v).dbg = s.dbg ∧
    (s.setExt c i v).rings = s.rings ∧ (s.setExt c i v).fetched = s.fetched ∧ (s.setExt c i v).cplQ = s.cplQ ∧
    (s.setExt c i v).sluiceRr = s.sluiceRr ∧ (s.setExt c i v).commits = s.commits ∧
    (s.setExt c i v).drains = s.drains ∧ (s.setExt c i v).clears = s.clears ∧ (s.setExt c i v).unmaps = s.unmaps ∧
    (s.setExt c i v).releases = s.releases ∧ (s.setExt c i v).extAcc = s.extAcc ∧ (s.setExt c i v).extAt = s.extAt ∧
    (s.setExt c i v).meter = s.meter ∧ (s.setExt c i v).mgmt = s.mgmt ∧ (s.setExt c i v).updateLog = s.updateLog ∧
    (s.setExt c i v).wakeReq = s.wakeReq ∧ (s.setExt c i v).tasks = s.tasks ∧ (s.setExt c i v).pieces = s.pieces ∧
    (s.setExt c i v).jets = s.jets ∧ (s.setExt c i v).pieceSeq = s.pieceSeq ∧ (s.setExt c i v).badExt = s.badExt ∧
    (s.setExt c i v).repair = s.repair := by
  repeat' first | exact rfl | refine ⟨rfl, ?_⟩

@[simp] theorem State.setAlloc_frame (s : State) (t e : Nat) (v : Bool) :
    (s.setAlloc t e v).pending = s.pending ∧ (s.setAlloc t e v).out = s.out ∧ (s.setAlloc t e v).fresh = s.fresh ∧
    (s.setAlloc t e v).us = s.us ∧ (s.setAlloc t e v).frac = s.frac ∧ (s.setAlloc t e v).refPresent = s.refPresent ∧
    (s.setAlloc t e v).xtalRunning = s.xtalRunning ∧ (s.setAlloc t e v).regs = s.regs ∧
    (s.setAlloc t e v).paths = s.paths ∧ (s.setAlloc t e v).wired = s.wired ∧ (s.setAlloc t e v).tiers = s.tiers ∧
    (s.setAlloc t e v).ports = s.ports ∧ (s.setAlloc t e v).perstLow = s.perstLow ∧
    (s.setAlloc t e v).modulesLost = s.modulesLost ∧ (s.setAlloc t e v).ctxs = s.ctxs ∧
    (s.setAlloc t e v).exts = s.exts ∧ (s.setAlloc t e v).listUse = s.listUse ∧ (s.setAlloc t e v).valid = s.valid ∧
    (s.setAlloc t e v).held = s.held ∧ (s.setAlloc t e v).slices = s.slices ∧ (s.setAlloc t e v).cistern = s.cistern ∧
    (s.setAlloc t e v).chans = s.chans ∧ (s.setAlloc t e v).poison = s.poison ∧
    (s.setAlloc t e v).ovfTime = s.ovfTime ∧ (s.setAlloc t e v).unitCe = s.unitCe ∧
    (s.setAlloc t e v).ceWindow = s.ceWindow ∧ (s.setAlloc t e v).keys = s.keys ∧
    (s.setAlloc t e v).drbgDraws = s.drbgDraws ∧ (s.setAlloc t e v).entropyFailed = s.entropyFailed ∧
    (s.setAlloc t e v).entropyTestAt = s.entropyTestAt ∧ (s.setAlloc t e v).tagSets = s.tagSets ∧
    (s.setAlloc t e v).classes = s.classes ∧ (s.setAlloc t e v).chanWeirs = s.chanWeirs ∧
    (s.setAlloc t e v).portWeirs = s.portWeirs ∧ (s.setAlloc t e v).effective = s.effective ∧
    (s.setAlloc t e v).missPending = s.missPending ∧ (s.setAlloc t e v).missLast = s.missLast ∧
    (s.setAlloc t e v).rowWatch = s.rowWatch ∧ (s.setAlloc t e v).retiredSets = s.retiredSets ∧
    (s.setAlloc t e v).leaves = s.leaves ∧ (s.setAlloc t e v).leafBank = s.leafBank ∧
    (s.setAlloc t e v).remoteLeaves = s.remoteLeaves ∧ (s.setAlloc t e v).sweeps = s.sweeps ∧
    (s.setAlloc t e v).links = s.links ∧ (s.setAlloc t e v).remote = s.remote ∧
    (s.setAlloc t e v).nextTxid = s.nextTxid ∧ (s.setAlloc t e v).noRoute = s.noRoute ∧
    (s.setAlloc t e v).pool = s.pool ∧ (s.setAlloc t e v).migrations = s.migrations ∧ (s.setAlloc t e v).flt = s.flt ∧
    (s.setAlloc t e v).pkgMode = s.pkgMode ∧ (s.setAlloc t e v).sensors = s.sensors ∧
    (s.setAlloc t e v).heat = s.heat ∧ (s.setAlloc t e v).thmMsixLast = s.thmMsixLast ∧
    (s.setAlloc t e v).thmMsixPending = s.thmMsixPending ∧ (s.setAlloc t e v).tierReqs = s.tierReqs ∧
    (s.setAlloc t e v).opWaits = s.opWaits ∧ (s.setAlloc t e v).fuses = s.fuses ∧ (s.setAlloc t e v).arb = s.arb ∧
    (s.setAlloc t e v).flash = s.flash ∧ (s.setAlloc t e v).dbg = s.dbg ∧ (s.setAlloc t e v).rings = s.rings ∧
    (s.setAlloc t e v).fetched = s.fetched ∧ (s.setAlloc t e v).cplQ = s.cplQ ∧
    (s.setAlloc t e v).sluiceRr = s.sluiceRr ∧ (s.setAlloc t e v).commits = s.commits ∧
    (s.setAlloc t e v).drains = s.drains ∧ (s.setAlloc t e v).clears = s.clears ∧
    (s.setAlloc t e v).unmaps = s.unmaps ∧ (s.setAlloc t e v).releases = s.releases ∧
    (s.setAlloc t e v).extAcc = s.extAcc ∧ (s.setAlloc t e v).extAt = s.extAt ∧ (s.setAlloc t e v).meter = s.meter ∧
    (s.setAlloc t e v).mgmt = s.mgmt ∧ (s.setAlloc t e v).updateLog = s.updateLog ∧
    (s.setAlloc t e v).wakeReq = s.wakeReq ∧ (s.setAlloc t e v).tasks = s.tasks ∧
    (s.setAlloc t e v).pieces = s.pieces ∧ (s.setAlloc t e v).jets = s.jets ∧
    (s.setAlloc t e v).pieceSeq = s.pieceSeq ∧ (s.setAlloc t e v).badExt = s.badExt ∧
    (s.setAlloc t e v).repair = s.repair := by
  repeat' first | exact rfl | refine ⟨rfl, ?_⟩

@[simp] theorem State.setValidLine_frame (s : State) (t e : Nat) (v : ValidLine) :
    (s.setValidLine t e v).pending = s.pending ∧ (s.setValidLine t e v).out = s.out ∧
    (s.setValidLine t e v).fresh = s.fresh ∧ (s.setValidLine t e v).us = s.us ∧ (s.setValidLine t e v).frac = s.frac ∧
    (s.setValidLine t e v).refPresent = s.refPresent ∧ (s.setValidLine t e v).xtalRunning = s.xtalRunning ∧
    (s.setValidLine t e v).regs = s.regs ∧ (s.setValidLine t e v).paths = s.paths ∧
    (s.setValidLine t e v).wired = s.wired ∧ (s.setValidLine t e v).tiers = s.tiers ∧
    (s.setValidLine t e v).ports = s.ports ∧ (s.setValidLine t e v).perstLow = s.perstLow ∧
    (s.setValidLine t e v).modulesLost = s.modulesLost ∧ (s.setValidLine t e v).ctxs = s.ctxs ∧
    (s.setValidLine t e v).exts = s.exts ∧ (s.setValidLine t e v).listUse = s.listUse ∧
    (s.setValidLine t e v).alloc = s.alloc ∧ (s.setValidLine t e v).held = s.held ∧
    (s.setValidLine t e v).slices = s.slices ∧ (s.setValidLine t e v).cistern = s.cistern ∧
    (s.setValidLine t e v).chans = s.chans ∧ (s.setValidLine t e v).poison = s.poison ∧
    (s.setValidLine t e v).ovfTime = s.ovfTime ∧ (s.setValidLine t e v).unitCe = s.unitCe ∧
    (s.setValidLine t e v).ceWindow = s.ceWindow ∧ (s.setValidLine t e v).keys = s.keys ∧
    (s.setValidLine t e v).drbgDraws = s.drbgDraws ∧ (s.setValidLine t e v).entropyFailed = s.entropyFailed ∧
    (s.setValidLine t e v).entropyTestAt = s.entropyTestAt ∧ (s.setValidLine t e v).tagSets = s.tagSets ∧
    (s.setValidLine t e v).classes = s.classes ∧ (s.setValidLine t e v).chanWeirs = s.chanWeirs ∧
    (s.setValidLine t e v).portWeirs = s.portWeirs ∧ (s.setValidLine t e v).effective = s.effective ∧
    (s.setValidLine t e v).missPending = s.missPending ∧ (s.setValidLine t e v).missLast = s.missLast ∧
    (s.setValidLine t e v).rowWatch = s.rowWatch ∧ (s.setValidLine t e v).retiredSets = s.retiredSets ∧
    (s.setValidLine t e v).leaves = s.leaves ∧ (s.setValidLine t e v).leafBank = s.leafBank ∧
    (s.setValidLine t e v).remoteLeaves = s.remoteLeaves ∧ (s.setValidLine t e v).sweeps = s.sweeps ∧
    (s.setValidLine t e v).links = s.links ∧ (s.setValidLine t e v).remote = s.remote ∧
    (s.setValidLine t e v).nextTxid = s.nextTxid ∧ (s.setValidLine t e v).noRoute = s.noRoute ∧
    (s.setValidLine t e v).pool = s.pool ∧ (s.setValidLine t e v).migrations = s.migrations ∧
    (s.setValidLine t e v).flt = s.flt ∧ (s.setValidLine t e v).pkgMode = s.pkgMode ∧
    (s.setValidLine t e v).sensors = s.sensors ∧ (s.setValidLine t e v).heat = s.heat ∧
    (s.setValidLine t e v).thmMsixLast = s.thmMsixLast ∧ (s.setValidLine t e v).thmMsixPending = s.thmMsixPending ∧
    (s.setValidLine t e v).tierReqs = s.tierReqs ∧ (s.setValidLine t e v).opWaits = s.opWaits ∧
    (s.setValidLine t e v).fuses = s.fuses ∧ (s.setValidLine t e v).arb = s.arb ∧
    (s.setValidLine t e v).flash = s.flash ∧ (s.setValidLine t e v).dbg = s.dbg ∧
    (s.setValidLine t e v).rings = s.rings ∧ (s.setValidLine t e v).fetched = s.fetched ∧
    (s.setValidLine t e v).cplQ = s.cplQ ∧ (s.setValidLine t e v).sluiceRr = s.sluiceRr ∧
    (s.setValidLine t e v).commits = s.commits ∧ (s.setValidLine t e v).drains = s.drains ∧
    (s.setValidLine t e v).clears = s.clears ∧ (s.setValidLine t e v).unmaps = s.unmaps ∧
    (s.setValidLine t e v).releases = s.releases ∧ (s.setValidLine t e v).extAcc = s.extAcc ∧
    (s.setValidLine t e v).extAt = s.extAt ∧ (s.setValidLine t e v).meter = s.meter ∧
    (s.setValidLine t e v).mgmt = s.mgmt ∧ (s.setValidLine t e v).updateLog = s.updateLog ∧
    (s.setValidLine t e v).wakeReq = s.wakeReq ∧ (s.setValidLine t e v).tasks = s.tasks ∧
    (s.setValidLine t e v).pieces = s.pieces ∧ (s.setValidLine t e v).jets = s.jets ∧
    (s.setValidLine t e v).pieceSeq = s.pieceSeq ∧ (s.setValidLine t e v).badExt = s.badExt ∧
    (s.setValidLine t e v).repair = s.repair := by
  repeat' first | exact rfl | refine ⟨rfl, ?_⟩

@[simp] theorem State.setSlice_frame (s : State) (t j : Nat) (v : Slice) :
    (s.setSlice t j v).pending = s.pending ∧ (s.setSlice t j v).out = s.out ∧ (s.setSlice t j v).fresh = s.fresh ∧
    (s.setSlice t j v).us = s.us ∧ (s.setSlice t j v).frac = s.frac ∧ (s.setSlice t j v).refPresent = s.refPresent ∧
    (s.setSlice t j v).xtalRunning = s.xtalRunning ∧ (s.setSlice t j v).regs = s.regs ∧
    (s.setSlice t j v).paths = s.paths ∧ (s.setSlice t j v).wired = s.wired ∧ (s.setSlice t j v).tiers = s.tiers ∧
    (s.setSlice t j v).ports = s.ports ∧ (s.setSlice t j v).perstLow = s.perstLow ∧
    (s.setSlice t j v).modulesLost = s.modulesLost ∧ (s.setSlice t j v).ctxs = s.ctxs ∧
    (s.setSlice t j v).exts = s.exts ∧ (s.setSlice t j v).listUse = s.listUse ∧ (s.setSlice t j v).alloc = s.alloc ∧
    (s.setSlice t j v).valid = s.valid ∧ (s.setSlice t j v).held = s.held ∧ (s.setSlice t j v).cistern = s.cistern ∧
    (s.setSlice t j v).chans = s.chans ∧ (s.setSlice t j v).poison = s.poison ∧
    (s.setSlice t j v).ovfTime = s.ovfTime ∧ (s.setSlice t j v).unitCe = s.unitCe ∧
    (s.setSlice t j v).ceWindow = s.ceWindow ∧ (s.setSlice t j v).keys = s.keys ∧
    (s.setSlice t j v).drbgDraws = s.drbgDraws ∧ (s.setSlice t j v).entropyFailed = s.entropyFailed ∧
    (s.setSlice t j v).entropyTestAt = s.entropyTestAt ∧ (s.setSlice t j v).tagSets = s.tagSets ∧
    (s.setSlice t j v).classes = s.classes ∧ (s.setSlice t j v).chanWeirs = s.chanWeirs ∧
    (s.setSlice t j v).portWeirs = s.portWeirs ∧ (s.setSlice t j v).effective = s.effective ∧
    (s.setSlice t j v).missPending = s.missPending ∧ (s.setSlice t j v).missLast = s.missLast ∧
    (s.setSlice t j v).rowWatch = s.rowWatch ∧ (s.setSlice t j v).retiredSets = s.retiredSets ∧
    (s.setSlice t j v).leaves = s.leaves ∧ (s.setSlice t j v).leafBank = s.leafBank ∧
    (s.setSlice t j v).remoteLeaves = s.remoteLeaves ∧ (s.setSlice t j v).sweeps = s.sweeps ∧
    (s.setSlice t j v).links = s.links ∧ (s.setSlice t j v).remote = s.remote ∧
    (s.setSlice t j v).nextTxid = s.nextTxid ∧ (s.setSlice t j v).noRoute = s.noRoute ∧
    (s.setSlice t j v).pool = s.pool ∧ (s.setSlice t j v).migrations = s.migrations ∧ (s.setSlice t j v).flt = s.flt ∧
    (s.setSlice t j v).pkgMode = s.pkgMode ∧ (s.setSlice t j v).sensors = s.sensors ∧
    (s.setSlice t j v).heat = s.heat ∧ (s.setSlice t j v).thmMsixLast = s.thmMsixLast ∧
    (s.setSlice t j v).thmMsixPending = s.thmMsixPending ∧ (s.setSlice t j v).tierReqs = s.tierReqs ∧
    (s.setSlice t j v).opWaits = s.opWaits ∧ (s.setSlice t j v).fuses = s.fuses ∧ (s.setSlice t j v).arb = s.arb ∧
    (s.setSlice t j v).flash = s.flash ∧ (s.setSlice t j v).dbg = s.dbg ∧ (s.setSlice t j v).rings = s.rings ∧
    (s.setSlice t j v).fetched = s.fetched ∧ (s.setSlice t j v).cplQ = s.cplQ ∧
    (s.setSlice t j v).sluiceRr = s.sluiceRr ∧ (s.setSlice t j v).commits = s.commits ∧
    (s.setSlice t j v).drains = s.drains ∧ (s.setSlice t j v).clears = s.clears ∧
    (s.setSlice t j v).unmaps = s.unmaps ∧ (s.setSlice t j v).releases = s.releases ∧
    (s.setSlice t j v).extAcc = s.extAcc ∧ (s.setSlice t j v).extAt = s.extAt ∧ (s.setSlice t j v).meter = s.meter ∧
    (s.setSlice t j v).mgmt = s.mgmt ∧ (s.setSlice t j v).updateLog = s.updateLog ∧
    (s.setSlice t j v).wakeReq = s.wakeReq ∧ (s.setSlice t j v).tasks = s.tasks ∧
    (s.setSlice t j v).pieces = s.pieces ∧ (s.setSlice t j v).jets = s.jets ∧
    (s.setSlice t j v).pieceSeq = s.pieceSeq ∧ (s.setSlice t j v).badExt = s.badExt ∧
    (s.setSlice t j v).repair = s.repair := by
  repeat' first | exact rfl | refine ⟨rfl, ?_⟩

@[simp] theorem State.setChan_frame (s : State) (t c : Nat) (v : Chan) :
    (s.setChan t c v).pending = s.pending ∧ (s.setChan t c v).out = s.out ∧ (s.setChan t c v).fresh = s.fresh ∧
    (s.setChan t c v).us = s.us ∧ (s.setChan t c v).frac = s.frac ∧ (s.setChan t c v).refPresent = s.refPresent ∧
    (s.setChan t c v).xtalRunning = s.xtalRunning ∧ (s.setChan t c v).regs = s.regs ∧
    (s.setChan t c v).paths = s.paths ∧ (s.setChan t c v).wired = s.wired ∧ (s.setChan t c v).tiers = s.tiers ∧
    (s.setChan t c v).ports = s.ports ∧ (s.setChan t c v).perstLow = s.perstLow ∧
    (s.setChan t c v).modulesLost = s.modulesLost ∧ (s.setChan t c v).ctxs = s.ctxs ∧ (s.setChan t c v).exts = s.exts ∧
    (s.setChan t c v).listUse = s.listUse ∧ (s.setChan t c v).alloc = s.alloc ∧ (s.setChan t c v).valid = s.valid ∧
    (s.setChan t c v).held = s.held ∧ (s.setChan t c v).slices = s.slices ∧ (s.setChan t c v).cistern = s.cistern ∧
    (s.setChan t c v).poison = s.poison ∧ (s.setChan t c v).ovfTime = s.ovfTime ∧ (s.setChan t c v).unitCe = s.unitCe ∧
    (s.setChan t c v).ceWindow = s.ceWindow ∧ (s.setChan t c v).keys = s.keys ∧
    (s.setChan t c v).drbgDraws = s.drbgDraws ∧ (s.setChan t c v).entropyFailed = s.entropyFailed ∧
    (s.setChan t c v).entropyTestAt = s.entropyTestAt ∧ (s.setChan t c v).tagSets = s.tagSets ∧
    (s.setChan t c v).classes = s.classes ∧ (s.setChan t c v).chanWeirs = s.chanWeirs ∧
    (s.setChan t c v).portWeirs = s.portWeirs ∧ (s.setChan t c v).effective = s.effective ∧
    (s.setChan t c v).missPending = s.missPending ∧ (s.setChan t c v).missLast = s.missLast ∧
    (s.setChan t c v).rowWatch = s.rowWatch ∧ (s.setChan t c v).retiredSets = s.retiredSets ∧
    (s.setChan t c v).leaves = s.leaves ∧ (s.setChan t c v).leafBank = s.leafBank ∧
    (s.setChan t c v).remoteLeaves = s.remoteLeaves ∧ (s.setChan t c v).sweeps = s.sweeps ∧
    (s.setChan t c v).links = s.links ∧ (s.setChan t c v).remote = s.remote ∧ (s.setChan t c v).nextTxid = s.nextTxid ∧
    (s.setChan t c v).noRoute = s.noRoute ∧ (s.setChan t c v).pool = s.pool ∧
    (s.setChan t c v).migrations = s.migrations ∧ (s.setChan t c v).flt = s.flt ∧
    (s.setChan t c v).pkgMode = s.pkgMode ∧ (s.setChan t c v).sensors = s.sensors ∧ (s.setChan t c v).heat = s.heat ∧
    (s.setChan t c v).thmMsixLast = s.thmMsixLast ∧ (s.setChan t c v).thmMsixPending = s.thmMsixPending ∧
    (s.setChan t c v).tierReqs = s.tierReqs ∧ (s.setChan t c v).opWaits = s.opWaits ∧
    (s.setChan t c v).fuses = s.fuses ∧ (s.setChan t c v).arb = s.arb ∧ (s.setChan t c v).flash = s.flash ∧
    (s.setChan t c v).dbg = s.dbg ∧ (s.setChan t c v).rings = s.rings ∧ (s.setChan t c v).fetched = s.fetched ∧
    (s.setChan t c v).cplQ = s.cplQ ∧ (s.setChan t c v).sluiceRr = s.sluiceRr ∧ (s.setChan t c v).commits = s.commits ∧
    (s.setChan t c v).drains = s.drains ∧ (s.setChan t c v).clears = s.clears ∧ (s.setChan t c v).unmaps = s.unmaps ∧
    (s.setChan t c v).releases = s.releases ∧ (s.setChan t c v).extAcc = s.extAcc ∧ (s.setChan t c v).extAt = s.extAt ∧
    (s.setChan t c v).meter = s.meter ∧ (s.setChan t c v).mgmt = s.mgmt ∧ (s.setChan t c v).updateLog = s.updateLog ∧
    (s.setChan t c v).wakeReq = s.wakeReq ∧ (s.setChan t c v).tasks = s.tasks ∧ (s.setChan t c v).pieces = s.pieces ∧
    (s.setChan t c v).jets = s.jets ∧ (s.setChan t c v).pieceSeq = s.pieceSeq ∧ (s.setChan t c v).badExt = s.badExt ∧
    (s.setChan t c v).repair = s.repair := by
  repeat' first | exact rfl | refine ⟨rfl, ?_⟩

@[simp] theorem State.setRank_frame (s : State) (t c k : Nat) (v : Rank) :
    (s.setRank t c k v).pending = s.pending ∧ (s.setRank t c k v).out = s.out ∧ (s.setRank t c k v).fresh = s.fresh ∧
    (s.setRank t c k v).us = s.us ∧ (s.setRank t c k v).frac = s.frac ∧ (s.setRank t c k v).refPresent = s.refPresent ∧
    (s.setRank t c k v).xtalRunning = s.xtalRunning ∧ (s.setRank t c k v).regs = s.regs ∧
    (s.setRank t c k v).paths = s.paths ∧ (s.setRank t c k v).wired = s.wired ∧ (s.setRank t c k v).tiers = s.tiers ∧
    (s.setRank t c k v).ports = s.ports ∧ (s.setRank t c k v).perstLow = s.perstLow ∧
    (s.setRank t c k v).modulesLost = s.modulesLost ∧ (s.setRank t c k v).ctxs = s.ctxs ∧
    (s.setRank t c k v).exts = s.exts ∧ (s.setRank t c k v).listUse = s.listUse ∧ (s.setRank t c k v).alloc = s.alloc ∧
    (s.setRank t c k v).valid = s.valid ∧ (s.setRank t c k v).held = s.held ∧ (s.setRank t c k v).slices = s.slices ∧
    (s.setRank t c k v).cistern = s.cistern ∧ (s.setRank t c k v).poison = s.poison ∧
    (s.setRank t c k v).ovfTime = s.ovfTime ∧ (s.setRank t c k v).unitCe = s.unitCe ∧
    (s.setRank t c k v).ceWindow = s.ceWindow ∧ (s.setRank t c k v).keys = s.keys ∧
    (s.setRank t c k v).drbgDraws = s.drbgDraws ∧ (s.setRank t c k v).entropyFailed = s.entropyFailed ∧
    (s.setRank t c k v).entropyTestAt = s.entropyTestAt ∧ (s.setRank t c k v).tagSets = s.tagSets ∧
    (s.setRank t c k v).classes = s.classes ∧ (s.setRank t c k v).chanWeirs = s.chanWeirs ∧
    (s.setRank t c k v).portWeirs = s.portWeirs ∧ (s.setRank t c k v).effective = s.effective ∧
    (s.setRank t c k v).missPending = s.missPending ∧ (s.setRank t c k v).missLast = s.missLast ∧
    (s.setRank t c k v).rowWatch = s.rowWatch ∧ (s.setRank t c k v).retiredSets = s.retiredSets ∧
    (s.setRank t c k v).leaves = s.leaves ∧ (s.setRank t c k v).leafBank = s.leafBank ∧
    (s.setRank t c k v).remoteLeaves = s.remoteLeaves ∧ (s.setRank t c k v).sweeps = s.sweeps ∧
    (s.setRank t c k v).links = s.links ∧ (s.setRank t c k v).remote = s.remote ∧
    (s.setRank t c k v).nextTxid = s.nextTxid ∧ (s.setRank t c k v).noRoute = s.noRoute ∧
    (s.setRank t c k v).pool = s.pool ∧ (s.setRank t c k v).migrations = s.migrations ∧
    (s.setRank t c k v).flt = s.flt ∧ (s.setRank t c k v).pkgMode = s.pkgMode ∧
    (s.setRank t c k v).sensors = s.sensors ∧ (s.setRank t c k v).heat = s.heat ∧
    (s.setRank t c k v).thmMsixLast = s.thmMsixLast ∧ (s.setRank t c k v).thmMsixPending = s.thmMsixPending ∧
    (s.setRank t c k v).tierReqs = s.tierReqs ∧ (s.setRank t c k v).opWaits = s.opWaits ∧
    (s.setRank t c k v).fuses = s.fuses ∧ (s.setRank t c k v).arb = s.arb ∧ (s.setRank t c k v).flash = s.flash ∧
    (s.setRank t c k v).dbg = s.dbg ∧ (s.setRank t c k v).rings = s.rings ∧ (s.setRank t c k v).fetched = s.fetched ∧
    (s.setRank t c k v).cplQ = s.cplQ ∧ (s.setRank t c k v).sluiceRr = s.sluiceRr ∧
    (s.setRank t c k v).commits = s.commits ∧ (s.setRank t c k v).drains = s.drains ∧
    (s.setRank t c k v).clears = s.clears ∧ (s.setRank t c k v).unmaps = s.unmaps ∧
    (s.setRank t c k v).releases = s.releases ∧ (s.setRank t c k v).extAcc = s.extAcc ∧
    (s.setRank t c k v).extAt = s.extAt ∧ (s.setRank t c k v).meter = s.meter ∧ (s.setRank t c k v).mgmt = s.mgmt ∧
    (s.setRank t c k v).updateLog = s.updateLog ∧ (s.setRank t c k v).wakeReq = s.wakeReq ∧
    (s.setRank t c k v).tasks = s.tasks ∧ (s.setRank t c k v).pieces = s.pieces ∧ (s.setRank t c k v).jets = s.jets ∧
    (s.setRank t c k v).pieceSeq = s.pieceSeq ∧ (s.setRank t c k v).badExt = s.badExt ∧
    (s.setRank t c k v).repair = s.repair := by
  repeat' first | exact rfl | refine ⟨rfl, ?_⟩

@[simp] theorem State.setCline_frame (s : State) (t o : Nat) (v : CLine) :
    (s.setCline t o v).pending = s.pending ∧ (s.setCline t o v).out = s.out ∧ (s.setCline t o v).fresh = s.fresh ∧
    (s.setCline t o v).us = s.us ∧ (s.setCline t o v).frac = s.frac ∧ (s.setCline t o v).refPresent = s.refPresent ∧
    (s.setCline t o v).xtalRunning = s.xtalRunning ∧ (s.setCline t o v).regs = s.regs ∧
    (s.setCline t o v).paths = s.paths ∧ (s.setCline t o v).wired = s.wired ∧ (s.setCline t o v).tiers = s.tiers ∧
    (s.setCline t o v).ports = s.ports ∧ (s.setCline t o v).perstLow = s.perstLow ∧
    (s.setCline t o v).modulesLost = s.modulesLost ∧ (s.setCline t o v).ctxs = s.ctxs ∧
    (s.setCline t o v).exts = s.exts ∧ (s.setCline t o v).listUse = s.listUse ∧ (s.setCline t o v).alloc = s.alloc ∧
    (s.setCline t o v).valid = s.valid ∧ (s.setCline t o v).held = s.held ∧ (s.setCline t o v).slices = s.slices ∧
    (s.setCline t o v).chans = s.chans ∧ (s.setCline t o v).poison = s.poison ∧
    (s.setCline t o v).ovfTime = s.ovfTime ∧ (s.setCline t o v).unitCe = s.unitCe ∧
    (s.setCline t o v).ceWindow = s.ceWindow ∧ (s.setCline t o v).keys = s.keys ∧
    (s.setCline t o v).drbgDraws = s.drbgDraws ∧ (s.setCline t o v).entropyFailed = s.entropyFailed ∧
    (s.setCline t o v).entropyTestAt = s.entropyTestAt ∧ (s.setCline t o v).tagSets = s.tagSets ∧
    (s.setCline t o v).classes = s.classes ∧ (s.setCline t o v).chanWeirs = s.chanWeirs ∧
    (s.setCline t o v).portWeirs = s.portWeirs ∧ (s.setCline t o v).effective = s.effective ∧
    (s.setCline t o v).missPending = s.missPending ∧ (s.setCline t o v).missLast = s.missLast ∧
    (s.setCline t o v).rowWatch = s.rowWatch ∧ (s.setCline t o v).retiredSets = s.retiredSets ∧
    (s.setCline t o v).leaves = s.leaves ∧ (s.setCline t o v).leafBank = s.leafBank ∧
    (s.setCline t o v).remoteLeaves = s.remoteLeaves ∧ (s.setCline t o v).sweeps = s.sweeps ∧
    (s.setCline t o v).links = s.links ∧ (s.setCline t o v).remote = s.remote ∧
    (s.setCline t o v).nextTxid = s.nextTxid ∧ (s.setCline t o v).noRoute = s.noRoute ∧
    (s.setCline t o v).pool = s.pool ∧ (s.setCline t o v).migrations = s.migrations ∧ (s.setCline t o v).flt = s.flt ∧
    (s.setCline t o v).pkgMode = s.pkgMode ∧ (s.setCline t o v).sensors = s.sensors ∧
    (s.setCline t o v).heat = s.heat ∧ (s.setCline t o v).thmMsixLast = s.thmMsixLast ∧
    (s.setCline t o v).thmMsixPending = s.thmMsixPending ∧ (s.setCline t o v).tierReqs = s.tierReqs ∧
    (s.setCline t o v).opWaits = s.opWaits ∧ (s.setCline t o v).fuses = s.fuses ∧ (s.setCline t o v).arb = s.arb ∧
    (s.setCline t o v).flash = s.flash ∧ (s.setCline t o v).dbg = s.dbg ∧ (s.setCline t o v).rings = s.rings ∧
    (s.setCline t o v).fetched = s.fetched ∧ (s.setCline t o v).cplQ = s.cplQ ∧
    (s.setCline t o v).sluiceRr = s.sluiceRr ∧ (s.setCline t o v).commits = s.commits ∧
    (s.setCline t o v).drains = s.drains ∧ (s.setCline t o v).clears = s.clears ∧
    (s.setCline t o v).unmaps = s.unmaps ∧ (s.setCline t o v).releases = s.releases ∧
    (s.setCline t o v).extAcc = s.extAcc ∧ (s.setCline t o v).extAt = s.extAt ∧ (s.setCline t o v).meter = s.meter ∧
    (s.setCline t o v).mgmt = s.mgmt ∧ (s.setCline t o v).updateLog = s.updateLog ∧
    (s.setCline t o v).wakeReq = s.wakeReq ∧ (s.setCline t o v).tasks = s.tasks ∧
    (s.setCline t o v).pieces = s.pieces ∧ (s.setCline t o v).jets = s.jets ∧
    (s.setCline t o v).pieceSeq = s.pieceSeq ∧ (s.setCline t o v).badExt = s.badExt ∧
    (s.setCline t o v).repair = s.repair := by
  repeat' first | exact rfl | refine ⟨rfl, ?_⟩

@[simp] theorem State.setPath_frame (s : State) (p : Nat) (v : PathState) :
    (s.setPath p v).pending = s.pending ∧ (s.setPath p v).out = s.out ∧ (s.setPath p v).fresh = s.fresh ∧
    (s.setPath p v).us = s.us ∧ (s.setPath p v).frac = s.frac ∧ (s.setPath p v).refPresent = s.refPresent ∧
    (s.setPath p v).xtalRunning = s.xtalRunning ∧ (s.setPath p v).regs = s.regs ∧ (s.setPath p v).wired = s.wired ∧
    (s.setPath p v).tiers = s.tiers ∧ (s.setPath p v).ports = s.ports ∧ (s.setPath p v).perstLow = s.perstLow ∧
    (s.setPath p v).modulesLost = s.modulesLost ∧ (s.setPath p v).ctxs = s.ctxs ∧ (s.setPath p v).exts = s.exts ∧
    (s.setPath p v).listUse = s.listUse ∧ (s.setPath p v).alloc = s.alloc ∧ (s.setPath p v).valid = s.valid ∧
    (s.setPath p v).held = s.held ∧ (s.setPath p v).slices = s.slices ∧ (s.setPath p v).cistern = s.cistern ∧
    (s.setPath p v).chans = s.chans ∧ (s.setPath p v).poison = s.poison ∧ (s.setPath p v).ovfTime = s.ovfTime ∧
    (s.setPath p v).unitCe = s.unitCe ∧ (s.setPath p v).ceWindow = s.ceWindow ∧ (s.setPath p v).keys = s.keys ∧
    (s.setPath p v).drbgDraws = s.drbgDraws ∧ (s.setPath p v).entropyFailed = s.entropyFailed ∧
    (s.setPath p v).entropyTestAt = s.entropyTestAt ∧ (s.setPath p v).tagSets = s.tagSets ∧
    (s.setPath p v).classes = s.classes ∧ (s.setPath p v).chanWeirs = s.chanWeirs ∧
    (s.setPath p v).portWeirs = s.portWeirs ∧ (s.setPath p v).effective = s.effective ∧
    (s.setPath p v).missPending = s.missPending ∧ (s.setPath p v).missLast = s.missLast ∧
    (s.setPath p v).rowWatch = s.rowWatch ∧ (s.setPath p v).retiredSets = s.retiredSets ∧
    (s.setPath p v).leaves = s.leaves ∧ (s.setPath p v).leafBank = s.leafBank ∧
    (s.setPath p v).remoteLeaves = s.remoteLeaves ∧ (s.setPath p v).sweeps = s.sweeps ∧
    (s.setPath p v).links = s.links ∧ (s.setPath p v).remote = s.remote ∧ (s.setPath p v).nextTxid = s.nextTxid ∧
    (s.setPath p v).noRoute = s.noRoute ∧ (s.setPath p v).pool = s.pool ∧ (s.setPath p v).migrations = s.migrations ∧
    (s.setPath p v).flt = s.flt ∧ (s.setPath p v).pkgMode = s.pkgMode ∧ (s.setPath p v).sensors = s.sensors ∧
    (s.setPath p v).heat = s.heat ∧ (s.setPath p v).thmMsixLast = s.thmMsixLast ∧
    (s.setPath p v).thmMsixPending = s.thmMsixPending ∧ (s.setPath p v).tierReqs = s.tierReqs ∧
    (s.setPath p v).opWaits = s.opWaits ∧ (s.setPath p v).fuses = s.fuses ∧ (s.setPath p v).arb = s.arb ∧
    (s.setPath p v).flash = s.flash ∧ (s.setPath p v).dbg = s.dbg ∧ (s.setPath p v).rings = s.rings ∧
    (s.setPath p v).fetched = s.fetched ∧ (s.setPath p v).cplQ = s.cplQ ∧ (s.setPath p v).sluiceRr = s.sluiceRr ∧
    (s.setPath p v).commits = s.commits ∧ (s.setPath p v).drains = s.drains ∧ (s.setPath p v).clears = s.clears ∧
    (s.setPath p v).unmaps = s.unmaps ∧ (s.setPath p v).releases = s.releases ∧ (s.setPath p v).extAcc = s.extAcc ∧
    (s.setPath p v).extAt = s.extAt ∧ (s.setPath p v).meter = s.meter ∧ (s.setPath p v).mgmt = s.mgmt ∧
    (s.setPath p v).updateLog = s.updateLog ∧ (s.setPath p v).wakeReq = s.wakeReq ∧ (s.setPath p v).tasks = s.tasks ∧
    (s.setPath p v).pieces = s.pieces ∧ (s.setPath p v).jets = s.jets ∧ (s.setPath p v).pieceSeq = s.pieceSeq ∧
    (s.setPath p v).badExt = s.badExt ∧ (s.setPath p v).repair = s.repair := by
  repeat' first | exact rfl | refine ⟨rfl, ?_⟩

@[simp] theorem State.setKey_frame (s : State) (k : Nat) (v : Option (BitVec 256)) :
    (s.setKey k v).pending = s.pending ∧ (s.setKey k v).out = s.out ∧ (s.setKey k v).fresh = s.fresh ∧
    (s.setKey k v).us = s.us ∧ (s.setKey k v).frac = s.frac ∧ (s.setKey k v).refPresent = s.refPresent ∧
    (s.setKey k v).xtalRunning = s.xtalRunning ∧ (s.setKey k v).regs = s.regs ∧ (s.setKey k v).paths = s.paths ∧
    (s.setKey k v).wired = s.wired ∧ (s.setKey k v).tiers = s.tiers ∧ (s.setKey k v).ports = s.ports ∧
    (s.setKey k v).perstLow = s.perstLow ∧ (s.setKey k v).modulesLost = s.modulesLost ∧ (s.setKey k v).ctxs = s.ctxs ∧
    (s.setKey k v).exts = s.exts ∧ (s.setKey k v).listUse = s.listUse ∧ (s.setKey k v).alloc = s.alloc ∧
    (s.setKey k v).valid = s.valid ∧ (s.setKey k v).held = s.held ∧ (s.setKey k v).slices = s.slices ∧
    (s.setKey k v).cistern = s.cistern ∧ (s.setKey k v).chans = s.chans ∧ (s.setKey k v).poison = s.poison ∧
    (s.setKey k v).ovfTime = s.ovfTime ∧ (s.setKey k v).unitCe = s.unitCe ∧ (s.setKey k v).ceWindow = s.ceWindow ∧
    (s.setKey k v).drbgDraws = s.drbgDraws ∧ (s.setKey k v).entropyFailed = s.entropyFailed ∧
    (s.setKey k v).entropyTestAt = s.entropyTestAt ∧ (s.setKey k v).tagSets = s.tagSets ∧
    (s.setKey k v).classes = s.classes ∧ (s.setKey k v).chanWeirs = s.chanWeirs ∧
    (s.setKey k v).portWeirs = s.portWeirs ∧ (s.setKey k v).effective = s.effective ∧
    (s.setKey k v).missPending = s.missPending ∧ (s.setKey k v).missLast = s.missLast ∧
    (s.setKey k v).rowWatch = s.rowWatch ∧ (s.setKey k v).retiredSets = s.retiredSets ∧
    (s.setKey k v).leaves = s.leaves ∧ (s.setKey k v).leafBank = s.leafBank ∧
    (s.setKey k v).remoteLeaves = s.remoteLeaves ∧ (s.setKey k v).sweeps = s.sweeps ∧ (s.setKey k v).links = s.links ∧
    (s.setKey k v).remote = s.remote ∧ (s.setKey k v).nextTxid = s.nextTxid ∧ (s.setKey k v).noRoute = s.noRoute ∧
    (s.setKey k v).pool = s.pool ∧ (s.setKey k v).migrations = s.migrations ∧ (s.setKey k v).flt = s.flt ∧
    (s.setKey k v).pkgMode = s.pkgMode ∧ (s.setKey k v).sensors = s.sensors ∧ (s.setKey k v).heat = s.heat ∧
    (s.setKey k v).thmMsixLast = s.thmMsixLast ∧ (s.setKey k v).thmMsixPending = s.thmMsixPending ∧
    (s.setKey k v).tierReqs = s.tierReqs ∧ (s.setKey k v).opWaits = s.opWaits ∧ (s.setKey k v).fuses = s.fuses ∧
    (s.setKey k v).arb = s.arb ∧ (s.setKey k v).flash = s.flash ∧ (s.setKey k v).dbg = s.dbg ∧
    (s.setKey k v).rings = s.rings ∧ (s.setKey k v).fetched = s.fetched ∧ (s.setKey k v).cplQ = s.cplQ ∧
    (s.setKey k v).sluiceRr = s.sluiceRr ∧ (s.setKey k v).commits = s.commits ∧ (s.setKey k v).drains = s.drains ∧
    (s.setKey k v).clears = s.clears ∧ (s.setKey k v).unmaps = s.unmaps ∧ (s.setKey k v).releases = s.releases ∧
    (s.setKey k v).extAcc = s.extAcc ∧ (s.setKey k v).extAt = s.extAt ∧ (s.setKey k v).meter = s.meter ∧
    (s.setKey k v).mgmt = s.mgmt ∧ (s.setKey k v).updateLog = s.updateLog ∧ (s.setKey k v).wakeReq = s.wakeReq ∧
    (s.setKey k v).tasks = s.tasks ∧ (s.setKey k v).pieces = s.pieces ∧ (s.setKey k v).jets = s.jets ∧
    (s.setKey k v).pieceSeq = s.pieceSeq ∧ (s.setKey k v).badExt = s.badExt ∧ (s.setKey k v).repair = s.repair := by
  repeat' first | exact rfl | refine ⟨rfl, ?_⟩

@[simp] theorem State.setTagSet_frame (s : State) (t x : Nat) (v : TagSet) :
    (s.setTagSet t x v).pending = s.pending ∧ (s.setTagSet t x v).out = s.out ∧ (s.setTagSet t x v).fresh = s.fresh ∧
    (s.setTagSet t x v).us = s.us ∧ (s.setTagSet t x v).frac = s.frac ∧ (s.setTagSet t x v).refPresent = s.refPresent ∧
    (s.setTagSet t x v).xtalRunning = s.xtalRunning ∧ (s.setTagSet t x v).regs = s.regs ∧
    (s.setTagSet t x v).paths = s.paths ∧ (s.setTagSet t x v).wired = s.wired ∧ (s.setTagSet t x v).tiers = s.tiers ∧
    (s.setTagSet t x v).ports = s.ports ∧ (s.setTagSet t x v).perstLow = s.perstLow ∧
    (s.setTagSet t x v).modulesLost = s.modulesLost ∧ (s.setTagSet t x v).ctxs = s.ctxs ∧
    (s.setTagSet t x v).exts = s.exts ∧ (s.setTagSet t x v).listUse = s.listUse ∧ (s.setTagSet t x v).alloc = s.alloc ∧
    (s.setTagSet t x v).valid = s.valid ∧ (s.setTagSet t x v).held = s.held ∧ (s.setTagSet t x v).slices = s.slices ∧
    (s.setTagSet t x v).cistern = s.cistern ∧ (s.setTagSet t x v).chans = s.chans ∧
    (s.setTagSet t x v).poison = s.poison ∧ (s.setTagSet t x v).ovfTime = s.ovfTime ∧
    (s.setTagSet t x v).unitCe = s.unitCe ∧ (s.setTagSet t x v).ceWindow = s.ceWindow ∧
    (s.setTagSet t x v).keys = s.keys ∧ (s.setTagSet t x v).drbgDraws = s.drbgDraws ∧
    (s.setTagSet t x v).entropyFailed = s.entropyFailed ∧ (s.setTagSet t x v).entropyTestAt = s.entropyTestAt ∧
    (s.setTagSet t x v).classes = s.classes ∧ (s.setTagSet t x v).chanWeirs = s.chanWeirs ∧
    (s.setTagSet t x v).portWeirs = s.portWeirs ∧ (s.setTagSet t x v).effective = s.effective ∧
    (s.setTagSet t x v).missPending = s.missPending ∧ (s.setTagSet t x v).missLast = s.missLast ∧
    (s.setTagSet t x v).rowWatch = s.rowWatch ∧ (s.setTagSet t x v).retiredSets = s.retiredSets ∧
    (s.setTagSet t x v).leaves = s.leaves ∧ (s.setTagSet t x v).leafBank = s.leafBank ∧
    (s.setTagSet t x v).remoteLeaves = s.remoteLeaves ∧ (s.setTagSet t x v).sweeps = s.sweeps ∧
    (s.setTagSet t x v).links = s.links ∧ (s.setTagSet t x v).remote = s.remote ∧
    (s.setTagSet t x v).nextTxid = s.nextTxid ∧ (s.setTagSet t x v).noRoute = s.noRoute ∧
    (s.setTagSet t x v).pool = s.pool ∧ (s.setTagSet t x v).migrations = s.migrations ∧
    (s.setTagSet t x v).flt = s.flt ∧ (s.setTagSet t x v).pkgMode = s.pkgMode ∧
    (s.setTagSet t x v).sensors = s.sensors ∧ (s.setTagSet t x v).heat = s.heat ∧
    (s.setTagSet t x v).thmMsixLast = s.thmMsixLast ∧ (s.setTagSet t x v).thmMsixPending = s.thmMsixPending ∧
    (s.setTagSet t x v).tierReqs = s.tierReqs ∧ (s.setTagSet t x v).opWaits = s.opWaits ∧
    (s.setTagSet t x v).fuses = s.fuses ∧ (s.setTagSet t x v).arb = s.arb ∧ (s.setTagSet t x v).flash = s.flash ∧
    (s.setTagSet t x v).dbg = s.dbg ∧ (s.setTagSet t x v).rings = s.rings ∧ (s.setTagSet t x v).fetched = s.fetched ∧
    (s.setTagSet t x v).cplQ = s.cplQ ∧ (s.setTagSet t x v).sluiceRr = s.sluiceRr ∧
    (s.setTagSet t x v).commits = s.commits ∧ (s.setTagSet t x v).drains = s.drains ∧
    (s.setTagSet t x v).clears = s.clears ∧ (s.setTagSet t x v).unmaps = s.unmaps ∧
    (s.setTagSet t x v).releases = s.releases ∧ (s.setTagSet t x v).extAcc = s.extAcc ∧
    (s.setTagSet t x v).extAt = s.extAt ∧ (s.setTagSet t x v).meter = s.meter ∧ (s.setTagSet t x v).mgmt = s.mgmt ∧
    (s.setTagSet t x v).updateLog = s.updateLog ∧ (s.setTagSet t x v).wakeReq = s.wakeReq ∧
    (s.setTagSet t x v).tasks = s.tasks ∧ (s.setTagSet t x v).pieces = s.pieces ∧ (s.setTagSet t x v).jets = s.jets ∧
    (s.setTagSet t x v).pieceSeq = s.pieceSeq ∧ (s.setTagSet t x v).badExt = s.badExt ∧
    (s.setTagSet t x v).repair = s.repair := by
  repeat' first | exact rfl | refine ⟨rfl, ?_⟩

@[simp] theorem State.setChanWeir_frame (s : State) (t c : Nat) (v : ChanWeir) :
    (s.setChanWeir t c v).pending = s.pending ∧ (s.setChanWeir t c v).out = s.out ∧
    (s.setChanWeir t c v).fresh = s.fresh ∧ (s.setChanWeir t c v).us = s.us ∧ (s.setChanWeir t c v).frac = s.frac ∧
    (s.setChanWeir t c v).refPresent = s.refPresent ∧ (s.setChanWeir t c v).xtalRunning = s.xtalRunning ∧
    (s.setChanWeir t c v).regs = s.regs ∧ (s.setChanWeir t c v).paths = s.paths ∧
    (s.setChanWeir t c v).wired = s.wired ∧ (s.setChanWeir t c v).tiers = s.tiers ∧
    (s.setChanWeir t c v).ports = s.ports ∧ (s.setChanWeir t c v).perstLow = s.perstLow ∧
    (s.setChanWeir t c v).modulesLost = s.modulesLost ∧ (s.setChanWeir t c v).ctxs = s.ctxs ∧
    (s.setChanWeir t c v).exts = s.exts ∧ (s.setChanWeir t c v).listUse = s.listUse ∧
    (s.setChanWeir t c v).alloc = s.alloc ∧ (s.setChanWeir t c v).valid = s.valid ∧
    (s.setChanWeir t c v).held = s.held ∧ (s.setChanWeir t c v).slices = s.slices ∧
    (s.setChanWeir t c v).cistern = s.cistern ∧ (s.setChanWeir t c v).chans = s.chans ∧
    (s.setChanWeir t c v).poison = s.poison ∧ (s.setChanWeir t c v).ovfTime = s.ovfTime ∧
    (s.setChanWeir t c v).unitCe = s.unitCe ∧ (s.setChanWeir t c v).ceWindow = s.ceWindow ∧
    (s.setChanWeir t c v).keys = s.keys ∧ (s.setChanWeir t c v).drbgDraws = s.drbgDraws ∧
    (s.setChanWeir t c v).entropyFailed = s.entropyFailed ∧ (s.setChanWeir t c v).entropyTestAt = s.entropyTestAt ∧
    (s.setChanWeir t c v).tagSets = s.tagSets ∧ (s.setChanWeir t c v).classes = s.classes ∧
    (s.setChanWeir t c v).portWeirs = s.portWeirs ∧ (s.setChanWeir t c v).effective = s.effective ∧
    (s.setChanWeir t c v).missPending = s.missPending ∧ (s.setChanWeir t c v).missLast = s.missLast ∧
    (s.setChanWeir t c v).rowWatch = s.rowWatch ∧ (s.setChanWeir t c v).retiredSets = s.retiredSets ∧
    (s.setChanWeir t c v).leaves = s.leaves ∧ (s.setChanWeir t c v).leafBank = s.leafBank ∧
    (s.setChanWeir t c v).remoteLeaves = s.remoteLeaves ∧ (s.setChanWeir t c v).sweeps = s.sweeps ∧
    (s.setChanWeir t c v).links = s.links ∧ (s.setChanWeir t c v).remote = s.remote ∧
    (s.setChanWeir t c v).nextTxid = s.nextTxid ∧ (s.setChanWeir t c v).noRoute = s.noRoute ∧
    (s.setChanWeir t c v).pool = s.pool ∧ (s.setChanWeir t c v).migrations = s.migrations ∧
    (s.setChanWeir t c v).flt = s.flt ∧ (s.setChanWeir t c v).pkgMode = s.pkgMode ∧
    (s.setChanWeir t c v).sensors = s.sensors ∧ (s.setChanWeir t c v).heat = s.heat ∧
    (s.setChanWeir t c v).thmMsixLast = s.thmMsixLast ∧ (s.setChanWeir t c v).thmMsixPending = s.thmMsixPending ∧
    (s.setChanWeir t c v).tierReqs = s.tierReqs ∧ (s.setChanWeir t c v).opWaits = s.opWaits ∧
    (s.setChanWeir t c v).fuses = s.fuses ∧ (s.setChanWeir t c v).arb = s.arb ∧ (s.setChanWeir t c v).flash = s.flash ∧
    (s.setChanWeir t c v).dbg = s.dbg ∧ (s.setChanWeir t c v).rings = s.rings ∧
    (s.setChanWeir t c v).fetched = s.fetched ∧ (s.setChanWeir t c v).cplQ = s.cplQ ∧
    (s.setChanWeir t c v).sluiceRr = s.sluiceRr ∧ (s.setChanWeir t c v).commits = s.commits ∧
    (s.setChanWeir t c v).drains = s.drains ∧ (s.setChanWeir t c v).clears = s.clears ∧
    (s.setChanWeir t c v).unmaps = s.unmaps ∧ (s.setChanWeir t c v).releases = s.releases ∧
    (s.setChanWeir t c v).extAcc = s.extAcc ∧ (s.setChanWeir t c v).extAt = s.extAt ∧
    (s.setChanWeir t c v).meter = s.meter ∧ (s.setChanWeir t c v).mgmt = s.mgmt ∧
    (s.setChanWeir t c v).updateLog = s.updateLog ∧ (s.setChanWeir t c v).wakeReq = s.wakeReq ∧
    (s.setChanWeir t c v).tasks = s.tasks ∧ (s.setChanWeir t c v).pieces = s.pieces ∧
    (s.setChanWeir t c v).jets = s.jets ∧ (s.setChanWeir t c v).pieceSeq = s.pieceSeq ∧
    (s.setChanWeir t c v).badExt = s.badExt ∧ (s.setChanWeir t c v).repair = s.repair := by
  repeat' first | exact rfl | refine ⟨rfl, ?_⟩

@[simp] theorem State.setPortWeir_frame (s : State) (p : Nat) (v : PortWeir) :
    (s.setPortWeir p v).pending = s.pending ∧ (s.setPortWeir p v).out = s.out ∧ (s.setPortWeir p v).fresh = s.fresh ∧
    (s.setPortWeir p v).us = s.us ∧ (s.setPortWeir p v).frac = s.frac ∧ (s.setPortWeir p v).refPresent = s.refPresent ∧
    (s.setPortWeir p v).xtalRunning = s.xtalRunning ∧ (s.setPortWeir p v).regs = s.regs ∧
    (s.setPortWeir p v).paths = s.paths ∧ (s.setPortWeir p v).wired = s.wired ∧ (s.setPortWeir p v).tiers = s.tiers ∧
    (s.setPortWeir p v).ports = s.ports ∧ (s.setPortWeir p v).perstLow = s.perstLow ∧
    (s.setPortWeir p v).modulesLost = s.modulesLost ∧ (s.setPortWeir p v).ctxs = s.ctxs ∧
    (s.setPortWeir p v).exts = s.exts ∧ (s.setPortWeir p v).listUse = s.listUse ∧ (s.setPortWeir p v).alloc = s.alloc ∧
    (s.setPortWeir p v).valid = s.valid ∧ (s.setPortWeir p v).held = s.held ∧ (s.setPortWeir p v).slices = s.slices ∧
    (s.setPortWeir p v).cistern = s.cistern ∧ (s.setPortWeir p v).chans = s.chans ∧
    (s.setPortWeir p v).poison = s.poison ∧ (s.setPortWeir p v).ovfTime = s.ovfTime ∧
    (s.setPortWeir p v).unitCe = s.unitCe ∧ (s.setPortWeir p v).ceWindow = s.ceWindow ∧
    (s.setPortWeir p v).keys = s.keys ∧ (s.setPortWeir p v).drbgDraws = s.drbgDraws ∧
    (s.setPortWeir p v).entropyFailed = s.entropyFailed ∧ (s.setPortWeir p v).entropyTestAt = s.entropyTestAt ∧
    (s.setPortWeir p v).tagSets = s.tagSets ∧ (s.setPortWeir p v).classes = s.classes ∧
    (s.setPortWeir p v).chanWeirs = s.chanWeirs ∧ (s.setPortWeir p v).effective = s.effective ∧
    (s.setPortWeir p v).missPending = s.missPending ∧ (s.setPortWeir p v).missLast = s.missLast ∧
    (s.setPortWeir p v).rowWatch = s.rowWatch ∧ (s.setPortWeir p v).retiredSets = s.retiredSets ∧
    (s.setPortWeir p v).leaves = s.leaves ∧ (s.setPortWeir p v).leafBank = s.leafBank ∧
    (s.setPortWeir p v).remoteLeaves = s.remoteLeaves ∧ (s.setPortWeir p v).sweeps = s.sweeps ∧
    (s.setPortWeir p v).links = s.links ∧ (s.setPortWeir p v).remote = s.remote ∧
    (s.setPortWeir p v).nextTxid = s.nextTxid ∧ (s.setPortWeir p v).noRoute = s.noRoute ∧
    (s.setPortWeir p v).pool = s.pool ∧ (s.setPortWeir p v).migrations = s.migrations ∧
    (s.setPortWeir p v).flt = s.flt ∧ (s.setPortWeir p v).pkgMode = s.pkgMode ∧
    (s.setPortWeir p v).sensors = s.sensors ∧ (s.setPortWeir p v).heat = s.heat ∧
    (s.setPortWeir p v).thmMsixLast = s.thmMsixLast ∧ (s.setPortWeir p v).thmMsixPending = s.thmMsixPending ∧
    (s.setPortWeir p v).tierReqs = s.tierReqs ∧ (s.setPortWeir p v).opWaits = s.opWaits ∧
    (s.setPortWeir p v).fuses = s.fuses ∧ (s.setPortWeir p v).arb = s.arb ∧ (s.setPortWeir p v).flash = s.flash ∧
    (s.setPortWeir p v).dbg = s.dbg ∧ (s.setPortWeir p v).rings = s.rings ∧ (s.setPortWeir p v).fetched = s.fetched ∧
    (s.setPortWeir p v).cplQ = s.cplQ ∧ (s.setPortWeir p v).sluiceRr = s.sluiceRr ∧
    (s.setPortWeir p v).commits = s.commits ∧ (s.setPortWeir p v).drains = s.drains ∧
    (s.setPortWeir p v).clears = s.clears ∧ (s.setPortWeir p v).unmaps = s.unmaps ∧
    (s.setPortWeir p v).releases = s.releases ∧ (s.setPortWeir p v).extAcc = s.extAcc ∧
    (s.setPortWeir p v).extAt = s.extAt ∧ (s.setPortWeir p v).meter = s.meter ∧ (s.setPortWeir p v).mgmt = s.mgmt ∧
    (s.setPortWeir p v).updateLog = s.updateLog ∧ (s.setPortWeir p v).wakeReq = s.wakeReq ∧
    (s.setPortWeir p v).tasks = s.tasks ∧ (s.setPortWeir p v).pieces = s.pieces ∧ (s.setPortWeir p v).jets = s.jets ∧
    (s.setPortWeir p v).pieceSeq = s.pieceSeq ∧ (s.setPortWeir p v).badExt = s.badExt ∧
    (s.setPortWeir p v).repair = s.repair := by
  repeat' first | exact rfl | refine ⟨rfl, ?_⟩

@[simp] theorem State.setChanClass_frame (s : State) (t c k : Nat) (v : ChanClass) :
    (s.setChanClass t c k v).pending = s.pending ∧ (s.setChanClass t c k v).out = s.out ∧
    (s.setChanClass t c k v).fresh = s.fresh ∧ (s.setChanClass t c k v).us = s.us ∧
    (s.setChanClass t c k v).frac = s.frac ∧ (s.setChanClass t c k v).refPresent = s.refPresent ∧
    (s.setChanClass t c k v).xtalRunning = s.xtalRunning ∧ (s.setChanClass t c k v).regs = s.regs ∧
    (s.setChanClass t c k v).paths = s.paths ∧ (s.setChanClass t c k v).wired = s.wired ∧
    (s.setChanClass t c k v).tiers = s.tiers ∧ (s.setChanClass t c k v).ports = s.ports ∧
    (s.setChanClass t c k v).perstLow = s.perstLow ∧ (s.setChanClass t c k v).modulesLost = s.modulesLost ∧
    (s.setChanClass t c k v).ctxs = s.ctxs ∧ (s.setChanClass t c k v).exts = s.exts ∧
    (s.setChanClass t c k v).listUse = s.listUse ∧ (s.setChanClass t c k v).alloc = s.alloc ∧
    (s.setChanClass t c k v).valid = s.valid ∧ (s.setChanClass t c k v).held = s.held ∧
    (s.setChanClass t c k v).slices = s.slices ∧ (s.setChanClass t c k v).cistern = s.cistern ∧
    (s.setChanClass t c k v).chans = s.chans ∧ (s.setChanClass t c k v).poison = s.poison ∧
    (s.setChanClass t c k v).ovfTime = s.ovfTime ∧ (s.setChanClass t c k v).unitCe = s.unitCe ∧
    (s.setChanClass t c k v).ceWindow = s.ceWindow ∧ (s.setChanClass t c k v).keys = s.keys ∧
    (s.setChanClass t c k v).drbgDraws = s.drbgDraws ∧ (s.setChanClass t c k v).entropyFailed = s.entropyFailed ∧
    (s.setChanClass t c k v).entropyTestAt = s.entropyTestAt ∧ (s.setChanClass t c k v).tagSets = s.tagSets ∧
    (s.setChanClass t c k v).classes = s.classes ∧ (s.setChanClass t c k v).portWeirs = s.portWeirs ∧
    (s.setChanClass t c k v).effective = s.effective ∧ (s.setChanClass t c k v).missPending = s.missPending ∧
    (s.setChanClass t c k v).missLast = s.missLast ∧ (s.setChanClass t c k v).rowWatch = s.rowWatch ∧
    (s.setChanClass t c k v).retiredSets = s.retiredSets ∧ (s.setChanClass t c k v).leaves = s.leaves ∧
    (s.setChanClass t c k v).leafBank = s.leafBank ∧ (s.setChanClass t c k v).remoteLeaves = s.remoteLeaves ∧
    (s.setChanClass t c k v).sweeps = s.sweeps ∧ (s.setChanClass t c k v).links = s.links ∧
    (s.setChanClass t c k v).remote = s.remote ∧ (s.setChanClass t c k v).nextTxid = s.nextTxid ∧
    (s.setChanClass t c k v).noRoute = s.noRoute ∧ (s.setChanClass t c k v).pool = s.pool ∧
    (s.setChanClass t c k v).migrations = s.migrations ∧ (s.setChanClass t c k v).flt = s.flt ∧
    (s.setChanClass t c k v).pkgMode = s.pkgMode ∧ (s.setChanClass t c k v).sensors = s.sensors ∧
    (s.setChanClass t c k v).heat = s.heat ∧ (s.setChanClass t c k v).thmMsixLast = s.thmMsixLast ∧
    (s.setChanClass t c k v).thmMsixPending = s.thmMsixPending ∧ (s.setChanClass t c k v).tierReqs = s.tierReqs ∧
    (s.setChanClass t c k v).opWaits = s.opWaits ∧ (s.setChanClass t c k v).fuses = s.fuses ∧
    (s.setChanClass t c k v).arb = s.arb ∧ (s.setChanClass t c k v).flash = s.flash ∧
    (s.setChanClass t c k v).dbg = s.dbg ∧ (s.setChanClass t c k v).rings = s.rings ∧
    (s.setChanClass t c k v).fetched = s.fetched ∧ (s.setChanClass t c k v).cplQ = s.cplQ ∧
    (s.setChanClass t c k v).sluiceRr = s.sluiceRr ∧ (s.setChanClass t c k v).commits = s.commits ∧
    (s.setChanClass t c k v).drains = s.drains ∧ (s.setChanClass t c k v).clears = s.clears ∧
    (s.setChanClass t c k v).unmaps = s.unmaps ∧ (s.setChanClass t c k v).releases = s.releases ∧
    (s.setChanClass t c k v).extAcc = s.extAcc ∧ (s.setChanClass t c k v).extAt = s.extAt ∧
    (s.setChanClass t c k v).meter = s.meter ∧ (s.setChanClass t c k v).mgmt = s.mgmt ∧
    (s.setChanClass t c k v).updateLog = s.updateLog ∧ (s.setChanClass t c k v).wakeReq = s.wakeReq ∧
    (s.setChanClass t c k v).tasks = s.tasks ∧ (s.setChanClass t c k v).pieces = s.pieces ∧
    (s.setChanClass t c k v).jets = s.jets ∧ (s.setChanClass t c k v).pieceSeq = s.pieceSeq ∧
    (s.setChanClass t c k v).badExt = s.badExt ∧ (s.setChanClass t c k v).repair = s.repair := by
  repeat' first | exact rfl | refine ⟨rfl, ?_⟩

@[simp] theorem State.setPortClass_frame (s : State) (p k : Nat) (v : PortClass) :
    (s.setPortClass p k v).pending = s.pending ∧ (s.setPortClass p k v).out = s.out ∧
    (s.setPortClass p k v).fresh = s.fresh ∧ (s.setPortClass p k v).us = s.us ∧ (s.setPortClass p k v).frac = s.frac ∧
    (s.setPortClass p k v).refPresent = s.refPresent ∧ (s.setPortClass p k v).xtalRunning = s.xtalRunning ∧
    (s.setPortClass p k v).regs = s.regs ∧ (s.setPortClass p k v).paths = s.paths ∧
    (s.setPortClass p k v).wired = s.wired ∧ (s.setPortClass p k v).tiers = s.tiers ∧
    (s.setPortClass p k v).ports = s.ports ∧ (s.setPortClass p k v).perstLow = s.perstLow ∧
    (s.setPortClass p k v).modulesLost = s.modulesLost ∧ (s.setPortClass p k v).ctxs = s.ctxs ∧
    (s.setPortClass p k v).exts = s.exts ∧ (s.setPortClass p k v).listUse = s.listUse ∧
    (s.setPortClass p k v).alloc = s.alloc ∧ (s.setPortClass p k v).valid = s.valid ∧
    (s.setPortClass p k v).held = s.held ∧ (s.setPortClass p k v).slices = s.slices ∧
    (s.setPortClass p k v).cistern = s.cistern ∧ (s.setPortClass p k v).chans = s.chans ∧
    (s.setPortClass p k v).poison = s.poison ∧ (s.setPortClass p k v).ovfTime = s.ovfTime ∧
    (s.setPortClass p k v).unitCe = s.unitCe ∧ (s.setPortClass p k v).ceWindow = s.ceWindow ∧
    (s.setPortClass p k v).keys = s.keys ∧ (s.setPortClass p k v).drbgDraws = s.drbgDraws ∧
    (s.setPortClass p k v).entropyFailed = s.entropyFailed ∧ (s.setPortClass p k v).entropyTestAt = s.entropyTestAt ∧
    (s.setPortClass p k v).tagSets = s.tagSets ∧ (s.setPortClass p k v).classes = s.classes ∧
    (s.setPortClass p k v).chanWeirs = s.chanWeirs ∧ (s.setPortClass p k v).effective = s.effective ∧
    (s.setPortClass p k v).missPending = s.missPending ∧ (s.setPortClass p k v).missLast = s.missLast ∧
    (s.setPortClass p k v).rowWatch = s.rowWatch ∧ (s.setPortClass p k v).retiredSets = s.retiredSets ∧
    (s.setPortClass p k v).leaves = s.leaves ∧ (s.setPortClass p k v).leafBank = s.leafBank ∧
    (s.setPortClass p k v).remoteLeaves = s.remoteLeaves ∧ (s.setPortClass p k v).sweeps = s.sweeps ∧
    (s.setPortClass p k v).links = s.links ∧ (s.setPortClass p k v).remote = s.remote ∧
    (s.setPortClass p k v).nextTxid = s.nextTxid ∧ (s.setPortClass p k v).noRoute = s.noRoute ∧
    (s.setPortClass p k v).pool = s.pool ∧ (s.setPortClass p k v).migrations = s.migrations ∧
    (s.setPortClass p k v).flt = s.flt ∧ (s.setPortClass p k v).pkgMode = s.pkgMode ∧
    (s.setPortClass p k v).sensors = s.sensors ∧ (s.setPortClass p k v).heat = s.heat ∧
    (s.setPortClass p k v).thmMsixLast = s.thmMsixLast ∧ (s.setPortClass p k v).thmMsixPending = s.thmMsixPending ∧
    (s.setPortClass p k v).tierReqs = s.tierReqs ∧ (s.setPortClass p k v).opWaits = s.opWaits ∧
    (s.setPortClass p k v).fuses = s.fuses ∧ (s.setPortClass p k v).arb = s.arb ∧
    (s.setPortClass p k v).flash = s.flash ∧ (s.setPortClass p k v).dbg = s.dbg ∧
    (s.setPortClass p k v).rings = s.rings ∧ (s.setPortClass p k v).fetched = s.fetched ∧
    (s.setPortClass p k v).cplQ = s.cplQ ∧ (s.setPortClass p k v).sluiceRr = s.sluiceRr ∧
    (s.setPortClass p k v).commits = s.commits ∧ (s.setPortClass p k v).drains = s.drains ∧
    (s.setPortClass p k v).clears = s.clears ∧ (s.setPortClass p k v).unmaps = s.unmaps ∧
    (s.setPortClass p k v).releases = s.releases ∧ (s.setPortClass p k v).extAcc = s.extAcc ∧
    (s.setPortClass p k v).extAt = s.extAt ∧ (s.setPortClass p k v).meter = s.meter ∧
    (s.setPortClass p k v).mgmt = s.mgmt ∧ (s.setPortClass p k v).updateLog = s.updateLog ∧
    (s.setPortClass p k v).wakeReq = s.wakeReq ∧ (s.setPortClass p k v).tasks = s.tasks ∧
    (s.setPortClass p k v).pieces = s.pieces ∧ (s.setPortClass p k v).jets = s.jets ∧
    (s.setPortClass p k v).pieceSeq = s.pieceSeq ∧ (s.setPortClass p k v).badExt = s.badExt ∧
    (s.setPortClass p k v).repair = s.repair := by
  repeat' first | exact rfl | refine ⟨rfl, ?_⟩

@[simp] theorem State.setMember_frame (s : State) (p : Nat) (v : Member) :
    (s.setMember p v).pending = s.pending ∧ (s.setMember p v).out = s.out ∧ (s.setMember p v).fresh = s.fresh ∧
    (s.setMember p v).us = s.us ∧ (s.setMember p v).frac = s.frac ∧ (s.setMember p v).refPresent = s.refPresent ∧
    (s.setMember p v).xtalRunning = s.xtalRunning ∧ (s.setMember p v).regs = s.regs ∧
    (s.setMember p v).paths = s.paths ∧ (s.setMember p v).wired = s.wired ∧ (s.setMember p v).tiers = s.tiers ∧
    (s.setMember p v).ports = s.ports ∧ (s.setMember p v).perstLow = s.perstLow ∧
    (s.setMember p v).modulesLost = s.modulesLost ∧ (s.setMember p v).ctxs = s.ctxs ∧ (s.setMember p v).exts = s.exts ∧
    (s.setMember p v).listUse = s.listUse ∧ (s.setMember p v).alloc = s.alloc ∧ (s.setMember p v).valid = s.valid ∧
    (s.setMember p v).held = s.held ∧ (s.setMember p v).slices = s.slices ∧ (s.setMember p v).cistern = s.cistern ∧
    (s.setMember p v).chans = s.chans ∧ (s.setMember p v).poison = s.poison ∧ (s.setMember p v).ovfTime = s.ovfTime ∧
    (s.setMember p v).unitCe = s.unitCe ∧ (s.setMember p v).ceWindow = s.ceWindow ∧ (s.setMember p v).keys = s.keys ∧
    (s.setMember p v).drbgDraws = s.drbgDraws ∧ (s.setMember p v).entropyFailed = s.entropyFailed ∧
    (s.setMember p v).entropyTestAt = s.entropyTestAt ∧ (s.setMember p v).tagSets = s.tagSets ∧
    (s.setMember p v).classes = s.classes ∧ (s.setMember p v).chanWeirs = s.chanWeirs ∧
    (s.setMember p v).portWeirs = s.portWeirs ∧ (s.setMember p v).effective = s.effective ∧
    (s.setMember p v).missPending = s.missPending ∧ (s.setMember p v).missLast = s.missLast ∧
    (s.setMember p v).rowWatch = s.rowWatch ∧ (s.setMember p v).retiredSets = s.retiredSets ∧
    (s.setMember p v).leaves = s.leaves ∧ (s.setMember p v).leafBank = s.leafBank ∧
    (s.setMember p v).remoteLeaves = s.remoteLeaves ∧ (s.setMember p v).sweeps = s.sweeps ∧
    (s.setMember p v).links = s.links ∧ (s.setMember p v).remote = s.remote ∧ (s.setMember p v).nextTxid = s.nextTxid ∧
    (s.setMember p v).noRoute = s.noRoute ∧ (s.setMember p v).migrations = s.migrations ∧
    (s.setMember p v).flt = s.flt ∧ (s.setMember p v).pkgMode = s.pkgMode ∧ (s.setMember p v).sensors = s.sensors ∧
    (s.setMember p v).heat = s.heat ∧ (s.setMember p v).thmMsixLast = s.thmMsixLast ∧
    (s.setMember p v).thmMsixPending = s.thmMsixPending ∧ (s.setMember p v).tierReqs = s.tierReqs ∧
    (s.setMember p v).opWaits = s.opWaits ∧ (s.setMember p v).fuses = s.fuses ∧ (s.setMember p v).arb = s.arb ∧
    (s.setMember p v).flash = s.flash ∧ (s.setMember p v).dbg = s.dbg ∧ (s.setMember p v).rings = s.rings ∧
    (s.setMember p v).fetched = s.fetched ∧ (s.setMember p v).cplQ = s.cplQ ∧ (s.setMember p v).sluiceRr = s.sluiceRr ∧
    (s.setMember p v).commits = s.commits ∧ (s.setMember p v).drains = s.drains ∧ (s.setMember p v).clears = s.clears ∧
    (s.setMember p v).unmaps = s.unmaps ∧ (s.setMember p v).releases = s.releases ∧
    (s.setMember p v).extAcc = s.extAcc ∧ (s.setMember p v).extAt = s.extAt ∧ (s.setMember p v).meter = s.meter ∧
    (s.setMember p v).mgmt = s.mgmt ∧ (s.setMember p v).updateLog = s.updateLog ∧
    (s.setMember p v).wakeReq = s.wakeReq ∧ (s.setMember p v).tasks = s.tasks ∧ (s.setMember p v).pieces = s.pieces ∧
    (s.setMember p v).jets = s.jets ∧ (s.setMember p v).pieceSeq = s.pieceSeq ∧ (s.setMember p v).badExt = s.badExt ∧
    (s.setMember p v).repair = s.repair := by
  repeat' first | exact rfl | refine ⟨rfl, ?_⟩

@[simp] theorem State.setQueue_frame (s : State) (q : List FRec) :
    (s.setQueue q).pending = s.pending ∧ (s.setQueue q).out = s.out ∧ (s.setQueue q).fresh = s.fresh ∧
    (s.setQueue q).us = s.us ∧ (s.setQueue q).frac = s.frac ∧ (s.setQueue q).refPresent = s.refPresent ∧
    (s.setQueue q).xtalRunning = s.xtalRunning ∧ (s.setQueue q).regs = s.regs ∧ (s.setQueue q).paths = s.paths ∧
    (s.setQueue q).wired = s.wired ∧ (s.setQueue q).tiers = s.tiers ∧ (s.setQueue q).ports = s.ports ∧
    (s.setQueue q).perstLow = s.perstLow ∧ (s.setQueue q).modulesLost = s.modulesLost ∧ (s.setQueue q).ctxs = s.ctxs ∧
    (s.setQueue q).exts = s.exts ∧ (s.setQueue q).listUse = s.listUse ∧ (s.setQueue q).alloc = s.alloc ∧
    (s.setQueue q).valid = s.valid ∧ (s.setQueue q).held = s.held ∧ (s.setQueue q).slices = s.slices ∧
    (s.setQueue q).cistern = s.cistern ∧ (s.setQueue q).chans = s.chans ∧ (s.setQueue q).poison = s.poison ∧
    (s.setQueue q).ovfTime = s.ovfTime ∧ (s.setQueue q).unitCe = s.unitCe ∧ (s.setQueue q).ceWindow = s.ceWindow ∧
    (s.setQueue q).keys = s.keys ∧ (s.setQueue q).drbgDraws = s.drbgDraws ∧
    (s.setQueue q).entropyFailed = s.entropyFailed ∧ (s.setQueue q).entropyTestAt = s.entropyTestAt ∧
    (s.setQueue q).tagSets = s.tagSets ∧ (s.setQueue q).classes = s.classes ∧ (s.setQueue q).chanWeirs = s.chanWeirs ∧
    (s.setQueue q).portWeirs = s.portWeirs ∧ (s.setQueue q).effective = s.effective ∧
    (s.setQueue q).missPending = s.missPending ∧ (s.setQueue q).missLast = s.missLast ∧
    (s.setQueue q).rowWatch = s.rowWatch ∧ (s.setQueue q).retiredSets = s.retiredSets ∧
    (s.setQueue q).leaves = s.leaves ∧ (s.setQueue q).leafBank = s.leafBank ∧
    (s.setQueue q).remoteLeaves = s.remoteLeaves ∧ (s.setQueue q).sweeps = s.sweeps ∧ (s.setQueue q).links = s.links ∧
    (s.setQueue q).remote = s.remote ∧ (s.setQueue q).nextTxid = s.nextTxid ∧ (s.setQueue q).noRoute = s.noRoute ∧
    (s.setQueue q).pool = s.pool ∧ (s.setQueue q).migrations = s.migrations ∧ (s.setQueue q).pkgMode = s.pkgMode ∧
    (s.setQueue q).sensors = s.sensors ∧ (s.setQueue q).heat = s.heat ∧ (s.setQueue q).thmMsixLast = s.thmMsixLast ∧
    (s.setQueue q).thmMsixPending = s.thmMsixPending ∧ (s.setQueue q).tierReqs = s.tierReqs ∧
    (s.setQueue q).opWaits = s.opWaits ∧ (s.setQueue q).fuses = s.fuses ∧ (s.setQueue q).arb = s.arb ∧
    (s.setQueue q).flash = s.flash ∧ (s.setQueue q).dbg = s.dbg ∧ (s.setQueue q).rings = s.rings ∧
    (s.setQueue q).fetched = s.fetched ∧ (s.setQueue q).cplQ = s.cplQ ∧ (s.setQueue q).sluiceRr = s.sluiceRr ∧
    (s.setQueue q).commits = s.commits ∧ (s.setQueue q).drains = s.drains ∧ (s.setQueue q).clears = s.clears ∧
    (s.setQueue q).unmaps = s.unmaps ∧ (s.setQueue q).releases = s.releases ∧ (s.setQueue q).extAcc = s.extAcc ∧
    (s.setQueue q).extAt = s.extAt ∧ (s.setQueue q).meter = s.meter ∧ (s.setQueue q).mgmt = s.mgmt ∧
    (s.setQueue q).updateLog = s.updateLog ∧ (s.setQueue q).wakeReq = s.wakeReq ∧ (s.setQueue q).tasks = s.tasks ∧
    (s.setQueue q).pieces = s.pieces ∧ (s.setQueue q).jets = s.jets ∧ (s.setQueue q).pieceSeq = s.pieceSeq ∧
    (s.setQueue q).badExt = s.badExt ∧ (s.setQueue q).repair = s.repair := by
  repeat' first | exact rfl | refine ⟨rfl, ?_⟩

@[simp] theorem State.setRing_frame (s : State) (r : Nat) (v : Ring) :
    (s.setRing r v).pending = s.pending ∧ (s.setRing r v).out = s.out ∧ (s.setRing r v).fresh = s.fresh ∧
    (s.setRing r v).us = s.us ∧ (s.setRing r v).frac = s.frac ∧ (s.setRing r v).refPresent = s.refPresent ∧
    (s.setRing r v).xtalRunning = s.xtalRunning ∧ (s.setRing r v).regs = s.regs ∧ (s.setRing r v).paths = s.paths ∧
    (s.setRing r v).wired = s.wired ∧ (s.setRing r v).tiers = s.tiers ∧ (s.setRing r v).ports = s.ports ∧
    (s.setRing r v).perstLow = s.perstLow ∧ (s.setRing r v).modulesLost = s.modulesLost ∧
    (s.setRing r v).ctxs = s.ctxs ∧ (s.setRing r v).exts = s.exts ∧ (s.setRing r v).listUse = s.listUse ∧
    (s.setRing r v).alloc = s.alloc ∧ (s.setRing r v).valid = s.valid ∧ (s.setRing r v).held = s.held ∧
    (s.setRing r v).slices = s.slices ∧ (s.setRing r v).cistern = s.cistern ∧ (s.setRing r v).chans = s.chans ∧
    (s.setRing r v).poison = s.poison ∧ (s.setRing r v).ovfTime = s.ovfTime ∧ (s.setRing r v).unitCe = s.unitCe ∧
    (s.setRing r v).ceWindow = s.ceWindow ∧ (s.setRing r v).keys = s.keys ∧ (s.setRing r v).drbgDraws = s.drbgDraws ∧
    (s.setRing r v).entropyFailed = s.entropyFailed ∧ (s.setRing r v).entropyTestAt = s.entropyTestAt ∧
    (s.setRing r v).tagSets = s.tagSets ∧ (s.setRing r v).classes = s.classes ∧
    (s.setRing r v).chanWeirs = s.chanWeirs ∧ (s.setRing r v).portWeirs = s.portWeirs ∧
    (s.setRing r v).effective = s.effective ∧ (s.setRing r v).missPending = s.missPending ∧
    (s.setRing r v).missLast = s.missLast ∧ (s.setRing r v).rowWatch = s.rowWatch ∧
    (s.setRing r v).retiredSets = s.retiredSets ∧ (s.setRing r v).leaves = s.leaves ∧
    (s.setRing r v).leafBank = s.leafBank ∧ (s.setRing r v).remoteLeaves = s.remoteLeaves ∧
    (s.setRing r v).sweeps = s.sweeps ∧ (s.setRing r v).links = s.links ∧ (s.setRing r v).remote = s.remote ∧
    (s.setRing r v).nextTxid = s.nextTxid ∧ (s.setRing r v).noRoute = s.noRoute ∧ (s.setRing r v).pool = s.pool ∧
    (s.setRing r v).migrations = s.migrations ∧ (s.setRing r v).flt = s.flt ∧ (s.setRing r v).pkgMode = s.pkgMode ∧
    (s.setRing r v).sensors = s.sensors ∧ (s.setRing r v).heat = s.heat ∧ (s.setRing r v).thmMsixLast = s.thmMsixLast ∧
    (s.setRing r v).thmMsixPending = s.thmMsixPending ∧ (s.setRing r v).tierReqs = s.tierReqs ∧
    (s.setRing r v).opWaits = s.opWaits ∧ (s.setRing r v).fuses = s.fuses ∧ (s.setRing r v).arb = s.arb ∧
    (s.setRing r v).flash = s.flash ∧ (s.setRing r v).dbg = s.dbg ∧ (s.setRing r v).fetched = s.fetched ∧
    (s.setRing r v).cplQ = s.cplQ ∧ (s.setRing r v).sluiceRr = s.sluiceRr ∧ (s.setRing r v).commits = s.commits ∧
    (s.setRing r v).drains = s.drains ∧ (s.setRing r v).clears = s.clears ∧ (s.setRing r v).unmaps = s.unmaps ∧
    (s.setRing r v).releases = s.releases ∧ (s.setRing r v).extAcc = s.extAcc ∧ (s.setRing r v).extAt = s.extAt ∧
    (s.setRing r v).meter = s.meter ∧ (s.setRing r v).mgmt = s.mgmt ∧ (s.setRing r v).updateLog = s.updateLog ∧
    (s.setRing r v).wakeReq = s.wakeReq ∧ (s.setRing r v).tasks = s.tasks ∧ (s.setRing r v).pieces = s.pieces ∧
    (s.setRing r v).jets = s.jets ∧ (s.setRing r v).pieceSeq = s.pieceSeq ∧ (s.setRing r v).badExt = s.badExt ∧
    (s.setRing r v).repair = s.repair := by
  repeat' first | exact rfl | refine ⟨rfl, ?_⟩

/-! ### What it reads back -/

theorem State.reg_setReg (s : State) (o j : Nat) (v : DWord) : (s.setReg o v).reg j = if j = o then v else s.reg j :=
  Sparse.get_set _ _ _ _ _

@[simp] theorem State.reg_setReg_same (s : State) (o : Nat) (v : DWord) : (s.setReg o v).reg o = v := by
  simp [State.reg_setReg]

theorem State.reg_setReg_ne (s : State) {o j : Nat} (v : DWord) (h : j ≠ o) : (s.setReg o v).reg j = s.reg j := by
  simp [State.reg_setReg, h]

theorem State.reg_put_ne (s : State) (b v : Nat) (f : Fld) {j : Nat} (h : j ≠ b + f.off) : (s.put b f v).reg j = s.reg j :=
  State.reg_setReg_ne s _ h

theorem State.reg_count_ne (s : State) {o j : Nat} (n : Nat) (h : j ≠ o) : (s.count o n).reg j = s.reg j :=
  State.reg_setReg_ne s _ h

theorem State.reg_setRegBit_ne (s : State) {o j : Nat} (i : Nat) (b : Bool) (h : j ≠ o) : (s.setRegBit o i b).reg j = s.reg j :=
  State.reg_setReg_ne s _ h

/-- A field reads back as it was stored. -/
theorem State.get_put_same (s : State) (b v : Nat) (f : Fld) (h : f.lo ≤ f.hi) (hw : f.hi < 64) :
    (s.put b f v).get b f = v % 2 ^ (f.hi + 1 - f.lo) := by
  have l : setBits (s.reg (b + f.off)).toNat f.hi f.lo v < 2 ^ 64 := setBits_lt (s.reg (b + f.off)).isLt hw h
  simp only [State.get, State.put, State.reg_setReg_same, BitVec.toNat_ofNat, Nat.mod_eq_of_lt l]
  exact bitsAt_setBits_same _ _ _ _ h

/-- A field of another register keeps its value. -/
theorem State.get_put_register (s : State) (b b' v : Nat) (f g : Fld) (h : b' + g.off ≠ b + f.off) :
    (s.put b f v).get b' g = s.get b' g := by
  simp only [State.get, State.reg_put_ne s b v f h]

/-- Another field of the same register keeps its value. -/
theorem State.get_put_field (s : State) (b b' v : Nat) (f g : Fld) (e : b' + g.off = b + f.off) (h : f.lo ≤ f.hi)
    (hw : f.hi < 64) (h' : g.lo ≤ g.hi) (d : g.hi < f.lo ∨ f.hi < g.lo) : (s.put b f v).get b' g = s.get b' g := by
  have l : setBits (s.reg (b + f.off)).toNat f.hi f.lo v < 2 ^ 64 := setBits_lt (s.reg (b + f.off)).isLt hw h
  simp only [State.get, State.put, e, State.reg_setReg_same, BitVec.toNat_ofNat, Nat.mod_eq_of_lt l]
  exact bitsAt_setBits_other _ _ _ _ _ _ h d h'

theorem State.get_setReg_register (s : State) (o b : Nat) (v : DWord) (g : Fld) (h : b + g.off ≠ o) :
    (s.setReg o v).get b g = s.get b g := by simp only [State.get, State.reg_setReg_ne s v h]

@[simp] theorem State.reg_emit (s : State) (x : Output) (j : Nat) : (s.emit x).reg j = s.reg j := rfl
@[simp] theorem State.get_emit (s : State) (x : Output) (b : Nat) (f : Fld) : (s.emit x).get b f = s.get b f := rfl
@[simp] theorem State.flag_emit (s : State) (x : Output) (b : Nat) (f : Fld) : (s.emit x).flag b f = s.flag b f := rfl
@[simp] theorem State.reg_drawn (s : State) (j : Nat) : s.drawn.reg j = s.reg j := rfl
@[simp] theorem State.reg_setPort (s : State) (p j : Nat) (v : Port) : (s.setPort p v).reg j = s.reg j := rfl
@[simp] theorem State.get_setPort (s : State) (p b : Nat) (v : Port) (f : Fld) : (s.setPort p v).get b f = s.get b f := rfl
@[simp] theorem State.flag_setPort (s : State) (p b : Nat) (v : Port) (f : Fld) : (s.setPort p v).flag b f = s.flag b f := rfl

theorem State.port_setPort (s : State) (p j : Nat) (v : Port) : (s.setPort p v).port j = if j = p then v else s.port j :=
  Sparse.get_set _ _ _ _ _
@[simp] theorem State.port_setPort_same (s : State) (p : Nat) (v : Port) : (s.setPort p v).port p = v := by
  simp [State.port_setPort]
theorem State.tier_setTier (s : State) (t j : Nat) (v : Tier) : (s.setTier t v).tier j = if j = t then v else s.tier j :=
  Sparse.get_set _ _ _ _ _
@[simp] theorem State.tier_setTier_same (s : State) (t : Nat) (v : Tier) : (s.setTier t v).tier t = v := by
  simp [State.tier_setTier]
theorem State.ctx_setCtx (s : State) (c j : Nat) (v : Ctx) : (s.setCtx c v).ctx j = if j = c then v else s.ctx j :=
  Sparse.get_set _ _ _ _ _
@[simp] theorem State.ctx_setCtx_same (s : State) (c : Nat) (v : Ctx) : (s.setCtx c v).ctx c = v := by
  simp [State.ctx_setCtx]
@[simp] theorem State.ext_setExt_same (s : State) (c i : Nat) (v : ExtEntry) : (s.setExt c i v).ext c i = v :=
  Sparse.get_set_same _ _ _ _
@[simp] theorem State.allocBit_setAlloc_same (s : State) (t e : Nat) (v : Bool) : (s.setAlloc t e v).allocBit t e = v :=
  Sparse.get_set_same _ _ _ _
@[simp] theorem State.validLine_setValidLine_same (s : State) (t e : Nat) (v : ValidLine) :
    (s.setValidLine t e v).validLine t e = v := Sparse.get_set_same _ _ _ _
@[simp] theorem State.slice_setSlice_same (s : State) (t j : Nat) (v : Slice) : (s.setSlice t j v).slice t j = v :=
  Sparse.get_set_same _ _ _ _
@[simp] theorem State.chan_setChan_same (s : State) (t c : Nat) (v : Chan) : (s.setChan t c v).chan t c = v :=
  Sparse.get_set_same _ _ _ _
@[simp] theorem State.path_setPath_same (s : State) (p : Nat) (v : PathState) : (s.setPath p v).path p = v :=
  Sparse.get_set_same _ _ _ _
@[simp] theorem State.key_setKey_same (s : State) (k : Nat) (v : Option (BitVec 256)) : (s.setKey k v).key k = v :=
  Sparse.get_set_same _ _ _ _
@[simp] theorem State.ring_setRing_same (s : State) (r : Nat) (v : Ring) : (s.setRing r v).ring r = v :=
  Sparse.get_set_same _ _ _ _
theorem State.ring_setRing (s : State) (r j : Nat) (v : Ring) : (s.setRing r v).ring j = if j = r then v else s.ring j :=
  Sparse.get_set _ _ _ _ _
/-- A cistern line reads as it was written, and every other line as before. -/
theorem State.cline_setCline (s : State) (t o t' o' : Nat) (l : CLine) :
    (s.setCline t o l).cline t' o' = if lineKey t' o' = lineKey t o then some l else s.cline t' o' := by
  simp only [State.cline, State.setCline, Sparse.get_set]

end Sys2Proof.Machine
end

