-- ==== Sys2Proof/Laws/Flags.lean ====
section
/-! SUPPORT. Laws of the fault collector: what taking a message can change. -/

namespace Sys2Proof.Safety

open Sys2Proof.Machine

theorem Reports.refl (s : State) : Reports s s := ⟨rfl, fun _ _ => rfl, rfl⟩

theorem Reports.trans {s t u : State} (h : Reports s t) (k : Reports t u) : Reports s u := by
  refine ⟨?_, fun o ho => (k.regs o ho).trans (h.regs o ho), ?_⟩
  · have a := k.frame
    rw [h.frame] at a
    exact a
  · have a := k.mgmt
    rw [h.mgmt] at a
    exact a

theorem Reports.setReg (s : State) {o : Nat} (v : DWord) (h : faultReg o = true) : Reports s (s.setReg o v) :=
  ⟨rfl, fun j hj => State.reg_setReg_ne s v (by rintro rfl; simp [h] at hj), rfl⟩

theorem Reports.put (s : State) {b : Nat} {f : Fld} (v : Nat) (h : faultReg (b + f.off) = true) :
    Reports s (s.put b f v) := Reports.setReg s _ h

theorem Reports.putFlag (s : State) {b : Nat} {f : Fld} (v : Bool) (h : faultReg (b + f.off) = true) :
    Reports s (s.putFlag b f v) := Reports.setReg s _ h

theorem Reports.setRegBit (s : State) {o : Nat} (i : Nat) (v : Bool) (h : faultReg o = true) :
    Reports s (s.setRegBit o i v) := Reports.setReg s _ h

theorem Reports.count (s : State) {o : Nat} (n : Nat) (h : faultReg o = true) : Reports s (s.count o n) :=
  Reports.setReg s _ h

theorem Reports.emit (s : State) (x : Output) : Reports s (s.emit x) := ⟨rfl, fun _ _ => rfl, rfl⟩
theorem Reports.setPort (s : State) (p : Nat) (v : Port) : Reports s (s.setPort p v) := ⟨rfl, fun _ _ => rfl, rfl⟩
theorem Reports.setFlt (s : State) (f : Flt) : Reports s { s with flt := f } := ⟨rfl, fun _ _ => rfl, rfl⟩
theorem Reports.setPool (s : State) (f : Pool) : Reports s { s with pool := f } := ⟨rfl, fun _ _ => rfl, rfl⟩

theorem Reports.forEach {α : Type} (l : List α) (f : α → State → State) (s : State) (h : ∀ a ∈ l, ∀ t, Reports t (f a t)) :
    Reports s (forEach l f s) := by
  induction l generalizing s with
  | nil => exact Reports.refl s
  | cons a l ih => exact (h a (by simp) s).trans (ih _ (fun b hb => h b (by simp [hb])))

theorem placeEvent_reports (p l : Nat) (r : EventRec) (s : State) : Reports s (placeEvent p l r s) := by
  unfold placeEvent
  dsimp only
  split
  · exact Reports.setPort s _ _
  · split
    · exact (Reports.setPort s _ _).trans (Reports.emit _ _)
    · exact Reports.setPort s _ _

theorem rillSend_reports (dst ftype : Nat) (payload : List Nat) (s : State) : Reports s (rillSend dst ftype payload s) := by
  unfold rillSend rillSendFor
  dsimp only
  split
  · exact ((Reports.setPool s _).trans (Reports.count _ _ (by decide))).trans (Reports.emit _ _)
  · exact Reports.setPool s _

theorem capture_reports (base : Nat) (r : FRec) (n : Nat) (s : State)
    (h : ∀ i, i ≤ 0x18 → faultReg (base + i) = true) : Reports s (capture base r n s) := by
  unfold capture
  split
  · exact Reports.refl s
  · refine (Reports.forEach _ _ s ?_).trans (Reports.setRegBit _ _ _ (h _ (le_refl _)))
    intro a ha t
    refine Reports.setReg t _ (h _ ?_)
    have := List.snd_lt_of_mem_zipIdx ha
    simp only [FRec.words, List.length_append, List.length_cons, List.length_nil] at this
    omega

theorem srcCfg_fault {src i : Nat} (h : src < 0x800) (hi : i ≤ 0x2000) : faultReg (srcCfg src + i) = true := by
  unfold faultReg srcCfg fltBase
  simp only [Bool.or_eq_true, Bool.and_eq_true, decide_eq_true_iff]
  omega

theorem captureBase_fault {src i : Nat} (hi : i ≤ 0x18) : faultReg (captureBase src + i) = true := by
  unfold captureBase
  split
  · unfold faultReg tfltBase tierBase
    simp only [Bool.or_eq_true, Bool.and_eq_true, decide_eq_true_iff]
    omega
  · unfold faultReg fltBase
    simp only [Bool.or_eq_true, Bool.and_eq_true, decide_eq_true_iff]
    omega

theorem noteSource_reports (src cls : Nat) (s : State) (h : src < 0x800) : Reports s (noteSource src cls s) := by
  unfold noteSource
  dsimp only
  have e : ∀ f : Fld, f.off = 0x2000 → faultReg (srcCfg src + f.off) = true := fun f hf => by
    rw [hf]; exact srcCfg_fault h (le_refl _)
  exact ((Reports.putFlag s _ (e _ rfl)).trans (Reports.put _ _ (e _ rfl))).trans (Reports.put _ _ (e _ rfl))

theorem mergeInto_reports (n cls : Nat) (s : State) : Reports s (mergeInto n cls s) := by
  unfold mergeInto mapRecord
  dsimp only
  split
  · split
    · exact (Reports.setFlt s _).trans (Reports.setFlt _ _)
    · exact Reports.setFlt s _
  · exact Reports.setFlt s _

theorem enqueue_reports (r : FRec) (s : State) : Reports s (enqueue r s).1 := by
  have drop : ∀ t : State, Reports t ((t.count (fltBase + 0x40) 1).putFlag fltBase FLT_STATUS_DROPPED true) := fun t =>
    (Reports.count t 1 (by decide)).trans (Reports.putFlag _ _ (by decide))
  unfold enqueue
  dsimp only
  repeat' split
  all_goals first
    | exact Reports.setFlt s _
    | exact (drop s).trans (Reports.setFlt _ _)

theorem notifyHosts_reports (r : FRec) (s : State) : Reports s (notifyHosts r s) := by
  refine Reports.forEach _ _ s (fun p _ t => ?_)
  split
  · split
    · exact placeEvent_reports _ _ _ _
    · exact Reports.refl t
  · exact Reports.refl t

theorem Reports.ite {s t u : State} {c : Prop} [Decidable c] (h : Reports s t) (k : Reports s u) :
    Reports s (if c then t else u) := by split <;> assumption

theorem Reports.opt {a b : State} (c : Prop) [Decidable c] (k : Reports a b) : Reports a (if c then b else a) :=
  Reports.ite k (Reports.refl _)

theorem recordQueued_reports (num : Nat) (s : State) : Reports s (recordQueued num s) :=
  Reports.opt _ ⟨rfl, fun _ _ => rfl, rfl⟩

theorem routeRecord_reports (r : FRec) (s : State) : Reports s (routeRecord r s) := by
  have a : Reports s (tellHosts r s) := Reports.opt _ (notifyHosts_reports _ _)
  have b : ∀ t, Reports t (askFreeze r t) := fun t => Reports.opt _ (Reports.setFlt _ _)
  have c : ∀ t, Reports t (tellManager r t) := fun t => Reports.opt _ (rillSend_reports _ _ _ _)
  have d : ∀ t, Reports t (askMsix r t) := fun t => Reports.opt _ (Reports.setFlt _ _)
  exact ((a.trans (b _)).trans (c _)).trans (d _)

theorem startReaction_reports (r : FRec) (s : State) : Reports s (startReaction r s) :=
  Reports.ite (Reports.setFlt _ _) (Reports.opt _ (Reports.setFlt _ _))

theorem captureNew_reports (r : FRec) (s : State) : Reports s (captureNew r s) :=
  Reports.opt _ (capture_reports _ _ _ _ (fun _ hi => captureBase_fault hi))

theorem acceptOne_reports (src kind cls level addr detail : Nat) (s : State) (h : src < 0x800) :
    Reports s (acceptOne src kind cls level addr detail s).1 := by
  unfold acceptOne
  refine (noteSource_reports src cls s h).trans ?_
  generalize noteSource src cls s = t
  dsimp only
  split
  · exact mergeInto_reports _ _ _
  · have a : Reports t (clearLost src t) := Reports.setFlt t _
    exact (((a.trans (captureNew_reports _ _)).trans (enqueue_reports _ _)).trans (recordQueued_reports _ _)).trans
      ((routeRecord_reports _ _).trans (startReaction_reports _ _))

theorem acceptDropping_reports (src kind cls level addr detail : Nat) (s : State) (h : src < 0x800) :
    Reports s (acceptDropping src kind cls level addr detail s) := by
  have k := acceptOne_reports src kind cls level addr detail s h
  unfold acceptDropping
  split
  · next heq => rw [heq] at k; exact k
  · next heq =>
    rw [heq] at k
    refine Reports.ite k (k.trans ?_)
    exact acceptOne_reports _ _ _ _ _ _ _ (by decide)

theorem acceptRaised_reports (src kind raised level addr detail : Nat) (s : State) (h : src < 0x800) :
    Reports s (acceptRaised src kind raised level addr detail s) := by
  have k : ∀ c t, Reports t (acceptDropping src kind c level addr detail t) := fun c t =>
    acceptDropping_reports src kind c level addr detail t h
  have l : ∀ t, Reports t (tallyCorrected src t) := fun t => Reports.setFlt t _
  have m : ∀ t, Reports t (checkCorrected src level addr detail t) := fun t =>
    Reports.opt _ (acceptDropping_reports _ _ _ _ _ _ _ h)
  exact Reports.ite (((k _ _).trans (l _)).trans (m _)) (k _ _)

theorem kindClass_lt {s : State} {src kind c : Nat} (h : s.kindClass src kind = some c) : src < 0x800 := by
  by_contra hn
  have a : sourceIsTier src = false := by simp [sourceIsTier]; omega
  have b : pkgKinds src = [] := by
    unfold pkgKinds
    split <;> first | omega | rfl
  simp [State.kindClass, a, b] at h

/-- A raised message changes nothing but what `Reports` names. -/
theorem raise_reports (src kind level addr detail : Nat) (s : State) : Reports s (raise src kind level addr detail s) := by
  unfold raise
  split
  · exact Reports.refl s
  · next c h =>
    have l := kindClass_lt h
    split
    · exact Reports.ite (capture_reports _ _ _ _ (fun i hi => captureBase_fault hi)) (Reports.refl _)
    · exact acceptRaised_reports _ _ _ _ _ _ _ l

theorem raiseCtx_reports (src kind c : Nat) (s : State) : Reports s (raiseCtx src kind c s) := raise_reports _ _ _ _ _ _
theorem raiseOpen_reports (src kind : Nat) (s : State) : Reports s (raiseOpen src kind s) := raise_reports _ _ _ _ _ _
theorem raiseDetail_reports (src kind detail : Nat) (s : State) : Reports s (raiseDetail src kind detail s) :=
  raise_reports _ _ _ _ _ _
theorem noteIgnored_reports (s : State) : Reports s (noteIgnored s) := raiseOpen_reports _ _ _
theorem noteLocked_reports (s : State) : Reports s (noteLocked s) := raiseOpen_reports _ _ _

end Sys2Proof.Safety
end

