-- ==== Sys2Proof/WellFormed.lean ====
section
/-! DEFINITION. Well-formed commands: each operand that names a place lies in the range the spec gives that place (R2, R4,
Tables ARC-1 to ARC-4, DRC-1), each operand of a descriptor fits its field, and each path's port exists on the largest package. The
meanings are total: an ill-formed command has a meaning too, and statements that need a range say so. -/

namespace Sys2Proof

/-- A path names a port of the largest package. -/
def Path.wf : Path → Bool
  | .control p => p < 96
  | .debugBus => true
  | .mctp => true

/-- A descriptor's ring, index and cookie fit Tables SLU-1 and SLU-2. -/
def DescRef.wf (d : DescRef) : Bool := d.ring < 2 ^ 16 && d.index < 2 ^ 16 && d.cookie < 2 ^ 32

/-- The operands of a command are in range. -/
def wellFormed : Instr → Bool
  | .cascadeModuleLost link => link < 8
  | .linkTrainingComplete port partnerSpeed _ _ _ _ _ => port < 96 && partnerSpeed < 8
  | .laneMargining port lane _ _ => port < 96 && lane < 2
  | .l0pDeviceRequest port => port < 96
  | .l0pPartnerRequest port => port < 96
  | .linkWiden port => port < 96
  | .aspmL1Entry port => port < 96
  | .perstNAssert group => group < 24
  | .perstNDeassert group _ => group < 24
  | .linkDown port => port < 96
  | .hdmDecoderCommit port _ _ _ => port < 96
  | .getEventRecords port log => port < 96 && log < 5
  | .clearEventRecords port log _ _ => port < 96 && log < 5
  | .getEventInterruptPolicy port => port < 96
  | .setEventInterruptPolicy port _ => port < 96
  | .getTimestamp port => port < 96
  | .setTimestamp port _ => port < 96
  | .getSupportedLogs port => port < 96
  | .getLog port _ _ _ => port < 96
  | .identifyMemoryDevice port => port < 96
  | .getHealthInfo port => port < 96
  | .getPoisonList port _ => port < 96
  | .getDynamicCapacityConfiguration port => port < 96
  | .getDynamicCapacityExtentList port _ _ => port < 96
  | .addDynamicCapacityResponse port _ => port < 96
  | .releaseDynamicCapacity port _ => port < 96
  | .mailboxUnsupportedCommand port opcode => port < 96 && opcode < 2 ^ 16
  | .releaseTimeout port _ => port < 96
  | .dcEventOfferWhenRoom port => port < 96
  | .hptPortCfgWrite path port _ => path.wf && port < 96
  | .retrain port => port < 96
  | .hptLoopCtlWrite path port _ => path.wf && port < 96
  | .loopPartnerTimeout port => port < 96
  | .prbsCheckerLock port _ _ => port < 96
  | .flitReplayLimit port => port < 96
  | .aspmL1Exit port => port < 96
  | .registerWrite path offset _ => path.wf && offset < 2 ^ 24
  | .unsupportedRegisterAccess path offset _ _ => path.wf && offset < 2 ^ 24
  | .registerReadLatch path offset => path.wf && offset < 2 ^ 24
  | .lock path => path.wf
  | .memrd port _ _ => port < 96
  | .memrddata port _ _ => port < 96
  | .memwr port _ _ _ _ => port < 96
  | .memwrptl port _ _ _ _ _ => port < 96
  | .meminv port _ _ => port < 96
  | .writeWaitsForQueueRoom tier chan => tier < 8 && chan < 4
  | .columnCommandIssue tier chan _ => tier < 8 && chan < 4
  | .penaltyExpiry tier chan ctx => tier < 8 && chan < 4 && ctx < 2 ^ 18
  | .rowTrackerClear tier chan rank => tier < 8 && chan < 4 && rank < 4
  | .cisternRefreshDue tier chan rank => tier < 8 && chan < 4 && rank < 4
  | .dimmSensorRead tier chan dimm _ => tier < 8 && chan < 4 && dimm < 2
  | .caParityAlert tier chan sub rank _ _ => tier < 8 && chan < 4 && sub < 2 && rank < 4
  | .periodicRetrainingDue tier chan rank => tier < 8 && chan < 4 && rank < 4
  | .retrainingEnd tier chan rank _ _ => tier < 8 && chan < 4 && rank < 4
  | .retrainHoldMaxExpiry tier chan rank _ => tier < 8 && chan < 4 && rank < 4
  | .powerDownTimerExpiry tier chan rank => tier < 8 && chan < 4 && rank < 4
  | .selfRefreshTimerExpiry tier chan rank => tier < 8 && chan < 4 && rank < 4
  | .rankLowPowerExit tier chan rank _ _ => tier < 8 && chan < 4 && rank < 4
  | .operatingPointRequest tier chan op => tier < 8 && chan < 4 && op < 4
  | .frequencyChange tier chan _ => tier < 8 && chan < 4
  | .pendingChangeApplied tier chan => tier < 8 && chan < 4
  | .softPostPackageRepair tier chan sub rank group bank row _ =>
    tier < 8 && chan < 4 && sub < 2 && rank < 4 && group < 8 && bank < 4 && row < 2 ^ 18
  | .maxOpWrite path tier chan _ => path.wf && tier < 8 && chan < 4
  | .commitPoint => true
  | .accessReductionDrainDone => true
  | .faultFreeze ctx => ctx < 2 ^ 18
  | .frozenHoldExpiry port => port < 96
  | .migrationWaitsForCopySlot tier => tier < 8
  | .migrationCopyPassEnd ctx index _ => ctx < 2 ^ 18 && index < 2 ^ 20
  | .migrationSwitch ctx index _ => ctx < 2 ^ 18 && index < 2 ^ 20
  | .migrationFinish ctx index => ctx < 2 ^ 18 && index < 2 ^ 20
  | .migrationAbort ctx index => ctx < 2 ^ 18 && index < 2 ^ 20
  | .releaseFinished ctx => ctx < 2 ^ 18
  | .validLineClear tier ext => tier < 8 && ext < 2 ^ 20
  | .leaseReturnHandover => true
  | .heatSample tier jet ctx page => tier < 8 && jet < 16 && ctx < 2 ^ 18 && page < 2 ^ 29
  | .heatDecay tier jet => tier < 8 && jet < 16
  | .victimBufferOffer tier slice => tier < 8 && slice < 16
  | .allocationWaitsForVictimRoom tier slice => tier < 8 && slice < 16
  | .basinBankRefresh tier slice die bank => tier < 8 && slice < 16 && die < 8 && bank < 16
  | .firstSensorReading tier _ => tier < 8
  | .basinSelfRefreshEntry tier slice => tier < 8 && slice < 16
  | .basinSelfRefreshExit tier slice => tier < 8 && slice < 16
  | .dieClockLossSelfRefresh tier slice die => tier < 8 && slice < 16 && die < 8
  | .clrCnt path tier slice => path.wf && tier < 8 && slice < 16
  | .messageAccept src kind level addr detail _ =>
    src < 2 ^ 9 && kind < 64 && level < 8 && addr < 2 ^ 48 && detail < 2 ^ 22
  | .recordLeavesQueue _ => true
  | .recordFlashCopy _ => true
  | .faultMsix => true
  | .faultEscalationFrame pkg src kind cls level addr detail time =>
    pkg < 16 && src < 2 ^ 9 && kind < 64 && cls < 6 && level < 8 && addr < 2 ^ 48 && detail < 2 ^ 22 && time < 2 ^ 64
  | .stop _ _ => true
  | .resume path => path.wf
  | .fltClrCnt path => path.wf
  | .lockdown => true
  | .go path => path.wf
  | .fltSrcStatClear path src => path.wf && src < 2 ^ 9
  | .ceWindowRestart => true
  | .sramUncorrectable tier checker _ _ ctx => tier < 8 && checker < 64 && ctx < 2 ^ 18
  | .eccInjCtlWrite path tier _ => path.wf && tier < 8
  | .entropyHealthFail => true
  | .entropyRestartTest _ => true
  | .tagEnWrite path tier _ => path.wf && tier < 8
  | .tagLineWriteback tier index => tier < 8 && index < 2 ^ 26
  | .tagSweep tier index => tier < 8 && index < 2 ^ 26
  | .aqueductKeyExchange aq peer _ _ _ => aq < 8 && peer < 16
  | .aqueductKeyTimeout aq => aq < 8
  | .weirWindowEnd _ => true
  | .tokenReleaseHeldRequest port cls => port < 96 && cls < 64
  | .missInterrupt => true
  | .aqueductFlitReceive aq _ => aq < 8
  | .aqueductNak aq _ => aq < 8
  | .aqueductReplayTimeout aq => aq < 8
  | .aqueductRetrain aq => aq < 8
  | .aqueductCountWrapRekey aq => aq < 8
  | .aqueductLeavesL0 aq => aq < 8
  | .endToEndTimeout _ => true
  | .aqueductCreditReturn aq _ _ _ => aq < 8
  | .nop d => d.wf
  | .ringCreate d ring ttype log2n dmaPort prio vector dbase cbase pollAddr account coalCount startSeq coalTime pollUs =>
    d.wf && ring < 2 ^ 16 && ttype < 256 && log2n < 256 && dmaPort < 256 && prio < 256 && vector < 2 ^ 16 &&
    dbase < 2 ^ 64 && cbase < 2 ^ 64 && pollAddr < 2 ^ 64 && account < 2 ^ 16 && coalCount < 256 && startSeq < 256 &&
    coalTime < 2 ^ 16 && pollUs < 2 ^ 16
  | .ringDelete d ring => d.wf && ring < 2 ^ 16
  | .ringModifyStop d ring mask newCi newSeq prio vector intEn coalCount coalTime pollUs =>
    d.wf && ring < 2 ^ 16 && mask < 256 && newCi < 2 ^ 16 && newSeq < 256 && prio < 256 && vector < 2 ^ 16 &&
    intEn < 256 && coalCount < 2 ^ 16 && coalTime < 2 ^ 16 && pollUs < 2 ^ 16
  | .ringModifyStart d ring mask newCi newSeq prio vector intEn coalCount coalTime pollUs =>
    d.wf && ring < 2 ^ 16 && mask < 256 && newCi < 2 ^ 16 && newSeq < 256 && prio < 256 && vector < 2 ^ 16 &&
    intEn < 256 && coalCount < 2 ^ 16 && coalTime < 2 ^ 16 && pollUs < 2 ^ 16
  | .ringModifyResync d ring mask newCi newSeq prio vector intEn coalCount coalTime pollUs =>
    d.wf && ring < 2 ^ 16 && mask < 256 && newCi < 2 ^ 16 && newSeq < 256 && prio < 256 && vector < 2 ^ 16 &&
    intEn < 256 && coalCount < 2 ^ 16 && coalTime < 2 ^ 16 && pollUs < 2 ^ 16
  | .ringModifyAttributes d ring mask newCi newSeq prio vector intEn coalCount coalTime pollUs =>
    d.wf && ring < 2 ^ 16 && mask < 256 && newCi < 2 ^ 16 && newSeq < 256 && prio < 256 && vector < 2 ^ 16 &&
    intEn < 256 && coalCount < 2 ^ 16 && coalTime < 2 ^ 16 && pollUs < 2 ^ 16
  | .fence d scope => d.wf && scope < 256
  | .doorbellWrite port fn _ _ _ => port < 96 && fn < 2
  | .doorbellPoll ring _ => ring < 2 ^ 16
  | .descriptorFetch tier _ => tier < 8
  | .completionWrite ring => ring < 2 ^ 16
  | .coalesceTimerExpiry ring => ring < 2 ^ 16
  | .ringDmaError ring _ => ring < 2 ^ 16
  | .ringDmaPortLost ring _ _ => ring < 2 ^ 16
  | .sluDbGrantWrite path page _ => path.wf && page < 128
  | .sluAdminEnable path _ => path.wf
  | .sluAdminDisable path _ => path.wf
  | .ctxCreate d ctx account keyid cls cflags wbase wsize =>
    d.wf && ctx < 2 ^ 32 && account < 2 ^ 16 && keyid < 2 ^ 16 && cls < 256 && cflags < 256 && wbase < 2 ^ 32 &&
    wsize < 2 ^ 16
  | .ctxBindPortBind d ctx port => d.wf && ctx < 2 ^ 32 && port < 256
  | .ctxBindPortUnbind d ctx port => d.wf && ctx < 2 ^ 32 && port < 256
  | .ctxActivate d ctx => d.wf && ctx < 2 ^ 32
  | .ctxDrain d ctx => d.wf && ctx < 2 ^ 32
  | .ctxFreeze d ctx => d.wf && ctx < 2 ^ 32
  | .ctxThaw d ctx => d.wf && ctx < 2 ^ 32
  | .ctxRelease d ctx => d.wf && ctx < 2 ^ 32
  | .ctxQuery d ctx haddr => d.wf && ctx < 2 ^ 32 && haddr < 2 ^ 64
  | .extMap d ctx index pen count lease =>
    d.wf && ctx < 2 ^ 32 && index < 2 ^ 32 && pen < 2 ^ 32 && count < 2 ^ 32 && lease < 2 ^ 32
  | .extUnmap d ctx index count => d.wf && ctx < 2 ^ 32 && index < 2 ^ 32 && count < 2 ^ 32
  | .extMigrate d ctx index dest lease => d.wf && ctx < 2 ^ 32 && index < 2 ^ 32 && dest < 2 ^ 32 && lease < 2 ^ 32
  | .extQuery d ctx index count haddr => d.wf && ctx < 2 ^ 32 && index < 2 ^ 32 && count < 2 ^ 32 && haddr < 2 ^ 64
  | .keyCreate d keyid => d.wf && keyid < 2 ^ 16
  | .keyRetire d keyid => d.wf && keyid < 2 ^ 16
  | .classSet d cls rankStep ways groups target guar ceil maxq rsv missFact missN =>
    d.wf && cls < 256 && rankStep < 256 && ways < 256 && groups < 256 && target < 2 ^ 16 && guar < 2 ^ 16 &&
    ceil < 2 ^ 16 && maxq < 256 && rsv < 256 && missFact < 256 && missN < 256
  | .classQuery d cls haddr => d.wf && cls < 256 && haddr < 2 ^ 64
  | .ctxSetClass d ctx cls => d.wf && ctx < 2 ^ 32 && cls < 256
  | .copy d srcKind dstKind srcCtx dstCtx src dst length =>
    d.wf && srcKind < 256 && dstKind < 256 && srcCtx < 2 ^ 32 && dstCtx < 2 ^ 32 && src < 2 ^ 64 && dst < 2 ^ 64 &&
    length < 2 ^ 64
  | .zero d ctx offset length => d.wf && ctx < 2 ^ 32 && offset < 2 ^ 64 && length < 2 ^ 64
  | .crcRange d ctx offset length running poly xorout width mode =>
    d.wf && ctx < 2 ^ 32 && offset < 2 ^ 64 && length < 2 ^ 64 && running < 2 ^ 64 && poly < 2 ^ 64 &&
    xorout < 2 ^ 64 && width < 256 && mode < 256
  | .scrubRange d kind level cls ctx firstPage pages addr haddr =>
    d.wf && kind < 256 && level < 256 && cls < 256 && ctx < 2 ^ 32 && firstPage < 2 ^ 32 && pages < 2 ^ 32 &&
    addr < 2 ^ 64 && haddr < 2 ^ 64
  | .promote d ctx firstPage pages => d.wf && ctx < 2 ^ 32 && firstPage < 2 ^ 32 && pages < 2 ^ 32
  | .demote d ctx firstPage pages => d.wf && ctx < 2 ^ 32 && firstPage < 2 ^ 32 && pages < 2 ^ 32
  | .heatReport d ctx maxPages haddr => d.wf && ctx < 2 ^ 32 && maxPages < 2 ^ 32 && haddr < 2 ^ 64
  | .pieceStart tier jet => tier < 8 && jet < 16
  | .pieceEnd tier jet _ _ _ => tier < 8 && jet < 16
  | .pieceQueuedWhenRoom tier => tier < 8
  | .jetWatchdog tier jet => tier < 8 && jet < 16
  | .jetClockGate tier jet => tier < 8 && jet < 16
  | .jetWake tier jet => tier < 8 && jet < 16
  | .jetSramUncorrectable tier jet => tier < 8 && jet < 16
  | .jetFirmwareReload tier jet => tier < 8 && jet < 16
  | .cvuTestWrite path tier _ => path.wf && tier < 8
  | .jetCvuDataWrite path tier _ => path.wf && tier < 8
  | .jetCvuValWrite path tier _ => path.wf && tier < 8
  | .meterSnapshot d tick scope first count haddr =>
    d.wf && tick < 2 ^ 32 && scope < 256 && first < 2 ^ 32 && count < 2 ^ 32 && haddr < 2 ^ 64
  | .meterSeal d tick haddr => d.wf && tick < 2 ^ 32 && haddr < 2 ^ 64
  | .meterConfig d interval rollWait autoseal => d.wf && interval < 2 ^ 16 && rollWait < 256 && autoseal < 256
  | .tickMark _ => true
  | .ownTimerMark => true
  | .missingMarkDetected => true
  | .localFoldEnd tier => tier < 8
  | .rollUpFrame _ _ ctx _ => ctx < 2 ^ 18
  | .doneFrame _ _ _ _ => true
  | .rollWaitExpiry _ => true
  | .tickFoldingFinished _ => true
  | .packageNodeFrame _ _ _ => true
  | .poolNodeDeadline _ => true
  | .autoseal _ => true
  | .sealLate _ => true
  | .meteringStorageError _ => true
  | .reseal _ => true
  | .meterSealTimeout d => d.wf
  | .poolJoin d poolId pkg role => d.wf && poolId < 2 ^ 32 && pkg < 256 && role < 256
  | .poolLeave d pkg => d.wf && pkg < 256
  | .leaseGrant d owner otier count => d.wf && owner < 256 && otier < 256 && count < 2 ^ 32
  | .leaseReturn d lease => d.wf && lease < 2 ^ 32
  | .managerHandover d pkg => d.wf && pkg < 256
  | .rilForm path _ => path.wf
  | .joinFrame src _ poolId pkg role => src < 256 && poolId < 2 ^ 32 && pkg < 16 && role < 4
  | .packageNumberRewrite => true
  | .poolRejoin => true
  | .leaseRequestFrame _ _ owner otier _ => owner < 16 && otier < 8
  | .leaseClaimAtOwner _ _ otier _ borrower => otier < 8 && borrower < 16
  | .extentReturnFrame _ _ pen => pen < 2 ^ 28
  | .coldOwnerRejoin _ => true
  | .mirrorFrame _ _ => true
  | .standbyAckTimeout _ => true
  | .standbyResync => true
  | .heartbeatSend => true
  | .heartbeatReceive ring _ hops epoch poolId role _ =>
    ring < 2 && hops < 16 && epoch < 2 ^ 16 && poolId < 2 ^ 32 && role < 4
  | .heartbeatTimeout pkg => pkg < 16
  | .takeover _ => true
  | .handoverFrame _ epoch => epoch < 2 ^ 16
  | .rillFrameReceive ring _ dst src ftype fseq hops epoch _ =>
    ring < 2 && dst < 256 && src < 16 && ftype < 256 && fseq < 2 ^ 16 && hops < 16 && epoch < 2 ^ 16
  | .rillResend fseq => fseq < 2 ^ 16
  | .rillFrameUnacknowledged fseq => fseq < 2 ^ 16
  | .rillTickMark _ ring => ring < 2
  | .rillInputDown ring => ring < 2
  | .rillInputUp ring _ => ring < 2
  | .rilLoopCtlWrite path _ => path.wf
  | .remoteAnswerTimeout d => d.wf
  | .fieldSelfTest tier _ _ _ => tier < 8
  | .run path tier _ => path.wf && tier < 8
  | .fieldSelfTestDeferredStart tier => tier < 8
  | .guardBandWindow tier _ => tier < 8
  | .relayCommandParityError tier runnel hop => tier < 8 && runnel < 16 && hop < 8
  | .coilSpareReplace tier runnel hop group pair => tier < 8 && runnel < 16 && hop < 8 && group < 4 && pair < 82
  | .runnelNarrow tier runnel hop group pair => tier < 8 && runnel < 16 && hop < 8 && group < 4 && pair < 82
  | .sliceFlush tier runnel => tier < 8 && runnel < 16
  | .runnelLost tier runnel hop group pair => tier < 8 && runnel < 16 && hop < 8 && group < 4 && pair < 82
  | .basinRowRepair tier runnel die row => tier < 8 && runnel < 16 && die < 8 && row < 2 ^ 17
  | .spareExtentRemap tier ext => tier < 8 && ext < 2 ^ 20
  | .repairFuseWrite tier _ => tier < 8
  | .eventFetch d maxRecs haddr => d.wf && maxRecs < 2 ^ 16 && haddr < 2 ^ 64
  | .eventAck d recnum => d.wf && recnum < 2 ^ 32
  | .tierSleep d tier st => d.wf && tier < 256 && st < 256
  | .tierWake d tier => d.wf && tier < 256
  | .oppointSet d tier chmask op => d.wf && tier < 256 && chmask < 256 && op < 256
  | .fwStage d haddr offset length _ _ _ => d.wf && haddr < 2 ^ 64 && offset < 2 ^ 32 && length < 2 ^ 32
  | .fwActivate d target => d.wf && target < 256
  | .fwCommit d _ => d.wf
  | .ready => true
  | .fuseRead word => word < 2 ^ 10
  | .fuseRepair tier _ => tier < 8
  | .keyMake keyid => keyid < 2 ^ 12
  | .keyZero keyid => keyid < 2 ^ 12
  | .linkKeys aq peer _ _ => aq < 8 && peer < 16
  | .sealGate _ => true
  | .spdmSign _ => true
  | .imgVerify => true
  | .bankSet _ => true
  | .arbAdvance _ => true
  | .calWrite => true
  | .dbgUnlock _ _ => true
  | .lockdownGate => true
  | .slotErase slot => slot < 64
  | .gateBusyRetry gate => gate < 15
  | .servicesWatchdogMiss => true
  | .servicesTrap => true
  | .machineModeTrap => true
  | .romBoot _ => true
  | .managementOnlyReset => true
  | .mgtReset path _ => path.wf
  | .activationReadyTimeout => true
  | .mpPllSwitch => true
  | .mpIdleReturn => true
  | .setEndpointId m eid => m.binding < 3 && eid < 256
  | .getEndpointId m => m.binding < 3
  | .getEndpointUuid m => m.binding < 3
  | .getMctpVersionSupport m mtype => m.binding < 3 && mtype < 256
  | .getMessageTypeSupport m => m.binding < 3
  | .gettid m => m.binding < 3
  | .settid m tid => m.binding < 3 && tid < 256
  | .getpldmversion m ptype => m.binding < 3 && ptype < 256
  | .getpldmtypes m => m.binding < 3
  | .getpldmcommands m ptype => m.binding < 3 && ptype < 256
  | .getpdr m _ => m.binding < 3
  | .getsensorreading m _ => m.binding < 3
  | .getstatesensorreadings m _ => m.binding < 3
  | .seteventreceiver m eid => m.binding < 3 && eid < 256
  | .requestupdate m => m.binding < 3
  | .pldmFirmwareTransfer m _ _ _ _ _ => m.binding < 3
  | .activatefirmware m => m.binding < 3
  | .getFirmwareParameters m => m.binding < 3
  | .getVersion m => m.binding < 3
  | .getCapabilities m => m.binding < 3
  | .negotiateAlgorithms m _ => m.binding < 3
  | .getDigests m => m.binding < 3
  | .getCertificate m slot _ _ => m.binding < 3 && slot < 8
  | .challenge m slot _ => m.binding < 3 && slot < 8
  | .getMeasurements m _ _ _ => m.binding < 3
  | .calExport m _ _ => m.binding < 3
  | .calImport m _ _ _ => m.binding < 3
  | .logRead m _ _ => m.binding < 3
  | .fwCommitVendor m _ => m.binding < 3
  | .thermalRestart m => m.binding < 3
  | .regRead m _ => m.binding < 3
  | .regWrite m _ _ => m.binding < 3
  | .pmbusPoll _ _ => true
  | .pmbAlert _ => true
  | .logEntryWrite _ _ _ _ => true
  | .sectorRetire place _ => place < 5120
  | .shutdownRecordCopy => true
  | .configStoreCompaction => true
  | .referenceClockLost => true
  | .referenceClockReturn => true
  | .wakeCause cause => cause < 3
  | .t1IdleExpiry tier => tier < 8
  | .t2IdleExpiry tier => tier < 8
  | .tierT2Entry tier => tier < 8
  | .tierT2Wake tier _ => tier < 8
  | .t2UpdateLogFull tier => tier < 8
  | .tierT3Entry tier => tier < 8
  | .tierT3Exit tier _ _ => tier < 8
  | .tierPllLockFail tier => tier < 8
  | .pwrTierCtlGo path _ => path.wf
  | .p4Req path _ => path.wf
  | .p4WakeRailCheck _ => true
  | .sensorSample tier _ => tier < 8
  | .thermalLadderTest tier => tier < 8
  | .thermalMsix => true
  | .thermalTrip => true
  | .tripComparator tier sensor => tier < 8 && sensor < 16
  | .trustMonitorReread _ => true
  | .otpWrite sense => sense < 3
  | .genSecret sense => sense < 3
  | .advance sense => sense < 3
  | .tapReset => true
  | .idcode => true
  | .samplePreload _ _ => true
  | .extest _ _ => true
  | .extestPulse _ _ => true
  | .extestTrain _ _ => true
  | .clamp => true
  | .highz => true
  | .dtmcs _ => true
  | .dmi addr _ op => addr < 128 && op < 4
  | .dieCfg _ => true
  | .dieScan _ _ => true
  | .bypass code => code < 256
  | .authdataNonceRequest => true
  | .authdataResponse _ _ => true
  | .unlockBackoffExpiry => true
  | .relock path _ => path.wf
  | .hartHalt hart _ => hart < 256
  | .hartResume hart => hart < 256
  | .hartSingleStep hart => hart < 256
  | .accessRegister hart regno _ _ => hart < 256 && regno < 2 ^ 16
  | .ndmreset => true
  | .triggerMatch hart trigger _ => hart < 256 && trigger < 4
  | .systemBusAccess addr _ _ _ => addr < 2 ^ 32
  | .oscillatorStart => true
  | .porstNFall => true
  | .porstNRise => true
  | .powerOn _ => true
  | .railEnRelease => true
  | .railToleranceTimeout => true
  | .railOutOfBand rail _ => rail < 9
  | .voltageGlitch => true
  | .mainRailLoss => true
  | .vddAonLoss => true
  | .tierReset path _ _ _ => path.wf
  | .portDieReset path _ _ _ => path.wf
  | .engineDieReset path _ => path.wf
  | .portDieReturn tier _ => tier < 8
  | .engineDieReturn tier _ => tier < 8
  | .dieResetHoldExpiry tier => tier < 8
  | .cisternDeclaredLost tier => tier < 8
  | .warmRecovery _ => true

end Sys2Proof
end

