-- ==== Sys2Proof/Tests/Slice0.lean ====
section
/-! SUPPORT. The model's own tests: for each obligation with hypotheses states and operands that meet them (`test_hyp_<obligation>`), values
the spec states, and ill-formed commands. -/

namespace Sys2Proof.Tests

open Sys2Proof Sys2Proof.Machine Sys2Proof.Safety

set_option Elab.async false

theorem test_reset_queue : State.reset.pending = [] := rfl

/-! ### States for the tests -/

/-- A DP8-4M that is up: reference present, Services and Grotto running, every port enabled. -/
def up : State :=
  { us := 1000000, refPresent := true, pkgMode := { mode := .up, sysReady := true, railEn := true }
    wired := { tiers := 4, mgr := true, ports := BitVec.allOnes 128 }
    mgmt := { State.reset.mgmt with services := true, grotto := true, isReady := true } }

/-- Port `p` shows a link in the state `l` with the width and the speed. -/
def linked (p l width speed : Nat) (s : State) : State :=
  ((((s.put (hptBase p) HPT_PORT_CFG_ENABLE 1).put (hptBase p) HPT_LINK_STATUS_LTSSM l).put (hptBase p) HPT_LINK_STATUS_WIDTH width).put
    (hptBase p) HPT_LINK_STATUS_SPEED speed).putFlag (hptBase p) HPT_LINK_STATUS_CXL_MODE true

/-- The state with other contexts, extents, tiers. -/
def setC (c : Nat) (v : Ctx) (s : State) : State := s.setCtx c v

def d0 : DescRef := { ring := 1, index := 0, cookie := 9 }
/-- Descriptor `d0` waits in the buffer of tier 0 with an opcode, flags and operands (first byte, length, value). -/
def descBytes (op flags : Nat) (l : List (Nat × Nat × Nat)) : BitVec 512 :=
  BitVec.ofNat 512 (op + flags * 2 ^ 16 + (l.map (fun o => o.2.2 * 2 ^ (8 * o.1))).sum)
def f0 (op flags : Nat) (l : List (Nat × Nat × Nat)) : Fetched := { ref := d0, bytes := descBytes op flags l }
def withD (op flags : Nat) (l : List (Nat × Nat × Nat)) (s : State) : State := { s with fetched := [f0 op flags l] }

/-! ### Host ports -/

def enabled : State := up.put (hptBase 5) HPT_PORT_CFG_ENABLE 1
def port5 : State := linked 5 3 2 4 (up.put (hptBase 5) HPT_PORT_CFG_L0P_EN 1)
def nine : List ReadEntry := List.replicate 9 {}
def deep : State := { up with chans := [(0, { reads := nine })] }

theorem test_hyp_LinkTraining : enabled.mayTrain 5 = true ∧ 5 < 12 * enabled.nTiers ∧ enabled.portOn 5 = true ∧
    enabled.inPerst 5 = false ∧ enabled.linkUp 5 = false ∧ (enabled.port (5 / 2 * 2)).bonded = false := by decide +kernel

theorem test_hyp_LinkStates :
    (port5.flag (hptBase 5) HPT_PORT_CFG_L0P_EN = true ∧ port5.ltssm 5 = 3 ∧ port5.get (hptBase 5) HPT_LINK_STATUS_WIDTH = 2 ∧
      (port5.port (5 / 2 * 2)).bonded = false) ∧
    (up.put (hptBase 5) HPT_PORT_CFG_L0P_EN 0).flag (hptBase 5) HPT_PORT_CFG_L0P_EN = false ∧
    ((linked 5 4 1 4 deep).ltssm 5 = 4 ∧
      (linked 5 4 1 4 deep).deepQueue = true ∧
      ((linked 5 4 1 4 deep).port 5).fullWidth < 4) ∧
    ((linked 5 6 0 4 up).ltssm 5 = 6 ∧ ((linked 5 6 0 4 up).port 5).fullWidth < 4) ∧
    (3 ≤ port5.get (hptBase 5) HPT_LINK_STATUS_SPEED ∧ 1 < port5.get (hptBase 5) HPT_LINK_STATUS_WIDTH) ∧
    (port5.linkUp 5 = true ∧ port5.blockDown (hptBase 5) = false) := by decide +kernel

theorem test_hyp_PortReset : 23 / 4 = 5 ∧ 23 < 12 * up.nTiers ∧ port5.hostPort 5 = true := by decide +kernel

theorem test_hyp_CascadeLoss : 3 < up.nTiers ∧ 2 < up.nTiers ∧ 0 < up.linkLive 3 := by decide +kernel

theorem test_hyp_MailboxReports : port5.mailboxUp 5 = true ∧ 0 + celBytes.length ≤ celBytes.length ∧
    (0 : BitVec 128) ≠ celUuid ∧ mailboxOpcodes.contains 0xFFFF = false := by decide +kernel

/-- Port 5 with a record in log 1, and dynamic capacity offered, in release, or past its deadline. -/
def port5dc (w : Bool) (d : Option Nat) : State :=
  port5.setPort 5 { port5.port 5 with logs := [(1, { records := [{ handle := 7 }] })], dc := [{ ctx := 3, gen := 1, awaiting := w, relDeadline := d }]
                                      windows := [(0, { valid := true, ctx := 3 })] }

theorem test_hyp_MailboxSettings : (port5dc true none).mailboxUp 5 = true ∧
    (([7].all (fun h => (((port5dc true none).port 5).log 1).records.any (fun r => r.handle = h))) = true ∧
      ((port5dc true none).port 5).heldDc = []) ∧
    (((port5dc true none).port 5).log 1).records.any (fun r => r.handle = 8) = false := by decide +kernel

theorem test_hyp_DynamicCapacity :
    let r : DcRef := { base := 0, size := 0, ctx := 3, gen := 1 }
    let e : DcExtent := { ctx := 3, gen := 1, relDeadline := some 1000000 }
    ((port5dc true none).mailboxUp 5 = true ∧ ((port5dc true none).port 5).dc.any (fun e => refNames r e && e.awaiting && !((port5dc true none).port 5).holdsBack 3 e) = true) ∧
    ((port5dc false none).mailboxUp 5 = true ∧ ((port5dc false none).port 5).dc.any (fun e => refNames r e && e.awaiting && !((port5dc false none).port 5).holdsBack 3 e) = false) ∧
    (((port5dc true none).port 5).dc.find? (fun e => e.awaiting && !((port5dc true none).port 5).holdsBack 3 e) = some { e with awaiting := true, relDeadline := none } ∧
      presentWindow ((port5dc true none).port 5) 3 = some (0, { valid := true, ctx := 3 })) ∧
    ((port5dc false none).port 5).dc.find? (fun e => refNames r e && e.relDeadline.isSome && !((port5dc false none).port 5).holdsBack 4 e) = none ∧
    ((port5dc false (some 1000000)).mailboxUp 5 = true ∧
      ((port5dc false (some 1000000)).port 5).dc.find? (fun e => refNames r e && e.relDeadline.isSome &&
        !((port5dc false (some 1000000)).port 5).holdsBack 4 e) = some e) ∧
    (1000000 ≤ (port5dc false (some 1000000)).us ∧ ((port5dc false (some 1000000)).port 5).dc.find?
      (fun e => e.base = 0 && (e.relDeadline.elim false (fun d => decide (d ≤ 1000000)))) = some e) := by decide +kernel

/-! ### Host requests -/

/-- The window of context 3 on port 5, and its place on the port. -/
def w5 : Window := { valid := true, opened := true, ctx := 3, wsize := 1 }
/-- Port 5's decoder begins at 2^40 with 1 GiB; block 0 is the window `w`; context 3 is in the state `st`, with extent entry `e`. -/
def hosted (w : Window) (st : CtxState) (e : ExtEntry) (s : State) : State :=
  ((s.setPort 5 { s.port 5 with decoder := { base := 2 ^ 40, size := 2 ^ 30, committed := true }, blocks := [(0, 1)], windows := [(0, w)] }).setCtx
    3 { state := st, keyId := 1, wsize := 1, ports := 32 }).setExt 3 0 e
def e0 : ExtEntry := { valid := true, pen := 5 }
def a0 : Acc := { t := 0, off := 5 * 2 ^ 21, ctx := 3, key := 1, cls := 0, integ := false }
def host1 : State := hosted w5 .live e0 port5
/-- Its page is valid, and its line stands in way 7 of its set. -/
def host2 : State :=
  (host1.setValidLine 0 5 { bits := 1 }).setWay 0 (host1.sliceOf 0 (5 * 2 ^ 21)) (setNo (5 * 2 ^ 21)) 7
    { valid := true, tag := sectorOf (5 * 2 ^ 21), present := 1, lines := [(0, { data := 0xABC })] }
def lostModules (s : State) : State := { s with modulesLost := [(0, 2), (3, 2)] }
def noTokens (s : State) : State := s.setPortClass 5 0 { used := 64 }

theorem arrives (s : State) (p hpa : Nat) (h : s.admits p = true ∧ (s.port p).decoder.committed = true ∧
    (s.port p).decoder.base ≤ hpa ∧ hpa < (s.port p).decoder.base + (s.port p).decoder.size ∧ (s.tier (portTier p)).power = 0) :
    Arrives p hpa s := ⟨h.1, h.2.1, h.2.2.1, h.2.2.2.1, h.2.2.2.2⟩

theorem finds (s : State) (p hpa i : Nat) (w : Window) (h : Arrives p hpa s)
    (h' : (s.port p).windowAt (dpaOf p hpa s) = some (i, w) ∧ w.opened = true ∧ (s.ctx w.ctx).state ≠ .frozen) :
    FindsWindow p hpa w s := { h with window := ⟨i, h'.1⟩, opened := h'.2.1, thawed := h'.2.2 }

theorem test_hyp_HostGate : up.admits 5 = false := by decide +kernel

theorem test_hyp_host1 : FindsWindow 5 (2 ^ 40) w5 host1 :=
  finds host1 5 (2 ^ 40) 0 w5 (arrives host1 5 (2 ^ 40) (by decide +kernel)) (by decide +kernel)

theorem test_hyp_HostOutcomes_decoder : (port5.admits 5 = true ∧ (port5.tier (portTier 5)).power = 0 ∧
      (port5.port 5).decoder.committed = false) ∧
    (host1.admits 5 = true ∧ (2 ^ 40 - 1 < (host1.port 5).decoder.base ∨ (host1.port 5).decoder.base + (host1.port 5).decoder.size ≤ 2 ^ 40 - 1) ∧
      (2 ^ 40 + 2 ^ 30 < (host1.port 5).decoder.base ∨ (host1.port 5).decoder.base + (host1.port 5).decoder.size ≤ 2 ^ 40 + 2 ^ 30)) := by
  decide +kernel

theorem test_hyp_HostOutcomes_window :
    (Arrives 5 (2 ^ 40 + 2 ^ 28) host1 ∧ (host1.port 5).windowAt (dpaOf 5 (2 ^ 40 + 2 ^ 28) host1) = none) ∧
    (let w := { w5 with opened := false, pendrel := true }
     Arrives 5 (2 ^ 40) (hosted w .live e0 port5) ∧ ((hosted w .live e0 port5).port 5).windowAt (dpaOf 5 (2 ^ 40) (hosted w .live e0 port5)) = some (0, w) ∧
       w.opened = false ∧ w.pendrel = true) :=
  ⟨⟨arrives _ _ _ (by decide +kernel), by decide +kernel⟩, arrives _ _ _ (by decide +kernel), by decide +kernel⟩

theorem test_hyp_HostOutcomes_extent :
    (FindsWindow 5 (2 ^ 40) w5 (hosted w5 .live {} port5) ∧
      ((hosted w5 .live {} port5).ext 3 (indexOf w5 (dpaOf 5 (2 ^ 40) (hosted w5 .live {} port5)))).valid = false) ∧
    (FindsWindow 5 (2 ^ 40) w5 (hosted w5 .live { e0 with retired := true } port5) ∧
      ((hosted w5 .live { e0 with retired := true } port5).ext 3 0).retired = true) ∧
    (FindsWindow 5 (2 ^ 40) w5 (lostModules (hosted w5 .live { e0 with pen := 2 ^ 20 } port5)) ∧
      (lostModules (hosted w5 .live { e0 with pen := 2 ^ 20 } port5)).reaches (portTier 5) 1 = false) :=
  ⟨⟨finds _ _ _ 0 _ (arrives _ _ _ (by decide +kernel)) (by decide +kernel), by decide +kernel⟩,
   ⟨finds _ _ _ 0 _ (arrives _ _ _ (by decide +kernel)) (by decide +kernel), by decide +kernel⟩,
   finds _ _ _ 0 _ (arrives _ _ _ (by decide +kernel)) (by decide +kernel), by decide +kernel⟩

theorem test_hyp_HostOutcomes_holds :
    (Arrives 5 (2 ^ 40) (hosted w5 .frozen e0 port5) ∧ w5.opened = true ∧ ((hosted w5 .frozen e0 port5).ctx w5.ctx).state = .frozen ∧
      ((hosted w5 .frozen e0 port5).held.filter (fun x => x.port = 5 && x.why = .frozen)).length < 64) ∧
    (FindsWindow 5 (2 ^ 40) w5 (noTokens host1) ∧ (noTokens host1).ext 3 (indexOf w5 (dpaOf 5 (2 ^ 40) (noTokens host1))) = e0 ∧
      (noTokens host1).reaches (portTier 5) 0 = true ∧ (noTokens host1).hasToken 5 ((noTokens host1).ctx 3).cls = false) :=
  ⟨⟨arrives _ _ _ (by decide +kernel), by decide +kernel⟩, finds _ _ _ 0 _ (arrives _ _ _ (by decide +kernel)) (by decide +kernel), by decide +kernel⟩

theorem reached1 : Reached 5 (2 ^ 40) w5 a0 host1 :=
  { test_hyp_host1 with
    entry := ⟨e0, by decide +kernel⟩, access := by decide +kernel, path := by decide +kernel, token := by decide +kernel, serves := by decide +kernel, ready := by decide +kernel
    readable := by decide +kernel }

theorem test_hyp_UnwrittenPageReadsZero : Reached 5 (2 ^ 40) w5 a0 host1 ∧ host1.pageValid a0.t a0.off = false := ⟨reached1, by decide +kernel⟩

/-- Reached, a valid page and a line in its way: the hypotheses of the statements on hits, with no injection armed and write-back. -/
theorem test_hyp_BasinHits : Reached 5 (2 ^ 40) w5 a0 host2 ∧ host2.pageValid a0.t a0.off = true ∧ InWay a0 7 host2 ∧
    host2.through a0 = false ∧ host2.get (eccBase a0.t) ECC_INJ_CTL_COUNT = 0 ∧ host2.hasToken 5 a0.cls = true :=
  ⟨{ (finds host2 5 (2 ^ 40) 0 w5 (arrives host2 5 (2 ^ 40) (by decide +kernel)) (by decide +kernel)) with
     entry := ⟨e0, by decide +kernel⟩, access := by decide +kernel, path := by decide +kernel, token := by decide +kernel, serves := by decide +kernel, ready := by decide +kernel
     readable := by decide +kernel }, by decide +kernel,
   { checks := by decide +kernel, found := by decide +kernel, present := by decide +kernel, clean := by decide +kernel, cached := by decide +kernel },
   by decide +kernel, by decide +kernel, by decide +kernel⟩

def heldReq (why : HoldWhy) : Req := { port := 5, tag := 1, why := why, off := 5 * 2 ^ 21, arrival := 999000 }
def holding (why : HoldWhy) : State := { up with held := [heldReq why] }
theorem test_hyp_HeldRequests :
    (holding .queueFull).held.find? (fun r => r.tier = 0 && r.chan = 0 && (r.why = .queueFull || r.why = .rankHeld)) = some (heldReq .queueFull) ∧
    (∀ r ∈ (holding .token).held, r.why ≠ .queueFull ∧ r.why ≠ .rankHeld) ∧
    (holding .victimFull).held.find? (fun r => r.tier = 0 && r.why = .victimFull && (holding .victimFull).sliceOf 0 r.off =
      up.sliceOf 0 (5 * 2 ^ 21)) = some (heldReq .victimFull) ∧
    (∀ r ∈ (holding .frozen).held, r.why ≠ .token) ∧
    (∃ r ∈ (holding .frozen).held, r.port = 5 ∧ r.why = .frozen ∧ r.arrival + 1000 ≤ (holding .frozen).us) := by decide +kernel

/-! ### Contexts -/

def ctx3 (st : CtxState) (s : State) : State := s.setCtx 3 { state := st, keyId := 1, wsize := 1, wbase := 4, ports := 32 }
def c3 : List (Nat × Nat × Nat) := [(8, 4, 3)]

theorem commits (u : Nat) (s : State) (h : s.acks u = true ∧ s.commits = []) : CommitsNow u s := h

theorem test_hyp_ContextStates :
    ((withD 0x0102 0 [(8, 4, 2 ^ 18)] up).ready d0 0x0102 [(8, 4, 2 ^ 18)]).isSome = true ∧
    (∀ x ∈ ([(0x0102, .live), (0x0103, .building), (0x0104, .frozen), (0x0105, .live), (0x0106, .live)] : List (Nat × CtxState)),
      ((withD x.1 0 c3 (ctx3 x.2 up)).ready d0 x.1 c3).isSome = true) ∧
    ((ctx3 .live up).ctx 3).state ∉ [CtxState.building] ∧ ((ctx3 .building up).ctx 3).state ∉ [CtxState.live, .frozen] ∧
    ((ctx3 .frozen up).ctx 3).state ∉ [CtxState.live] ∧ ((ctx3 .live up).ctx 3).state ∉ [CtxState.frozen] ∧
    ((ctx3 .live up).ctx 3).state ∉ [CtxState.building, .draining] := by decide +kernel

def createOps (c : Nat) : List (Nat × Nat × Nat) :=
  [(8, 4, c), (12, 2, 0xFFFF), (14, 2, 4095), (16, 1, 63), (17, 1, 14), (18, 4, 253952), (22, 2, 8192)]
def created (c : Nat) : State := withD 0x0100 0 (createOps c) (up.setKey 4095 (some 1))
def listsFull (s : State) : State := { s with listUse := [(2, [(0, 2 ^ 30, 1)])] }
def releasedIn (c : Nat) (s : State) : State := { s with meter := { s.meter with released := [(c, some {})] } }

theorem test_hyp_ContextCreate :
    ((created 0x3FFFE).ready d0 0x0100 (createOps 0x3FFFE) = some (f0 0x0100 0 (createOps 0x3FFFE)) ∧ 0x3FFFE < 0x3FFFF ∧
      14 % 4 ≠ 3 ∧ 253952 + 8192 ≤ 262144 ∧ CommitsNow 0 (created 0x3FFFE)) ∧
    (((created 3).setCtx 3 { state := .live }).ctx 3).state ≠ .free ∧
    (((created 3).ctx 3).state = .free ∧ ((created 3).setKey 4095 none).key 4095 = none) ∧
    ((created 3).key 4095 ≠ none ∧ Sparse.get (fun _ => none) (releasedIn 3 (created 3)).meter.released 3 ≠ none) ∧
    (Sparse.get (fun _ => none) (created 3).meter.released 3 = none ∧
      claimList ((created 3).homeTier 3) 3 (8192 * 128) (created 3) ≠ none) := by
  refine ⟨?_, ?_, ?_, ?_, ?_⟩
  · exact ⟨by decide +kernel, by decide +kernel, by decide +kernel, by decide +kernel, by decide +kernel, by decide +kernel⟩
  all_goals decide +kernel

def bindOps (op : Nat) : List (Nat × Nat × Nat) := [(8, 4, 3), (12, 1, 95), (13, 1, op)]
def up8 : State := (({ up with wired := { up.wired with tiers := 8 } } : State)).put (hptBase 95) HPT_PORT_CFG_ENABLE 1
/-- Context 3 on port 95, or not, in a state, with list copies on tiers 3 and 7. -/
def bound (op : Nat) (st : CtxState) (p : BitVec 96) : State :=
  withD 0x0101 0 (bindOps op) (up8.setCtx 3 { state := st, keyId := 1, wsize := 2, wbase := 4, ports := p, extptr := [(3, 1), (7, 1)] })
def p95 : BitVec 96 := 1#96 <<< 95

theorem test_hyp_ContextPorts :
    ((bound 0 .live p95).ready d0 0x0101 (bindOps 0) = some (f0 0x0101 0 (bindOps 0)) ∧ ((bound 0 .live p95).ctx 3).ports.getLsbD 95 = true) ∧
    ((bound 0 .building 0).hostPort 95 = true ∧ ((bound 0 .building 0).ctx 3).ports.getLsbD 95 = false ∧
      (∀ i, i < ((bound 0 .building 0).ctx 3).wsize →
        Sparse.get (fun _ => 0) ((bound 0 .building 0).port 95).blocks (((bound 0 .building 0).ctx 3).wbase + i) = 0) ∧
      (((bound 0 .building 0).port 95).window 8191).valid = false ∧ ((bound 0 .building 0).ctx 3).holds (portTier 95) = true ∧
      (bound 0 .building 0).acks 0 = true ∧ (bound 0 .building 0).commits = []) ∧
    ((bound 1 .live p95).ready d0 0x0101 (bindOps 1) = some (f0 0x0101 0 (bindOps 1)) ∧ ((bound 1 .live p95).ctx 3).portList.length = 1) ∧
    (((bound 1 .live (p95 ||| 1)).ctx 3).ports.getLsbD 95 = true ∧ ((bound 1 .live (p95 ||| 1)).ctx 3).portList.length ≠ 1 ∧
      (bound 1 .live (p95 ||| 1)).remote = [] ∧ (bound 1 .live (p95 ||| 1)).held = []) := by decide +kernel

def moving (op : Nat) (st : CtxState) : State := withD op 0 c3 (ctx3 st up)
def passing (s : State) : State := { s with held := [{ ctx := 3, passed := true, remote := none, why := .queueFull }] }
def noPorts (s : State) : State := s.setCtx 3 { s.ctx 3 with ports := 0 }

theorem test_hyp_ContextMoves :
    ((moving 0x0102 .building).ready d0 0x0102 c3 = some (f0 0x0102 0 c3) ∧ ((moving 0x0102 .building).ctx 3).state = .building ∧
      ((moving 0x0102 .building).ctx 3).ports ≠ 0 ∧ (moving 0x0102 .building).acks 0 = true ∧ (moving 0x0102 .building).commits = []) ∧
    ((noPorts (moving 0x0102 .building)).ready d0 0x0102 c3 = some (f0 0x0102 0 c3) ∧ ((noPorts (moving 0x0102 .building)).ctx 3).ports = 0) ∧
    ((moving 0x0104 .live).ready d0 0x0104 c3 = some (f0 0x0104 0 c3) ∧ (moving 0x0104 .live).remote = [] ∧ (moving 0x0104 .live).held = []) ∧
    ((passing (moving 0x0104 .live)).ready d0 0x0104 c3 = some (f0 0x0104 0 c3) ∧
      ∃ r ∈ (passing (moving 0x0104 .live)).held, r.ctx = 3 ∧ r.passed = true ∧ r.remote = none) ∧
    ((moving 0x0105 .frozen).ready d0 0x0105 c3 = some (f0 0x0105 0 c3) ∧ (moving 0x0105 .frozen).frozenHeld 3 = []) ∧
    ((moving 0x0103 .live).ready d0 0x0103 c3 = some (f0 0x0103 0 c3) ∧ (moving 0x0103 .live).openMigrations 3 = []) ∧
    ((moving 0x0106 .draining).ready d0 0x0106 c3 = some (f0 0x0106 0 c3) ∧ (moving 0x0106 .draining).tasks = [] ∧
      (moving 0x0106 .draining).exts = []) := by
  decide +kernel

def rel3 : Releasing := { ctx := 3, desc := some d0, cleared := 1 }
def releasing : State := { moving 0x0106 .releasing with releases := [rel3] }
def clearing : State := { releasing with clears := [{ tier := 0, ext := 5, ctx := some 3 }] }
def draining : State := { moving 0x0104 .frozen with drains := [{ desc := d0 }] }
def committing : State := { moving 0x0104 .live with commits := [(some d0, .create 7 {})] }
def freezing : State := { ctx3 .live up with flt := { up.flt with freezes := [3] } }
def portDead : State := committing.setTier 0 { committing.tier 0 with portReset := true }

theorem test_hyp_ContextEnds :
    (releasing.releases.find? (fun r => r.ctx = 3) = some rel3 ∧ (releasing.fetchedOf d0).isSome = true ∧
      (∀ j ∈ releasing.clears, j.ctx ≠ some 3) ∧ releasing.acks (releasing.homeTier 3) = true) ∧
    (∃ j ∈ clearing.clears, j.ctx = some 3) ∧
    (draining.drains.find? (fun w => draining.left w.txids w.reqs) = some { desc := d0 } ∧ (draining.fetchedOf d0).isSome = true) ∧
    (committing.commits = [(some d0, .create 7 {})] ∧ committing.acks 0 = true ∧ portDead.acks 0 = false) ∧
    (freezing.flt.freezes.contains 3 = true ∧ freezing.sluiceUp (freezing.homeTier 3) = true ∧ freezing.ctxBusy 3 = false ∧
      freezing.acks (freezing.homeTier 3) = true ∧ freezing.commits = [] ∧ (freezing.ctx 3).state = .live) := by decide +kernel

theorem test_hyp_ContextQueries :
    ((withD 0x0107 0 [(8, 4, 2 ^ 18 - 1), (16, 8, 64)] up).ready d0 0x0107 [(8, 4, 2 ^ 18 - 1), (16, 8, 64)]).isSome = true ∧
    (let q : List (Nat × Nat × Nat) := [(8, 4, 3), (12, 4, 64), (20, 4, 64), (24, 8, 16)]
     ((withD 0x0203 0 q (ctx3 .live up)).ready d0 0x0203 q).isSome = true ∧ ((ctx3 .live up).ctx 3).state ≠ .free ∧
       64 + 64 ≤ ((ctx3 .live up).ctx 3).wsize * 128) := by decide +kernel

/-! ### Extents -/

def sized (s : State) : State := s.setTier 0 { s.tier 0 with cap := 2 ^ 41 }
def mapOps (index pen count : Nat) : List (Nat × Nat × Nat) := [(8, 4, 3), (12, 4, index), (16, 4, pen), (20, 4, count), (24, 4, 0)]
def mapping (index pen count : Nat) : State := withD 0x0200 0 (mapOps index pen count) (sized (ctx3 .live up))

theorem test_hyp_ExtentMap :
    ((mapping 127 (2 ^ 20 - 1) 1).ready d0 0x0200 (mapOps 127 (2 ^ 20 - 1) 1)).isSome = true ∧ penExt (2 ^ 20 - 1) + 1 ≤ 2 ^ 20 ∧
    penPkg (2 ^ 20 - 1) = (mapping 127 (2 ^ 20 - 1) 1).pkg ∧
    (let s := (mapping 127 (2 ^ 20) 1).setTier 1 { power := 3, cap := 2 ^ 41 }
     (s.ready d0 0x0200 (mapOps 127 (2 ^ 20) 1)).isSome = true ∧ penTier (2 ^ 20) = 1 ∧ 1 < s.nTiers ∧ (s.tier 1).power = 3 ∧
       s.penInRange (2 ^ 20 + 0) = true) ∧
    (((mapping 0 (2 ^ 20) 1).ready d0 0x0200 (mapOps 0 (2 ^ 20) 1)).isSome = true ∧ penPkg (2 ^ 20) = (mapping 0 (2 ^ 20) 1).pkg ∧
      (mapping 0 (2 ^ 20) 1).penInRange (2 ^ 20 + 0) = false) ∧
    (mapping 0 (2 ^ 20) 1).penBacked (2 ^ 20 + 0) false = false ∧
    ((mapping 127 (2 ^ 20 - 1) 1).penBacked (2 ^ 20 - 1 + 0) ((mapping 127 (2 ^ 20 - 1) 1).ctx 3).integrity = true ∧
      ((mapping 127 (2 ^ 20 - 1) 1).ext 3 127).valid = false ∧ (mapping 127 (2 ^ 20 - 1) 1).penTaken (2 ^ 20 - 1) = false ∧
      (mapping 127 (2 ^ 20 - 1) 1).acks 0 = true ∧ (mapping 127 (2 ^ 20 - 1) 1).commits = []) ∧
    ((mapping 127 (2 ^ 20 - 1) 1).setAlloc 0 (2 ^ 20 - 1) true).penTaken (2 ^ 20 - 1) = true := by
  decide +kernel

def unmapOps : List (Nat × Nat × Nat) := [(8, 4, 3), (12, 4, 0), (20, 4, 1)]
def unmapping (e : ExtEntry) : State := (withD 0x0201 0 unmapOps (ctx3 .live up)).setExt 3 0 e
def job : ClearJob := { tier := 0, ext := 5, desc := some d0 }
def clearOne : State := { unmapping {} with clears := [job], unmaps := [(d0, 1)] }

theorem test_hyp_ExtentUnmap :
    ((unmapping e0).ready d0 0x0201 unmapOps).isSome = true ∧ 0 + 1 ≤ ((unmapping e0).ctx 3).wsize * 128 ∧
    (∃ e ∈ (unmapping { e0 with migrating := true }).exts.filter
      (fun e => e.1 / 2 ^ 20 = 3 && 0 ≤ e.1 % 2 ^ 20 && e.1 % 2 ^ 20 < 0 + 1 && e.2.valid), e.2.migrating = true) ∧
    ((∀ e ∈ (unmapping e0).exts, e.2.migrating = false ∧ e.2.remote = false) ∧ (unmapping e0).acks 0 = true ∧
      (unmapping e0).commits = [] ∧ (unmapping e0).remote = [] ∧ (unmapping e0).held = []) ∧
    (clearOne.clears.find? (fun j => j.tier = 0 && j.ext = 5) = some job ∧ (clearOne.tier 0).power < 2 ∧
      (clearOne.tier 0).portReset = false ∧ (clearOne.tier 0).engReset = false ∧ clearOne.reacting = false ∧
      Sparse.get (fun _ => 0) clearOne.badExt (tierExt 0 5) = 0 ∧ clearOne.unmaps.find? (fun x => x.1 = d0) = some (d0, 1)) ∧
    (∀ j ∈ (unmapping e0).clears, ¬(j.tier = 0 ∧ j.ext = 5)) := by decide +kernel

def migOps (lease : Nat) : List (Nat × Nat × Nat) := [(8, 4, 3), (12, 4, 0), (16, 4, 6), (24, 4, lease)]
def migrating (op : Nat) : State := (withD op 0 (migOps 0) (sized (ctx3 .live up))).setExt 3 0 e0
def mig (ph : MigPhase) : Migration := { ctx := 3, index := 0, src := 5, dest := 6, desc := d0, phase := ph }
def inPhase (l : List Migration) : State := { (migrating 0x0202).setExt 3 0 { e0 with migrating := true, dest := 6 } with migrations := l }
def farDest : State :=
  lostModules { inPhase [{ mig .copying with dest := 2 ^ 20 }] with fetched := [f0 0x0202 0 (migOps 0)] }

theorem test_hyp_MigrationPhases :
    ((migrating 0x0202).ready d0 0x0202 (migOps 0) = some (f0 0x0202 0 (migOps 0)) ∧ penPkg 6 = (migrating 0x0202).pkg ∧
      ((migrating 0x0202).ext 3 0).valid = true ∧ ((migrating 0x0202).ext 3 0).migrating = false ∧
      ((migrating 0x0202).ext 3 0).remote = false ∧ ((migrating 0x0202).ext 3 0).retired = false ∧ 0 < ((migrating 0x0202).ctx 3).wsize * 128 ∧
      ((migrating 0x0202).tier (penTier 6)).power < 2 ∧ (migrating 0x0202).penBacked 6 ((migrating 0x0202).ctx 3).integrity = true ∧
      (migrating 0x0202).penTaken 6 = false ∧ ((migrating 0x0202).ctx 3).migCount < 255 ∧ (migrating 0x0202).migrations = [] ∧
      (migrating 0x0202).acks 0 = true ∧ (migrating 0x0202).commits = []) ∧
    (let s := (migrating 0x0202).setExt 3 0 { e0 with retired := true }
     s.ready d0 0x0202 (migOps 0) = some (f0 0x0202 0 (migOps 0)) ∧ (s.ctx 3).state = .live ∧ s.destOff 6 = false ∧
       (s.ext 3 0).retired = true ∧ s.copying (s.migTier { ctx := 3, src := (s.ext 3 0).pen }) < 32) ∧
    (32 ≤ ({ migrating 0x0202 with migrations := List.replicate 32 { mig .copying with desc := {} } } : State).copying
      ((migrating 0x0202).migTier { ctx := 3, src := ((migrating 0x0202).ext 3 0).pen })) ∧
    ((inPhase [mig .waiting]).migrations.find? (fun m => m.phase = .waiting && (inPhase [mig .waiting]).migTier m = 0) = some (mig .waiting) ∧
      (inPhase [mig .waiting]).fetchedOf d0 = some (f0 0x0202 0 (migOps 0)) ∧ (inPhase [mig .waiting]).copying 0 < 32 ∧
      (inPhase [mig .waiting]).ctxBusy 3 = false ∧ (inPhase [mig .waiting]).sluiceUp 0 = true ∧
      (inPhase [mig .waiting]).flt.freezes.contains 3 = false) ∧
    ((inPhase [mig .copying]).migrations.find? (fun m => m.ctx = 3 && m.index = 0 && m.phase = .copying) = some (mig .copying) ∧
      (inPhase [mig .copying]).migReachable (mig .copying) = true ∧ (inPhase [mig .copying]).reacting = false ∧
      ((inPhase [mig .copying]).validLine 0 5).bits = 0) ∧
    ((inPhase [mig .switching]).migrations.find? (fun m => m.ctx = 3 && m.index = 0 && m.phase = .switching) = some (mig .switching) ∧
      (inPhase [mig .switching]).acks ((inPhase [mig .switching]).migTier (mig .switching)) = true ∧
      (inPhase [mig .switching]).commits = [] ∧ (inPhase [mig .switching]).remote = [] ∧ (inPhase [mig .switching]).held = [] ∧
      (∀ g ∈ (inPhase [mig .switching]).fetched, g.ref = d0)) ∧
    ((inPhase [mig .finishing]).migrations.find? (fun m => m.ctx = 3 && m.index = 0 && m.phase = .finishing) = some (mig .finishing) ∧
      (inPhase [mig .finishing]).left [] [] = true ∧
      Sparse.get (fun _ => 0) (inPhase [mig .finishing]).badExt (tierExt (penTier 5) (penExt 5)) = 0) ∧
    ((farDest.openMigrations 3).find? (fun m => m.index = 0) = some { mig .copying with dest := 2 ^ 20 } ∧
      farDest.reaches (farDest.migTier (mig .copying)) (penTier (2 ^ 20)) = false ∧ farDest.fetchedOf d0 = some (f0 0x0202 0 (migOps 0))) := by
  decide +kernel

/-! ### The basin and the cistern -/

def heatOn (auto : Bool) (n : Nat) : State :=
  let s := (up.putFlag (bsnBase 0 0) BSN_TIER_CFG_HEAT_EN true).putFlag (bsnBase 0 0) BSN_TIER_CFG_AUTO_PROMOTE auto
  s.setSlice 0 2 { s.slice 0 2 with heat := if n = 0 then [] else [(heatKey 3 8, n)] }
def heatFull : State := up.setSlice 0 2 { up.slice 0 2 with heat := (upto 8192).map (fun i => (i, 3)) }
/-- A victim of tier 0, slice 2, in a page that is valid or not. -/
def vic : Victim := { off := 5 * 2 ^ 21, cls := 1 }
def offering (b : BitVec 512) : State :=
  let s := up.setSlice 0 2 { up.slice 0 2 with victims := [vic] }
  s.setValidLine 0 5 { bits := b }

theorem test_hyp_HeatAndVictims :
    ((heatOn false 1).flag (bsnBase 0 0) BSN_TIER_CFG_HEAT_EN = true ∧ ((heatOn false 1).tier 0).power = 0 ∧ 0 < (heatOn false 1).nTiers ∧
      (heatOn false 1).retiredJet 0 2 = false ∧ (heatOn false 1).flag (bsnBase 0 0) BSN_TIER_CFG_AUTO_PROMOTE = false ∧
      Sparse.get (fun _ => 0) ((heatOn false 1).slice 0 2).heat (heatKey 3 8) ≠ 0) ∧
    (Sparse.get (fun _ => 0) ((heatOn false 0).slice 0 2).heat (heatKey 3 8) = 0 ∧ ((heatOn false 0).slice 0 2).heat.length < 8192) ∧
    (Sparse.get (fun _ => 0) (heatFull.slice 0 2).heat (heatKey 3 8) = 0 ∧ 8192 ≤ (heatFull.slice 0 2).heat.length ∧
      ((heatFull.slice 0 2).heat.all (fun e => 2 < e.2)) = true ∧ ((heatFull.slice 0 2).heat.any (fun e => e.2 ≤ 256)) = true) ∧
    ((heatOn true 256).flag (bsnBase 0 0) BSN_TIER_CFG_AUTO_PROMOTE = true ∧ ((heatOn true 256).ctx 3).noalloc = false ∧
      ((heatOn true 256).cls ((heatOn true 256).ctx 3).cls).ways ≠ 0 ∧
      max 1 ((heatOn true 256).get (bsnBase 0 0) BSN_TIER_CFG_PROMOTE_THRESH) ≤
        min 255 (Sparse.get (fun _ => 0) ((heatOn true 256).slice 0 2).heat (heatKey 3 8))) ∧
    ((heatOn false 1).jet 0 2).heatAt + max 1 ((heatOn false 1).get (bsnBase 0 0) BSN_TIER_CFG_HEAT_DECAY) * 10000 ≤
      (heatOn false 1).us ∧
    ((offering 0).reacting = false ∧ ((offering 0).slice 0 2).victims = [vic] ∧ (offering 0).pageValid 0 vic.off = false) ∧
    ((offering 1).pageValid 0 vic.off = true ∧ vic.off % 64 = 0 ∧ (offering 1).fenced 0 (chanOf vic.off) (rankOf vic.off) = false ∧
      (offering 1).rankHeld 0 (chanOf vic.off) (rankOf vic.off) = false ∧ ((offering 1).chan 0 (chanOf vic.off)).entry vic.off = none ∧
      (offering 1).poolRoom vic.cls (((offering 1).chan 0 (chanOf vic.off)).writes.map (·.cls)) = true ∧
      (offering 1).get (eccBase 0) ECC_INJ_CTL_COUNT = 0) := by decide +kernel

def asleep (n : Nat) (s : State) : State := s.setTier 0 { s.tier 0 with power := n }
def noHeat (s : State) : State := { s with heat := [] }

theorem test_hyp_BasinRefresh :
    (up.slice 0 15).dieSr.getLsbD 7 = false ∧ ((up.setSlice 0 15 { dieSr := 0x80 }).slice 0 15).dieSr.getLsbD 7 = true ∧
    (asleep 2 up).basinSleeps 0 = true ∧ up.basinSleeps 3 = false ∧ 3 < up.nTiers ∧
    ((up.tierHeat 3).sensed = false ∧ up.pkgMode.mode = .up ∧ (up.tier 3).power ≠ 3 ∧ (List.replicate 8 (681 : Int)).length = 8 ∧
      (∃ v ∈ List.replicate 8 (681 : Int), 680 < v)) ∧
    ((∀ v ∈ List.replicate 8 (359 : Int), v < 360) ∧
      (up.putFlag (bsnBase 3 0) BSN_TIER_CFG_TCR_EN true).flag (bsnBase 3 0) BSN_TIER_CFG_TCR_EN = true) := by decide +kernel

/-- Channel 3 of tier 0 is populated, with its four ranks in one state. -/
def chan3 (v : Nat) : State :=
  (up.setTier 0 { up.tier 0 with cap := 2 ^ 39 }).put (drcBase 0 3) DRC_RANK_STATUS_STATE (v * 0x1111)
def off3 : Nat := 0x300
def we : WriteEntry := { off := off3, line := { data := 0x55 }, cls := 1, ctx := 3 }
def reading : State := (chan3 1).setChan 0 3 { (chan3 1).chan 0 3 with reads := [{ off := off3, cls := 1, ctx := 3 }] }
def writing : State := (chan3 1).setChan 0 3 { (chan3 1).chan 0 3 with writes := [we] }
def turned (s : State) (b : Bool) : State := s.setChan 0 3 { s.chan 0 3 with writeMode := b }

theorem test_hyp_ColumnCommands :
    (writing.writeDirection 0 3 = true ∧
      (turned writing true).pick 0 3 ((writing.chan 0 3).writes.map (fun e => (e.off, e.cls, e.ctx, e.arrival))) [0] = some (off3, 1, 3) ∧
      (writing.chan 0 3).entry off3 = some we) ∧
    (reading.writeDirection 0 3 = false ∧
      (turned reading false).pick 0 3 ((reading.chan 0 3).reads.map (fun e => (e.off, e.cls, e.ctx, e.arrival))) [0] = some (off3, 1, 3) ∧
      (reading.chan 0 3).reads.findIdx? (fun e => e.off = off3 && e.cls = 1 && e.ctx = 3) = some 0) ∧
    (turned reading false).pick 0 3 ((reading.chan 0 3).reads.map (fun e => (e.off, e.cls, e.ctx, e.arrival))) [] = none := by
  decide +kernel

def urgentRead : State :=
  ((chan3 1).setChan 0 3 { (chan3 1).chan 0 3 with reads := [{ off := off3, cls := 1, arrival := 0 }] }).putFlag (drcBase 0 3)
    DRC_CH_CFG_REF_MODE false
def rank3 (r : Rank) (s : State) : State := (s.setRank 0 3 2 r).setRank 0 3 3 r

theorem test_hyp_RefreshAndTracking :
    (urgentRead.rankState 0 3 0 = 1 ∧ urgentRead.urgent 0 3 0 = true ∧ urgentRead.flag (drcBase 0 3) DRC_CH_CFG_REF_MODE = false ∧
      (urgentRead.rank 0 3 0).owed < 4 ∧ (urgentRead.rank 0 3 0).pulled = 0) ∧
    (({ urgentRead with us := 0 } : State).rankState 0 3 0 = 1 ∧ ({ urgentRead with us := 0 } : State).urgent 0 3 0 = false ∧
      ({ urgentRead with us := 0 } : State).rankIdle 0 3 0 = false) ∧
    ((chan3 5).rankState 0 3 3 = 5 ∧ (chan3 3).rankState 0 3 3 = 3 ∧ (chan3 0).rankState 0 3 3 = 0) ∧
    ((chan3 1).chanServes 0 3 = true ∧ ((rank3 { hotReads := 3 } (chan3 1)).rank 0 3 (1 * 2)).hotReads = 3 ∧
      ((rank3 { hotReads := 3 } (chan3 1)).rank 0 3 (1 * 2 + 1)).hotReads = 3) ∧
    (((rank3 { failReads := 7 } (chan3 1)).rank 0 3 (1 * 2)).failReads = 7 ∧
      ((rank3 { failReads := 7 } (chan3 1)).rank 0 3 (1 * 2 + 1)).failReads = 7) := by decide +kernel

theorem test_hyp_CommandParity : (chan3 1).chanServes 0 3 = true ∧ (chan3 1).rankState 0 3 3 ≠ 0 ∧ (chan3 1).rankState 0 3 3 ≠ 5 ∧
    ((chan3 1).rank 0 3 3).failedReplays + 1 < 3 ∧ ((rank3 { failedReplays := 2 } (chan3 1)).rank 0 3 3).failedReplays = 2 ∧
    (chan3 1).held = [] := by decide +kernel

def training (since : Nat) : State :=
  ((chan3 4).putFlag (drcBase 0 3) DRC_OP_STATUS_TRAINING true).setRank 0 3 3 { heldSince := some since }
def noTraining (s : State) : State := (s.putFlag (drcBase 0 3) DRC_OP_STATUS_TRAINING false)

theorem test_hyp_Retraining :
    ((noTraining (rank3 { due := true } (chan3 1))).chanServes 0 3 = true ∧ (noTraining (rank3 { due := true } (chan3 1))).retrainDue 0 3 3 = true ∧
      (noTraining (rank3 { due := true } (chan3 1))).rankState 0 3 3 = 1 ∧
      (noTraining (rank3 { due := true } (chan3 1))).changing 0 3 = false ∧
      (noTraining (rank3 { due := true } (chan3 1))).training 0 3 = false) ∧
    ((rank3 { due := true } (chan3 3)).retrainDue 0 3 3 = true ∧ (rank3 { due := true } (chan3 3)).rankState 0 3 3 = 3) ∧
    ((training 0).heldTraining 0 3 3 = true ∧ ((training 0).rank 0 3 3).heldFromSr = false ∧ (training 0).held = [] ∧
      ∃ h, ((training 0).rank 0 3 3).heldSince = some h ∧
        h + (max 1 ((training 0).get (drcBase 0 3) DRC_RETRAIN_HOLD_MAX) * 1000 - 200) ≤ (training 0).us) := by
  refine ⟨?_, ?_, ?_, ?_, ?_, 0, ?_⟩ <;> decide +kernel

def lp (m v : Nat) : State := (chan3 v).put (drcBase 0 3) DRC_CH_CFG_LP_MODE m

theorem test_hyp_RankLowPower :
    ((lp 1 1).rankState 0 3 3 = 1 ∧ (lp 1 1).lpMode 0 3 = 1 ∧ (lp 1 1).rankIdle 0 3 3 = true ∧ (lp 3 1).lpMode 0 3 = 3) ∧
    reading.rankIdle 0 3 (rankOf off3) = false ∧
    ((lp 2 1).rankState 0 3 3 = 1 ∧ (lp 2 1).lpMode 0 3 = 2 ∧ (lp 3 2).rankState 0 3 3 = 2 ∧ (lp 3 2).lpMode 0 3 = 3 ∧
      ((lp 3 2).rank 0 3 3).idleSince + max 1 ((lp 3 2).get (drcBase 0 3) DRC_LP_TIMER_SR_TIMER) ≤ (lp 3 2).us) ∧
    ((lp 3 2).rankState 0 3 3 = 2 ∧ (lp 3 3).rankState 0 3 3 = 3 ∧ ((lp 3 2).tier 0).power ≤ 1 ∧ (lp 3 2).held = []) := by decide +kernel

def points (train change pend : Bool) : State :=
  (((((chan3 1).put (drcBase 0 3) DRC_OP_STATUS_ALLOWED 0xF).putFlag (drcBase 0 3) DRC_OP_STATUS_TRAINING train).putFlag (drcBase 0 3)
    DRC_OP_STATUS_CHANGING change).putFlag (drcBase 0 3) DRC_OP_STATUS_PEND pend).setChan 0 3 { (chan3 1).chan 0 3 with trained := 0xF, target := some 3 }

theorem test_hyp_OperatingPoints :
    ((points false false false).chanServes 0 3 = true ∧ (points false false false).changing 0 3 = false ∧
      (points false false false).training 0 3 = false ∧ (points false false false).mapPoint 0 3 3 = some 3 ∧
      3 ≠ (points false false false).get (drcBase 0 3) DRC_OP_STATUS_CUR_OP) ∧
    ((points true false false).training 0 3 = true ∧ (points true false false).changing 0 3 = false ∧
      (points true false false).mapPoint 0 3 3 = some 3 ∧ 3 ≠ (points true false false).get (drcBase 0 3) DRC_OP_STATUS_CUR_OP) ∧
    (((points false true false).chan 0 3).target = some 3 ∧ (points false true false).changing 0 3 = true ∧
      (points false true false).flag (drcBase 0 3) DRC_OP_STATUS_PEND = false ∧ (points false true false).opWaits = []) ∧
    ((points false false true).flag (drcBase 0 3) DRC_OP_STATUS_PEND = true ∧ (points false false true).changing 0 3 = false ∧
      (points false false true).training 0 3 = false) ∧
    ((points false false false).locked = false ∧ (points false false false).pathOpen .mctp = true ∧ (points false false false).blockDown (drcBase 0 3) = false ∧
      drcBase 0 3 / 0x100000 - 1 < (points false false false).nTiers ∧
      ((points false false false).chan 0 3).trained.getLsbD ((points false false false).get (drcBase 0 3) DRC_OP_STATUS_CUR_OP) = true ∧
      (0 : Nat) / 64 % 4 ≤ (points false false false).get (drcBase 0 3) DRC_OP_STATUS_CUR_OP) := by decide +kernel

/-! ### Stored data, keys and classes -/

def queuedRead : Req := { port := 5, tag := 2, passed := true, kind := .read, off := 5 * 2 ^ 21, remote := none }
def heldRead : State := { up with held := [queuedRead] }
def failed (at_ : Nat) : State := { up with entropyFailed := true, entropyTestAt := at_ }

theorem test_hyp_SramChecks :
    (19 < 20 ∧ 57 ≤ 57 ∧ up.nTiers ≤ 4) ∧ 3 < up.nTiers ∧
    heldRead.held.find? (fun r => r.passed && r.kind.isRead && r.remote.isNone && r.tier = 0 && r.off / 64 = (5 * 2 ^ 21 + 63) / 64) =
      some queuedRead ∧
    (writing.held = [] ∧ off3 % 64 = 0 ∧ ((writing.chan 0 (chanOf off3)).entry off3).isSome = true) ∧
    (up.pathOpen .mctp = true ∧ up.blockDown (eccBase 3 + 4) = false ∧ (eccBase 3 + 4) / 0x100000 - 1 < up.nTiers ∧ up.locked = false) ∧
    Sparse.get (fun _ => 0) ({ up with us := 2 ^ 40 } : State).ceWindow 0 ≠
      2 ^ 40 / (max 1 (({ up with us := 2 ^ 40 } : State).get (eccBase 0) ECC_CFG_CE_WINDOW) * 1000000) := by decide +kernel

theorem test_hyp_Entropy : up.entropyFailed = false ∧ ((failed 1000000).entropyFailed = true ∧ (failed 1000000).mgmt.grotto = true ∧
    (failed 1000000).entropyTestAt ≤ (failed 1000000).us) ∧ (failed 1000001).us < (failed 1000001).entropyTestAt := by decide +kernel

def tagged (dirty : Bool) (pend : BitVec 16) : State :=
  let s := (up.put (scrBase 0) SCR_TAG_BASE_TB_EXT 1).setTagSet 0 5 { ways := [(3, { valid := true, dirty := dirty, pend := pend, data := 0x66 })] }
  { s.setValidLine 0 0 { bits := 2 } with sweeps := [(0, 5)] }

theorem test_hyp_TagLines :
    (((tagged true 0).tagSet 0 5).find 5 = some 3 ∧ (((tagged true 0).tagSet 0 5).way 3).dirty = true ∧
      (((tagged true 0).tagSet 0 5).way 3).pend = 0 ∧ (((tagged true 0).tagSet 0 5).way 3).bad = false ∧
      let o := (tagged true 0).tagLineOff 0 5
      (tagged true 0).fenced 0 (chanOf o) (rankOf o) = false ∧ (tagged true 0).rankHeld 0 (chanOf o) (rankOf o) = false ∧
      ((tagged true 0).chan 0 (chanOf o)).entry (o / 64 * 64) = none ∧
      (tagged true 0).poolRoom 0 (((tagged true 0).chan 0 (chanOf o)).writes.map (·.cls)) = true ∧
      (tagged true 0).get (eccBase 0) ECC_INJ_CTL_COUNT = 0) ∧
    (((tagged true 1).tagSet 0 5).find 5 = some 3 ∧ (((tagged true 1).tagSet 0 5).way 3).pend ≠ 0) ∧
    ((tagged true 0).sweeps.contains (0, 5) = true ∧ (tagged true 0).held = [] ∧ (tagged true 0).tagLineOff 0 5 / 1024 ≠ 5 ∧
      (tagged true 0).pageValid 0 (5 * 1024 + 15 * 64) = true) ∧
    (tagged true 0).sweeps.contains (0, 6) = false := by decide +kernel

def keyOp (op k : Nat) : State := withD op 0 [(8, 2, k)] up
def key1 (s : State) : State := s.setKey 1 (some 7)
def noEntropy (s : State) : State := { s with entropyFailed := true }

theorem test_hyp_Keys :
    ((keyOp 0x0300 4096).ready d0 0x0300 [(8, 2, 4096)]).isSome = true ∧
    (((key1 (keyOp 0x0300 1)).ready d0 0x0300 [(8, 2, 1)]).isSome = true ∧ (key1 (keyOp 0x0300 1)).key 1 ≠ none) ∧
    ((noEntropy (keyOp 0x0300 0)).key 4095 = none ∧ (noEntropy (keyOp 0x0300 0)).entropyFailed = true) ∧
    (((key1 (keyOp 0x0300 0)).ready d0 0x0300 [(8, 2, 0)]).isSome = true ∧ (key1 (keyOp 0x0300 0)).key 2 = none ∧
      (∀ i, 1 ≤ i → i < 2 → (key1 (keyOp 0x0300 0)).key i ≠ none) ∧ (key1 (keyOp 0x0300 0)).entropyFailed = false) ∧
    (((keyOp 0x0301 4095).ready d0 0x0301 [(8, 2, 4095)]).isSome = true ∧ (keyOp 0x0301 4095).commits = [] ∧ (keyOp 0x0301 4095).key 4095 = none) ∧
    (((key1 (ctx3 .live (keyOp 0x0301 1))).ready d0 0x0301 [(8, 2, 1)]).isSome = true ∧ (key1 (ctx3 .live (keyOp 0x0301 1))).key 1 ≠ none ∧
      (∃ x ∈ (key1 (ctx3 .live (keyOp 0x0301 1))).ctxs, x.2.state ≠ .free ∧ x.2.keyId = 1)) ∧
    ((key1 (keyOp 0x0301 1)).ctxs = [] ∧ (key1 (keyOp 0x0301 1)).key 1 ≠ none) := by
  refine ⟨?_, ?_, ?_, ⟨?_, ?_, ?_, ?_⟩, ?_, ?_, ?_⟩
  case refine_6 => intro i h h'; obtain rfl : i = 1 := by omega
                   decide +kernel
  all_goals decide +kernel

def classOps (cls guar rsv : Nat) : List (Nat × Nat × Nat) :=
  [(8, 1, cls), (9, 1, 127), (10, 1, 16), (11, 1, 15), (12, 2, 5), (14, 2, guar), (16, 2, 0), (18, 1, 64), (19, 1, rsv), (20, 1, 8), (21, 1, 1)]
def classed (flags cls guar rsv : Nat) (s : State) : State := withD 0x0400 flags (classOps cls guar rsv) s
def reserved6 : State := { up with classes := (upto 6).map (fun k => (k, { rsv := 64 })) }

theorem test_hyp_Classes :
    (((classed 0 64 0 0 up).ready d0 0x0400 (classOps 64 0 0)).isSome = true ∧ (classed 0 64 0 0 up).admissionLocked = false) ∧
    (((classed 0 63 0 1 reserved6).ready d0 0x0400 (classOps 63 0 1)).isSome = true ∧ classOk 4 63 127 16 15 0 0 64 1 8 1 = true ∧
      384 < reserved6.rsvSum - (reserved6.cls 63).rsv + 1) ∧
    (let p : ClassParams := { target := 5, guar := 1, ceil := 0, rank := 15, minStep := 7, ways := 16, groups := 15, maxq := 64, rsv := 0
                              missFact := 8, missN := 1 }
     ((classed 0 63 1 0 up).ready d0 0x0400 (classOps 63 1 0)).isSome = true ∧ up.rsvSum - (up.cls 63).rsv + 0 ≤ 384 ∧
       up.overGroups (up.withClass 63 p) ≠ [] ∧ descFlag (f0 0x0400 0 (classOps 63 1 0)).bytes 0 = false) ∧
    (((classed 1 63 1 0 up).ready d0 0x0400 (classOps 63 1 0)).isSome = true ∧
      descFlag (f0 0x0400 1 (classOps 63 1 0)).bytes 0 = true) ∧
    (((withD 0x0401 0 [(8, 1, 63), (16, 8, 32)] up).ready d0 0x0401 [(8, 1, 63), (16, 8, 32)]).isSome = true ∧ 32 % 32 = 0) ∧
    (let q := withD 0x0402 0 [(8, 4, 3), (12, 1, 63)]
     ((q (ctx3 .draining up)).ready d0 0x0402 [(8, 4, 3), (12, 1, 63)]).isSome = true ∧ (q (ctx3 .draining up)).admissionLocked = false ∧
       ((q (ctx3 .frozen up)).ready d0 0x0402 [(8, 4, 3), (12, 1, 63)]).isSome = true ∧ (q (ctx3 .frozen up)).acks 0 = true ∧
       (q (ctx3 .frozen up)).commits = [] ∧ (q (ctx3 .frozen up)).overGroups (relabel 3 63 (q (ctx3 .frozen up))).cls = []) := by
  decide +kernel

def windowed : State := up.setChanClass 0 3 63 { reads := 2, missRun := 255 }
def weirClass : State := { windowed with classes := [(63, { target := 5, missFact := 8, missN := 1 })] }
def lat3 : WinLat := { tier := 0, chan := 3, cls := 63, lat := 65535 }
def missing (last : Option Nat) : State := { up with missPending := true, missLast := last }

theorem test_hyp_WeirWindow : 0 < weirClass.nTiers ∧ weirClass.nTiers ≤ 8 ∧
    [lat3].find? (fun l => l.tier = 0 && l.chan = 3 && l.cls = 63) = some lat3 ∧ (weirClass.chanClass 0 3 63).reads ≠ 0 ∧
    ((weirClass.chanClass 0 3 63).miss = false ∧ (weirClass.cls 63).target ≠ 0 ∧ (weirClass.chanWeir 0 3).disturbed = false ∧
      (weirClass.cls 63).target * (weirClass.cls 63).missFact < 65535 * 8 ∧ (weirClass.cls 63).missN ≤ (weirClass.chanClass 0 3 63).missRun + 1) := by
  decide +kernel

theorem test_hyp_MissInterrupt : (missing none).missPending = true ∧ (∀ m, (missing (some 999900)).missLast = some m → m + 100 ≤ 1000000) ∧
    ((missing (some 999901)).missLast = some 999901 ∧ (missing (some 999901)).us < 999901 + 100) := by
  refine ⟨by decide +kernel, ?_, by decide +kernel⟩
  intro m h; cases h; decide

/-! ### Metering -/

def roled (r : Nat) (s : State) : State := s.put rilBase RIL_STATUS_ROLE r
def metered (m : Meter) : State := { up with us := 100000000, meter := m }
def mrec : MRec := { ctx := 3, counts := { lines := 1 } }
def tk : Tick := { num := 7, records := [mrec] }
def ended : Tick := { tk with finished := true, records := [{ mrec with final := true }] }
def z0 : Seal := { gen := 1, records := 1 }
def identified (s : State) : State :=
  { s with fuses := [(96, { written := true }), (97, { written := true }), (98, { written := true }), (99, { written := true })] }

theorem test_hyp_TickMarks :
    let own := metered { markAt := some 1000 }
    let worker := roled 1 { metered { lastMark := 1000 } with pool := { up.pool with managerNext := true } }
    (own.meter.openIndet = [] ∧ own.meter.openIndetAll = false ∧ own.role = 0 ∧ own.meter.markAt = some 1000 ∧
      1000 + own.mInterval * 1000000 ≤ own.us ∧ (roled 3 own).role = 3) ∧
    ((metered { markAt := some 100000000 }).us < 100000000 + (metered { markAt := some 100000000 }).mInterval * 1000000) ∧
    (worker.role = 1 ∧ worker.pool.managerNext = true ∧ worker.meter.lastMark + worker.mInterval * 1000000 ≤ worker.us ∧
      worker.lastTick < 1 ∧ 0 ≤ worker.lastTick ∧ (roled 2 worker).role = 2) ∧
    (worker.flag mtrBase MTR_STATUS_UNSYNC = false ∧ worker.meter.lastMark + worker.mInterval * 1000000 + 1000 ≤ worker.us) := by
  decide +kernel

theorem test_hyp_TickFolding :
    let folding := metered { ticks := [{ tk with folding := [3] }] }
    let open_ := metered { ticks := [tk] }
    let final := metered { ticks := [{ tk with records := [{ mrec with final := true }] }] }
    (folding.meter.ticks = [{ tk with folding := [3] }] ∧ folding.leaves = [] ∧ folding.remoteLeaves = [] ∧ folding.pool.granted = [] ∧
      (folding.tier 3).engReset = false) ∧
    (open_.tickOf 7 = some tk ∧ tk.finished = false ∧ tk.records.find? (fun r => r.ctx = 3) = some mrec ∧ mrec.final = false) ∧
    open_.tickOf 8 = none ∧ (metered { ticks := [ended] }).tickOf 7 = some ended ∧
    (open_.tickOf 7 = some tk ∧ tk.folding = [] ∧ tk.markAt + open_.rollWait ≤ open_.us) ∧
    (final.tickOf 7 = some { tk with records := [{ mrec with final := true }] } ∧ final.meter.waits = [] ∧ final.role = 0) ∧
    ((roled 3 open_).tickOf 7 = some tk ∧ tk.poolNode = none ∧ (roled 3 open_).role = 3 ∧
      tk.markAt + (roled 3 open_).rollWait + 1000000 ≤ (roled 3 open_).us) := by decide +kernel

def unsealed : State := (identified (metered { ticks := [ended] })).putFlag mtrBase MTR_CFG_AUTOSEAL true
theorem test_hyp_SealsAndGaps :
    (unsealed.tickOf 7 = some ended ∧ unsealed.meter.waits = [] ∧ unsealed.mgmt.grotto = true ∧ unsealed.identity = true ∧
      unsealed.meter.ticks.find? (fun k => k.finished && k.sealed.isNone) = some ended ∧ unsealed.flag mtrBase MTR_CFG_AUTOSEAL = true) ∧
    ((identified (metered { ticks := [{ ended with sealed := some z0, reseal := true }] })).tickOf 7 =
      some { ended with sealed := some z0, reseal := true }) ∧
    (ended.sealed = none ∧ ended.sealLate = false ∧ ended.markAt + 5000000 ≤ unsealed.us) := by decide +kernel

def snapOps (scope first count haddr : Nat) : List (Nat × Nat × Nat) := [(8, 4, 7), (12, 1, scope), (16, 4, first), (20, 4, count), (24, 8, haddr)]
def snapping (l : List (Nat × Nat × Nat)) (k : Tick) : State := withD 0x0600 0 l (metered { ticks := [k] })
def tenantRing (s : State) : State := s.setRing 1 { state := .running, tenant := true, log2n := 6 }

theorem test_hyp_MeterDescriptors :
    (((snapping (snapOps 4 0 1 0) ended).ready d0 0x0600 (snapOps 4 0 1 0)).isSome = true ∧
      ((snapping (snapOps 0 0 1 127) ended).ready d0 0x0600 (snapOps 0 0 1 127)).isSome = true ∧
      (snapping (snapOps 3 0 1 0) ended).role ≠ 3) ∧
    (((tenantRing (snapping (snapOps 1 65535 1 128) ended)).ready d0 0x0600 (snapOps 1 65535 1 128)).isSome = true ∧
      (tenantRing (snapping (snapOps 1 65535 1 128) ended)).tickOf 7 = some ended ∧ countOk 1 = true ∧
      ((tenantRing (snapping (snapOps 1 65535 1 128) ended)).ring 1).tenant = true) ∧
    (((snapping (snapOps 0 (2 ^ 18 - 1) 1 128) ended).ready d0 0x0600 (snapOps 0 (2 ^ 18 - 1) 1 128)).isSome = true ∧
      ((snapping (snapOps 0 (2 ^ 18 - 1) 1 128) ended).ring 1).tenant = false) ∧
    (((snapping (snapOps 0 0 1 128) tk).ready d0 0x0600 (snapOps 0 0 1 128)).isSome = true ∧ tk.finished = false) ∧
    (let q : List (Nat × Nat × Nat) := [(8, 4, 7), (16, 8, 256)]
     ((withD 0x0601 0 q up).ready d0 0x0601 q).isSome = true ∧ (withD 0x0601 0 q up).tickOf 7 = none ∧
       (withD 0x0601 0 q (metered { ticks := [{ ended with sealed := some z0 }] })).tickOf 7 = some { ended with sealed := some z0 } ∧
       ((withD 0x0601 0 q (metered { ticks := [{ ended with sealed := some z0 }] })).ready d0 0x0601 q).isSome = true ∧
       ((withD 0x0601 0 q unsealed).ready d0 0x0601 q).isSome = true ∧ (withD 0x0601 0 q unsealed).flag mtrBase MTR_CFG_AUTOSEAL = true) ∧
    (let w : MeterWait := { desc := d0, toSeal := true, tick := 7 }
     let s := withD 0x0601 0 [] (metered { waits := [w] })
     s.meter.waits.find? (fun w => w.toSeal && w.desc = d0) = some w ∧ w.since + 30000000 ≤ s.us ∧ (s.fetchedOf d0).isSome = true ∧
       ({ s with us := 29999999 } : State).us < w.since + 30000000) ∧
    (let q (i r a : Nat) : List (Nat × Nat × Nat) := [(8, 2, i), (10, 1, r), (11, 1, a)]
     ((withD 0x0602 0 (q 3600 40 1) up).ready d0 0x0602 (q 3600 40 1)).isSome = true ∧ (withD 0x0602 0 (q 3600 40 1) up).role = 0 ∧
       ((withD 0x0602 0 (q 3601 40 1) up).ready d0 0x0602 (q 3601 40 1)).isSome = true) := by decide +kernel

/-! ### Rings -/

def nopD : State := withD 0x0000 0 [] up
def createRing (ring log2n : Nat) : List (Nat × Nat × Nat) :=
  [(8, 2, ring), (10, 1, 1), (11, 1, log2n), (12, 1, 12), (13, 1, 3), (14, 2, 2047), (16, 8, 4096), (24, 8, 2 ^ 23), (32, 8, 0), (40, 2, 5),
   (42, 1, 0), (43, 1, 255), (44, 2, 1023), (46, 2, 0)]
def running (r : Nat) (s : State) : State := s.setRing r { state := .running, log2n := 6, dmaPort := 5 }
def fenceD (scope : Nat) (s : State) : State := withD 0x0F00 0 [(8, 1, scope)] s

theorem test_hyp_RingLife :
    (nopD.ready d0 0x0000 []).isSome = true ∧
    (((withD 0x0001 0 (createRing 65535 17) up).ready d0 0x0001 (createRing 65535 17)).isSome = true ∧
      ringRanges 65535 1 17 3 2047 4096 (2 ^ 23) 0 1023 0 = false) ∧
    (((withD 0x0001 0 (createRing 65535 16) up).ready d0 0x0001 (createRing 65535 16)).isSome = true ∧
      ringRanges 65535 1 16 3 2047 4096 (2 ^ 23) 0 1023 0 = true ∧ (withD 0x0001 0 (createRing 65535 16) up).ringPlaceOk 65535 1 12 = true ∧
      ((withD 0x0001 0 (createRing 65535 16) up).ring 65535).state = .absent ∧ 1 / 4 % 2 = 0 ∧
      ((running 65535 (withD 0x0001 0 (createRing 65535 16) up)).ring 65535).state ≠ .absent) ∧
    (((withD 0x0002 0 [(8, 2, 0)] up).ready d0 0x0002 [(8, 2, 0)]).isSome = true ∧
      ((withD 0x0002 0 [(8, 2, 9)] up).ready d0 0x0002 [(8, 2, 9)]).isSome = true ∧ ((withD 0x0002 0 [(8, 2, 9)] up).ring 9).state = .absent ∧
      ((running 9 (withD 0x0002 0 [(8, 2, 9)] up)).ring 9).state ≠ .absent ∧ ((running 9 (withD 0x0002 0 [(8, 2, 9)] up)).ring 9).leaving = false ∧
      (∀ x ∈ (running 9 (withD 0x0002 0 [(8, 2, 9)] up)).fetched, x.ref.ring ≠ 9) ∧ up.cplQ = []) ∧
    (((fenceD 2 up).ready d0 0x0F00 [(8, 1, 2)]).isSome = true ∧
      ((tenantRing (fenceD 1 up)).ready d0 0x0F00 [(8, 1, 1)]).isSome = true ∧ ((tenantRing (fenceD 1 up)).ring d0.ring).tenant = true ∧
      ((fenceD 1 up).ready d0 0x0F00 [(8, 1, 1)]).isSome = true ∧ ((fenceD 1 up).ring d0.ring).tenant = false) := by decide +kernel

def modOps (action newCi : Nat) : List (Nat × Nat × Nat) := modifyOperands action 9 63 newCi 255 3 2047 1 8 1023 1000
def modRing (action newCi : Nat) (st : RingState) : State := (withD 0x0003 0 (modOps action newCi) up).setRing 9 { state := st, log2n := 6 }

theorem test_hyp_RingModify :
    (∀ action ∈ [1, 2, 3, 0], ∀ st ∈ [RingState.absent, .running, .stopped, .error],
      ((modRing action 63 st).ready d0 0x0003 (modOps action 63)).isSome = true ∧ ((modRing action 63 st).ring 9).state = st) ∧
    (∀ action ∈ [1, 2, 3, 0], modifyRanges action 9 63 3 1 1023 1000 = true) ∧ modifyRanges 1 9 63 4 1 1023 1000 = false ∧
    ((modRing 3 64 .stopped).ring 9).n ≤ 64 ∧ 63 < ((modRing 3 63 .stopped).ring 9).n ∧
    (((modRing 3 63 .stopped).ready d0 0x0003 (modOps 3 63)).isSome = true ∧ 2047 ≤ 2047) := by decide +kernel

def granted (s : State) : State :=
  ((s.putFlag (sluBase + 4 * 127) SLU_DB_GRANT_VALID true).put (sluBase + 4 * 127) SLU_DB_GRANT_PORT 5).put (sluBase + 4 * 127) SLU_DB_GRANT_SLOT 15
def rung (polled : Bool) : State :=
  (granted port5).setRing (127 * 512 + 3) { state := .running, log2n := 6, dmaPort := 5, polled := polled, pollUs := 1000, polledAt := 999000 }

theorem test_hyp_Doorbells :
    ((rung false).linkUp 5 = true ∧ (rung false).reacting = false ∧ (0xF000 + 24) % 8 = 0 ∧
      (rung false).doorbellRing 5 0 (0xF000 + 24) = some (127 * 512 + 3) ∧ ((rung false).ring (127 * 512 + 3)).state ≠ .absent ∧
      ((rung false).ring (127 * 512 + 3)).polled = false ∧ 63 < ((rung false).ring (127 * 512 + 3)).n ∧
      ((rung false).ring (127 * 512 + 3)).cqHead < ((rung false).ring (127 * 512 + 3)).n ∧ ((rung false).ring (127 * 512 + 3)).n ≤ 64) ∧
    (((rung true).ring (127 * 512 + 3)).polled = true ∧
      ((rung true).ring (127 * 512 + 3)).polledAt + ((rung true).ring (127 * 512 + 3)).pollUs ≤ (rung true).us ∧
      (rung true).linkUp ((rung true).ring (127 * 512 + 3)).dmaPort = true) ∧
    ({ rung true with us := 999999 } : State).us < ((rung true).ring (127 * 512 + 3)).polledAt + ((rung true).ring (127 * 512 + 3)).pollUs := by
  decide +kernel

/-- Ring 9 with one descriptor to be read. -/
def posted (chk : Bool) : State := port5.setRing 9 { state := .running, log2n := 6, dmaPort := 5, pi := 1, expSeq := 4, chkEn := chk }
def nop4 : BitVec 512 := BitVec.ofNat 512 (4 * 2 ^ 24)
def q9 : Cpl := { ring := 9, status := 0, result := 5 }
def written (st : RingState) : State := { posted false with cplQ := [q9] }.setRing 9 { (posted false).ring 9 with state := st, cqWrite := 63 }

theorem test_hyp_FetchAndComplete :
    ((posted false).sluiceUp 0 = true ∧ (posted false).chooseRing 0 = some 9 ∧ 0 < (posted false).readable 0 9 ∧
      descField nop4 3 1 = ((posted false).ring 9).expSeq ∧ (posted false).checkOpcode ((posted false).ring 9) nop4 = none ∧
      descOp nop4 ≠ 0x0F00 ∧ ((posted false).ring 9).chkEn = false) ∧
    (descField (nop4 + 1023) 3 1 = 4 ∧ (posted false).checkOpcode ((posted false).ring 9) (nop4 + 1023) = some 0x01) ∧
    descField (nop4 + 2 ^ 24) 3 1 ≠ ((posted false).ring 9).expSeq ∧
    (((posted true).ring 9).chkEn = true ∧ descCheck 9 ((posted true).ring 9).ci nop4 ≠ descField nop4 60 4) ∧
    ((written .running).cplQ.find? (fun c => c.ring = 9) = some q9 ∧ ((written .stopped).ring 9).state = .stopped ∧
      ((written .running).ring 9).leaving = false ∧ q9.status < 256 ∧ ((written .running).ring 9).state ≠ .absent) ∧
    (let g : Ring := { (posted false).ring 9 with intEn := true, counted := 1, coalTime := 1023, since := 998977 }
     let s := (posted false).setRing 9 g
     (s.ring 9).intEn = true ∧ (s.ring 9).counted ≠ 0 ∧ (s.ring 9).coalTime ≠ 0 ∧ (s.ring 9).since + (s.ring 9).coalTime ≤ s.us) ∧
    0 < (posted false).readable ((posted false).ring 9).tier 9 ∧
    ((running 9 up).linkUp ((running 9 up).ring 9).dmaPort = false ∧ ((running 9 up).ring 9).state ≠ .absent) := by decide +kernel

def adminOn : State := up.putFlag sluBase SLU_ADMIN_CFG_ENABLE true

theorem test_hyp_GrantsAndAdminRing :
    (up.pathOpen .mctp = true ∧ up.blockDown (sluBase + 0x400 + 4 * 127) = false ∧ sluBase + 0x400 + 4 * 127 < 0x100000) ∧
    (granted up).grant 127 = some (5, 15) ∧ (up.rings = [] ∧ ∀ q, 1 ≤ q → q ≤ 127 → up.grant q ≠ some (5, 15)) ∧
    (up.blockDown sluBase = false ∧ up.flag sluBase SLU_ADMIN_CFG_ENABLE = false ∧ sluBase < 0x100000) ∧
    (adminOn.flag sluBase SLU_ADMIN_CFG_ENABLE = true ∧ (adminOn.ring 0).leaveDesc = none ∧ adminOn.fetched = [] ∧ adminOn.cplQ = []) := by
  refine ⟨by decide +kernel, by decide +kernel, ⟨by decide +kernel, ?_⟩, by decide +kernel, by decide +kernel⟩
  have h : ∀ q : Fin 128, up.grant q ≠ some (5, 15) := by decide +kernel
  exact fun q _ hq => h ⟨q, by omega⟩

/-! ### Data tasks, pieces and jets -/

/-- Context 3 in a state, with extent 0 mapped on tier 0. -/
def usable (st : CtxState) : State := (ctx3 st up).setExt 3 0 e0
def taskD (op : Nat) (l : List (Nat × Nat × Nat)) (st : CtxState) : State := withD op 0 l (usable st)
def copyOps (src dst len : Nat) : List (Nat × Nat × Nat) := [(8, 1, 0), (9, 1, 1), (12, 4, 3), (16, 4, 0), (20, 8, src), (28, 8, dst), (36, 8, len)]
def rangeOps (off len : Nat) : List (Nat × Nat × Nat) := [(8, 4, 3), (12, 8, off), (20, 8, len)]
def crcOps (poly width : Nat) : List (Nat × Nat × Nat) :=
  [(8, 4, 3), (12, 8, 0), (20, 8, 64), (28, 8, 255), (36, 8, poly), (44, 8, 255), (52, 1, width), (53, 1, 15)]
def scrubOps (kind level pages haddr : Nat) : List (Nat × Nat × Nat) :=
  [(8, 1, kind), (9, 1, level), (10, 1, 0), (12, 4, if kind = 0 then 3 else 0), (16, 4, 0), (20, 4, pages), (24, 8, 0), (32, 8, haddr)]
def pageOps (pages : Nat) : List (Nat × Nat × Nat) := [(8, 4, 3), (12, 4, 511), (16, 4, pages)]
def heatOps (maxPages : Nat) : List (Nat × Nat × Nat) := [(8, 4, 3), (12, 4, maxPages), (16, 8, 16)]
def isReady (op : Nat) (l : List (Nat × Nat × Nat)) (s : State) : Bool := (s.ready d0 op l).isSome

theorem usable_range (off len : Nat) (l : List CtxState) (s : State) (h : (s.ctx 3).state ∈ l ∧ s.rangeIn 3 off len = true ∧
    s.rangeMapped 3 off len = true) : Usable 3 off len l s := ⟨by decide, h⟩

theorem test_hyp_DataTasks_ranges :
    (isReady 0x0500 (copyOps 63 0 64) (taskD 0x0500 (copyOps 63 0 64) .live) = true ∧ (taskD 0x0500 (copyOps 63 0 64) .live).taskOf d0 = none) ∧
    isReady 0x0501 (rangeOps 0 0) (taskD 0x0501 (rangeOps 0 0) .live) = true ∧
    isReady 0x0502 (crcOps 256 8) (taskD 0x0502 (crcOps 256 8) .live) = true ∧
    isReady 0x0503 (scrubOps 3 0 0 0) (taskD 0x0503 (scrubOps 3 0 0 0) .live) = true ∧
    isReady 0x0504 (pageOps 0) (taskD 0x0504 (pageOps 0) .live) = true ∧
    (isReady 0x0504 (pageOps 1) (taskD 0x0504 (pageOps 1) .frozen) = true ∧ ((usable .frozen).ctx 3).state ≠ .live) ∧
    isReady 0x0505 (pageOps 0) (taskD 0x0505 (pageOps 0) .live) = true ∧
    isReady 0x0506 (heatOps 65537) (taskD 0x0506 (heatOps 65537) .live) = true := by decide +kernel

theorem test_hyp_DataTasks_ready :
    isReady 0x0500 (copyOps (2 ^ 21 - 64) 64 64) (taskD 0x0500 (copyOps (2 ^ 21 - 64) 64 64) .draining) = true ∧
    isReady 0x0501 (rangeOps 0 (2 ^ 21)) (taskD 0x0501 (rangeOps 0 (2 ^ 21)) .frozen) = true ∧
    isReady 0x0502 (crcOps 255 8) (taskD 0x0502 (crcOps 255 8) .building) = true ∧
    isReady 0x0503 (scrubOps 0 0 512 64) (taskD 0x0503 (scrubOps 0 0 512 64) .live) = true ∧
    isReady 0x0504 (pageOps 1) (taskD 0x0504 (pageOps 1) .live) = true ∧
    isReady 0x0505 (pageOps 1) (taskD 0x0505 (pageOps 1) .frozen) = true ∧
    isReady 0x0506 (heatOps 65536) (taskD 0x0506 (heatOps 65536) .draining) = true := by decide +kernel

theorem test_hyp_DataTasks_usable :
    Usable 3 (2 ^ 21 - 64) 64 [.building, .live, .draining, .frozen] (taskD 0x0500 (copyOps (2 ^ 21 - 64) 64 64) .draining) ∧
    Usable 3 0 (2 ^ 21) [.building, .live, .frozen] (taskD 0x0501 (rangeOps 0 (2 ^ 21)) .frozen) ∧
    Usable 3 0 64 [.building, .live, .draining, .frozen] (taskD 0x0502 (crcOps 255 8) .building) ∧
    ((taskD 0x0503 (scrubOps 0 0 512 64) .live).rangeIn 3 0 (512 * 4096) = true) ∧
    Usable 3 (511 * 4096) 4096 [.live] (taskD 0x0504 (pageOps 1) .live) :=
  ⟨usable_range _ _ _ _ (by decide +kernel), usable_range _ _ _ _ (by decide +kernel), usable_range _ _ _ _ (by decide +kernel),
   by decide +kernel, usable_range _ _ _ _ (by decide +kernel)⟩

/-- A physical scrub of the cistern of the package, tier 0 holding one extent. -/
def scrubPlace : State := (taskD 0x0503 (scrubOps 1 6 0 0) .live).setTier 0 { cap := 2 ^ 21 }
theorem test_hyp_DataTasks_place : isReady 0x0503 (scrubOps 1 6 0 0) scrubPlace = true ∧ scrubPlace.placeOk 1 6 0 = true ∧
    (scrubPlace.ring 1).tenant = false ∧ scrubPlace.placePieces d0 1 6 0 ≠ [] := by decide +kernel

def pc (j : Option Nat) : Piece := { desc := d0, tier := 0, len := 64, jet := j }
def crcTask : Task := { desc := d0, op := 0x0502, ctxs := [3], crc := 255 }
def copyTask : Task := { desc := d0, op := 0x0500, ctxs := [3] }
def tasked (k : Task) (l : List Piece) (s : State) : State := { s with tasks := [k], pieces := l }
def crcState (j : Option Nat) : State := tasked crcTask [pc j] (taskD 0x0502 (crcOps 255 8) .live)

theorem test_hyp_Pieces :
    ((crcState none).jetFree 0 15 = true ∧ (crcState none).foldingTier 0 = false ∧
      (crcState none).urgentWork 0 < ((upto 16).filter ((crcState none).jetFree 0)).length ∧
      (crcState none).pieces.filter ((crcState none).takeable 0 15) = [pc none] ∧ (∀ k ∈ (crcState none).tasks, k.toPlace = [])) ∧
    ((crcState (some 15)).pieceOf 0 15 = some (pc (some 15)) ∧ (crcState (some 15)).pieces = [pc (some 15)] ∧
      (crcState (some 15)).tasks = [crcTask] ∧ ((crcState (some 15)).fetchedOf d0) = some (f0 0x0502 0 (crcOps 255 8)) ∧
      (crcState (some 15)).sluiceUp 0 = true ∧ (crcState (some 15)).remote = [] ∧ descField (f0 0x0502 0 (crcOps 255 8)).bytes 8 4 = 3 ∧
      (crcState (some 15)).extOn 3 0 = e0 ∧ (crcState (some 15)).penReachable 0 5 = true ∧
      ((crcState (some 15)).validLine 0 (extOf ((crcState (some 15)).ctxAcc 3 0).off)).primaryBad = false ∧
      (crcState (some 15)).pageValid 0 ((crcState (some 15)).ctxAcc 3 0).off = false) ∧
    (let s := tasked copyTask [pc (some 15)] (withD 0x0500 0 (copyOps 0 64 64) (ctx3 .live up))
     s.pieceOf 0 15 = some (pc (some 15)) ∧ srcHost (f0 0x0500 0 (copyOps 0 64 64)).bytes = false ∧ (s.extOn 3 0).valid = false) ∧
    (crcState none).pieceOf 0 15 = none ∧
    (let s := tasked { crcTask with toPlace := [pc none] } [] (taskD 0x0502 (crcOps 255 8) .live)
     s.queuedPieces 0 + 1 ≤ 4096) := by decide +kernel

def runJet (trips jetTrips : Nat) : State :=
  { tasked crcTask [{ pc (some 15) with trips := trips }] (taskD 0x0502 (crcOps 255 8) .live) with us := 2 ^ 40 }.setJet 0 15 { trips := jetTrips }
def idleJets : State := up.setJet 0 15 { gated := true, idleSince := 0 }
def reloading : State := (up.setJet 0 14 { reload := true }).setJet 0 15 { reload := true }

theorem test_hyp_Jets :
    ((runJet 0 1).pieceOf 0 15 = some (pc (some 15)) ∧ (pc (some 15)).startedAt + (runJet 0 1).wdog 0 ≤ (runJet 0 1).us ∧
      ((runJet 0 1).jet 0 15).halted = false ∧ ((runJet 0 1).jet 0 15).trips < 2) ∧
    ((runJet 1 1).pieceOf 0 15 = some { pc (some 15) with trips := 1 } ∧ (runJet 1 1).migrations = [] ∧ (runJet 1 1).tasks = [crcTask] ∧
      ((runJet 1 1).fetchedOf d0).isSome = true ∧ (runJet 1 1).remote = []) ∧
    ((runJet 0 2).pieceOf 0 15 = some (pc (some 15)) ∧ ((runJet 0 2).jet 0 15).trips = 2) ∧
    (idleJets.pieceOf 0 15 = none ∧ idleJets.pieces = [] ∧ idleJets.clears = [] ∧ idleJets.foldingTier 0 = false ∧
      (idleJets.jet 0 15).idleSince + 1 ≤ idleJets.us) ∧
    (let s := (crcState none).setJet 0 15 { gated := true }
     (s.jet 0 15).gated = true ∧ s.retiredJet 0 15 = false ∧ ∃ p ∈ s.pieces, s.takeable 0 15 p = true) ∧
    ((reloading.jet 0 15).reload = true ∧ reloading.pieceOf 0 15 = none ∧ ∃ e ∈ reloading.jets, e.1 ≠ 0 * 16 + 15 ∧ e.2.reload = true) := by
  decide +kernel

def cvu : State := up.setJet 3 0 { testing := true }
theorem test_hyp_CheckValueUnit :
    (up.pathOpen .mctp = true ∧ up.blockDown (jetBase 3) = false ∧ up.blockDown (jetBase 3 + 0x118) = false ∧
      up.blockDown (jetBase 3 + 0x128) = false ∧ (jetBase 3 + 0x128) / 0x100000 - 1 < up.nTiers ∧ up.retiredJet 3 0 = false) ∧
    (up.put (jetBase 3) JET_STATUS_RETIRED 1).retiredJet 3 0 = true ∧ cvu.cvuOpen 3 = true ∧ up.cvuOpen 3 = false := by decide +kernel

/-! ### Aqueducts -/

def aqState (v : Nat) (l : AqLink) : State := { (identified up).put (aqdBase 7) AQD_STATUS_STATE v with links := [(7, l)] }
/-- A flit of type 1 with the count 5 and no message, under the keys 0. -/
def headFlit : Nat := 5 + 2 ^ 24
/-- That flit with a good CRC and the tag 0, which is wrong under the keys 0, and with the right tag. -/
def headNat : Nat := headFlit + 2276747227 * 2 ^ 2016
def goodNat : Nat := headFlit + 4054601817 * 2 ^ 1984 + 258206437 * 2 ^ 2016

theorem test_hyp_AqueductKeying :
    let s := aqState 2 { keyingSince := 500000 }
    s.get (aqdBase 7) AQD_STATUS_STATE = 2 ∧ s.mgmt.grotto = true ∧ s.identity = true ∧ (s.link 7).replay = [] ∧ (s.link 7).waiting = [] ∧
    (s.link 7).keyingSince + 500000 ≤ s.us ∧ (aqState 2 { keyingSince := 500001 }).us < 500001 + 500000 ∧ s.pkg < 15 ∧ 0 ≤ s.pkg ∧
    (aqState 3 {}).get (aqdBase 7) AQD_STATUS_STATE ≠ 2 := by decide +kernel

def mixedOf (v : Nat) : List Line := (upto 3).map (fun i => BitVec.ofNat 512 (v / 2 ^ (448 + 512 * i)))
theorem test_hyp_AqueductReceive :
    (let s := aqState 3 { rxSeq := 5 }
     s.carrying 7 = true ∧ (s.link 7).nakWait = false ∧ 5 = (s.link 7).rxSeq % 4096 ∧ (s.link 7).waiting = []) ∧
    crc32c (leBytes 252 (1 % 2 ^ 2016)) ≠ 1 / 2 ^ 2016 ∧
    (∀ v ∈ [headNat, goodNat], v < 2 ^ 2048 ∧ bitsAt v 27 24 = 1 ∧ bitsAt v 11 0 = 5 ∧ bitAt v 28 = false ∧
      ∀ i ∈ [0, 1, 2], bitsAt v (191 + 128 * i) (188 + 128 * i) = 0) := by decide +kernel
theorem test_hyp_AqueductReceive_head : crc32c (leBytes 252 (headNat % 2 ^ 2016)) = headNat / 2 ^ 2016 := by decide +kernel
theorem test_hyp_AqueductReceive_wrongTag :
    flitTag (headNat % 2 ^ 448) (mixedOf headNat) 0 5 ≠ BitVec.ofNat 32 (headNat / 2 ^ 1984) := by decide +kernel
theorem test_hyp_AqueductReceive_good : crc32c (leBytes 252 (goodNat % 2 ^ 2016)) = goodNat / 2 ^ 2016 := by decide +kernel
theorem test_hyp_AqueductReceive_rightTag :
    flitTag (goodNat % 2 ^ 448) (mixedOf goodNat) 0 5 = BitVec.ofNat 32 (goodNat / 2 ^ 1984) := by decide +kernel

def out5 (rd internal : Bool) : Outstanding := { txid := 5, read := rd, internal := internal, port := 5, tag := 2 }
theorem test_hyp_AqueductRecovery :
    let f : AqFlit := { seq := 4101, resent := 4 }
    let s := aqState 3 { replay := [f], retrains := [0] }
    s.carrying 7 = true ∧ (s.link 7).replay ≠ [] ∧ (s.link 7).replay.findIdx? (fun f => f.seq % 4096 = 5) = some 0 ∧
    (∃ f ∈ (s.link 7).replay, 4 ≤ f.resent) ∧ (∀ x ∈ (s.link 7).retrains, x + 1000000 ≤ s.us) ∧
    ((aqState 3 {}).get (aqdBase 7) AQD_STATUS_STATE ≠ 0 ∧ ((aqState 3 {}).link 7).replay = [] ∧ ((aqState 3 {}).link 7).waiting = []) ∧
    (((aqState 3 { txWrap := true }).link 7).txWrap = true ∧ ((aqState 3 { txWrap := true }).link 7).rxWrap = false) ∧
    (let u : State := { up with remote := [out5 true false] }
     u.remote.find? (fun o => o.txid = 5) = some (out5 true false) ∧
       (out5 true false).sentAt + max 1 (u.get aqdRegBase AQD_CFG_E2E_TMO) * 10 ≤ u.us) := by decide +kernel

/-! ### The pool -/

/-- A package in a role in pool 5, with its members (each current), ring A enabled and QUORUM. -/
def inPool (r : Nat) (l : List Nat) : State :=
  let s := (roled r up).putFlag rilBase RIL_STATUS_QUORUM true
  let s := (s.setReg (rilBase + 4) 5).putFlag rilBase RIL_POOL_CFG_RING_A_EN true
  let s := s.put rilBase RIL_STATUS_MGR (if r = 3 then 0 else 2)
  { l.foldl (fun t p => t.setMember p { member := true, current := true }) s with us := 10000000 }
def pooled (p : Pool) (s : State) : State := { s with pool := p }
def lease1 : Lease := { num := 77, owner := 2, tier := 1, first := 8, count := 4, borrower := 0 }
def joinOps (p pkg role : Nat) : List (Nat × Nat × Nat) := [(8, 4, p), (12, 1, pkg), (13, 1, role)]
def grantOps (o t n : Nat) : List (Nat × Nat × Nat) := [(12, 1, o), (13, 1, t), (16, 4, n)]
def fin (op : Nat) (l : List (Nat × Nat × Nat)) (s : State) : Bool := isReady op l (withD op 0 l s)

theorem test_hyp_PoolDescriptors_join :
    fin 0x0900 (joinOps 5 16 0) up = true ∧ fin 0x0900 (joinOps 5 0xFF 2) up = true ∧
    (fin 0x0900 (joinOps 5 0xFF 1) (inPool 1 []) = true ∧ (inPool 1 []).role ≠ 0) ∧
    (fin 0x0900 (joinOps 5 15 1) up = true ∧ up.role = 0 ∧ up.pool.change = none ∧ up.pool.ops = [] ∧ up.wired.mgr = true) ∧
    ({ up with wired := { up.wired with mgr := false } } : State).wired.mgr = false := by decide +kernel

theorem test_hyp_PoolDescriptors_leave :
    let l : List (Nat × Nat × Nat) := [(12, 1, 0xFF)]
    (fin 0x0901 l up = true ∧ up.role = 0) ∧
    (let s := pooled { up.pool with leasesHeld := [lease1] } (inPool 1 [2]); fin 0x0901 l s = true ∧ s.poolTied = true) ∧
    (fin 0x0901 l (inPool 1 [2]) = true ∧ (inPool 1 [2]).role = 1 ∧ (inPool 1 [2]).poolTied = false) ∧
    (fin 0x0901 l (inPool 3 [2]) = true ∧ (inPool 3 [2]).role = 3 ∧ (inPool 3 [2]).pkg = 0) := by decide +kernel

theorem test_hyp_PoolDescriptors_leases :
    (∀ x ∈ [(2, 1, 0), (2, 1, 4097), (16, 1, 1), (2, 8, 1)], fin 0x0902 (grantOps x.1 x.2.1 x.2.2) up = true) ∧
    fin 0x0902 (grantOps 2 0xFF 4096) up = true ∧ fin 0x0902 (grantOps 0 7 1) (inPool 1 [2]) = true ∧
    (fin 0x0902 (grantOps 2 7 4096) (inPool 2 [2]) = true ∧ 2 ∈ (inPool 2 [2]).poolMembers ∧ 2 ≠ (inPool 2 [2]).pkg ∧
      3 ∉ (inPool 2 [2]).poolMembers ∧ (inPool 2 [2]).pool.leasesHeld = []) ∧
    (let l : List (Nat × Nat × Nat) := [(8, 4, 77)]
     let s := pooled { up.pool with leasesHeld := [lease1] } (inPool 1 [2])
     fin 0x0903 l s = true ∧ s.pool.leasesHeld = [lease1] ∧ s.exts = [] ∧ fin 0x0903 l (inPool 1 [2]) = true ∧
       (∃ e ∈ (s.setExt 3 0 { e0 with remote := true, lease := 77 }).exts, e.2.valid = true ∧ e.2.remote = true ∧ e.2.lease = 77)) := by decide +kernel

theorem test_hyp_PoolDescriptors_handover :
    let l : List (Nat × Nat × Nat) := [(12, 1, 2)]
    let s := pooled { (inPool 3 [2]).pool with standby := some 2, standbyActive := true } (inPool 3 [2])
    (fin 0x0904 l s = true ∧ s.role = 3 ∧ s.pool.handover = false ∧ s.pool.standby = some 2 ∧ s.pool.standbyActive = true ∧
      s.pool.mgrOps = [] ∧ s.pool.ops = [] ∧ s.pool.frames = []) ∧
    (fin 0x0904 l (inPool 1 [2]) = true ∧ (inPool 1 [2]).role ≠ 3) ∧
    (let o : PoolOp := { desc := d0, opcode := 0x0902, since := 9000000 }
     let u := withD 0x0902 0 (grantOps 2 7 1) (pooled { s.pool with ops := [o] } s)
     u.pool.ops.find? (fun o => o.desc = d0) = some o ∧ (u.fetchedOf d0).isSome = true ∧ o.since + 1000000 ≤ u.us) := by
  decide +kernel

def mem5 : Membership := { number := 15, role := 1, mgr := 2, epoch := 4, members := [2], poolId := 5 }
theorem test_hyp_PoolMembership :
    (let s := up.setReg (rilBase + 4) 5
     s.pathOpen .mctp = true ∧ s.blockDown rilBase = false ∧ rilBase < 0x100000 ∧ (0x80000000 : Word).getLsbD 31 = true ∧ s.wired.mgr = true ∧
       s.role = 0 ∧ s.pool.change = none ∧ (s.reg (rilBase + 4)).toNat ≠ 0 ∧ s.pkg = 0 ∧ (0x80000000 : Word).toNat / 2 ^ 24 % 16 = 0) ∧
    ((inPool 3 [2]).mgmt.services = true ∧ (inPool 3 [2]).role = 3 ∧ (inPool 3 [2]).pool.handover = false ∧
      (inPool 3 [2]).pool.standby = none ∧ 15 ∉ (inPool 3 [2]).poolMembers ∧
      (inPool 3 [2]).flag rilBase RIL_POOL_CFG_RING_A_EN = true) ∧
    (let s := pooled { up.pool with change := some mem5 } up; s.pool.change = some mem5 ∧ s.commits = [] ∧ s.acks 0 = true) ∧
    (let s := pooled { up.pool with rejoin := some true, stored := some { poolId := 5, number := 3, role := 3, epoch := 4 } } up
     s.pool.rejoin = some true ∧ s.pool.stored = some { poolId := 5, number := 3, role := 3, epoch := 4 }) := by decide +kernel

theorem test_hyp_Leases_manager :
    let s := inPool 3 [2, 3]
    s.mgmt.services = true ∧ s.managing = true ∧ 3 ∈ s.poolMembers ∧ s.pool.directory.length + s.pool.mgrOps.length < 16384 ∧ 3 ≠ s.pkg ∧
    (s.member 3).current = true := by decide +kernel
theorem test_hyp_Leases_owner :
    (let s := inPool 1 [2]
     s.role ≠ 0 ∧ 3 < s.nTiers ∧ s.pool.granted.length < 4096 ∧ (s.tier 3).power ≠ 3 ∧
       (s.setTier 3 { cap := 2 ^ 23 }).freeRun 3 4 = some 0 ∧ ((s.setTier 3 { cap := 2 ^ 23 }).tier 3).power ≠ 3) ∧
    (let s := pooled { up.pool with granted := [{ lease1 with owner := 0, borrower := 4 }] } (inPool 1 [2])
     s.role ≠ 3 ∧ 4 ≠ s.pkg ∧ s.pool.granted.find? (fun l => l.num = 77) = some { lease1 with owner := 0, borrower := 4 } ∧
       penTier (2 ^ 20 + 11) = 1 ∧ 8 ≤ penExt (2 ^ 20 + 11) ∧ penExt (2 ^ 20 + 11) < 8 + 4) ∧
    (let s := pooled { (inPool 1 [2]).pool with returns := [(77, 9)] } (inPool 1 [2])
     s.pool.returns = [(77, 9)] ∧ s.managerUp = true ∧ s.role ≠ 3) ∧
    ((inPool 2 [2]).role = 2 ∧ (inPool 2 [2]).mgmt.services = true ∧ 2 = (inPool 2 [2]).mgrNum) := by decide +kernel
theorem test_hyp_Leases_standby :
    (let s := pooled { up.pool with mgrOps := [.mirroring 6 9999000 []] } (inPool 3 [2])
     s.pool.mgrOps = [.mirroring 6 9999000 []] ∧ 9999000 + 1000 ≤ s.us ∧ s.pool.ops = []) ∧
    (let s := pooled { (inPool 3 [2]).pool with standby := some 2 } (inPool 3 [2])
     s.pool.standby = some 2 ∧ s.role = 3 ∧ s.pool.standbyActive = false ∧ (s.member 2).current = true ∧ s.mgmt.services = true) := by
  decide +kernel

def lost2 : State := (inPool 2 []).setMember 2 { member := true, lost := true }
theorem test_hyp_Heartbeats :
    ((inPool 1 [2]).role ≠ 0 ∧ (inPool 1 [2]).pool.hbSentAt + (inPool 1 [2]).hbPeriod ≤ (inPool 1 [2]).us ∧
      (inPool 1 [2]).flag rilBase RIL_POOL_CFG_RING_A_EN = true ∧ 15 ≠ (inPool 1 [2]).pkg ∧ (inPool 1 [2]).pool.epoch < 4) ∧
    (((inPool 1 [2]).member 2).member = true ∧ ((inPool 1 [2]).member 2).lost = false ∧ (inPool 1 [2]).pool.standby ≠ some 2 ∧
      ((inPool 1 [2]).member 2).hbAt + (inPool 1 [2]).hbTimeout ≤ (inPool 1 [2]).us) ∧
    (lost2.role = 2 ∧ lost2.wired.mgr = true ∧ (lost2.member lost2.mgrNum).lost = true ∧ lost2.flag rilBase RIL_STATUS_QUORUM = true) ∧
    (let s := pooled { (inPool 3 []).pool with rebuilding := true } (inPool 3 []); s.role = 3 ∧ s.pool.rebuilding = true) ∧
    ((inPool 2 [2]).mgmt.services = true ∧ (inPool 2 [2]).role = 2 ∧ 2 = (inPool 2 [2]).mgrNum ∧ (inPool 2 [2]).pool.epoch < 4) := by
  decide +kernel

def fr : RillFrame := { dst := 2, src := 0, ftype := 0x10, fseq := 9, sentAt := 9999900, lastAt := 9999900 }
def sent (x : RillFrame) : State := pooled { (inPool 1 [2]).pool with frames := [x] } (inPool 1 [2])
theorem test_hyp_Rill :
    ((inPool 1 [2]).role ≠ 0 ∧ 2 ≠ (inPool 1 [2]).pkg ∧ 4 ≠ (inPool 1 [2]).pkg ∧ 4 ≠ 0xFF ∧
      (inPool 1 [2]).flag rilBase RIL_POOL_CFG_RING_A_EN = true) ∧
    ((sent fr).pkg = 0 ∧ (2, 1) ∉ (sent fr).pool.seen ∧ (sent fr).pool.frames.find? (fun f => f.dst = 2 && f.fseq = 9) = some fr ∧
      fr.ftype ≠ 0x41 ∧ (sent fr).pool.mgrOps = []) ∧
    ((sent fr).pool.frames.find? (fun f => f.fseq = 9) = some fr ∧ fr.lastAt + 100 ≤ (sent fr).us ∧ (sent fr).us < fr.sentAt + 1000000) ∧
    (let x := { fr with sentAt := 9000000, lastAt := 9999901 }
     (sent x).us < x.lastAt + 100 ∧ x.sentAt + 1000000 ≤ (sent x).us ∧ x.op = none) ∧
    (let x := { fr with sentAt := 9000000, op := some d0 }
     (sent x).pool.frames.find? (fun f => f.fseq = 9) = some x ∧ x.op = some d0 ∧
       ((withD 0x0902 0 (grantOps 2 7 1) (sent x)).fetchedOf d0).isSome = true) ∧
    ((inPool 1 [2]).meter.openIndet = [] ∧ (inPool 1 [2]).meter.openIndetAll = false ∧ (inPool 1 [2]).lastTick < 1) ∧
    ((up.putFlag rilBase RIL_STATUS_A_UP true).flag rilBase RIL_STATUS_A_UP = true ∧ up.flag rilBase RIL_STATUS_B_UP = false) ∧
    (up.pathOpen .mctp = true ∧ up.blockDown (rilBase + 0x20) = false ∧ (16 : Word).getLsbD 6 = false ∧ (16 : Word).getLsbD 4 = true ∧
      (up.putFlag rilBase RIL_POOL_CFG_RING_A_EN false).flag rilBase RIL_POOL_CFG_RING_A_EN = false ∧
      up.flag rilBase RIL_LOOP_CTL_RUN = false) := by decide +kernel

/-! ### Repair -/

def coiled (t j h g : Nat) (c : CoilGroup) (s : State) : State := s.setRep t { s.rep t with groups := [(groupKey j h g, c)] }
def noSpares : CoilGroup := { bad := [20, 21, 22, 23, 24, 25, 26, 27, 28, 29, 80, 81, 82, 83, 84, 85] }
def fullW : State := up.put (bsnBase 3 15) BSN_SLICE_STATUS_WIDTH 0
def halved (s : State) : State := s.put (bsnBase 3 15) BSN_SLICE_STATUS_WIDTH 1

def outOf : State := coiled 3 15 7 2 { taken := [(1, 0), (2, 1), (3, 2), (4, 3)] } fullW
theorem test_hyp_CoilFailures :
    fullW.fate 3 15 7 2 0 = .spare 0 ∧ fullW.migrations = [] ∧ fullW.fate 3 15 7 2 13 = .none ∧
    ((halved up).fate 3 15 7 2 0 = .lose ∧ (halved up).migrations = []) ∧ (outOf.fate 3 15 7 2 0 = .narrow ∧ outOf.migrations = []) := by
  decide +kernel

def dirtyWay : Way := { valid := true, tag := 7, present := BitVec.ofNat 32 (2 ^ 31), dirty := BitVec.ofNat 32 (2 ^ 31) }
def flushing (w : Way) : State :=
  (up.setSlice 3 15 { flush := some 0, sets := [(9, [(4, w)])] }).setValidLine 3 0 { bits := BitVec.allOnes 512 }
theorem test_hyp_SliceFlush :
    ((flushing { dirtyWay with dirty := 0 }).slice 3 15).flush = some 0 ∧
    (upto 16).any ((flushing dirtyWay).jetFree 3) = true ∧ (flushing dirtyWay).reacting = false ∧
    (∀ e ∈ ((flushing { dirtyWay with dirty := 0 }).slice 3 15).sets, 0 ≤ e.1 → ∀ w ∈ e.2, w.2.dirty = 0) ∧
    ((flushing dirtyWay).slice 3 15).sets = [(9, [(4, dirtyWay)])] ∧ (dirtyWay.line 31).code = .clean ∧
    ((flushing dirtyWay).slice 3 15).victims.length < 64 ∧
    (flushing dirtyWay).pageValid 3 (7 * 2048 + 31 * 64) = true ∧ (up.slice 3 15).flush = none := by decide +kernel

theorem test_hyp_GuardBand :
    (15, 7) ∉ (fullW.rep 3).parity ∧ fullW.width 3 15 < 2 ∧ max 1 (fullW.get (bsnBase 3 0) BSN_REPAIR_CFG_GB_THRESH) < 2 ^ 20 ∧
    Sparse.get (fun _ => 0) (fullW.rep 3).gb (groupKey 15 7 2 * 128 + 0) < 3 ∧
    3 ≤ Sparse.get (fun _ => 0) ((fullW.setRep 3 { gb := [(groupKey 15 7 2 * 128 + 0, 3)] }).rep 3).gb (groupKey 15 7 2 * 128 + 0) := by
  decide +kernel

def watching (w : RowWatch) (s : State) : State := { s with rowWatch := [(3, [w])] }
def bRow : RowWatch := { basin := true, row := (15 * 8 + 7) * 16384 + 16383, failing := true }
def cRow : RowWatch := { row := (3 * 128 + ((1 * 4 + 3) * 8 + 7) * 4 + 3) * 2 ^ 18 + 5, failing := true }
theorem test_hyp_RowRepair :
    ((watching bRow fullW).watched 3 true ((15 * 8 + 7) * 16384 + 16383) = some bRow ∧ ((watching bRow fullW).tier 3).engReset = false ∧
      (watching bRow fullW).width 3 15 < 2 ∧
      (Sparse.get (fun _ => []) ((watching bRow fullW).rep 3).rows ((15 * 8 + 7) * 16 + 16383 % 16)).length < 2) ∧
    up.watched 3 true ((15 * 8 + 7) * 16384 + 16383) = none ∧
    ((watching cRow up).watched 3 false ((3 * 128 + ((1 * 4 + 3) * 8 + 7) * 4 + 3) * 2 ^ 18 + 5) = some cRow ∧
      (watching cRow up).fenced 3 3 3 = false ∧ (watching cRow up).rankHeld 3 3 3 = false ∧
      ((watching cRow up).rank 3 3 3).spprUsed.getLsbD 7 = false ∧
      ((watching cRow (up.setRank 3 3 3 { spprUsed := 128 })).rank 3 3 3).spprUsed.getLsbD 7 = true) := by decide +kernel

def badRow : RowWatch := { row := 5, failing := true, noPpr := true }
/-- An extent that has lines in row 5 of bank 0. -/
def rowExt : Nat := 20
def inUse (s : State) : State := (watching badRow s).setExt 3 0 { valid := true, pen := 3 * 2 ^ 20 + rowExt }
def bigTier (s : State) : State := (s.setTier 3 { s.tier 3 with cap := 2 ^ 32 }).setReg (bsnBase 3 0 + 0x278) (BitVec.ofNat 64 (16 * 2 ^ 16))
theorem test_hyp_RowRepair_extent :
    (rowLines rowExt 5 ≠ [] ∧ ((Sparse.get (fun _ => []) (watching badRow up).rowWatch 3).filter (fun w => !w.basin && w.noPpr)).find?
      (fun w => rowLines rowExt w.row ≠ []) = some badRow) ∧
    ((watching badRow up).ownerOf 3 rowExt = none ∧ (watching badRow up).pool.granted = []) ∧
    ((inUse (bigTier up)).ownerOf 3 rowExt = some (3, 0) ∧ ((inUse (bigTier up)).ext 3 0).migrating = false ∧
      ((inUse (bigTier up)).freeSpareExt 3).isSome = true ∧ (inUse (bigTier up)).ctxBusy 3 = false ∧
      (inUse (bigTier up)).reacting = false ∧ ((inUse (bigTier up)).tier 3).power < 2 ∧ ((inUse (bigTier up)).under 3).2 = [] ∧
      (inUse (bigTier up)).acks 3 = true) := by decide +kernel

def testing (p : Nat) (s : State) : State := (s.setTier 3 { s.tier 3 with power := p }).putFlag (bsnBase 3 0) BSN_FST_STATUS_BUSY true
theorem test_hyp_SelfTest :
    ((0x80000000 : Word).getLsbD 31 = true ∧ up.pathOpen .mctp = true ∧ up.blockDown (bsnBase 3 0 + 0x260) = false ∧
      (bsnBase 3 0 + 0x260) / 0x100000 - 1 < up.nTiers ∧ up.flag (bsnBase 3 0) BSN_FST_STATUS_BUSY = false) ∧
    ((up.putFlag (bsnBase 3 0) BSN_FST_STATUS_DEFERRED true).flag (bsnBase 3 0) BSN_FST_STATUS_DEFERRED = true ∧ (up.tier 3).power = 0) ∧
    (3 < (testing 2 up).nTiers ∧ 2 ≤ ((testing 2 up).tier 3).power ∧ (testing 2 up).flag (bsnBase 3 0) BSN_FST_STATUS_BUSY = true) ∧
    (0 < (testing 1 up).failW 3 ∧ ((testing 1 up).tier 3).power < 2 ∧ ((testing 1 up).tier 3).engReset = false ∧
      ((testing 1 up).tier 3).portReset = false ∧ (testing 1 up).flag (bsnBase 3 0) BSN_FST_STATUS_BUSY = true) := by decide +kernel

def queuedFuse (p : Nat) : State :=
  (up.setTier 3 { up.tier 3 with power := p }).setRep 3 { queued := [1], fuses := List.replicate 246 (7, true) }
theorem test_hyp_RepairFuses : (queuedFuse 0).permitted 3 = false ∧ (queuedFuse 1).permitted 3 = true ∧ (queuedFuse 1).grottoRuns = true ∧
    ((queuedFuse 1).rep 3).queued = [1] ∧ ((queuedFuse 1).rep 3).fuses.length < 247 := by decide +kernel

/-! ### Faults -/

def rec1 : FRec := { src := 9, kind := 0, cls := 0, recnum := 1 }
def queue1 (l : List FRec) (s : State) : State := { s with flt := { s.flt with queue := l } }
def counted (n : Nat) (s : State) : State := { s with flt := { s.flt with ceSecond := 1, ceCount := [(0x00B, n)] } }
theorem test_hyp_MessagesAndRecords :
    (up.flt.lockedDown = false ∧ up.kindClass 2 3 = some 5 ∧ up.fltClass 2 5 ≠ 1 ∧ sourceIsTier 2 = false ∧ up.flt.reaction = .none ∧
      up.flt.queue = [] ∧ up.kindClass 2 0x20 = none) ∧
    (up.kindClass 9 0 = some 0 ∧ up.fltClass 9 0 = 0 ∧ (queue1 [rec1] up).flt.queue = [rec1] ∧ rec1.marked 5 = false) ∧
    (let s := counted 4 (up.put (srcCfg 0x00B) FLT_SRC_CFG_CE_LIMIT 5)
     s.kindClass 0x00B 1 = some 1 ∧ s.fltClass 0x00B 1 = 1 ∧ 2 ≤ s.fltClass 0x00B 3 ∧ s.flt.ceSecond = s.us / 1000000 ∧
       Sparse.get (fun _ => 0) s.flt.ceCount 0x00B + 1 = s.get (srcCfg 0x00B) FLT_SRC_CFG_CE_LIMIT) ∧
    (up.put (srcCfg 2) FLT_SRC_CFG_FLOOR 4).get (srcCfg 2) FLT_SRC_CFG_FLOOR = 4 ∧
    ((queue1 [rec1] up).servicesRun = true ∧ (queue1 [rec1] up).slotsToCopy = false ∧ rec1.marked 4 = false ∧
      (queue1 [rec1] up).ramLog = false ∧ (queue1 [rec1] up).flash.entry < 62) := by decide +kernel

def pendingVec (a : Nat) : State := { up with flt := { up.flt with msixPending := true, msixLast := some a } }
theorem test_hyp_EventsToHosts :
    (let l : List (Nat × Nat × Nat) := [(8, 2, 65), (16, 8, 4096)]
     fin 0x0700 l up = true ∧ fin 0x0700 [(8, 2, 64), (16, 8, 4096)] up = true ∧ fin 0x0700 [(8, 2, 1), (16, 8, 4096)] up = true) ∧
    (fin 0x0701 [(8, 4, 0)] up = true ∧ fin 0x0701 [(8, 4, 1)] { up with flt := { up.flt with nextRec := 2 } } = true) ∧
    ((pendingVec 999990).flt.msixPending = true ∧ (pendingVec 999990).flt.reaction = .none ∧ (pendingVec 999990).pkgMode.mode = .up ∧
      999990 + 10 ≤ (pendingVec 999990).us ∧ (pendingVec 999991).us < 999991 + 10) ∧ up.flt.msixPending = false ∧
    ((inPool 3 [2]).role = 3 ∧ (inPool 3 [2]).flt.queue.length < 64 ∧ (inPool 1 [2]).role ≠ 3) := by decide +kernel

/-! ### Management -/

def mg (m : Mgmt) (s : State) : State := { s with mgmt := m }
def fl (f : Flash) (s : State) : State := { s with flash := f }
theorem test_hyp_ShortGates :
    ((mg { up.mgmt with services := false } up).servicesRun = false ∧ up.servicesRun = true ∧ up.mgmt.activation = none) ∧
    (up.nTiers ≤ 4 ∧ 3 < up.nTiers ∧ up.permitted 3 = false) ∧
    ((queuedFuse 1).servicesRun = true ∧ (queuedFuse 1).permitted 3 = true ∧ ((queuedFuse 1).rep 3).queued = 1 :: []) ∧
    (up.entropyFailed = false ∧ up.key 4095 = none) ∧ (up.tickOf 7 = none) ∧
    ((identified (metered { ticks := [ended] })).tickOf 7 = some ended ∧ ended.finished = true ∧
      (identified (metered { ticks := [ended] })).identity = true ∧ (identified (metered { ticks := [ended] })).servicesRun = true) ∧
    (up.lifeCycle = 1 ∧ up.arbCount = 0 ∧ up.arbCount ≤ up.runSv ∧ up.runSv ≤ 127) ∧
    (let s := mg { up.mgmt with running := some { imageFactory with sv := 3 } } up
     s.servicesRun = true ∧ s.arbCount < s.runSv ∧ s.arbCount < 127 ∧ s.arbCount + 1 ∈ [1]) ∧
    (up.flt.reaction = .none ∧ up.flt.queue.length < 64 ∧ up.fltClass 2 5 = 5) := by decide +kernel
theorem test_hyp_ShortGates_steps : ∀ k ∈ (upto 127).map (· + 1), up.stepBlown k = decide (k ≤ up.arbCount) := by decide +kernel

def slotted (r : ShutRec) : State := fl { up.flash with slots := [(63, some r)] } up
def asked (t : Nat) : State := { up with dbg := { up.dbg with response := some (List.replicate 49 0), nonce := some (0, t) } }
theorem test_hyp_LongGates :
    (let s := mg { up.mgmt with gateDone := some (9, 0, []) } up; s.servicesRun = true ∧ s.mgmt.gateDone.isSome = true) ∧
    (up.mgmt.gateDone = none ∧ up.mgmt.staged = false ∧ up.bootRec.seq + 1 < 2 ^ 32 ∧ (up.member 2).member = false) ∧
    (let s := (identified (inPool 1 [2])).put (aqdBase 7) AQD_STATUS_STATE 2
     s.servicesRun = true ∧ s.mgmt.gateDone = none ∧ (s.member 2).member = true ∧ s.get (aqdBase 7) AQD_STATUS_STATE = 2 ∧ s.identity = true) ∧
    (let s := mg { up.mgmt with staged := true } up; s.servicesRun = true ∧ s.mgmt.staged = true ∧ s.mgmt.gateDone = none) ∧
    (let s := fl { up.flash with calNew := some [] } up; 1 ≤ s.lifeCycle ∧ s.lifeCycle ≤ 3 ∧ s.flash.calNew = some [] ∧ s.servicesRun = true) ∧
    (up.flash.calNew = none ∧ 1 ≤ up.lifeCycle ∧ up.lifeCycle ≤ 3 ∧ up.authBusy = false) ∧
    ((asked 999000).servicesRun = true ∧ (asked 999000).authBusy = true ∧ (asked 999000).responseOk 0 true = true ∧
      (asked 999000).responseOk 0 false = false) ∧
    (Sparse.get (fun _ => none) up.flash.slots 63 = none ∧ Sparse.get (fun _ => none) (slotted {}).flash.slots 63 = some {} ∧
      (slotted {}).servicesRun = true ∧ ({} : ShutRec).copied = false) := by decide +kernel

def waitingRom (m : Mgmt) : State := (mg m up).put mgtBase MGT_STATUS_MODE 2
theorem test_hyp_ManagementResets :
    (let s := mg { up.mgmt with isReady := true, readyAt := 1 } { up with us := 1000002 }
     s.servicesRun = true ∧ s.mgmt.isReady = true ∧ s.mgmt.readyAt + 1000000 < s.us) ∧ up.us ≤ up.mgmt.readyAt + 1000000 ∧
    (up.mpPowered = true ∧ up.mgmt.grotto = true ∧ up.flt.reaction = .none ∧ up.fltClass 2 5 = 5) ∧
    (up.pathOpen .mctp = true ∧ up.blockDown (mgtBase + 0x14) = false ∧ (1 : Word).getLsbD 0 = true ∧ up.locked = false ∧
      (up.putFlag glbBase GLB_SETUP_LOCK_LOCK true).locked = true) ∧
    (let a : Activation := { since := 0 }
     let s := mg { up.mgmt with activation := some a, isReady := false } { up with us := 10000000 }
     s.mgmt.activation = some a ∧ s.servicesRun = true ∧ s.mgmt.isReady = false ∧ a.since + 10000000 ≤ s.us) ∧
    (let s := waitingRom { up.mgmt with services := false, grotto := false }
     s.mpPowered = true ∧ s.get mgtBase MGT_STATUS_MODE = 2 ∧ s.mgmt.activation = none ∧ s.bootRec.trial = false ∧
       s.bankImage s.bootRec.active = some imageFactory ∧ s.bootRec.active ≤ 1 ∧ s.imageValid imageFactory = true ∧ s.flash.sectors = [] ∧
       s.pkgMode.tripped = false ∧ s.pool.inbox = []) ∧
    (let s := waitingRom { up.mgmt with bankA := none }; s.bankValid 0 = false ∧ s.bankValid 1 = false) ∧
    (let s := mg { up.mgmt with pllAt := some 999000 } up; s.refPresent = true ∧ s.pllWanted = true) ∧
    (up.pllWanted = false ∧ (up.putFlag mgtBase MGT_STATUS_PLL true).flag mgtBase MGT_STATUS_PLL = true) := by decide +kernel

def stageOps (haddr off len : Nat) : List (Nat × Nat × Nat) := [(8, 8, haddr), (16, 4, off), (20, 4, len)]
theorem test_hyp_FirmwareDescriptors :
    (∀ x ∈ [(4095, 0, 4096), (0, 0, 4095), (0, 0, 2 ^ 20 + 1), (0, 0, 4097), (0, 4096, 4096)], fin 0x0A00 (stageOps x.1 x.2.1 x.2.2) up = true) ∧
    (fin 0x0A00 (stageOps 4096 0 (2 ^ 20)) up = true ∧ up.fwBusy = false ∧ up.mgmt.updating = false) ∧
    (fin 0x0A00 (stageOps 0 4096 4096) (mg { up.mgmt with staging := some { bytes := 4096 } } up) = true ∧
      (mg { up.mgmt with staging := some { bytes := 4096 } } up).stagedBytes = 4096) ∧
    ((isReady 0x0A00 (stageOps 0 0 4097) (withD 0x0A00 4 (stageOps 0 0 4097) up) = true ∧
      descFlag (descBytes 0x0A00 4 (stageOps 0 0 4097)) 2 = true) ∧ up.imageValid imageFactory = true ∧
      up.imageValid { imageFactory with sigOk := false } = false) ∧
    (fin 0x0A01 [(8, 1, 2)] up = true ∧ fin 0x0A01 [(8, 1, 0)] (mg { up.mgmt with staged := true } up) = true ∧
      fin 0x0A01 [(8, 1, 1)] (mg { up.mgmt with activated := true } up) = true ∧ 3 ∈ up.tierList ∧ up.retiredJet 3 15 = false ∧
      (up.tier 3).power ≠ 3) ∧
    (fin 0x0A02 [] up = true ∧ up.mayCommit = false ∧ (mg { up.mgmt with activated := true } up).mayCommit = true ∧
      (mg { up.mgmt with activated := true } up).fwBusy = false) := by decide +kernel

def reg3 (n : Nat) : State := fl { up.flash with regulators := [{ fails := n }] } up
theorem test_hyp_RegulatorsAndFlash :
    ((reg3 1).servicesRun = true ∧ (reg3 1).flash.regulators = [{ fails := 1 }] ∧ (reg3 2).flash.regulators = [{ fails := 2 }]) ∧
    (up.slotsToCopy = false ∧ up.ramLog = false ∧ up.flash.entry < 62 ∧ up.flash.spared.length < 256) ∧
    ((up.putFlag mgtBase MGT_FLASH_STATUS_RAM_LOG true).ramLog = true ∧ up.flash.ram.length < 1024) ∧
    ((up.sector 4095).state ≠ 4 ∧ (up.sector 4095).erases < 100000 ∧ up.flash.cfgBad.contains (5119 - 4096) = false) ∧
    ((slotted {}).flash.slots = [(63, some {})] ∧ ({} : ShutRec).copied = false ∧ ({} : ShutRec).flashOp ≠ 2 ∧
      (slotted {}).mgmt.gateDone = none ∧ (slotted {}).servicesRun = true) ∧ up.flash.slots = [] := by decide +kernel

/-! ### MCTP -/

def req : MctpReq := { binding := 0, ahead := 3 }
theorem asks (s : State) (h : s.flt.lockedDown = false ∧ s.pkgMode.mode = .up ∧ s.recovery = false ∧ s.lifeCycle ≠ 5 ∧ s.servicesRun = true) :
    Asked req s :=
  { free := h.1, up := h.2.1, reached := .inl (by decide), booted := h.2.2.1, live := h.2.2.2.1, serves := h.2.2.2.2, room := by decide }
theorem test_hyp_Asked : Asked req up := asks up (by decide +kernel)

def lockedDown : State := { up with flt := { up.flt with lockedDown := true } }
theorem test_hyp_MctpGate :
    lockedDown.flt.lockedDown = true ∧ (up.flt.lockedDown = false ∧ State.reset.pkgMode.mode ≠ .up ∧ State.reset.flt.lockedDown = false) ∧
    ((up.put mgtBase MGT_STATUS_MODE 3).recovery = true ∧ (up.put mgtBase MGT_STATUS_MODE 3).pkgMode.mode = .up) ∧
    (let s := mg { up.mgmt with services := false } up; s.recovery = false ∧ s.lifeCycle ≠ 5 ∧ s.servicesRun = false) ∧
    (up.recovery = false ∧ up.lifeCycle ≠ 5 ∧ up.servicesRun = true ∧ up.pkgMode.mode = .up) := by decide +kernel

theorem test_hyp_MctpControlAndMonitoring : (∃ id, up.sensorIds[1 - 1]? = some id) ∧ 3 < up.nTiers := by
  refine ⟨⟨(up.sensorIds[1 - 1]?).getD 0, ?_⟩, ?_⟩ <;> decide +kernel

def updatingBy (n : Nat) : State := mg { up.mgmt with updating := true, staging := some { bytes := n } } up
theorem test_hyp_PldmUpdate :
    (Asked req (updatingBy 8192) ∧ (updatingBy 8192).mgmt.updating = true ∧ (updatingBy 8192).stagedBytes = 8192) ∧
    (up.mgmt.updating = false ∧ up.mgmt.staging = none ∧ up.fwBusy = false ∧ up.mgmt.staged = false) ∧
    (up.imageValid imageFactory = true ∧ up.imageValid { imageFactory with sv := 128 } = false) ∧
    (let s := mg { up.mgmt with updating := true, staged := true, running := some imageFactory } up
     Asked req s ∧ s.mgmt.updating = true ∧ s.mgmt.staged = true ∧ s.fwBusy = false ∧ s.bootRec.seq + 1 < 2 ^ 32 ∧
       s.mgmt.running = some imageFactory) :=
  ⟨⟨asks _ (by decide +kernel), by decide +kernel⟩, by decide +kernel, by decide +kernel, asks _ (by decide +kernel), by decide +kernel⟩

def spdmAt (n : Nat) (s : State) : State := mg { s.mgmt with spdm := n } s
def noSecret : State := { up with fuses := [(96, {})] }
theorem test_hyp_Spdm : (noSecret.identity = false ∧ Asked req noSecret) ∧ (identified up).identity = true ∧ Asked req (identified up) ∧
    Asked req (spdmAt 3 (identified up)) ∧ (spdmAt 3 (identified up)).mgmt.spdm = 3 ∧ (identified up).mgmt.spdm = 0 ∧
    (spdmAt 3 (identified up)).identity = true ∧ (spdmAt 2 (identified up)).mgmt.spdm = 2 :=
  ⟨⟨by decide +kernel, asks _ (by decide +kernel)⟩, by decide +kernel, asks _ (by decide +kernel), asks _ (by decide +kernel), by decide +kernel⟩

theorem test_hyp_Spdm_certificate : 0 < certBytes.length := by simp [certBytes, upto]

def hot (x : Int) : State := { up with pkgMode := { up.pkgMode with mode := .shutdown, tripped := true }, sensors := [(0, { reading := x })] }
theorem test_hyp_VendorCommands :
    (1 ≤ up.lifeCycle ∧ up.lifeCycle ≤ 3) ∧
    (let s := fl { up.flash with calNew := some [] } up; Asked req s ∧ s.flash.calNew = some [] ∧ 1 ≤ s.lifeCycle ∧ s.lifeCycle ≤ 3) ∧
    (Asked req (mg { up.mgmt with activated := true } up) ∧ (mg { up.mgmt with activated := true } up).mayCommit = true) ∧
    (up.pathOpen .mctp = true ∧ up.blockDown 0x20000 = false ∧ (regAt 0x20000).isSome = true) ∧
    ((hot 639).pkgMode.mode = .shutdown ∧ (hot 639).flt.lockedDown = false ∧ (∀ e ∈ (hot 639).sensors, e.2.reading < 640) ∧
      ∃ e ∈ (hot 640).sensors, 640 ≤ e.2.reading) :=
  ⟨by decide +kernel, ⟨asks _ (by decide +kernel), by decide +kernel⟩, ⟨asks _ (by decide +kernel), by decide +kernel⟩, by decide +kernel, by decide +kernel⟩

/-! ### Tier states, heat and fuses -/

def atPower (t p : Nat) (s : State) : State := s.setTier t { s.tier t with power := p }
def reqs (l : List TierReq) (s : State) : State := { s with tierReqs := l }
def allocd (s : State) : State := { s with alloc := [(3 * 2 ^ 20 + 5, true)] }
def haltedJet (s : State) : State := s.setJet 3 15 { halted := true }
def auto (s : State) : State :=
  (((s.put pwrBase PWR_AUTO_AUTO_T1 15).put pwrBase PWR_AUTO_AUTO_T2 15).put pwrBase PWR_CFG_T1_IDLE 1).put pwrBase PWR_CFG_T2_IDLE 1
theorem test_hyp_TierStateRequests :
    (∀ x ∈ [(4, 1), (3, 0), (3, 4)], fin 0x0800 [(8, 1, x.1), (9, 1, x.2)] up = true) ∧
    (fin 0x0800 [(8, 1, 3), (9, 1, 3)] (allocd up) = true ∧ (allocd up).tierInUse 3 = true ∧ ((allocd up).tier 3).power ≠ 3) ∧
    (fin 0x0800 [(8, 1, 3), (9, 1, 2)] (haltedJet up) = true ∧ (haltedJet up).jetHalted 3 = true) ∧
    (fin 0x0800 [(8, 1, 3), (9, 1, 2)] (atPower 3 2 up) = true ∧ ((atPower 3 2 up).tier 3).power = 2 ∧ up.jetHalted 3 = false ∧
      up.reqOf 3 = none ∧ fin 0x0800 [(8, 1, 3), (9, 1, 1)] up = true) ∧
    (∀ p ∈ [0, 1, 2, 3], fin 0x0801 [(8, 1, 3)] (atPower 3 p up) = true ∧ ((atPower 3 p up).tier 3).power = p ∧
      (atPower 3 p up).reqOf 3 = none) ∧ fin 0x0801 [(8, 1, 4)] up = true ∧
    (∀ x ∈ [(4, 0, 0), (3, 16, 0), (3, 15, 4), (3, 15, 3)], fin 0x0802 [(8, 1, x.1), (9, 1, x.2.1), (10, 1, x.2.2)] up = true) ∧
    (up.pathOpen .mctp = true ∧ up.blockDown (pwrBase + 8) = false ∧ (0x80000302 : Word).getLsbD 31 = true ∧
      bitsAt (0x80000302 : Word).toNat 10 8 = 3 ∧ bitsAt (0x80000302 : Word).toNat 1 0 = 2) ∧
    (bitAt ((auto up).get pwrBase PWR_AUTO_AUTO_T1) 3 = true ∧ (auto up).get pwrBase PWR_CFG_T1_IDLE ≠ 0 ∧
      (auto up).tierIdle 3 ((auto up).get pwrBase PWR_CFG_T1_IDLE) = true ∧ bitAt ((auto up).get pwrBase PWR_AUTO_AUTO_T2) 3 = true ∧
      (auto up).get pwrBase PWR_CFG_T2_IDLE ≠ 0 ∧ (auto up).tierIdle 3 ((auto up).get pwrBase PWR_CFG_T2_IDLE * 10000) = true) := by
  decide +kernel

def sleepy (target p : Nat) (s : State) : State := reqs [{ tier := 3, target := target }] (atPower 3 p s)
def waking (s : State) : State := { atPower 3 2 s with wakeReq := [(3, true)] }
theorem test_hyp_TierSleepAndWake :
    (let s := sleepy 2 1 up
     s.reqOf 3 = some { tier := 3, target := 2 } ∧ (s.tier 3).power ≤ 1 ∧ s.pieces = [] ∧ (s.tier 3).portReset = false ∧
       (s.tier 3).engReset = false ∧ s.reacting = false ∧ s.changeFree 3 = true) ∧ up.reqOf 3 = none ∧
    (let s := waking up
     (s.tier 3).power = 2 ∧ Sparse.get (fun _ => false) s.wakeReq 3 = true ∧ s.refPresent = true ∧ s.reacting = false ∧ s.reqOf 3 = none ∧
       s.held = []) ∧
    (let s : State := { waking up with updateLog := [(3, 4096)] }
     (s.tier 3).power = 2 ∧ Sparse.get (fun _ => 0) s.updateLog 3 = 4096) ∧
    (let s := sleepy 3 0 up
     s.reqOf 3 = some { tier := 3, target := 3 } ∧ (s.tier 3).power ≠ 3 ∧ s.clears = [] ∧ s.tierInUse 3 = false ∧ s.changeFree 3 = true ∧
       (sleepy 3 0 (allocd up)).tierInUse 3 = true) ∧
    (let s := sleepy 0 3 up
     (s.tier 3).power = 3 ∧ s.tierReqs = [{ tier := 3, target := 0 }] ∧ s.refPresent = true ∧ s.reacting = false ∧ s.migrations = []) ∧
    (up.tier 3).power < 2 := by decide +kernel

def pkgd (m : Package) (s : State) : State := { s with pkgMode := m }
def allT3 : State := atPower 3 3 (atPower 2 3 (atPower 1 3 (atPower 0 3 up)))
def p4 : State := pkgd { mode := .aon, asleep := true } (up.setReg (pwrBase + 0x14) 1)
theorem test_hyp_ClocksAndP4 :
    (up.refPresent = true ∧ State.reset.refPresent = false) ∧
    (up.pathOpen .mctp = true ∧ up.blockDown (pwrBase + 0x10) = false ∧ up.inP3 = false ∧ allT3.inP3 = true ∧
      allT3.blockDown (pwrBase + 0x10) = false) ∧
    (p4.pkgMode.mode = .aon ∧ p4.pkgMode.asleep = true ∧ p4.pkgMode.porstLow = none ∧ p4.regBit (pwrBase + 0x14) 0 = true ∧
      p4.regBit (pwrBase + 0x14) 1 = false ∧ p4.pkgMode.attempts = 0) ∧
    (let s := pkgd { mode := .rails, waking := true } up; s.pkgMode.mode = .rails ∧ s.pkgMode.waking = true) := by decide +kernel

/-- Every zone of tier 3 at the last warning before the trip, with three rounds above it. -/
def nearTrip : State :=
  (forEach [0, 1, 2] (fun z t => t.put (thmBase + 12) (zoneFld z) 3) up).setHeat 3
    { zones := [(0, { crossed := [true, true, true, true, false], run := [0, 0, 0, 0, 3] }),
        (1, { crossed := [true, true, true, true, false], run := [0, 0, 0, 0, 3] }),
        (2, { crossed := [true, true, true, true, false], run := [0, 0, 0, 0, 3] })] }
theorem test_hyp_Heat :
    (3 < up.nTiers ∧ (∀ k ∈ upto 16, (up.sensor 3 k).suspect = false) ∧ (up.tierHeat 3).warnSince = none ∧
      ∀ z ∈ [0, 1, 2], up.zoneState 3 z = 0 ∧ (up.zoneOf 3 z).crossed = [false, false, false, false, false] ∧
        (up.zoneOf 3 z).run = [0, 0, 0, 0, 0]) ∧
    ((∀ k ∈ upto 16, (nearTrip.sensor 3 k).suspect = false) ∧ nearTrip.pkgMode.mode = .up ∧
      ∀ z ∈ [0, 1, 2], nearTrip.zoneState 3 z = 3 ∧ (nearTrip.zoneOf 3 z).crossed = [true, true, true, true, false] ∧
        (nearTrip.zoneOf 3 z).run = [0, 0, 0, 0, 3]) ∧
    (let s := { up with us := 10000000 }.setHeat 3 { warnSince := some 0, base := some 640 }
     (s.tierHeat 3).warnSince = some 0 ∧ (s.tierHeat 3).base = some 640 ∧ 0 + s.grace ≤ s.us ∧ (s.tierHeat 3).baseAt + 10000 ≤ s.us) ∧
    (let s : State := { up with thmMsixPending := true, thmMsixLast := some 990000 }
     s.thmMsixPending = true ∧ s.reacting = false ∧ 990000 + 10000 ≤ s.us ∧ s.us < 990001 + 10000) ∧
    (up.pkgMode.mode ≠ .shutdown ∧ (hot 0).pkgMode.mode = .shutdown) ∧
    (up.setSensor 3 15 { suspect := true }).sensor 3 15 = { suspect := true } := by decide +kernel

def prog (op word : Nat) (v : DWord) (s : State) : State :=
  (((s.putFlag otpBase OTP_PROG_RESULT_BUSY true).put otpBase OTP_PROG_ADDR_OP op).put otpBase OTP_PROG_ADDR_WORD word).setReg (otpBase + 0x108) v
def marks (l : List Nat) (s : State) : State :=
  { s with fuses := l.map (fun n => (n, { written := true, data := markValue n })) }
def chilled (s : State) : State := { s with fuses := [] }
theorem test_hyp_FuseProgramming :
    (∃ n ∈ upto 112, up.writable n = none) ∧
    ((prog 0 12 0 up).progRuns 0 = true ∧ up.writable 12 = some false ∧ up.progRuns 0 = false) ∧
    ((prog 0 31 1 up).writable 31 = some true ∧ isMark 31 = true ∧ (1 : DWord) ≠ markValue 31) ∧
    (let s := prog 0 24 5 up
     s.progRuns 0 = true ∧ s.get otpBase OTP_PROG_ADDR_WORD = 24 ∧ s.writable 24 = some true ∧ s.pkgMode.scan = false ∧
       isMark 24 = false ∧ (s.fuse 24).written = false ∧ (s.fuse 24).destroyed = false ∧ s.precondition 24 = true ∧ s.fuseCondition = true) ∧
    ((prog 1 0 0 up).progRuns 1 = true ∧ up.lifeCycle ≠ 2 ∧ up.lifeCycle ≠ 3) ∧
    (let s := prog 1 0 0 (marks [8, 9] up)
     s.progRuns 1 = true ∧ s.lifeCycle = 2 ∧ s.pkgMode.scan = false ∧ s.fuseCondition = true ∧
       ∀ i ∈ upto 4, (s.fuse (104 + i)).written = false ∧ (s.fuse (104 + i)).destroyed = false) ∧
    ((prog 2 0 0 (marks [12] up)).lifeCycle = 5 ∧ (prog 2 0 0 (marks [12] up)).progRuns 2 = true) ∧
    (let s := prog 2 0 0 up; s.progRuns 2 = true ∧ s.lifeCycle < 5 ∧ s.deployedOk = true ∧ s.advanceOk (s.lifeCycle + 1) = false) ∧
    (let s := prog 2 0 0 (marks [31, 64] up)
     s.progRuns 2 = true ∧ s.lifeCycle < 5 ∧ s.deployedOk = true ∧ s.advanceOk (s.lifeCycle + 1) = true ∧ s.fuseCondition = true) ∧
    (isCritical 8 = true ∧ (up.fuse 8).sense = 0 ∧ (up.fuse 8).destroyed = false ∧ (up.fuse 8).data ≠ 0 ∧ up.fltClass 2 5 = 5) := by
  decide +kernel

/-! ### The TAP and the debug module -/

def dbgd (d : Debug) (s : State) : State := { s with dbg := d }
/-- Halted hart `h`, the module active, DEPLOYED keys aside: the part stays FACTORY, whose debug is open. -/
def haltedAt (h : Nat) (v : Hart) : State := dbgd { up.dbg with active := true, harts := [(h, { v with halted := true })] } up
def scanning : State := dbgd { up.dbg with dieCfg := 3 } { up with pkgMode := { up.pkgMode with scan := true } }
theorem test_hyp_Tap : State.reset.tapPowered = false ∧ up.tapPowered = true ∧ up.pkgMode.scan = false ∧ lockedDown.flt.lockedDown = true ∧
    lockedDown.tapPowered = true ∧ (scanning.tapPowered = true ∧ scanning.pkgMode.scan = true ∧ scanning.scanOpen = true ∧
      scanning.dbg.dieCfg ≠ 0 ∧ scanning.flt.lockedDown = false) ∧ up.dbg.dieCfg = 0 := by decide +kernel

/-- A DEPLOYED part. -/
def deployed : State := marks [8, 9, 10] up
/-- A BLANK part. -/
def blank : State := { up with fuses := [(8, {})] }
theorem test_hyp_DebugModule :
    (deployed.tapPowered = true ∧ deployed.flt.lockedDown = false ∧ deployed.authenticated = false) ∧
    ((dbgd { up.dbg with active := true } up).authenticated = true ∧ (dbgd { up.dbg with active := true } up).dbg.active = true) ∧
    (up.hartReady 64 = true ∧ (up.hart 64).halted = false ∧ up.hartReady 0 = true ∧ up.lifeCycle ≠ 0 ∧ blank.lifeCycle = 0) ∧
    ((haltedAt 64 {}).hartReady 64 = true ∧ ((haltedAt 64 {}).hart 64).halted = true ∧ ((haltedAt 64 {}).hart 64).step = false ∧
      (haltedAt 64 {}).authenticated = true ∧ (haltedAt 64 {}).dbg.cmderr = 0) ∧
    (deployed.hartReady 64 = false ∧ up.mpPowered = true) ∧
    (let s := dbgd { up.dbg with harts := [(64, { triggers := [(3, (0x2000004C, 0))] })] } up
     let x := (Sparse.get (fun _ => ((0x20000000 : Word), (0 : Word))) (s.hart 64).triggers 3).1.toNat
     s.hartReady 64 = true ∧ (s.hart 64).halted = false ∧ x % 8 ≠ 0 ∧ bitAt x 3 = true ∧ bitAt x 6 = true) ∧
    (up.dbg.sberror = 0 ∧ up.busRegion 0x20000 = .denied ∧ blank.authenticated = true ∧ blank.busRegion 0xFFFC = .rom ∧
      up.busRegion (0x40000000 + 0x20000) = .bar0 ∧ up.pathOpen .debugBus = true ∧ up.blockDown 0x20000 = false) := by decide +kernel

theorem test_hyp_Unlocking :
    (up.grottoRuns = true ∧ up.authBusy = false ∧ up.inBackoff = false ∧ (dbgd { up.dbg with backoffTill := some 5 } up).inBackoff = true) ∧
    ((asked 999000).grottoRuns = true ∧ (asked 999000).responseOk 0 true = true ∧ (asked 999000).responseOk 0 false = false) ∧
    (let s := dbgd { up.dbg with nonce := some (0, 999000) } up
     s.authBusy = false ∧ s.responseOk 0 true = true ∧ s.responseOk 0 false = false ∧ s.grottoRuns = true) ∧
    (mg { up.mgmt with grotto := false } up).grottoRuns = false ∧
    (up.pathOpen .mctp = true ∧ up.blockDown (dbgBase + 0x4) = false ∧ up.dbg.harts = []) := by decide +kernel

/-! ### Rails, resets and recoveries -/

def aon (m : Package) : State := pkgd m { up with us := 5000000 }
theorem test_hyp_RailsAndPins :
    ((aon { mode := .aon, railAt := 4998000 }).pkgMode.railAt + 2000 ≤ (aon { mode := .aon, railAt := 4998000 }).us ∧
      (aon { mode := .aon, railAt := 4998001 }).us < 4998001 + 2000) ∧
    ((aon { mode := .rails, railAt := 4900000, attempts := 2 }).pkgMode.railAt + 100000 ≤ (aon { mode := .rails }).us) ∧
    up.pkgMode.badRails.contains 8 = false ∧ (up.pkgMode.mode = .up ∧ up.flt.reaction = .none ∧ up.fltClass 2 5 = 5) ∧
    (lockedDown.pkgMode.mode = .up ∧ lockedDown.flt.lockedDown = true) ∧ up.pkgMode.porstLow = none ∧
    ((aon { mode := .up, porstLow := some 4999901 }).us < 4999901 + 100 ∧ (4999900 + 100 ≤ (aon {}).us ∧ (aon {}).us < 4999900 + 1000) ∧
      4999000 + 1000 ≤ (aon {}).us ∧ (aon {}).flt.lockedDown = false ∧ (aon { mode := .up }).pkgMode.mode ≠ .shutdown) := by decide +kernel

def standing : State := pkgd { mode := .rails, railAt := 999000, railEn := true } { State.reset with us := 1000000 }
def noRestart : Restart := { checkers := [], shortFail := [], trained := [], eyes := [] }
def facts : PowerOnFacts :=
  { testLow := false, sense := [], mpOk := true, cold := false, pllFail := [], dimms := [], drift := [], restart := noRestart }
theorem test_hyp_PowerOn :
    standing.pkgMode.mode = .rails ∧ standing.pkgMode.waking = false ∧ standing.pkgMode.porstLow = none ∧
    standing.pkgMode.railAt + 1000 ≤ standing.us ∧ facts.cold = false ∧ facts.testLow = false ∧ facts.sense = [] ∧ facts.mpOk = true ∧
    (∀ e ∈ standing.fuses, e.2.sense = 0) ∧ Sparse.wf fuseFactory standing.fuses = true ∧ 1 ≤ standing.lifeCycle ∧ standing.lifeCycle ≤ 4 ∧
    standing.bootRec.trial = false ∧ standing.bootRec.active ≤ 1 ∧ standing.bankImage standing.bootRec.active = some imageFactory ∧
    standing.imageValid imageFactory = true ∧ standing.flash.sectors = [] ∧ standing.pkgMode.tripped = false ∧ standing.pool.inbox = [] ∧
    standing.flt.lockedDown = false ∧ (standing.hart 0).halted = false ∧ standing.mgmt.activation = none ∧ standing.migrations = [] := by
  decide +kernel

def resetting (port eng : Bool) (s : State) : State := s.setTier 3 { s.tier 3 with portReset := port, engReset := eng, resetAt := 999900 }
theorem test_hyp_DieResets :
    (up.pathOpen .mctp = true ∧ (up.tier 0).portReset = false ∧ up.migrations = [] ∧
      bitsAt (0xA5000303 : Word).toNat 31 24 = 0xA5 ∧ bitsAt (0xA5000303 : Word).toNat 10 8 = 3 ∧ bitsAt (0xA5000303 : Word).toNat 1 0 = 3 ∧
      3 < up.nTiers ∧ (up.tier 3).power = 0 ∧ (up.tier 3).portReset = false ∧ (up.tier 3).engReset = false) ∧
    (((resetting true true up).tier 3).portReset = true ∧ ((resetting true true up).tier 3).unconfirmed = false ∧
      (resetting true true up).reacting = false ∧ ((resetting true true up).tier 3).engReset = true) ∧
    (let s := resetting true false (up.setTier 3 { up.tier 3 with freezeDue := true })
     (s.tier 3).portReset = true ∧ (s.tier 3).engReset = false ∧ (s.tier 3).freezeDue = true ∧ s.held = []) ∧
    (let s := resetting false true up
     (s.tier 3).engReset = true ∧ (s.tier 3).holdOver = false ∧ s.us < (s.tier 3).resetAt + s.engHold ∧
       (s.tier 3).resetAt + s.engHold ≤ ({ s with us := 2000000 } : State).us) := by decide +kernel

def reactingTo (r : Reaction) (s : State) : State := { s with flt := { s.flt with reaction := r } }
def often : State := reactingTo (.stop 1 900000)
  ((up.put fltBase FLT_CFG_STOP_MAX 1)) |> fun s => { s with flt := { s.flt with recoveries := [899999] } }
theorem test_hyp_StopSequence :
    ((reactingTo (.stop 1 900000) up).flt.reaction = .stop 1 900000 ∧ (reactingTo (.stop 1 900000) up).flt.stopped = false ∧
      (reactingTo (.stop 1 900000) up).flag fltBase FLT_STATUS_HALTED = false ∧ (reactingTo (.stop 1 900000) up).stopHalts 900000 = false) ∧
    (often.flt.reaction = .stop 1 900000 ∧ often.stopHalts 900000 = true ∧ often.flag fltBase FLT_STATUS_HALTED = false) ∧
    up.flt.reaction = .none := by decide +kernel
theorem test_hyp_LockdownSequence :
    (let s := (reactingTo (.lockdown 1) up).putFlag otpBase OTP_PROG_RESULT_BUSY true
     s.flt.reaction = .lockdown 1 ∧ s.flt.lockedDown = false ∧ s.pkgMode.mode = .up ∧ s.flag otpBase OTP_PROG_RESULT_BUSY = true) ∧
    lockedDown.flt.lockedDown = true := by decide +kernel

def stopped (s : State) : State := { s with flt := { s.flt with reaction := .stop 1 900000, stopped := true } }
theorem test_hyp_Recoveries :
    (up.tier 3).unconfirmed = false ∧
    (let s := (allocd up).setTier 3 { up.tier 3 with unconfirmed := true, cap := 2 ^ 24 }
     let u := s.setExt 3 0 { valid := true, pen := 3 * 2 ^ 20 + 5 }
     (u.tier 3).unconfirmed = true ∧ u.allocBit 3 5 = true ∧ u.isSpare 3 5 = false ∧ u.withheld 3 5 = false ∧ (u.ext 3 0).valid = true ∧
       (u.ext 3 0).remote = false ∧ (u.ext 3 0).pen = u.pkg * 2 ^ 23 + 3 * 2 ^ 20 + 5) ∧
    (let s := stopped (ctx3 .live up)
     s.flt.reaction = .stop 1 900000 ∧ s.flt.stopped = true ∧ (∀ t ∈ s.tierList, (s.tier t).unconfirmed = false) ∧ s.migrations = [] ∧
       s.drains = [] ∧ (s.ctx 3).state = .live) := by decide +kernel

/-! ### Registers -/

theorem test_hyp_RegisterWrite :
    (∀ o ∈ [0x18, 0x8018, 0x10100, 0x20000, 0x20004, 0x20014, 0x30000, 0x30004, 0x40000, 0x5002C, 0x60004, 0x70004, 0x70008, 0x80000,
      0x90004, 0x9000C, 0x90018], ((regAt o).map (·.2)) = some o ∧ up.blockDown o = false) ∧ up.pathOpen .mctp = true ∧
    (up.regOf 0xFFFFC = none ∧ up.regOf 0x500000 = none) ∧ ((resetting true true up).blockDown (bsnBase 3 0) = true) ∧
    State.reset.pathOpen (.control 5) = false := by decide +kernel
/-- The 64-bit register of the collector's counts. -/
def wideReg : Nat := fltBase + 0x40
theorem test_hyp_RegisterReadLatch :
    ((regAt wideReg).map (fun x => (x.1.wide, x.2)) = some (true, wideReg) ∧ wideReg % 4 = 0 ∧ up.blockDown wideReg = false ∧
      up.blockDown (wideReg + 4) = false ∧ (up.regOf (wideReg + 4)).map (·.2) = some wideReg) ∧
    pathNum .mctp ≠ pathNum .debugBus ∧ (up.path (pathNum .mctp)).latch = none ∧
    ((up.regOf 0x20000).map (fun x => x.1.wide) = some false ∧ up.blockDown 0x20000 = false) ∧ up.regOf 0xFFFFC = none := by decide +kernel
theorem test_hyp_UnsupportedAccess : ((port5.pathOpen (.control 5) = true ∨ up.pathOpen .mctp = true) ∧ up.pathOpen .debugBus = true) ∧
    (2 ≠ 4 ∨ 2 % 4 ≠ 0) := by decide +kernel
def lockOn (s : State) : State := s.putFlag glbBase GLB_SETUP_LOCK_LOCK true
theorem test_hyp_SetupLock :
    (up.blockDown 0x10 = false ∧ up.locked = false ∧ (lockOn up).locked = true ∧ (prog 0 24 5 up).flag otpBase OTP_PROG_RESULT_BUSY = true) ∧
    (up.blockDown (scrBase 3) = false ∧ up.flag (scrBase 3) SCR_TIER_CFG_TAG_EN ≠ (0 : Word).getLsbD 0 ∧ up.alloc = []) := by
  decide +kernel
theorem test_hyp_ClearsAndInjection :
    up.blockDown (bsnBase 3 15 + 4) = false ∧ up.blockDown (fltBase + 8) = false ∧ up.blockDown (fltBase + 0x2000 + 4 * 511) = false ∧
    up.blockDown (fltBase + 0x18) = false ∧ up.sourceExists ((up.put fltBase FLT_INJECT_SOURCE 2).get fltBase FLT_INJECT_SOURCE) = true := by
  decide +kernel
def haltedPkg : State := up.putFlag fltBase FLT_STATUS_HALTED true
theorem test_hyp_Resume : haltedPkg.pathOpen .mctp = true ∧ haltedPkg.blockDown (fltBase + 8) = false ∧
    haltedPkg.flag fltBase FLT_STATUS_HALTED = true ∧ haltedPkg.pkgMode.sysReady = true ∧ up.flag fltBase FLT_STATUS_HALTED = false := by
  decide +kernel
def twoCtl : State := (port5.putFlag (hptBase 9) HPT_PORT_CFG_CTLFN true).putFlag (hptBase 11) HPT_PORT_CFG_CTLFN true
def looping (m : Nat) : State := (up.put (hptBase 47) HPT_LOOP_CTL_MODE m).putFlag (hptBase 47) HPT_LOOP_CTL_RUN true
theorem test_hyp_PortSettings :
    (up.blockDown (hptBase 47) = false ∧ (port5.flag (hptBase 5) HPT_PORT_CFG_ENABLE = true ∧ port5.locked = false)) ∧
    (twoCtl.flag (hptBase 5) HPT_PORT_CFG_CTLFN = false ∧
      2 ≤ (twoCtl.portList.filter (fun x => x ≠ 5 && twoCtl.flag (hptBase x) HPT_PORT_CFG_CTLFN)).length) ∧
    up.flag (hptBase 47) HPT_PORT_CFG_BOND = false ∧ up.blockDown (hptBase 47 + 0x10) = false ∧
    ((up.putFlag (hptBase 47) HPT_PORT_CFG_ENABLE false).flag (hptBase 47) HPT_PORT_CFG_ENABLE = false ∧
      up.flag (hptBase 47) HPT_LOOP_CTL_RUN = false) ∧
    ((looping 3).get (hptBase 47) HPT_LOOP_CTL_MODE = 3 ∧ (looping 3).flag (hptBase 47) HPT_LOOP_CTL_RUN = true ∧
      (looping 3).flag (hptBase 47) HPT_LOOP_CTL_LOCK = false) := by decide +kernel

/-! ### What every step keeps -/

theorem test_hyp_TimeBaseNeverFalls :
    (up.pending = [] ∧ up.refPresent = true ∧ up.pkgMode.mode = .up) ∧
    (let s : State := { State.reset with xtalRunning := true, frac := 511 }; s.refPresent = false ∧ s.xtalRunning = true ∧ s.frac < 512) ∧
    (State.reset.refPresent = false ∧ State.reset.xtalRunning = false) := by decide +kernel
theorem test_hyp_step : ∃ t, step State.reset = .next t := ⟨State.reset, rfl⟩
def releasing3 : State :=
  withD 0x0106 0 c3 { ctx3 .draining up with releases := [{ ctx := 3, desc := some d0 }] }
theorem test_hyp_ReleasedInTick :
    (releasing3.releases.find? (fun r => r.ctx = 3) = some { ctx := 3, desc := some d0 } ∧ (releasing3.fetchedOf d0).isSome = true ∧
      releasing3.clears = [] ∧ releasing3.acks (releasing3.homeTier 3) = true) ∧
    ((releasedIn 3 (created 3)).ready d0 0x0100 (createOps 3)).isSome = true ∧ ((releasedIn 3 (created 3)).ctx 3).state = .free ∧
    (releasedIn 3 (created 3)).key 4095 ≠ none ∧ Sparse.get (fun _ => none) (releasedIn 3 (created 3)).meter.released 3 ≠ none ∧
    (releasedIn 3 (created 3)).acks 0 = true ∧ (releasedIn 3 (created 3)).commits = [] := by decide +kernel
def bindOps59 : List (Nat × Nat × Nat) := [(8, 4, 3), (12, 1, 5), (13, 1, 0)]
def pendingAt5 : State :=
  withD 0x0101 0 bindOps59 ((up.setCtx 3 { state := .live, keyId := 1, wsize := 1, wbase := 4 }).setPort 5
    { up.port 5 with blocks := [(4, 1)], windows := [(0, { valid := true, pendrel := true, ctx := 7, wsize := 1, wbase := 4 })] })
theorem test_hyp_PendingReleaseRefusesBinding :
    (pendingAt5.ready d0 0x0101 bindOps59).isSome = true ∧ (pendingAt5.ctx 3).state = .live ∧ pendingAt5.hostPort 5 = true ∧
    (pendingAt5.ctx 3).ports.getLsbD 5 = false ∧ 0 < (pendingAt5.ctx 3).wsize ∧ ((pendingAt5.port 5).window 0).valid = true ∧
    ((pendingAt5.port 5).window 0).pendrel = true ∧ Sparse.get (fun _ => 0) (pendingAt5.port 5).blocks ((pendingAt5.ctx 3).wbase + 0) = 0 + 1 := by
  decide +kernel
def exhausted : State := mg { up.mgmt with activated := true, running := some { imageFactory with sv := 127 } } { up with arb := BitVec.allOnes _ }
theorem test_hyp_CounterExhausted :
    (fin 0x0A02 [] exhausted = true ∧ exhausted.servicesRun = true ∧ exhausted.fwBusy = false ∧ exhausted.mgmt.updating = false ∧
      exhausted.mayCommit = true ∧ exhausted.arbCount = 127 ∧ exhausted.runSv = 127) ∧
    (imageFactory.headerOk = true ∧ imageFactory.digestOk = true ∧ imageFactory.sigOk = true ∧ up.keyTrusted imageFactory.keyDigest = true) ∧
    (isReady 0x0A00 (stageOps 0 0 4096) (withD 0x0A00 4 (stageOps 0 0 4096) up) = true) ∧
    (mg { up.mgmt with bankB := some { imageFactory with sv := 128 } } up).bankImage 1 = some { imageFactory with sv := 128 } := by
  decide +kernel
theorem test_hyp_CounterExhausted_mctp : Asked req exhausted := asks _ (by decide +kernel)

/-! ### Values the spec gives -/

/-- The ASCII string of the presets. -/
def digits : List Nat := [0x31, 0x32, 0x33, 0x34, 0x35, 0x36, 0x37, 0x38, 0x39]
/-- The presets of R284 and Table JET-3: CRC-8/SMBUS, CRC-32/ISO-HDLC, CRC-32C, CRC-64/ECMA-182, the meter form; and R237, R216. -/
theorem test_crc_presets :
    cvuRun 0 digits 8 0x07 false false = 0xF4 ∧
    cvuRun 0xFFFFFFFF digits 32 0x04C11DB7 true true = 0x340BC6D9 ∧ 0x340BC6D9 ^^^ 0xFFFFFFFF = 0xCBF43926 ∧
    cvuRun 0xFFFFFFFF digits 32 0x1EDC6F41 true true = 0x1CF96D7C ∧ crc32c digits = 0xE3069283 ∧
    cvuRun 0 digits 64 0x42F0E1EBA9EA3693 false false = 0x6C40DF5F0B497347 ∧
    cvuRun 0xFFFFFFFFFFFFFFFF digits 64 0x42F0E1EBA9EA3693 true true = 0x66A2364420E6C605 ∧ crc64 digits = 0x995DC9BBDF1939FA := by
  decide +kernel
/-- The worked decode of chapter 03, steps 5 to 7, and the tag line of chapter 07: channel 1, ROW 0xE970, DIMM 1 RANK 1, BANK 2, bank
group 4, SUB B; tag line index 0x1D2E1D15, set 0xE1D15, TAGHI 0xE9. -/
theorem test_worked_decode :
    chanOf 0x74B8745678 = 1 ∧ rowOf 0x74B8745678 = 0xE970 ∧ rankOf 0x74B8745678 = 3 ∧ bankOf 0x74B8745678 = 2 ∧
    groupOf 0x74B8745678 = 4 ∧ subOf 0x74B8745678 = 1 ∧ chanLocal 0x74B8745678 = 0x1D2E1D1578 ∧ tagIndex 0x74B8745678 = 0x1D2E1D15 ∧
    tagIndex 0x74B8745678 % 2 ^ 21 = 0xE1D15 ∧ tagIndex 0x74B8745678 / 2 ^ 21 = 0xE9 ∧
    0x103A5C3 * 2 ^ 21 + 0x145678 = poolAddr 2 0 0x74B8745678 ∧ penTier 0x103A5C3 = 0 ∧ penExt 0x103A5C3 = 0x3A5C3 := by decide +kernel
/-- R385: with the crystal alone the time base gains 30.517578125 microseconds a cycle. -/
theorem test_crystal_cycle : (match step { State.reset with xtalRunning := true } with
    | .next t => (t.us, t.frac) | _ => (0, 0)) = (30, 265) := by decide +kernel
theorem test_reference_tick : (match step { State.reset with refPresent := true, us := 7 } with | .next t => t.us | _ => 0) = 8 := by decide +kernel
/-- R441: a PORST_N pulse of 99 microseconds has no effect, one of 100 has an undefined one. -/
theorem test_porst_pulse :
    (match exec .porstNRise (aon { mode := .up, porstLow := some 4999901 }) with | .next t => t.pkgMode.mode = .up | _ => false) = true ∧
    (match exec .porstNRise (aon { mode := .up, porstLow := some 4999900 }) with | .fault .porstPulseUndefined => true | _ => false) = true := by
  decide +kernel
/-- Descrambling the scrambled line gives the line back; another key does not. -/
theorem test_scramble : descramble 5 0x1040 (scramble 5 0x1040 77) = 77 ∧ descramble 6 0x1040 (scramble 5 0x1040 77) ≠ 77 := by decide +kernel
/-- Table CMD-8: TIER_WAKE of an absent tier completes BAD_FIELD, through the queue. -/
theorem test_tier_wake_absent :
    (match step { withD 0x0801 0 [(8, 1, 7)] up with pending := [.tierWake d0 7] } with
      | .next t => (t.cplQ.map (·.status), t.fetched.length, t.pending.length) | _ => ([], 9, 9)) = ([0x02], 0, 0) := by decide +kernel
/-- R176 and Table SCR-1: a key made is no longer EMPTY; KEY_ZERO empties it. -/
theorem test_key_make : (match exec (.keyMake 9) up with | .next t => (t.key 9).isSome && (t.key 8).isNone | _ => false) = true ∧
    (match exec (.keyZero 9) (up.setKey 9 (some 1)) with | .next t => (t.key 9).isNone | _ => false) = true := by decide +kernel


/-! ### Ill-formed commands -/

def okD : DescRef := {}
def badD : DescRef := { cookie := 2 ^ 32 }
def badP : Path := .control 96
def okM : MctpReq := { binding := 0, ahead := 0 }
def badM : MctpReq := { binding := 3, ahead := 0 }
def okR : DcRef := { base := 0, size := 0, ctx := 0, gen := 0 }
def okS : MeterStore := .accumulator 0
def okN : NodeFields := { flags := 0, lines := 0, bytes := 0, hits := 0, misses := 0, throttled := 0, hammer := 0, extSec := 0 }

/-- For each check of a command an operand just past its range, the others in range. -/
theorem test_ill_formed_1 : ∀ c ∈ (
  [.cascadeModuleLost 8, .linkTrainingComplete 96 0 false false false 0 false, .linkTrainingComplete 0 8 false false false 0 false,
   .laneMargining 96 0 false 0, .laneMargining 0 2 false 0, .l0pDeviceRequest 96, .l0pPartnerRequest 96, .linkWiden 96, .aspmL1Entry 96,
   .perstNAssert 24, .perstNDeassert 24 false, .linkDown 96, .hdmDecoderCommit 96 0 0 0, .getEventRecords 96 0, .getEventRecords 0 5,
   .clearEventRecords 96 0 false [], .clearEventRecords 0 5 false [], .getEventInterruptPolicy 96, .setEventInterruptPolicy 96 [],
   .getTimestamp 96, .setTimestamp 96 0, .getSupportedLogs 96, .getLog 96 0 0 0, .identifyMemoryDevice 96, .getHealthInfo 96,
   .getPoisonList 96 0, .getDynamicCapacityConfiguration 96, .getDynamicCapacityExtentList 96 0 0, .addDynamicCapacityResponse 96 none,
   .releaseDynamicCapacity 96 okR, .mailboxUnsupportedCommand 96 0, .mailboxUnsupportedCommand 0 (2 ^ 16), .releaseTimeout 96 0,
   .dcEventOfferWhenRoom 96, .hptPortCfgWrite badP 0 0, .hptPortCfgWrite .mctp 96 0, .retrain 96, .hptLoopCtlWrite badP 0 0,
   .hptLoopCtlWrite .mctp 96 0, .loopPartnerTimeout 96, .prbsCheckerLock 96 false 0, .flitReplayLimit 96, .aspmL1Exit 96,
   .registerWrite badP 0 0, .registerWrite .mctp (2 ^ 24) 0, .unsupportedRegisterAccess badP 0 0 false,
   .unsupportedRegisterAccess .mctp (2 ^ 24) 0 false, .registerReadLatch badP 0, .registerReadLatch .mctp (2 ^ 24), .lock badP,
   .memrd 96 0 0, .memrddata 96 0 0, .memwr 96 0 0 0 false, .memwrptl 96 0 0 0 0 false, .meminv 96 0 0, .writeWaitsForQueueRoom 8 0,
   .writeWaitsForQueueRoom 0 4, .columnCommandIssue 8 0 [], .columnCommandIssue 0 4 [], .penaltyExpiry 8 0 0, .penaltyExpiry 0 4 0,
   .penaltyExpiry 0 0 (2 ^ 18), .rowTrackerClear 8 0 0, .rowTrackerClear 0 4 0, .rowTrackerClear 0 0 4, .cisternRefreshDue 8 0 0,
   .cisternRefreshDue 0 4 0, .cisternRefreshDue 0 0 4, .dimmSensorRead 8 0 0 none, .dimmSensorRead 0 4 0 none, .dimmSensorRead 0 0 2 none,
   .caParityAlert 8 0 0 0 false false, .caParityAlert 0 4 0 0 false false, .caParityAlert 0 0 2 0 false false,
   .caParityAlert 0 0 0 4 false false, .periodicRetrainingDue 8 0 0, .periodicRetrainingDue 0 4 0, .periodicRetrainingDue 0 0 4,
   .retrainingEnd 8 0 0 false false, .retrainingEnd 0 4 0 false false] : List Instr), wellFormed c = false := by decide +kernel
/-- For each check of a command an operand just past its range, the others in range (part 2). -/
theorem test_ill_formed_2 : ∀ c ∈ (
  [.retrainingEnd 0 0 4 false false, .retrainHoldMaxExpiry 8 0 0 false, .retrainHoldMaxExpiry 0 4 0 false,
   .retrainHoldMaxExpiry 0 0 4 false, .powerDownTimerExpiry 8 0 0, .powerDownTimerExpiry 0 4 0, .powerDownTimerExpiry 0 0 4,
   .selfRefreshTimerExpiry 8 0 0, .selfRefreshTimerExpiry 0 4 0, .selfRefreshTimerExpiry 0 0 4, .rankLowPowerExit 8 0 0 false false,
   .rankLowPowerExit 0 4 0 false false, .rankLowPowerExit 0 0 4 false false, .operatingPointRequest 8 0 0, .operatingPointRequest 0 4 0,
   .operatingPointRequest 0 0 4, .frequencyChange 8 0 0, .frequencyChange 0 4 0, .pendingChangeApplied 8 0, .pendingChangeApplied 0 4,
   .softPostPackageRepair 8 0 0 0 0 0 0 none, .softPostPackageRepair 0 4 0 0 0 0 0 none, .softPostPackageRepair 0 0 2 0 0 0 0 none,
   .softPostPackageRepair 0 0 0 4 0 0 0 none, .softPostPackageRepair 0 0 0 0 8 0 0 none, .softPostPackageRepair 0 0 0 0 0 4 0 none,
   .softPostPackageRepair 0 0 0 0 0 0 (2 ^ 18) none, .maxOpWrite badP 0 0 0, .maxOpWrite .mctp 8 0 0, .maxOpWrite .mctp 0 4 0,
   .faultFreeze (2 ^ 18), .frozenHoldExpiry 96, .migrationWaitsForCopySlot 8, .migrationCopyPassEnd (2 ^ 18) 0 [],
   .migrationCopyPassEnd 0 (2 ^ 20) [], .migrationSwitch (2 ^ 18) 0 [], .migrationSwitch 0 (2 ^ 20) [], .migrationFinish (2 ^ 18) 0,
   .migrationFinish 0 (2 ^ 20), .migrationAbort (2 ^ 18) 0, .migrationAbort 0 (2 ^ 20), .releaseFinished (2 ^ 18), .validLineClear 8 0,
   .validLineClear 0 (2 ^ 20), .heatSample 8 0 0 0, .heatSample 0 16 0 0, .heatSample 0 0 (2 ^ 18) 0, .heatSample 0 0 0 (2 ^ 29),
   .heatDecay 8 0, .heatDecay 0 16, .victimBufferOffer 8 0, .victimBufferOffer 0 16, .allocationWaitsForVictimRoom 8 0,
   .allocationWaitsForVictimRoom 0 16, .basinBankRefresh 8 0 0 0, .basinBankRefresh 0 16 0 0, .basinBankRefresh 0 0 8 0,
   .basinBankRefresh 0 0 0 16, .firstSensorReading 8 [], .basinSelfRefreshEntry 8 0, .basinSelfRefreshEntry 0 16,
   .basinSelfRefreshExit 8 0, .basinSelfRefreshExit 0 16, .dieClockLossSelfRefresh 8 0 0, .dieClockLossSelfRefresh 0 16 0,
   .dieClockLossSelfRefresh 0 0 8, .clrCnt badP 0 0, .clrCnt .mctp 8 0, .clrCnt .mctp 0 16, .messageAccept (2 ^ 9) 0 0 0 0 false,
   .messageAccept 0 64 0 0 0 false, .messageAccept 0 0 8 0 0 false, .messageAccept 0 0 0 (2 ^ 48) 0 false,
   .messageAccept 0 0 0 0 (2 ^ 22) false, .faultEscalationFrame 16 0 0 0 0 0 0 0, .faultEscalationFrame 0 (2 ^ 9) 0 0 0 0 0 0,
   .faultEscalationFrame 0 0 64 0 0 0 0 0, .faultEscalationFrame 0 0 0 6 0 0 0 0, .faultEscalationFrame 0 0 0 0 8 0 0 0,
   .faultEscalationFrame 0 0 0 0 0 (2 ^ 48) 0 0] : List Instr), wellFormed c = false := by decide +kernel
/-- For each check of a command an operand just past its range, the others in range (part 3). -/
theorem test_ill_formed_3 : ∀ c ∈ (
  [.faultEscalationFrame 0 0 0 0 0 0 (2 ^ 22) 0, .faultEscalationFrame 0 0 0 0 0 0 0 (2 ^ 64), .resume badP, .fltClrCnt badP, .go badP,
   .fltSrcStatClear badP 0, .fltSrcStatClear .mctp (2 ^ 9), .sramUncorrectable 8 0 false 0 0, .sramUncorrectable 0 64 false 0 0,
   .sramUncorrectable 0 0 false 0 (2 ^ 18), .eccInjCtlWrite badP 0 0, .eccInjCtlWrite .mctp 8 0, .tagEnWrite badP 0 0,
   .tagEnWrite .mctp 8 0, .tagLineWriteback 8 0, .tagLineWriteback 0 (2 ^ 26), .tagSweep 8 0, .tagSweep 0 (2 ^ 26),
   .aqueductKeyExchange 8 0 false false 0, .aqueductKeyExchange 0 16 false false 0, .aqueductKeyTimeout 8, .tokenReleaseHeldRequest 96 0,
   .tokenReleaseHeldRequest 0 64, .aqueductFlitReceive 8 0, .aqueductNak 8 0, .aqueductReplayTimeout 8, .aqueductRetrain 8,
   .aqueductCountWrapRekey 8, .aqueductLeavesL0 8, .aqueductCreditReturn 8 0 0 0, .nop badD, .ringCreate badD 0 0 0 0 0 0 0 0 0 0 0 0 0 0,
   .ringCreate okD (2 ^ 16) 0 0 0 0 0 0 0 0 0 0 0 0 0, .ringCreate okD 0 256 0 0 0 0 0 0 0 0 0 0 0 0,
   .ringCreate okD 0 0 256 0 0 0 0 0 0 0 0 0 0 0, .ringCreate okD 0 0 0 256 0 0 0 0 0 0 0 0 0 0,
   .ringCreate okD 0 0 0 0 256 0 0 0 0 0 0 0 0 0, .ringCreate okD 0 0 0 0 0 (2 ^ 16) 0 0 0 0 0 0 0 0,
   .ringCreate okD 0 0 0 0 0 0 (2 ^ 64) 0 0 0 0 0 0 0, .ringCreate okD 0 0 0 0 0 0 0 (2 ^ 64) 0 0 0 0 0 0,
   .ringCreate okD 0 0 0 0 0 0 0 0 (2 ^ 64) 0 0 0 0 0, .ringCreate okD 0 0 0 0 0 0 0 0 0 (2 ^ 16) 0 0 0 0,
   .ringCreate okD 0 0 0 0 0 0 0 0 0 0 256 0 0 0, .ringCreate okD 0 0 0 0 0 0 0 0 0 0 0 256 0 0,
   .ringCreate okD 0 0 0 0 0 0 0 0 0 0 0 0 (2 ^ 16) 0, .ringCreate okD 0 0 0 0 0 0 0 0 0 0 0 0 0 (2 ^ 16), .ringDelete badD 0,
   .ringDelete okD (2 ^ 16), .ringModifyStop badD 0 0 0 0 0 0 0 0 0 0, .ringModifyStop okD (2 ^ 16) 0 0 0 0 0 0 0 0 0,
   .ringModifyStop okD 0 256 0 0 0 0 0 0 0 0, .ringModifyStop okD 0 0 (2 ^ 16) 0 0 0 0 0 0 0, .ringModifyStop okD 0 0 0 256 0 0 0 0 0 0,
   .ringModifyStop okD 0 0 0 0 256 0 0 0 0 0, .ringModifyStop okD 0 0 0 0 0 (2 ^ 16) 0 0 0 0, .ringModifyStop okD 0 0 0 0 0 0 256 0 0 0,
   .ringModifyStop okD 0 0 0 0 0 0 0 (2 ^ 16) 0 0, .ringModifyStop okD 0 0 0 0 0 0 0 0 (2 ^ 16) 0,
   .ringModifyStop okD 0 0 0 0 0 0 0 0 0 (2 ^ 16), .ringModifyStart badD 0 0 0 0 0 0 0 0 0 0,
   .ringModifyStart okD (2 ^ 16) 0 0 0 0 0 0 0 0 0, .ringModifyStart okD 0 256 0 0 0 0 0 0 0 0,
   .ringModifyStart okD 0 0 (2 ^ 16) 0 0 0 0 0 0 0, .ringModifyStart okD 0 0 0 256 0 0 0 0 0 0, .ringModifyStart okD 0 0 0 0 256 0 0 0 0 0,
   .ringModifyStart okD 0 0 0 0 0 (2 ^ 16) 0 0 0 0, .ringModifyStart okD 0 0 0 0 0 0 256 0 0 0,
   .ringModifyStart okD 0 0 0 0 0 0 0 (2 ^ 16) 0 0, .ringModifyStart okD 0 0 0 0 0 0 0 0 (2 ^ 16) 0,
   .ringModifyStart okD 0 0 0 0 0 0 0 0 0 (2 ^ 16), .ringModifyResync badD 0 0 0 0 0 0 0 0 0 0,
   .ringModifyResync okD (2 ^ 16) 0 0 0 0 0 0 0 0 0, .ringModifyResync okD 0 256 0 0 0 0 0 0 0 0,
   .ringModifyResync okD 0 0 (2 ^ 16) 0 0 0 0 0 0 0, .ringModifyResync okD 0 0 0 256 0 0 0 0 0 0,
   .ringModifyResync okD 0 0 0 0 256 0 0 0 0 0, .ringModifyResync okD 0 0 0 0 0 (2 ^ 16) 0 0 0 0,
   .ringModifyResync okD 0 0 0 0 0 0 256 0 0 0, .ringModifyResync okD 0 0 0 0 0 0 0 (2 ^ 16) 0 0,
   .ringModifyResync okD 0 0 0 0 0 0 0 0 (2 ^ 16) 0] : List Instr), wellFormed c = false := by decide +kernel
/-- For each check of a command an operand just past its range, the others in range (part 4). -/
theorem test_ill_formed_4 : ∀ c ∈ (
  [.ringModifyResync okD 0 0 0 0 0 0 0 0 0 (2 ^ 16), .ringModifyAttributes badD 0 0 0 0 0 0 0 0 0 0,
   .ringModifyAttributes okD (2 ^ 16) 0 0 0 0 0 0 0 0 0, .ringModifyAttributes okD 0 256 0 0 0 0 0 0 0 0,
   .ringModifyAttributes okD 0 0 (2 ^ 16) 0 0 0 0 0 0 0, .ringModifyAttributes okD 0 0 0 256 0 0 0 0 0 0,
   .ringModifyAttributes okD 0 0 0 0 256 0 0 0 0 0, .ringModifyAttributes okD 0 0 0 0 0 (2 ^ 16) 0 0 0 0,
   .ringModifyAttributes okD 0 0 0 0 0 0 256 0 0 0, .ringModifyAttributes okD 0 0 0 0 0 0 0 (2 ^ 16) 0 0,
   .ringModifyAttributes okD 0 0 0 0 0 0 0 0 (2 ^ 16) 0, .ringModifyAttributes okD 0 0 0 0 0 0 0 0 0 (2 ^ 16), .fence badD 0,
   .fence okD 256, .doorbellWrite 96 0 0 0 0, .doorbellWrite 0 2 0 0 0, .doorbellPoll (2 ^ 16) 0, .descriptorFetch 8 [],
   .completionWrite (2 ^ 16), .coalesceTimerExpiry (2 ^ 16), .ringDmaError (2 ^ 16) false, .ringDmaPortLost (2 ^ 16) false false,
   .sluDbGrantWrite badP 0 0, .sluDbGrantWrite .mctp 128 0, .sluAdminEnable badP 0, .sluAdminDisable badP 0, .ctxCreate badD 0 0 0 0 0 0 0,
   .ctxCreate okD (2 ^ 32) 0 0 0 0 0 0, .ctxCreate okD 0 (2 ^ 16) 0 0 0 0 0, .ctxCreate okD 0 0 (2 ^ 16) 0 0 0 0,
   .ctxCreate okD 0 0 0 256 0 0 0, .ctxCreate okD 0 0 0 0 256 0 0, .ctxCreate okD 0 0 0 0 0 (2 ^ 32) 0,
   .ctxCreate okD 0 0 0 0 0 0 (2 ^ 16), .ctxBindPortBind badD 0 0, .ctxBindPortBind okD (2 ^ 32) 0, .ctxBindPortBind okD 0 256,
   .ctxBindPortUnbind badD 0 0, .ctxBindPortUnbind okD (2 ^ 32) 0, .ctxBindPortUnbind okD 0 256, .ctxActivate badD 0,
   .ctxActivate okD (2 ^ 32), .ctxDrain badD 0, .ctxDrain okD (2 ^ 32), .ctxFreeze badD 0, .ctxFreeze okD (2 ^ 32), .ctxThaw badD 0,
   .ctxThaw okD (2 ^ 32), .ctxRelease badD 0, .ctxRelease okD (2 ^ 32), .ctxQuery badD 0 0, .ctxQuery okD (2 ^ 32) 0,
   .ctxQuery okD 0 (2 ^ 64), .extMap badD 0 0 0 0 0, .extMap okD (2 ^ 32) 0 0 0 0, .extMap okD 0 (2 ^ 32) 0 0 0,
   .extMap okD 0 0 (2 ^ 32) 0 0, .extMap okD 0 0 0 (2 ^ 32) 0, .extMap okD 0 0 0 0 (2 ^ 32), .extUnmap badD 0 0 0,
   .extUnmap okD (2 ^ 32) 0 0, .extUnmap okD 0 (2 ^ 32) 0, .extUnmap okD 0 0 (2 ^ 32), .extMigrate badD 0 0 0 0,
   .extMigrate okD (2 ^ 32) 0 0 0, .extMigrate okD 0 (2 ^ 32) 0 0, .extMigrate okD 0 0 (2 ^ 32) 0, .extMigrate okD 0 0 0 (2 ^ 32),
   .extQuery badD 0 0 0 0, .extQuery okD (2 ^ 32) 0 0 0, .extQuery okD 0 (2 ^ 32) 0 0, .extQuery okD 0 0 (2 ^ 32) 0,
   .extQuery okD 0 0 0 (2 ^ 64), .keyCreate badD 0, .keyCreate okD (2 ^ 16), .keyRetire badD 0, .keyRetire okD (2 ^ 16),
   .classSet badD 0 0 0 0 0 0 0 0 0 0 0, .classSet okD 256 0 0 0 0 0 0 0 0 0 0, .classSet okD 0 256 0 0 0 0 0 0 0 0 0] : List Instr), wellFormed c = false := by decide +kernel
/-- For each check of a command an operand just past its range, the others in range (part 5). -/
theorem test_ill_formed_5 : ∀ c ∈ (
  [.classSet okD 0 0 256 0 0 0 0 0 0 0 0, .classSet okD 0 0 0 256 0 0 0 0 0 0 0, .classSet okD 0 0 0 0 (2 ^ 16) 0 0 0 0 0 0,
   .classSet okD 0 0 0 0 0 (2 ^ 16) 0 0 0 0 0, .classSet okD 0 0 0 0 0 0 (2 ^ 16) 0 0 0 0, .classSet okD 0 0 0 0 0 0 0 256 0 0 0,
   .classSet okD 0 0 0 0 0 0 0 0 256 0 0, .classSet okD 0 0 0 0 0 0 0 0 0 256 0, .classSet okD 0 0 0 0 0 0 0 0 0 0 256,
   .classQuery badD 0 0, .classQuery okD 256 0, .classQuery okD 0 (2 ^ 64), .ctxSetClass badD 0 0, .ctxSetClass okD (2 ^ 32) 0,
   .ctxSetClass okD 0 256, .copy badD 0 0 0 0 0 0 0, .copy okD 256 0 0 0 0 0 0, .copy okD 0 256 0 0 0 0 0, .copy okD 0 0 (2 ^ 32) 0 0 0 0,
   .copy okD 0 0 0 (2 ^ 32) 0 0 0, .copy okD 0 0 0 0 (2 ^ 64) 0 0, .copy okD 0 0 0 0 0 (2 ^ 64) 0, .copy okD 0 0 0 0 0 0 (2 ^ 64),
   .zero badD 0 0 0, .zero okD (2 ^ 32) 0 0, .zero okD 0 (2 ^ 64) 0, .zero okD 0 0 (2 ^ 64), .crcRange badD 0 0 0 0 0 0 0 0,
   .crcRange okD (2 ^ 32) 0 0 0 0 0 0 0, .crcRange okD 0 (2 ^ 64) 0 0 0 0 0 0, .crcRange okD 0 0 (2 ^ 64) 0 0 0 0 0,
   .crcRange okD 0 0 0 (2 ^ 64) 0 0 0 0, .crcRange okD 0 0 0 0 (2 ^ 64) 0 0 0, .crcRange okD 0 0 0 0 0 (2 ^ 64) 0 0,
   .crcRange okD 0 0 0 0 0 0 256 0, .crcRange okD 0 0 0 0 0 0 0 256, .scrubRange badD 0 0 0 0 0 0 0 0, .scrubRange okD 256 0 0 0 0 0 0 0,
   .scrubRange okD 0 256 0 0 0 0 0 0, .scrubRange okD 0 0 256 0 0 0 0 0, .scrubRange okD 0 0 0 (2 ^ 32) 0 0 0 0,
   .scrubRange okD 0 0 0 0 (2 ^ 32) 0 0 0, .scrubRange okD 0 0 0 0 0 (2 ^ 32) 0 0, .scrubRange okD 0 0 0 0 0 0 (2 ^ 64) 0,
   .scrubRange okD 0 0 0 0 0 0 0 (2 ^ 64), .promote badD 0 0 0, .promote okD (2 ^ 32) 0 0, .promote okD 0 (2 ^ 32) 0,
   .promote okD 0 0 (2 ^ 32), .demote badD 0 0 0, .demote okD (2 ^ 32) 0 0, .demote okD 0 (2 ^ 32) 0, .demote okD 0 0 (2 ^ 32),
   .heatReport badD 0 0 0, .heatReport okD (2 ^ 32) 0 0, .heatReport okD 0 (2 ^ 32) 0, .heatReport okD 0 0 (2 ^ 64), .pieceStart 8 0,
   .pieceStart 0 16, .pieceEnd 8 0 [] [] false, .pieceEnd 0 16 [] [] false, .pieceQueuedWhenRoom 8, .jetWatchdog 8 0, .jetWatchdog 0 16,
   .jetClockGate 8 0, .jetClockGate 0 16, .jetWake 8 0, .jetWake 0 16, .jetSramUncorrectable 8 0, .jetSramUncorrectable 0 16,
   .jetFirmwareReload 8 0, .jetFirmwareReload 0 16, .cvuTestWrite badP 0 0, .cvuTestWrite .mctp 8 0, .jetCvuDataWrite badP 0 0,
   .jetCvuDataWrite .mctp 8 0, .jetCvuValWrite badP 0 0, .jetCvuValWrite .mctp 8 0, .meterSnapshot badD 0 0 0 0 0,
   .meterSnapshot okD (2 ^ 32) 0 0 0 0] : List Instr), wellFormed c = false := by decide +kernel
/-- For each check of a command an operand just past its range, the others in range (part 6). -/
theorem test_ill_formed_6 : ∀ c ∈ (
  [.meterSnapshot okD 0 256 0 0 0, .meterSnapshot okD 0 0 (2 ^ 32) 0 0, .meterSnapshot okD 0 0 0 (2 ^ 32) 0,
   .meterSnapshot okD 0 0 0 0 (2 ^ 64), .meterSeal badD 0 0, .meterSeal okD (2 ^ 32) 0, .meterSeal okD 0 (2 ^ 64), .meterConfig badD 0 0 0,
   .meterConfig okD (2 ^ 16) 0 0, .meterConfig okD 0 256 0, .meterConfig okD 0 0 256, .localFoldEnd 8, .rollUpFrame 0 0 (2 ^ 18) [],
   .meterSealTimeout badD, .poolJoin badD 0 0 0, .poolJoin okD (2 ^ 32) 0 0, .poolJoin okD 0 256 0, .poolJoin okD 0 0 256,
   .poolLeave badD 0, .poolLeave okD 256, .leaseGrant badD 0 0 0, .leaseGrant okD 256 0 0, .leaseGrant okD 0 256 0,
   .leaseGrant okD 0 0 (2 ^ 32), .leaseReturn badD 0, .leaseReturn okD (2 ^ 32), .managerHandover badD 0, .managerHandover okD 256,
   .rilForm badP 0, .joinFrame 256 0 0 0 0, .joinFrame 0 0 (2 ^ 32) 0 0, .joinFrame 0 0 0 16 0, .joinFrame 0 0 0 0 4,
   .leaseRequestFrame 0 0 16 0 0, .leaseRequestFrame 0 0 0 8 0, .leaseClaimAtOwner 0 0 8 0 0, .leaseClaimAtOwner 0 0 0 0 16,
   .extentReturnFrame 0 0 (2 ^ 28), .heartbeatReceive 2 0 0 0 0 0 0, .heartbeatReceive 0 0 16 0 0 0 0,
   .heartbeatReceive 0 0 0 (2 ^ 16) 0 0 0, .heartbeatReceive 0 0 0 0 (2 ^ 32) 0 0, .heartbeatReceive 0 0 0 0 0 4 0, .heartbeatTimeout 16,
   .handoverFrame 0 (2 ^ 16), .rillFrameReceive 2 false 0 0 0 0 0 0 [], .rillFrameReceive 0 false 256 0 0 0 0 0 [],
   .rillFrameReceive 0 false 0 16 0 0 0 0 [], .rillFrameReceive 0 false 0 0 256 0 0 0 [], .rillFrameReceive 0 false 0 0 0 (2 ^ 16) 0 0 [],
   .rillFrameReceive 0 false 0 0 0 0 16 0 [], .rillFrameReceive 0 false 0 0 0 0 0 (2 ^ 16) [], .rillResend (2 ^ 16),
   .rillFrameUnacknowledged (2 ^ 16), .rillTickMark 0 2, .rillInputDown 2, .rillInputUp 2 false, .rilLoopCtlWrite badP 0,
   .remoteAnswerTimeout badD, .fieldSelfTest 8 [] 0 0, .run badP 0 0, .run .mctp 8 0, .fieldSelfTestDeferredStart 8, .guardBandWindow 8 [],
   .relayCommandParityError 8 0 0, .relayCommandParityError 0 16 0, .relayCommandParityError 0 0 8, .coilSpareReplace 8 0 0 0 0,
   .coilSpareReplace 0 16 0 0 0, .coilSpareReplace 0 0 8 0 0, .coilSpareReplace 0 0 0 4 0, .coilSpareReplace 0 0 0 0 82,
   .runnelNarrow 8 0 0 0 0, .runnelNarrow 0 16 0 0 0, .runnelNarrow 0 0 8 0 0, .runnelNarrow 0 0 0 4 0, .runnelNarrow 0 0 0 0 82,
   .sliceFlush 8 0, .sliceFlush 0 16, .runnelLost 8 0 0 0 0] : List Instr), wellFormed c = false := by decide +kernel
/-- For each check of a command an operand just past its range, the others in range (part 7). -/
theorem test_ill_formed_7 : ∀ c ∈ (
  [.runnelLost 0 16 0 0 0, .runnelLost 0 0 8 0 0, .runnelLost 0 0 0 4 0, .runnelLost 0 0 0 0 82, .basinRowRepair 8 0 0 0,
   .basinRowRepair 0 16 0 0, .basinRowRepair 0 0 8 0, .basinRowRepair 0 0 0 (2 ^ 17), .spareExtentRemap 8 0, .spareExtentRemap 0 (2 ^ 20),
   .repairFuseWrite 8 [], .eventFetch badD 0 0, .eventFetch okD (2 ^ 16) 0, .eventFetch okD 0 (2 ^ 64), .eventAck badD 0,
   .eventAck okD (2 ^ 32), .tierSleep badD 0 0, .tierSleep okD 256 0, .tierSleep okD 0 256, .tierWake badD 0, .tierWake okD 256,
   .oppointSet badD 0 0 0, .oppointSet okD 256 0 0, .oppointSet okD 0 256 0, .oppointSet okD 0 0 256, .fwStage badD 0 0 0 false none false,
   .fwStage okD (2 ^ 64) 0 0 false none false, .fwStage okD 0 (2 ^ 32) 0 false none false, .fwStage okD 0 0 (2 ^ 32) false none false,
   .fwActivate badD 0, .fwActivate okD 256, .fwCommit badD [], .fuseRead (2 ^ 10), .fuseRepair 8 [], .keyMake (2 ^ 12), .keyZero (2 ^ 12),
   .linkKeys 8 0 false 0, .linkKeys 0 16 false 0, .slotErase 64, .gateBusyRetry 15, .mgtReset badP 0, .setEndpointId badM 0,
   .setEndpointId okM 256, .getEndpointId badM, .getEndpointUuid badM, .getMctpVersionSupport badM 0, .getMctpVersionSupport okM 256,
   .getMessageTypeSupport badM, .gettid badM, .settid badM 0, .settid okM 256, .getpldmversion badM 0, .getpldmversion okM 256,
   .getpldmtypes badM, .getpldmcommands badM 0, .getpldmcommands okM 256, .getpdr badM 0, .getsensorreading badM 0,
   .getstatesensorreadings badM 0, .seteventreceiver badM 0, .seteventreceiver okM 256, .requestupdate badM,
   .pldmFirmwareTransfer badM 0 0 false none false, .activatefirmware badM, .getFirmwareParameters badM, .getVersion badM,
   .getCapabilities badM, .negotiateAlgorithms badM false, .getDigests badM, .getCertificate badM 0 0 0, .getCertificate okM 8 0 0,
   .challenge badM 0 0, .challenge okM 8 0, .getMeasurements badM 0 false 0, .calExport badM 0 0, .calImport badM 0 [] false,
   .logRead badM 0 0, .fwCommitVendor badM [], .thermalRestart badM, .regRead badM 0] : List Instr), wellFormed c = false := by decide +kernel
/-- For each check of a command an operand just past its range, the others in range (part 8). -/
theorem test_ill_formed_8 : ∀ c ∈ (
  [.regWrite badM 0 0, .sectorRetire 5120 false, .wakeCause 3, .t1IdleExpiry 8, .t2IdleExpiry 8, .tierT2Entry 8, .tierT2Wake 8 0,
   .t2UpdateLogFull 8, .tierT3Entry 8, .tierT3Exit 8 0 noRestart, .tierPllLockFail 8, .pwrTierCtlGo badP 0, .p4Req badP 0,
   .sensorSample 8 [], .thermalLadderTest 8, .tripComparator 8 0, .tripComparator 0 16, .otpWrite 3, .genSecret 3, .advance 3,
   .dmi 128 0 0, .dmi 0 0 4, .bypass 256, .relock badP 0, .hartHalt 256 false, .hartResume 256, .hartSingleStep 256,
   .accessRegister 256 0 false 0, .accessRegister 0 (2 ^ 16) false 0, .triggerMatch 256 0 false, .triggerMatch 0 4 false,
   .systemBusAccess (2 ^ 32) false 0 0, .railOutOfBand 9 false, .tierReset badP 0 0 [], .portDieReset badP 0 0 [], .engineDieReset badP 0,
   .portDieReturn 8 noRestart, .engineDieReturn 8 noRestart, .dieResetHoldExpiry 8, .cisternDeclaredLost 8] : List Instr), wellFormed c = false := by decide +kernel
theorem test_ill_formed_descriptor : DescRef.wf { ring := 2 ^ 16 } = false ∧ DescRef.wf { index := 2 ^ 16 } = false ∧ DescRef.wf okD = true ∧
    Path.wf (.control 95) = true := by decide +kernel

end Sys2Proof.Tests
end

/-! Register accesses (R9-R13, R370, R470-R477): what a write leaves in a register bit by bit, what the arbiter's writes and
reads do case by case, and the read latch of each path. -/

namespace Sys2Proof.Machine

open Sys2Proof.Safety

/-! ### Access types (R10) -/

/-- No bit of the register has two of the access types RW, RWL, W1C and W1S. -/
def RegRow.typesDisjoint (r : RegRow) : Bool :=
  r.rw &&& r.rwl = 0 && r.rw &&& r.w1c = 0 && r.rw &&& r.w1s = 0 && r.rwl &&& r.w1c = 0 && r.rwl &&& r.w1s = 0 &&
  r.w1c &&& r.w1s = 0

theorem regRows_typesDisjoint : ∀ r ∈ regRows, r.typesDisjoint = true := by decide +kernel

/-- A bit in one of two disjoint masks is not in the other. -/
theorem getLsbD_eq_false_of_disjoint {a b : DWord} (h : a &&& b = 0) {i : Nat} (ha : a.getLsbD i = true) :
    b.getLsbD i = false := by
  have hi := congrArg (BitVec.getLsbD · i) h
  simpa [ha] using hi

theorem RegRow.written_getLsbD (r : RegRow) (locked : Bool) (old v : DWord) (i : Nat) :
    (r.written locked old v).getLsbD i =
      ((bif r.rw.getLsbD i || (!locked && r.rwl.getLsbD i) then v.getLsbD i else old.getLsbD i) &&
        !(v.getLsbD i && r.w1c.getLsbD i) || (v.getLsbD i && r.w1s.getLsbD i)) := by
  by_cases hi : i < 64
  · cases locked <;> cases hw : r.rw[i] <;> cases hl : r.rwl[i] <;> simp [RegRow.written, hi, hw, hl]
  · have out (x : DWord) : x.getLsbD i = false := BitVec.getLsbD_of_ge x i (by omega)
    simp [out]

/-- Each bit of a register after a write, by its access type. -/
theorem RegRow.written_bit {r : RegRow} (hr : r ∈ regRows) (locked : Bool) (old v : DWord) (i : Nat) :
    let b := (r.written locked old v).getLsbD i
    (r.rw.getLsbD i = true → b = v.getLsbD i) ∧
    (r.rwl.getLsbD i = true → b = if locked then old.getLsbD i else v.getLsbD i) ∧
    (r.w1c.getLsbD i = true → b = (old.getLsbD i && !v.getLsbD i)) ∧
    (r.w1s.getLsbD i = true → b = (old.getLsbD i || v.getLsbD i)) ∧
    (r.rw.getLsbD i = false → r.rwl.getLsbD i = false → r.w1c.getLsbD i = false → r.w1s.getLsbD i = false →
      b = old.getLsbD i) := by
  have hd := regRows_typesDisjoint r hr
  simp only [RegRow.typesDisjoint, Bool.and_eq_true, decide_eq_true_eq] at hd
  obtain ⟨⟨⟨⟨⟨rw_rwl, rw_w1c⟩, rw_w1s⟩, rwl_w1c⟩, rwl_w1s⟩, w1c_w1s⟩ := hd
  have flip {a b : DWord} (h : a &&& b = 0) : b &&& a = 0 := by rwa [BitVec.and_comm]
  simp only [RegRow.written_getLsbD]
  refine ⟨fun h => ?rw, fun h => ?rwl, fun h => ?w1c, fun h => ?w1s, fun h₁ h₂ h₃ h₄ => ?other⟩
  case rw => simp [h, getLsbD_eq_false_of_disjoint rw_w1c h, getLsbD_eq_false_of_disjoint rw_w1s h]
  case rwl =>
    cases locked <;> simp [h, getLsbD_eq_false_of_disjoint (flip rw_rwl) h, getLsbD_eq_false_of_disjoint rwl_w1c h,
      getLsbD_eq_false_of_disjoint rwl_w1s h]
  case w1c =>
    simp [h, getLsbD_eq_false_of_disjoint (flip rw_w1c) h, getLsbD_eq_false_of_disjoint (flip rwl_w1c) h,
      getLsbD_eq_false_of_disjoint w1c_w1s h]
  case w1s =>
    simp [h, getLsbD_eq_false_of_disjoint (flip rw_w1s) h, getLsbD_eq_false_of_disjoint (flip rwl_w1s) h,
      getLsbD_eq_false_of_disjoint (flip w1c_w1s) h]
  case other => simp [h₁, h₂, h₃, h₄]

/-! ### Writes of one word (R10, R473, R474, R477) -/

theorem State.regOf_of_writable {path : Path} {o : Nat} {s : State} (h : Writable path o s) : s.regOf o = regAt o := by
  have absent : ¬(0x100000 ≤ o ∧ s.nTiers ≤ o / 0x100000 - 1) := by have := h.present; omega
  simp [State.regOf, absent]

theorem exec_registerWrite_of_open {path : Path} {o : Nat} {s : State} (v : Word) (hp : s.pathOpen path = true)
    (ha : o % 4 = 0) : exec (.registerWrite path o v) s = .next (writeReg path o v s) := by
  simp [exec, execRegisterWrite, pathWrite, hp, ha]

theorem exec_registerWrite_of_closed {path : Path} {s : State} (o : Nat) (v : Word) (hp : s.pathOpen path = false) :
    exec (.registerWrite path o v) s = .next s := by
  simp [exec, execRegisterWrite, pathWrite, hp]

theorem writeReg_of_unmapped {o : Nat} {s : State} (path : Path) (v : Word) (h : s.regOf o = none) :
    writeReg path o v s = s := by
  simp [writeReg, h]

theorem writeReg_of_down {o : Nat} {s : State} (path : Path) (v : Word) (h : s.blockDown o = true) :
    Reports s (writeReg path o v s) := by
  cases hr : s.regOf o with
  | none => rw [writeReg_of_unmapped path v hr]; exact Reports.refl s
  | some e => simpa [writeReg, hr, h] using noteIgnored_reports s

theorem writeReg_of_narrow {o lo : Nat} {r : RegRow} {s : State} (path : Path) (v : Word) (hr : s.regOf o = some (r, lo))
    (hup : s.blockDown o = false) (hw : r.wide = false) : writeReg path o v s = storeReg path r lo (v.zeroExtend 64) s := by
  simp [writeReg, hr, hup, hw]

/-- A write whose register Table REG-2 does not map, or whose tier is absent, is ignored on every path. -/
theorem exec_registerWrite_of_unmapped {o : Nat} {s : State} (path : Path) (v : Word) (h : s.regOf o = none) :
    exec (.registerWrite path o v) s = .next s := by
  simp [exec, execRegisterWrite, pathWrite, writeReg_of_unmapped path v h]

theorem completes_registerWrite_of_down {o : Nat} {s : State} (path : Path) (v : Word) (h : s.blockDown o = true) :
    Completes (.registerWrite path o v) s (fun t => Reports s t) := by
  refine ⟨_, rfl, ?_⟩
  split
  · exact writeReg_of_down path v h
  · exact Reports.refl s

/-- Registers of one word whose write has no effect beyond their fields. -/
def plainRegs : List Nat :=
  [0x18, 0x8018, 0x10100, 0x20000, 0x20004, 0x20014, 0x30000, 0x30004, 0x40000, 0x5002C, 0x60004, 0x70004, 0x70008,
    0x80000, 0x90004, 0x9000C, 0x90018]

theorem plainRegs_aligned : ∀ o ∈ plainRegs, o % 4 = 0 := by decide

theorem plainRegs_narrow : ∀ o ∈ plainRegs, (regAt o).all (fun e => !e.1.wide) = true := by decide +kernel

theorem pkgWritten_of_plain {o : Nat} (ho : o ∈ plainRegs) (path : Path) (v old new : DWord) (s : State) :
    pkgWritten path o v old new s = s.setReg o new := by
  fin_cases ho <;> rfl

theorem storeReg_of_plain {o : Nat} (ho : o ∈ plainRegs) (path : Path) (r : RegRow) (v : DWord) (s : State) :
    storeReg path r o v s =
      (if r.lockHit s.locked (s.reg o) v then noteLocked s else s).setReg o (r.written s.locked (s.reg o) v) := by
  have selector : ∀ o ∈ plainRegs, ¬(o = 0x70028 ∨ o = 0x3000C ∨ o = 0x50018 ∨ o = 0x10118) := by decide
  have pkg : ∀ o ∈ plainRegs, o < 0x100000 ∧ o % 0x100000 ≠ 0x44000 := by decide
  simp [storeReg, selector o ho, pkg o ho, pkgWritten_of_plain ho, or_assoc]

theorem onlyRegs_setReg (s : State) (o : Nat) (v : DWord) : OnlyRegs (· = o) s (s.setReg o v) :=
  ⟨rfl, fun _ h => State.reg_setReg_ne s v h⟩

theorem completes_registerWrite_of_plain {o : Nat} {r : RegRow} {path : Path} {s : State} (v : Word) (ho : o ∈ plainRegs)
    (hr : regAt o = some (r, o)) (h : Writable path o s) :
    Completes (.registerWrite path o v) s (fun t =>
      (faultReg o = false → t.reg o = r.written s.locked (s.reg o) (v.zeroExtend 64)) ∧
      (∀ q, q ≠ o → faultReg q = false → t.reg q = s.reg q) ∧
      (r.lockHit s.locked (s.reg o) (v.zeroExtend 64) = false → OnlyRegs (· = o) s t)) := by
  have narrow : r.wide = false := by simpa [hr] using plainRegs_narrow o ho
  refine ⟨_, exec_registerWrite_of_open v h.opened (plainRegs_aligned o ho), ?_⟩
  rw [writeReg_of_narrow path v (State.regOf_of_writable h ▸ hr) h.up narrow, storeReg_of_plain ho]
  refine ⟨fun _ => State.reg_setReg_same _ _ _, fun q hq hf => ?_, fun hit => ?_⟩
  · have noted : Reports s (if r.lockHit s.locked (s.reg o) (v.zeroExtend 64) then noteLocked s else s) :=
      Reports.opt _ (noteLocked_reports s)
    exact (State.reg_setReg_ne _ _ hq).trans (noted.regs q hf)
  · rw [if_neg (by simp [hit])]
    exact onlyRegs_setReg s o _

/-! ### Reads and the read latch (R12, R472) -/

@[simp] theorem State.path_emit (s : State) (x : Output) (p : Nat) : (s.emit x).path p = s.path p := rfl

/-- What a path's latch gives for the high word of the register at `lo`. -/
def PathState.latched (p : PathState) (lo : Nat) : Word :=
  match p.latch with
  | some (l, w) => if l = lo then w else 0
  | none => 0

theorem PathState.latched_of_latch {p : PathState} {lo : Nat} {w : Word} (h : p.latch = some (lo, w)) :
    p.latched lo = w := by
  simp [PathState.latched, h]

theorem PathState.latched_of_other {p : PathState} {lo : Nat} (h : ∀ w, p.latch ≠ some (lo, w)) : p.latched lo = 0 := by
  unfold PathState.latched
  split
  · next l w hl => exact if_neg (by rintro rfl; exact h w hl)
  · rfl

theorem exec_registerReadLatch_of_open {path : Path} {o : Nat} {s : State} (hp : s.pathOpen path = true) (ha : o % 4 = 0) :
    exec (.registerReadLatch path o) s = .next ((readReg path o s).2.emit (.regValue path (readReg path o s).1)) := by
  simp [exec, execRegisterReadLatch, hp, ha]

/-- What a read over a path shows of the register at `lo`, its words not yet parted. -/
def State.shownOver (s : State) (path : Path) (lo : Nat) : Nat :=
  s.regShown (s.path (pathNum path)) ((Config.freeWord s.fresh).getLsbD 0) lo

theorem readReg_of_unmapped {o : Nat} {s : State} (path : Path) (h : s.regOf o = none) : readReg path o s = (0, s) := by
  simp [readReg, h]

theorem readReg_of_narrow {o lo : Nat} {r : RegRow} {s : State} (path : Path) (hr : s.regOf o = some (r, lo))
    (hw : r.wide = false) (hup : s.blockDown o = false) (hlo : lo ≠ 0x20030) :
    readReg path o s = (BitVec.ofNat 32 (s.shownOver path lo), s) := by
  simp [readReg, State.shownOver, hr, hw, hup, hlo]

/-- The low word of a wide register, and the path's latch loaded with the high one. The read of PWR_CLK_RUN draws a free value. -/
theorem readReg_of_low {o : Nat} {r : RegRow} {s : State} (path : Path) (hr : s.regOf o = some (r, o))
    (hw : r.wide = true) (hup : s.blockDown o = false) :
    readReg path o s = (BitVec.ofNat 32 (s.shownOver path o),
      (if o = 0x20030 then s.drawn else s).setPath (pathNum path)
        { s.path (pathNum path) with latch := some (o, BitVec.ofNat 32 (s.shownOver path o / 2 ^ 32)) }) := by
  simp [readReg, State.shownOver, hr, hw, hup]

/-- The high word of a wide register comes from the latch, and the read changes nothing. -/
theorem readReg_of_high {o lo : Nat} {r : RegRow} {s : State} (path : Path) (hr : s.regOf o = some (r, lo))
    (hw : r.wide = true) (ho : o ≠ lo) :
    readReg path o s = (if s.blockDown o then 0 else (s.path (pathNum path)).latched lo, s) := by
  simp only [readReg, hr, hw, ho, PathState.latched]
  cases s.blockDown o <;> cases (s.path (pathNum path)).latch <;> simp

/-! ### What a read over one path leaves to the others -/

/-- `t` differs from `s` at most in the state of path `p`, the free values drawn and what was put out. -/
structure PathOnly (p : Nat) (s t : State) : Prop where
  frame : t = { s with paths := t.paths, fresh := t.fresh, out := t.out }
  others : ∀ q, q ≠ p → t.path q = s.path q

theorem PathOnly.refl (p : Nat) (s : State) : PathOnly p s s := ⟨rfl, fun _ _ => rfl⟩

theorem PathOnly.trans {p : Nat} {s t u : State} (h : PathOnly p s t) (k : PathOnly p t u) : PathOnly p s u := by
  refine ⟨?_, fun q hq => (k.others q hq).trans (h.others q hq)⟩
  have e := k.frame
  rw [h.frame] at e
  exact e

theorem PathOnly.emit (p : Nat) (s : State) (x : Output) : PathOnly p s (s.emit x) := ⟨rfl, fun _ _ => rfl⟩

theorem PathOnly.drawn (p : Nat) (s : State) : PathOnly p s s.drawn := ⟨rfl, fun _ _ => rfl⟩

theorem PathOnly.setPath (p : Nat) (s : State) (v : PathState) : PathOnly p s (s.setPath p v) :=
  ⟨rfl, fun _ hq => Sparse.get_set_ne _ _ _ hq⟩

theorem PathOnly.pathOpen {p : Nat} {s t : State} (h : PathOnly p s t) (path : Path) : t.pathOpen path = s.pathOpen path := by
  rw [h.frame]; rfl

theorem PathOnly.blockDown {p : Nat} {s t : State} (h : PathOnly p s t) (o : Nat) : t.blockDown o = s.blockDown o := by
  rw [h.frame]; rfl

theorem PathOnly.regOf {p : Nat} {s t : State} (h : PathOnly p s t) (o : Nat) : t.regOf o = s.regOf o := by
  rw [h.frame]; rfl

theorem readReg_pathOnly (path : Path) (o : Nat) (s : State) : PathOnly (pathNum path) s (readReg path o s).2 := by
  have drew (c : Bool) : PathOnly (pathNum path) s (if c then s.drawn else s) := by
    cases c
    · exact PathOnly.refl _ s
    · exact PathOnly.drawn _ s
  cases hr : s.regOf o with
  | none => rw [readReg_of_unmapped path hr]; exact PathOnly.refl _ s
  | some e =>
    obtain ⟨r, lo⟩ := e
    simp only [readReg, hr]
    split
    · exact drew _
    · split
      · exact (drew _).trans (PathOnly.setPath _ _ _)
      · split
        · exact drew _
        · split <;> exact drew _

theorem exec_registerReadLatch_pathOnly (path : Path) (o : Nat) (s : State) :
    ∃ t, exec (.registerReadLatch path o) s = .next t ∧ PathOnly (pathNum path) s t := by
  refine ⟨_, rfl, ?_⟩
  split
  · exact (readReg_pathOnly path o s).trans (PathOnly.emit _ _ _)
  · exact PathOnly.refl _ s

/-! ### Two reads of a 64-bit register over one path (R12, R472) -/

theorem ofNat_truncate_low (n : Nat) : (BitVec.ofNat 64 n).truncate 32 = BitVec.ofNat 32 n := by
  apply BitVec.eq_of_toNat_eq
  simp

theorem ofNat_extract_high (n : Nat) : (BitVec.ofNat 64 n).extractLsb' 32 32 = BitVec.ofNat 32 (n / 2 ^ 32) := by
  apply BitVec.eq_of_toNat_eq
  simp only [BitVec.extractLsb'_toNat, BitVec.toNat_ofNat, Nat.shiftRight_eq_div_pow]
  omega

/-- The low-word read puts the register's low word out and loads the path's latch with its high word. -/
theorem exec_registerReadLatch_low {path : Path} {o : Nat} {r : RegRow} {s : State} (hr : s.regOf o = some (r, o))
    (hw : r.wide = true) (ha : o % 4 = 0) (hp : s.pathOpen path = true) (hup : s.blockDown o = false) :
    ∃ t, exec (.registerReadLatch path o) s = .next t ∧ PathOnly (pathNum path) s t ∧
      t.out = .regValue path (BitVec.ofNat 32 (s.shownOver path o)) :: s.out ∧
      (t.path (pathNum path)).latch = some (o, BitVec.ofNat 32 (s.shownOver path o / 2 ^ 32)) := by
  have frame := readReg_pathOnly path o s
  rw [readReg_of_low path hr hw hup] at frame
  refine ⟨_, exec_registerReadLatch_of_open hp ha, ?_⟩
  rw [readReg_of_low path hr hw hup]
  refine ⟨frame.trans (PathOnly.emit _ _ _), ?_, ?_⟩
  · by_cases h : o = 0x20030 <;> simp only [h, if_true, if_false] <;> rfl
  · simp

/-- The high-word read puts out what the path's latch holds for the register, and changes nothing else. -/
theorem exec_registerReadLatch_high {path : Path} {o lo : Nat} {r : RegRow} {s : State} (hr : s.regOf o = some (r, lo))
    (hw : r.wide = true) (ho : o ≠ lo) (ha : o % 4 = 0) (hp : s.pathOpen path = true) :
    exec (.registerReadLatch path o) s =
      .next (s.emit (.regValue path (if s.blockDown o then 0 else (s.path (pathNum path)).latched lo))) := by
  rw [exec_registerReadLatch_of_open hp ha, readReg_of_high path hr hw ho]

/-- A read over another path between the two halves does not disturb the latch. -/
theorem readLatch_halves {path other : Path} {o : Nat} (lo : Nat) {r : RegRow} {s : State} (hr : regAt o = some (r, o))
    (hw : r.wide = true) (ha : o % 4 = 0) (low : Writable path o s) (high : Writable path (o + 4) s)
    (hr' : s.regOf (o + 4) = some (r, o)) (hne : pathNum other ≠ pathNum path) :
    ∃ t u x : State, ∃ v : DWord, exec (.registerReadLatch path o) s = .next t ∧
      exec (.registerReadLatch other lo) t = .next u ∧ exec (.registerReadLatch path (o + 4)) u = .next x ∧
      t.out = .regValue path (v.truncate 32) :: s.out ∧ x.out = .regValue path (v.extractLsb' 32 32) :: u.out ∧
      x = { u with out := x.out } ∧ v = BitVec.ofNat 64 (s.shownOver path o) := by
  obtain ⟨t, ht, own, tout, latch⟩ :=
    exec_registerReadLatch_low (State.regOf_of_writable low ▸ hr) hw ha low.opened low.up
  obtain ⟨u, hu, foreign⟩ := exec_registerReadLatch_pathOnly other lo t
  have hread := exec_registerReadLatch_high (path := path) (s := u) (((foreign.regOf _).trans (own.regOf _)).trans hr') hw
    (by omega) (by omega) (((foreign.pathOpen _).trans (own.pathOpen _)).trans low.opened)
  have up : u.blockDown (o + 4) = false := ((foreign.blockDown _).trans (own.blockDown _)).trans high.up
  rw [← foreign.others _ hne.symm] at latch
  rw [up, PathState.latched_of_latch latch] at hread
  refine ⟨t, u, _, _, ht, hu, hread, ?_, ?_, rfl, rfl⟩
  · rw [tout, ofNat_truncate_low]
  · rw [ofNat_extract_high]; rfl

/-- With another register in the latch, or none, the high word reads 0. -/
theorem exec_registerReadLatch_unlatched {path : Path} {o lo : Nat} {r : RegRow} {s : State} (hr : s.regOf o = some (r, lo))
    (hw : r.wide = true) (ho : o ≠ lo) (ha : o % 4 = 0) (hp : s.pathOpen path = true)
    (h : ∀ w, (s.path (pathNum path)).latch ≠ some (lo, w)) :
    exec (.registerReadLatch path o) s = .next (s.emit (.regValue path 0)) := by
  rw [exec_registerReadLatch_high hr hw ho ha hp, PathState.latched_of_other h, ite_self]

theorem exec_registerReadLatch_narrow {path : Path} {o lo : Nat} {r : RegRow} {s : State} (hr : s.regOf o = some (r, lo))
    (hw : r.wide = false) (ha : o % 4 = 0) (hp : s.pathOpen path = true) (hup : s.blockDown o = false) (hlo : lo ≠ 0x20030) :
    exec (.registerReadLatch path o) s = .next (s.emit (.regValue path (BitVec.ofNat 32 (s.shownOver path lo)))) := by
  rw [exec_registerReadLatch_of_open hp ha, readReg_of_narrow path hr hw hup hlo]

theorem exec_registerReadLatch_of_unmapped {path : Path} {o : Nat} {s : State} (hr : s.regOf o = none)
    (hp : s.pathOpen path = true) (ha : o % 4 = 0) :
    exec (.registerReadLatch path o) s = .next (s.emit (.regValue path 0)) := by
  rw [exec_registerReadLatch_of_open hp ha, readReg_of_unmapped path hr]

/-! ### Accesses of another size or alignment (R9, R370) -/

theorem exec_unsupportedRegisterAccess_control {p o size : Nat} {s : State} (w : Bool) (h : size ≠ 4 ∨ o % 4 ≠ 0)
    (hp : s.pathOpen (.control p) = true) :
    exec (.unsupportedRegisterAccess (.control p) o size w) s = .next (s.emit (.unsupported p 0)) := by
  have odd : ¬(size = 4 ∧ o % 4 = 0) := by omega
  simp [exec, execUnsupportedRegisterAccess, hp, odd]

theorem exec_unsupportedRegisterAccess_mctp {o size : Nat} {s : State} (w : Bool) (h : size ≠ 4 ∨ o % 4 ≠ 0)
    (hp : s.pathOpen .mctp = true) :
    exec (.unsupportedRegisterAccess .mctp o size w) s = .next (s.emit (.mctp 0x7E 2 [])) := by
  have odd : ¬(size = 4 ∧ o % 4 = 0) := by omega
  simp [exec, execUnsupportedRegisterAccess, hp, odd]

/-- An error already standing on the system bus stays; else it becomes 4 for another size and 3 for another alignment. -/
theorem exec_unsupportedRegisterAccess_debugBus {o size : Nat} {s : State} (w : Bool) (h : size ≠ 4 ∨ o % 4 ≠ 0)
    (hp : s.pathOpen .debugBus = true) :
    exec (.unsupportedRegisterAccess .debugBus o size w) s = .next (s.dbgSet { s.dbg with
      sberror := if s.dbg.sberror ≠ 0 then s.dbg.sberror else if size ≠ 4 then 4 else 3 }) := by
  have odd : ¬(size = 4 ∧ o % 4 = 0) := by omega
  simp [exec, execUnsupportedRegisterAccess, hp, odd]

theorem completes_unsupportedRegisterAccess_debugBus {o size : Nat} {s : State} (w : Bool) (h : size ≠ 4 ∨ o % 4 ≠ 0)
    (hp : s.pathOpen .debugBus = true) :
    Completes (.unsupportedRegisterAccess .debugBus o size w) s (fun t =>
      t = { s with dbg := t.dbg } ∧ t.dbg = { s.dbg with sberror := t.dbg.sberror } ∧ t.dbg.sberror ≠ 0) := by
  refine ⟨_, exec_unsupportedRegisterAccess_debugBus w h hp, rfl, rfl, ?_⟩
  simp only [State.dbgSet]
  split
  · assumption
  · split <;> decide

/-- Settles O53: the access types from the disjoint masks of every row, the writes from what the arbiter stores, the reads from
the latch each path keeps for itself, and the unsupported accesses path by path. -/
theorem registerAccesses : Obligations.RegisterAccesses := by
  unfold Obligations.RegisterAccesses
  refine ⟨?types, ⟨?plain, ?unmapped, ?down, ?closed⟩, ⟨?halves, ?unlatched, ?narrow, ?nothing⟩, ?unsupported⟩
  case types => exact fun r hr locked old v i => RegRow.written_bit hr locked old v i
  case plain => exact fun path o v r s ho hr h => completes_registerWrite_of_plain v ho hr h
  case unmapped => exact fun path o v s h => exec_registerWrite_of_unmapped path v h
  case down => exact fun path o v s h => completes_registerWrite_of_down path v h
  case closed => exact fun path o v s h => exec_registerWrite_of_closed o v h
  case halves =>
    exact fun path other o lo r s hr hw ha low high hr' hne => readLatch_halves lo hr hw ha low high hr' hne
  case unlatched => exact fun path o lo r s hr hw ho ha hp h => exec_registerReadLatch_unlatched hr hw ho ha hp h
  case narrow => exact fun path o lo r s hr hw ha hp hup hlo => exec_registerReadLatch_narrow hr hw ha hp hup hlo
  case nothing => exact fun path o s hr hp ha => exec_registerReadLatch_of_unmapped hr hp ha
  case unsupported =>
    exact fun o size w s h => ⟨fun p hp => exec_unsupportedRegisterAccess_control w h hp,
      exec_unsupportedRegisterAccess_mctp w h, completes_unsupportedRegisterAccess_debugBus w h⟩

end Sys2Proof.Machine

/-! The context table (R21-R23, R54, R55, R72, R76-R79, R81, R85-R88): how a descriptor starts, is refused and completes, and what
a change that commits at once does to its context's entry and to the tables. -/

namespace Sys2Proof

/-! ### Sparse maps after a filter -/

theorem Sparse.get_default_or_mem {β : Type} (d : Nat → β) (m : Sparse β) (k : Nat) :
    Sparse.get d m k = d k ∨ (k, Sparse.get d m k) ∈ m := by
  induction m with
  | nil => exact .inl rfl
  | cons e m ih =>
    obtain ⟨a, b⟩ := e
    by_cases h : a = k
    · subst h; simp [Sparse.get]
    · simpa [Sparse.get, h, Ne.symm h] using ih

/-- A filter that passes every value of a key leaves what the key reads. -/
theorem Sparse.get_filter_of_pass {β : Type} (d : Nat → β) (m : Sparse β) (p : Nat × β → Bool) (k : Nat)
    (h : ∀ v, p (k, v) = true) : Sparse.get d (m.filter p) k = Sparse.get d m k := by
  induction m with
  | nil => rfl
  | cons e m ih =>
    obtain ⟨a, b⟩ := e
    by_cases hk : a = k
    · subst hk; simp [h, Sparse.get]
    · by_cases hp : p (a, b) = true <;> simp [hp, Sparse.get, hk, ih]

end Sys2Proof

namespace Sys2Proof.Machine

open Sys2Proof.Safety

/-! ### Descriptors: start, refusal, completion (R77, R247) -/

section Descriptors
variable {d : DescRef} {s : State} {f : Fetched}

theorem State.fetchedOf_of_ready {op : Nat} {l : List (Nat × Nat × Nat)} (h : s.ready d op l = some f) :
    s.fetchedOf d = some f := by
  unfold State.ready at h
  split at h
  · cases h
  · next g hg =>
    split at h
    · rw [hg, h]
    · cases h

theorem onReady_of_ready {op : Nat} {l : List (Nat × Nat × Nat)} (h : s.ready d op l = some f) (body : Fetched → State → State) :
    onReady d op l body s = .next (body f s) := by simp [onReady, h]

theorem inState_of_mem {c : Nat} {legal : List CtxState} (hc : c < 2 ^ 18) (h : (s.ctx c).state ∈ legal) (body : State → State) :
    inState d c legal body s = body s := by
  have ok : ctxidOk c = true := by simpa [ctxidOk] using hc
  simp [inState, ok, h]

/-- The completion that `complete` queues for a fetched descriptor. -/
def Fetched.cpl (f : Fetched) (d : DescRef) (status result : Nat) : Cpl :=
  { ring := d.ring, index := d.index, cookie := d.cookie, status := status, quiet := descFlag f.bytes 1, result := result }

theorem complete_of_fetched (h : s.fetchedOf d = some f) {status : Nat} (result : Nat) (hs : status ≠ 0x05) :
    complete d status result s =
      { s with fetched := s.fetched.filter (fun x => x.ref ≠ d), cplQ := s.cplQ ++ [f.cpl d status result] } := by
  simp [complete, h, hs, queueCpl, Fetched.cpl]

theorem complete_ports (d : DescRef) (result : Nat) (s : State) : (complete d 0 result s).ports = s.ports := by
  unfold complete
  split <;> rfl

theorem complete_wrongState_reports (h : s.fetchedOf d = some f) (result : Nat) :
    Reports { s with fetched := s.fetched.filter (fun x => x.ref ≠ d), cplQ := s.cplQ ++ [f.cpl d 0x05 result] }
      (complete d 0x05 result s) := by
  simpa [complete, h, queueCpl, Fetched.cpl] using raiseOpen_reports _ _ _

/-- A completion alone leaves what tenants stored. -/
theorem done_kept_complete (h : s.fetchedOf d = some f) (status result : Nat) :
    Done d status result s (complete d status result s) ∧ Kept s (complete d status result s) := by
  by_cases hs : status = 0x05
  · subst hs
    have e := (complete_wrongState_reports h result).frame
    generalize complete d 0x05 result s = t at e
    rw [e]
    exact ⟨⟨rfl, _, rfl⟩, ⟨rfl, rfl, rfl, rfl, rfl, rfl, rfl, rfl, rfl, rfl⟩⟩
  · rw [complete_of_fetched h result hs]
    exact ⟨⟨rfl, _, rfl⟩, ⟨rfl, rfl, rfl, rfl, rfl, rfl, rfl, rfl, rfl, rfl⟩⟩

theorem refused (h : s.fetchedOf d = some f) (status : Nat) :
    Done d status 0 s (complete d status 0 s) ∧ Kept s (complete d status 0 s) := done_kept_complete h status 0

theorem fetchedOf_startDesc (h : s.fetchedOf d = some f) :
    (startDesc d s).fetchedOf d = some { f with running := true } := by
  have hf : f.ref = d := by simpa using List.find?_some h
  have step (g : Fetched) : decide ((if g.ref = d then { g with running := true } else g).ref = d) = decide (g.ref = d) := by
    split <;> simp_all
  simp only [State.fetchedOf, startDesc, mapFetched, List.find?_map, Function.comp_def, step] at h ⊢
  simp [h, hf]

theorem startDesc_leaves : (startDesc d s).fetched.filter (fun x => x.ref ≠ d) = s.fetched.filter (fun x => x.ref ≠ d) := by
  simp only [startDesc, mapFetched]
  induction s.fetched with
  | nil => rfl
  | cons g l ih => by_cases hg : g.ref = d <;> simp_all

theorem startDesc_ref (h : s.fetchedOf d = some f) : ∃ x ∈ (startDesc d s).fetched, x.ref = d :=
  ⟨_, List.mem_of_find?_eq_some (fetchedOf_startDesc h), by simpa using List.find?_some (fetchedOf_startDesc h)⟩

end Descriptors
end Sys2Proof.Machine

namespace Sys2Proof.Machine
open Sys2Proof.Safety

/-! ### Changes of the context table (R21, R22) -/

/-- `t` differs from `s` at most in what a change keeps beside the tables: the replicas' log, extent time, the meter, list
space, what hosts are offered, lease returns and wakes asked for. -/
structure Books (s t : State) : Prop where
  frame : t = { s with
    updateLog := t.updateLog, extAcc := t.extAcc, extAt := t.extAt, meter := t.meter, listUse := t.listUse, ports := t.ports
    out := t.out, pool := t.pool, wakeReq := t.wakeReq }

theorem Books.refl (s : State) : Books s s := ⟨rfl⟩

theorem Books.trans {s t u : State} (h : Books s t) (k : Books t u) : Books s u := by
  have a := k.frame
  rw [h.frame] at a
  exact ⟨a⟩

theorem Books.ite {s t u : State} {c : Prop} [Decidable c] (h : Books s t) (k : Books s u) : Books s (if c then t else u) := by
  split <;> assumption

theorem Books.forEach {α : Type} (l : List α) (f : α → State → State) (h : ∀ a t, Books t (f a t)) (s : State) :
    Books s (forEach l f s) :=
  forEach_keeps (Books s) l f (fun a t ht => ht.trans (h a t)) s (Books.refl s)

theorem setPort_books (p : Nat) (v : Port) (s : State) : Books s (s.setPort p v) := ⟨rfl⟩
theorem freeList_books (t c : Nat) (s : State) : Books s (freeList t c s) := ⟨rfl⟩
theorem noteReleased_books (c : Nat) (s : State) : Books s (noteReleased c s) := ⟨rfl⟩
theorem queueReturns_books (l : List (Nat × Nat)) (s : State) : Books s (queueReturns l s) := ⟨rfl⟩
theorem wakeForWork_books (t : Nat) (s : State) : Books s (wakeForWork t s) := Books.ite ⟨rfl⟩ ⟨rfl⟩

theorem logReplicas_books (n : Nat) (s : State) : Books s (logReplicas n s) :=
  Books.forEach _ _ (fun _ _ => Books.ite ⟨rfl⟩ ⟨rfl⟩) s

theorem accrue_books (c : Nat) (s : State) : Books s (accrue c s) := by
  unfold accrue
  dsimp only
  split <;> exact ⟨rfl⟩

theorem placeEvent_books (p l : Nat) (r : EventRec) (s : State) : Books s (placeEvent p l r s) := by
  unfold placeEvent
  dsimp only
  repeat' split
  all_goals exact ⟨rfl⟩

theorem offerAdd_books (p i : Nat) (s : State) : Books s (offerAdd p i s) :=
  (setPort_books p _ s).trans (placeEvent_books _ _ _ _)

theorem clearWindow_books (p i : Nat) (s : State) : Books s (clearWindow p i s) := setPort_books p _ s

theorem openWindow_books (c p : Nat) (s : State) : Books s (openWindow c p s) := by
  unfold openWindow
  split
  · exact Books.refl s
  · exact (setPort_books p _ s).trans (offerAdd_books _ _ _)

theorem offerRelease_books (p c : Nat) (s : State) : Books s (offerRelease p c s) := by
  unfold offerRelease
  split
  · exact Books.refl s
  · dsimp only
    split
    · exact Books.ite (Books.refl s) (clearWindow_books _ _ s)
    · split
      · exact (setPort_books p _ s).trans (clearWindow_books _ _ _)
      · exact (setPort_books p _ s).trans (placeEvent_books _ _ _ _)

theorem Books.ctx {s t : State} (h : Books s t) (c : Nat) : t.ctx c = s.ctx c := by rw [h.frame]; rfl
theorem Books.us {s t : State} (h : Books s t) : t.us = s.us := by rw [h.frame]

/-- Context `c`'s entry becomes `x`; beside it only what `Books` names differs. -/
structure Moves (c : Nat) (x : Ctx) (s t : State) : Prop where
  books : Books { s with ctxs := t.ctxs } t
  entry : t.ctx c = x
  others : ∀ y, y ≠ c → t.ctx y = s.ctx y

theorem Books.moves {s t : State} (h : Books s t) (c : Nat) : Moves c (s.ctx c) s t := by
  have e : t.ctxs = s.ctxs := by rw [h.frame]
  exact ⟨by rw [e]; exact h, h.ctx c, fun y _ => h.ctx y⟩

section
variable {c : Nat} {x y : Ctx} {s t u : State}

theorem Moves.trans (h : Moves c x s t) (k : Moves c y t u) : Moves c y s u := by
  refine ⟨⟨?_⟩, k.entry, fun z hz => (k.others z hz).trans (h.others z hz)⟩
  have a := k.books.frame
  rw [h.books.frame] at a
  exact a

/-- What keeps the books leaves the moved entry. -/
theorem Moves.andBooks (h : Moves c x s t) (k : Books t u) : Moves c x s u := by
  have := h.trans (k.moves c)
  rwa [h.entry] at this

theorem Moves.afterBooks (h : Books s t) (k : Moves c x t u) : Moves c x s u := (h.moves c).trans k

theorem Moves.setCtx (c : Nat) (x : Ctx) (s : State) : Moves c x s (s.setCtx c x) :=
  ⟨⟨rfl⟩, s.ctx_setCtx_same c x, fun z hz => by simp [State.ctx_setCtx, hz]⟩

/-- The tables that place and hold what tenants stored. -/
theorem Moves.tables (h : Moves c x s t) :
    t.exts = s.exts ∧ t.alloc = s.alloc ∧ t.valid = s.valid ∧ t.slices = s.slices ∧ t.cistern = s.cistern ∧ t.keys = s.keys := by
  rw [h.books.frame]; exact ⟨rfl, rfl, rfl, rfl, rfl, rfl⟩

end

theorem enterState_moves (c : Nat) (st : CtxState) (s : State) :
    Moves c { s.ctx c with state := st, changed := s.us } s (enterState c st s) := by
  have h := accrue_books c s
  have hc := h.ctx c
  have hu := h.us
  have k := Moves.afterBooks h (Moves.setCtx c { (accrue c s).ctx c with state := st, changed := (accrue c s).us } _)
  rw [hc, hu] at k
  unfold enterState
  dsimp only
  rwa [hc, hu]

theorem dropCopies_moves (c : Nat) (s : State) : ∃ e, Moves c { s.ctx c with extptr := e } s (dropCopies c s) := by
  refine forEach_keeps (fun t => ∃ e, Moves c { s.ctx c with extptr := e } s t) _ _ ?_ s ⟨_, (Books.refl s).moves c⟩
  rintro a t ⟨e, h⟩
  dsimp only
  split
  · rw [h.entry]
    exact ⟨_, (h.andBooks (freeList_books a c t)).trans (Moves.setCtx c _ _)⟩
  · exact ⟨e, h⟩

end Sys2Proof.Machine

namespace Sys2Proof.Machine
open Sys2Proof.Safety

/-! ### A change that commits at once (R21, R22) -/

/-- Descriptor `d` has completed OK with result `r`; beside the buffers and completions, context `c`'s entry has become `x`. -/
structure Ends (d : DescRef) (r c : Nat) (x : Ctx) (s t : State) : Prop where
  done : Done d 0 r s t
  moved : Moves c x s { t with fetched := s.fetched, cplQ := s.cplQ }

section
variable {d : DescRef} {f : Fetched} {c r : Nat} {x : Ctx} {s t u v : State}

theorem change_of_commitsNow {n : Nat} (h : CommitsNow n s) (d : DescRef) (ch : Change) :
    change n (some d) ch s = commitChange (some d) ch (logReplicas ch.writes (startDesc d s)) := by
  have ha : (startDesc d s).acks n = true := h.1
  have hc : (startDesc d s).commits = [] := h.2
  simp [change, ha, hc]

theorem Moves.fetchedOf (h : Moves c x s t) (d : DescRef) : t.fetchedOf d = s.fetchedOf d := by rw [h.books.frame]; rfl

theorem Moves.openMigrations (h : Moves c x s t) (k : Nat) : t.openMigrations k = s.openMigrations k := by
  rw [h.books.frame]; rfl

theorem Moves.frozenHeld (h : Moves c x s t) (k : Nat) : t.frozenHeld k = s.frozenHeld k := by rw [h.books.frame]; rfl

theorem Books.under (h : Books s t) (c : Nat) : t.under c = s.under c := by rw [h.frame]; rfl

theorem under_of_noneUnder (h : NoneUnder c s) : s.under c = ([], []) := by
  obtain ⟨hr, hh⟩ := h
  simp only [State.under, Prod.mk.injEq, List.map_eq_nil_iff, List.filter_eq_nil_iff, Bool.and_eq_true, decide_eq_true_eq,
    Option.isNone_iff_eq_none]
  exact ⟨hr, fun q hq ⟨⟨hp, hn⟩, hc⟩ => hh q hq hp hn hc⟩

/-- A started descriptor that completes after a move of context `c`. -/
theorem ends_complete (hf : s.fetchedOf d = some f) (h : Moves c x (startDesc d s) u) (r : Nat) :
    Ends d r c x s (complete d 0 r u) := by
  have hu := (h.fetchedOf d).trans (fetchedOf_startDesc hf)
  have hfr := h.books.frame
  rw [complete_of_fetched hu r (by decide)]
  refine ⟨⟨?_, descFlag f.bytes 1, ?_⟩, ⟨⟨?_⟩, h.entry, h.others⟩⟩
  · have e : u.fetched = (startDesc d s).fetched := by rw [hfr]
    exact (congrArg (List.filter (fun x => x.ref ≠ d)) e).trans startDesc_leaves
  · have e : u.cplQ = s.cplQ := by rw [hfr]; rfl
    rw [← e]; rfl
  · exact congrArg (fun (w : State) => { w with fetched := s.fetched, cplQ := s.cplQ }) hfr

/-- A change that commits at once, given what its commit does to any state that differs from the start in books alone. -/
theorem change_ends_exists {n : Nat} {ch : Change} (P : Ctx → Prop) (hn : CommitsNow n s) (hf : s.fetchedOf d = some f)
    (hch : ∀ v, Books (startDesc d s) v → ∃ u x, commitChange (some d) ch v = complete d 0 r u ∧ Moves c x v u ∧ P x) :
    ∃ x, Ends d r c x s (change n (some d) ch s) ∧ P x := by
  have start := logReplicas_books ch.writes (startDesc d s)
  obtain ⟨u, x, hu, hm, hx⟩ := hch _ start
  rw [change_of_commitsNow hn, hu]
  exact ⟨x, ends_complete hf (Moves.afterBooks start hm) r, hx⟩

theorem change_ends {n : Nat} {ch : Change} (hn : CommitsNow n s) (hf : s.fetchedOf d = some f)
    (hch : ∀ v, Books (startDesc d s) v → ∃ u, commitChange (some d) ch v = complete d 0 r u ∧ Moves c x v u) :
    Ends d r c x s (change n (some d) ch s) := by
  obtain ⟨_, e, rfl⟩ := change_ends_exists (· = x) hn hf (fun v hv =>
    have ⟨u, hu, hm⟩ := hch v hv
    ⟨u, x, hu, hm, rfl⟩)
  exact e

/-- A reduction of access with no request under the old entry: what follows comes at once. -/
theorem awaitDrain_of_noneUnder (hu : NoneUnder c s) (hv : Books (startDesc d s) v) (next : AfterDrain) (w : State) :
    awaitDrain (some d) (v.under c) next w = finishDrain d next w := by
  have none : v.under c = ([], []) := (hv.under c).trans (under_of_noneUnder hu)
  rw [none]
  simp [awaitDrain, State.left]

end

/-! ### What each change does to its context (Table CTX-5) -/

theorem held_filter_of_frozenHeld_nil {c : Nat} {s : State} (h : s.frozenHeld c = []) :
    s.held.filter (fun r => !(r.why = .frozen && r.ctx = c)) = s.held := by
  rw [List.filter_eq_self]
  intro r hr
  have := List.filter_eq_nil_iff.1 h r hr
  simpa [imp_iff_not_or] using this

theorem thawHeld_of_nil {c : Nat} {s : State} (h : s.frozenHeld c = []) : thawHeld c s = s := by
  unfold thawHeld
  rw [h, held_filter_of_frozenHeld_nil h]
  rfl

theorem drainCtx_moves {c : Nat} {s : State} (hm : s.openMigrations c = []) (hh : s.frozenHeld c = []) :
    Moves c { s.ctx c with state := .draining, changed := s.us } s (drainCtx c s) := by
  have e := enterState_moves c .draining s
  have k := e.andBooks (Books.forEach ((enterState c .draining s).ctx c).portList _ (fun p t => offerRelease_books p c t) _)
  unfold drainCtx
  dsimp only
  rw [held_filter_of_frozenHeld_nil hh, hh, k.openMigrations, hm]
  exact k

/-- The window of a context leaves a port: its release is offered in LIVE, else it is cleared. -/
def leavePort (c p : Nat) (s : State) : State :=
  if (s.ctx c).state = .live then offerRelease p c s
  else match presentWindow (s.port p) c with
    | some (i, _) => clearWindow p i s
    | none => s

theorem leavePort_books (c p : Nat) (s : State) : Books s (leavePort c p s) := by
  refine Books.ite (offerRelease_books p c s) ?_
  split
  · exact clearWindow_books _ _ s
  · exact Books.refl s

theorem unbindPort_eq (c p : Nat) (s : State) :
    unbindPort c p s = dropCopies c ((leavePort c p s).setCtx c (((leavePort c p s).ctx c).setPort p false)) := rfl

theorem unbindPort_moves (c p : Nat) (s : State) :
    ∃ e, Moves c { (s.ctx c).setPort p false with extptr := e } s (unbindPort c p s) := by
  have m := (leavePort_books c p s).moves c
  rw [unbindPort_eq, m.entry]
  obtain ⟨e, k⟩ := dropCopies_moves c ((leavePort c p s).setCtx c ((s.ctx c).setPort p false))
  rw [State.ctx_setCtx_same] at k
  exact ⟨e, (m.trans (Moves.setCtx c _ _)).trans k⟩

/-! ### Port masks -/

theorem getLsbD_ofNat_two_pow (w p q : Nat) :
    (BitVec.ofNat w (2 ^ p)).getLsbD q = (decide (q < w) && decide (p = q)) := by
  rw [BitVec.getLsbD_ofNat, Nat.testBit_two_pow]

theorem Ctx.setPort_true_getLsbD (x : Ctx) {p : Nat} (hp : p < 96) (q : Nat) :
    (x.setPort p true).ports.getLsbD q = (x.ports.getLsbD q || decide (q = p)) := by
  simp only [Ctx.setPort, if_true, BitVec.getLsbD_or, getLsbD_ofNat_two_pow]
  by_cases e : q = p
  · simp [e, hp]
  · simp [e, Ne.symm (a := q) e]

theorem Ctx.setPort_false_getLsbD (x : Ctx) (p q : Nat) :
    (x.setPort p false).ports.getLsbD q = (x.ports.getLsbD q && !decide (q = p)) := by
  simp only [Ctx.setPort, Bool.false_eq_true, if_false, BitVec.getLsbD_and, BitVec.getLsbD_not, getLsbD_ofNat_two_pow]
  cases h : x.ports.getLsbD q with
  | false => rfl
  | true => simp [BitVec.lt_of_getLsbD h, eq_comm]

/-! ### What the opening of a window does to the ports -/

/-- Only port `p` differs, and it keeps its binding generations. -/
structure AtPort (p : Nat) (s t : State) : Prop where
  others : ∀ q, q ≠ p → t.port q = s.port q
  gens : (t.port p).gens = (s.port p).gens

theorem AtPort.refl (p : Nat) (s : State) : AtPort p s s := ⟨fun _ _ => rfl, rfl⟩

theorem AtPort.trans {p : Nat} {s t u : State} (h : AtPort p s t) (k : AtPort p t u) : AtPort p s u :=
  ⟨fun q hq => (k.others q hq).trans (h.others q hq), k.gens.trans h.gens⟩

theorem AtPort.setPort (p : Nat) (s : State) (v : Port) (h : v.gens = (s.port p).gens) : AtPort p s (s.setPort p v) :=
  ⟨fun q hq => by simp [State.port_setPort, hq], by simpa using h⟩

theorem AtPort.ofPorts {s t : State} (p : Nat) (h : t.ports = s.ports) : AtPort p s t := by
  have e (q : Nat) : t.port q = s.port q := by rw [State.port, h, State.port]
  exact ⟨fun q _ => e q, by rw [e]⟩

theorem emit_atPort (p : Nat) (s : State) (o : Output) : AtPort p s (s.emit o) := AtPort.ofPorts p rfl

theorem placeEvent_atPort (p l : Nat) (r : EventRec) (s : State) : AtPort p s (placeEvent p l r s) := by
  unfold placeEvent
  dsimp only
  split
  · exact AtPort.setPort p s _ rfl
  · split
    · exact (AtPort.setPort p _ _ (by rfl)).trans (emit_atPort _ _ _)
    · exact AtPort.setPort p s _ rfl

theorem openWindow_atPort (c p : Nat) (s : State) : AtPort p s (openWindow c p s) := by
  unfold openWindow
  split
  · exact AtPort.refl p s
  · exact (AtPort.setPort p _ _ (by rfl)).trans ((AtPort.setPort p _ _ (by rfl)).trans (placeEvent_atPort _ _ _ _))

theorem logReplicas_ports (n : Nat) (s : State) : (logReplicas n s).ports = s.ports := by
  refine forEach_field State.ports _ _ (fun t u => ?_) s
  dsimp only
  split <;> rfl

end Sys2Proof.Machine

namespace Sys2Proof.Machine
open Sys2Proof.Safety

/-! ### The commands that bind ports and move a context (Table CTX-5) -/

/-- A command whose descriptor is ready does what its body says. -/
theorem completes_of_ready {i : Instr} {d : DescRef} {op : Nat} {l : List (Nat × Nat × Nat)} {f : Fetched} {s : State}
    {body : Fetched → State → State} {post : State → Prop} (h : s.ready d op l = some f) (hi : exec i s = onReady d op l body s)
    (hp : post (body f s)) : Completes i s post := ⟨_, hi.trans (onReady_of_ready h body), hp⟩

section
variable {d : DescRef} {f : Fetched} {c p : Nat} {s : State}

/-! #### CTX_BIND_PORT, bind -/

theorem completes_ctxBindPortBind_badField (hc : c < 2 ^ 18) (h : s.ready d 0x0101 [(8, 4, c), (12, 1, p), (13, 1, 0)] = some f)
    (hs : (s.ctx c).state = .building ∨ (s.ctx c).state = .live)
    (hp : s.hostPort p = false ∨ (s.ctx c).ports.getLsbD p = true) :
    Completes (.ctxBindPortBind d c p) s (fun t => Done d 0x02 0 s t ∧ Kept s t) := by
  refine completes_of_ready h rfl ?_
  rw [inState_of_mem hc (by simpa using hs)]
  have bad : (!s.hostPort p || (s.ctx c).ports.getLsbD p) = true := by simpa using hp
  simpa only [bad, if_true] using refused (State.fetchedOf_of_ready h) 0x02

/-- The commit of a binding on a tier that holds the extent list. -/
def boundAt (c p : Nat) (s : State) : State :=
  let t := s.setCtx c ((s.ctx c).setPort p true)
  if (t.ctx c).state = .live then openWindow c p t else t

theorem commitChange_bind (i gen : Nat) (h : (s.ctx c).holds (portTier p) = true) :
    commitChange (some d) (.bind c p i gen) s = complete d 0 gen (boundAt c p s) := by
  have : ((s.ctx c).setPort p true).holds (portTier p) = true := h
  simp [commitChange, boundAt, completeOpt, this]

theorem boundAt_moves (c p : Nat) (s : State) : Moves c ((s.ctx c).setPort p true) s (boundAt c p s) := by
  unfold boundAt
  dsimp only
  split
  · exact (Moves.setCtx c _ s).andBooks (openWindow_books _ _ _)
  · exact Moves.setCtx c _ s

theorem boundAt_atPort (c p : Nat) (s : State) : AtPort p s (boundAt c p s) := by
  have h : AtPort p s (s.setCtx c ((s.ctx c).setPort p true)) := AtPort.ofPorts p rfl
  unfold boundAt
  dsimp only
  split
  · exact h.trans (openWindow_atPort _ _ _)
  · exact h

/-- The port with the new binding's window, its blocks and its generation. -/
def Port.bound (q : Port) (c i : Nat) (x : Ctx) : Port :=
  let gen := (Sparse.get (fun _ => 0) q.gens c + 1) % 2 ^ 32
  let w : Window := { valid := true, ctx := c, wbase := x.wbase, wsize := x.wsize, gen := gen }
  { (q.setWindow i w).mapBlocks w (i + 1) with gens := Sparse.set (fun _ => 0) q.gens c gen }

theorem execCtxBindPortBind_free (hc : c < 2 ^ 18) (h : s.ready d 0x0101 [(8, 4, c), (12, 1, p), (13, 1, 0)] = some f)
    (hs : (s.ctx c).state = .building ∨ (s.ctx c).state = .live) (hp : s.hostPort p = true)
    (hb : (s.ctx c).ports.getLsbD p = false)
    (hw : ∀ i, i < (s.ctx c).wsize → Sparse.get (fun _ => 0) (s.port p).blocks ((s.ctx c).wbase + i) = 0)
    (hi : ∃ i, i < 8192 ∧ ((s.port p).window i).valid = false) (hh : (s.ctx c).holds (portTier p) = true) :
    ∃ i, exec (.ctxBindPortBind d c p) s = .next (change f.tier (some d)
      (.bind c p i ((Sparse.get (fun _ => 0) (s.port p).gens c + 1) % 2 ^ 32)) (s.setPort p ((s.port p).bound c i (s.ctx c)))) := by
  have blocks : (upto (s.ctx c).wsize).any (fun i => Sparse.get (fun _ => 0) (s.port p).blocks ((s.ctx c).wbase + i) ≠ 0) = false := by
    simpa [upto] using hw
  obtain ⟨i, hi⟩ : ∃ i, (upto 8192).find? (fun i => !((s.port p).window i).valid) = some i := by
    rw [← Option.isSome_iff_exists]
    simpa [upto] using hi
  refine ⟨i, (onReady_of_ready h _).trans ?_⟩
  rw [inState_of_mem hc (by simpa using hs)]
  simp only [hp, hb, blocks, hi, hh, Bool.not_true, Bool.or_false, Bool.false_eq_true, if_false, if_true]
  rfl

theorem change_bind_ends {n : Nat} (i gen : Nat) (hn : CommitsNow n s) (hf : s.fetchedOf d = some f)
    (hh : (s.ctx c).holds (portTier p) = true) :
    Ends d gen c ((s.ctx c).setPort p true) s (change n (some d) (.bind c p i gen) s) := by
  refine change_ends hn hf (fun v hv => ⟨boundAt c p v, commitChange_bind i gen (by rw [hv.ctx]; exact hh), ?_⟩)
  have m := boundAt_moves c p v
  rw [hv.ctx] at m
  exact m

theorem change_bind_atPort {n : Nat} (i gen : Nat) (hn : CommitsNow n s) (hh : (s.ctx c).holds (portTier p) = true) :
    AtPort p s (change n (some d) (.bind c p i gen) s) := by
  have start := logReplicas_books 1 (startDesc d s)
  have logged : AtPort p s (logReplicas 1 (startDesc d s)) := AtPort.ofPorts p (logReplicas_ports 1 (startDesc d s))
  have holds : ((logReplicas 1 (startDesc d s)).ctx c).holds (portTier p) = true := by rw [start.ctx]; exact hh
  have now : change n (some d) (.bind c p i gen) s = complete d 0 gen (boundAt c p (logReplicas 1 (startDesc d s))) :=
    (change_of_commitsNow hn d _).trans (commitChange_bind i gen holds)
  rw [now]
  exact (logged.trans (boundAt_atPort c p _)).trans (AtPort.ofPorts p (complete_ports d gen _))

theorem completes_ctxBindPortBind (hc : c < 2 ^ 18) (hp96 : p < 96)
    (h : s.ready d 0x0101 [(8, 4, c), (12, 1, p), (13, 1, 0)] = some f)
    (hs : (s.ctx c).state = .building ∨ (s.ctx c).state = .live) (hp : s.hostPort p = true)
    (hb : (s.ctx c).ports.getLsbD p = false)
    (hw : ∀ i, i < (s.ctx c).wsize → Sparse.get (fun _ => 0) (s.port p).blocks ((s.ctx c).wbase + i) = 0)
    (hi : ∃ i, i < 8192 ∧ ((s.port p).window i).valid = false) (hh : (s.ctx c).holds (portTier p) = true)
    (hn : CommitsNow f.tier s) :
    Completes (.ctxBindPortBind d c p) s (fun t =>
      let gen := (Sparse.get (fun _ => 0) (s.port p).gens c + 1) % 2 ^ 32
      Done d 0 gen s t ∧ (t.ctx c).ports.getLsbD p = true ∧
      (∀ q, q ≠ p → (t.ctx c).ports.getLsbD q = (s.ctx c).ports.getLsbD q) ∧ (∀ q, q ≠ p → t.port q = s.port q) ∧
      Sparse.get (fun _ => 0) (t.port p).gens c = gen ∧ (∀ x, x ≠ c → t.ctx x = s.ctx x) ∧ t.exts = s.exts ∧
      t.valid = s.valid ∧ t.slices = s.slices ∧ t.cistern = s.cistern) := by
  obtain ⟨i, he⟩ := execCtxBindPortBind_free hc h hs hp hb hw hi hh
  refine ⟨_, he, ?_⟩
  have e := change_bind_ends (s := s.setPort p ((s.port p).bound c i (s.ctx c))) i
    ((Sparse.get (fun _ => 0) (s.port p).gens c + 1) % 2 ^ 32) hn (State.fetchedOf_of_ready h) hh
  have ports := change_bind_atPort (d := d) (s := s.setPort p ((s.port p).bound c i (s.ctx c))) i
    ((Sparse.get (fun _ => 0) (s.port p).gens c + 1) % 2 ^ 32) hn hh
  generalize change f.tier _ _ _ = t at e ports
  obtain ⟨hexts, -, hvalid, hslices, hcistern, -⟩ := e.moved.tables
  have bits (q : Nat) : (t.ctx c).ports.getLsbD q = ((s.ctx c).ports.getLsbD q || decide (q = p)) :=
    (congrArg (fun x : Ctx => x.ports.getLsbD q) e.moved.entry).trans (Ctx.setPort_true_getLsbD _ hp96 q)
  refine ⟨⟨e.done.left, e.done.queued⟩, by simp [bits], fun q hq => by simp [bits, hq], fun q hq => ?_, ?_, e.moved.others, hexts, hvalid, hslices, hcistern⟩
  · rw [ports.others q hq, State.port_setPort, if_neg hq]
  · rw [ports.gens, State.port_setPort_same]
    exact Sparse.get_set_same _ _ _ _

/-! #### CTX_BIND_PORT, unbind -/

theorem completes_ctxBindPortUnbind_badField (hc : c < 2 ^ 18) (h : s.ready d 0x0101 [(8, 4, c), (12, 1, p), (13, 1, 1)] = some f)
    (hs : (s.ctx c).state = .building ∨ (s.ctx c).state = .live)
    (hp : (s.ctx c).ports.getLsbD p = false ∨ ((s.ctx c).state = .live ∧ (s.ctx c).portList.length = 1)) :
    Completes (.ctxBindPortUnbind d c p) s (fun t => Done d 0x02 0 s t ∧ Kept s t) := by
  refine completes_of_ready h rfl ?_
  rw [inState_of_mem hc (by simpa using hs)]
  have bad : (!(s.ctx c).ports.getLsbD p || decide (96 ≤ p) ||
      (decide ((s.ctx c).state = .live) && decide ((s.ctx c).portList.length = 1))) = true := by
    rcases hp with hp | hp <;> simp [hp]
  simpa only [bad, if_true] using refused (State.fetchedOf_of_ready h) 0x02

theorem change_unbind_ends {n : Nat} (hn : CommitsNow n s) (hf : s.fetchedOf d = some f) (hu : NoneUnder c s) :
    ∃ x, Ends d 0 c x s (change n (some d) (.unbind c p) s) ∧
      x.state = (s.ctx c).state ∧ x.ports = ((s.ctx c).setPort p false).ports := by
  refine change_ends_exists _ hn hf (fun v hv => ?_)
  obtain ⟨l, m⟩ := unbindPort_moves c p v
  refine ⟨unbindPort c p v, _, awaitDrain_of_noneUnder hu hv (.finish 0) _, m, ?_⟩
  rw [hv.ctx]
  exact ⟨rfl, rfl⟩

theorem completes_ctxBindPortUnbind (hc : c < 2 ^ 18) (hp96 : p < 96)
    (h : s.ready d 0x0101 [(8, 4, c), (12, 1, p), (13, 1, 1)] = some f)
    (hs : (s.ctx c).state = .building ∨ (s.ctx c).state = .live) (hb : (s.ctx c).ports.getLsbD p = true)
    (hl : (s.ctx c).state = .live → (s.ctx c).portList.length ≠ 1) (hn : CommitsNow f.tier s) (hu : NoneUnder c s) :
    Completes (.ctxBindPortUnbind d c p) s (fun t =>
      Done d 0 0 s t ∧ (t.ctx c).ports.getLsbD p = false ∧ (t.ctx c).state = (s.ctx c).state ∧
      (∀ q, q ≠ p → (t.ctx c).ports.getLsbD q = (s.ctx c).ports.getLsbD q) ∧
      (∀ x, x ≠ c → t.ctx x = s.ctx x) ∧ t.exts = s.exts ∧ t.valid = s.valid ∧ t.slices = s.slices ∧
      t.cistern = s.cistern) := by
  refine completes_of_ready h rfl ?_
  rw [inState_of_mem hc (by simpa using hs)]
  have ok : (!(s.ctx c).ports.getLsbD p || decide (96 ≤ p) ||
      (decide ((s.ctx c).state = .live) && decide ((s.ctx c).portList.length = 1))) = false := by
    simpa [hb, hp96] using hl
  simp only [ok, Bool.false_eq_true, if_false]
  obtain ⟨x, e, hst, hports⟩ := change_unbind_ends (p := p) hn (State.fetchedOf_of_ready h) hu
  generalize change f.tier _ _ _ = t at e
  obtain ⟨hexts, -, hvalid, hslices, hcistern, -⟩ := e.moved.tables
  have entry : t.ctx c = x := e.moved.entry
  have bits (q : Nat) : (t.ctx c).ports.getLsbD q = ((s.ctx c).ports.getLsbD q && !decide (q = p)) := by
    rw [entry, hports, Ctx.setPort_false_getLsbD]
  exact ⟨e.done, by simp [bits], by rw [entry, hst], fun q hq => by simp [bits, hq], e.moved.others, hexts, hvalid, hslices, hcistern⟩

/-! #### CTX_ACTIVATE -/

theorem change_activate_ends {n : Nat} (hn : CommitsNow n s) (hf : s.fetchedOf d = some f) :
    Ends d (s.ctx c).portList.length c { s.ctx c with state := .live, changed := s.us } s
      (change n (some d) (.activate c) s) := by
  refine change_ends hn hf (fun v hv => ?_)
  have live := enterState_moves c .live v
  rw [hv.ctx, hv.us] at live
  have ports : ((enterState c .live v).ctx c).portList = (s.ctx c).portList := by rw [live.entry]; rfl
  refine ⟨_, congrArg (fun l : List Nat => complete d 0 l.length (forEach l (openWindow c) (enterState c .live v))) ports, ?_⟩
  exact live.andBooks (Books.forEach _ _ (fun p t => openWindow_books c p t) _)

theorem completes_ctxActivate_badField (hc : c < 2 ^ 18) (h : s.ready d 0x0102 [(8, 4, c)] = some f)
    (hs : (s.ctx c).state = .building) (hp : (s.ctx c).ports = 0) :
    Completes (.ctxActivate d c) s (fun t => Done d 0x02 0 s t ∧ Kept s t) := by
  refine completes_of_ready h rfl ?_
  rw [inState_of_mem hc (by simp [hs]), if_pos hp]
  exact refused (State.fetchedOf_of_ready h) 0x02

theorem exec_ctxActivate (hc : c < 2 ^ 18) (h : s.ready d 0x0102 [(8, 4, c)] = some f) (hs : (s.ctx c).state = .building)
    (hp : (s.ctx c).ports ≠ 0) : exec (.ctxActivate d c) s = .next (change f.tier (some d) (.activate c) s) := by
  refine (onReady_of_ready h _).trans ?_
  rw [inState_of_mem hc (by simp [hs]), if_neg hp]

/-! #### CTX_FREEZE, CTX_THAW, CTX_DRAIN -/

/-- A context enters a state with FAULT_FROZEN cleared. -/
def enterCleared (c : Nat) (st : CtxState) (s : State) : State :=
  let t := enterState c st s
  t.setCtx c { t.ctx c with faultFrozen := false }

theorem enterCleared_moves {v : State} (hv : Books (startDesc d s) v) (st : CtxState) :
    Moves c { s.ctx c with state := st, changed := s.us, faultFrozen := false } v (enterCleared c st v) := by
  have entered := enterState_moves c st v
  rw [hv.ctx, hv.us] at entered
  unfold enterCleared
  dsimp only
  rw [entered.entry]
  exact entered.trans (Moves.setCtx c _ _)

theorem change_freeze_ends {n : Nat} (hn : CommitsNow n s) (hf : s.fetchedOf d = some f) (hu : NoneUnder c s) :
    Ends d 0 c { s.ctx c with state := .frozen, changed := s.us, faultFrozen := false } s
      (change n (some d) (.freeze c) s) :=
  change_ends hn hf (fun v hv =>
    ⟨enterCleared c .frozen v, awaitDrain_of_noneUnder hu hv (.finish 0) _, enterCleared_moves hv .frozen⟩)

theorem exec_ctxFreeze (hc : c < 2 ^ 18) (h : s.ready d 0x0104 [(8, 4, c)] = some f) (hs : (s.ctx c).state = .live) :
    exec (.ctxFreeze d c) s = .next (change f.tier (some d) (.freeze c) s) := by
  refine (onReady_of_ready h _).trans ?_
  rw [inState_of_mem hc (by simp [hs])]

theorem change_thaw_ends {n : Nat} (hn : CommitsNow n s) (hf : s.fetchedOf d = some f) (hh : s.frozenHeld c = []) :
    Ends d 0 c { s.ctx c with state := .live, changed := s.us, faultFrozen := false } s (change n (some d) (.thaw c) s) := by
  refine change_ends hn hf (fun v hv => ⟨enterCleared c .live v, ?_, enterCleared_moves hv .live⟩)
  have none : (enterState c .live v).frozenHeld c = [] :=
    (((enterState_moves c .live v).frozenHeld c).trans ((hv.moves c).frozenHeld c)).trans hh
  show complete d 0 (((enterState c .live v).frozenHeld c).filter _).length (thawHeld c (enterCleared c .live v)) = _
  rw [thawHeld_of_nil (s := enterCleared c .live v) none, none]
  rfl

theorem exec_ctxThaw (hc : c < 2 ^ 18) (h : s.ready d 0x0105 [(8, 4, c)] = some f) (hs : (s.ctx c).state = .frozen) :
    exec (.ctxThaw d c) s = .next (change f.tier (some d) (.thaw c) s) := by
  refine (onReady_of_ready h _).trans ?_
  rw [inState_of_mem hc (by simp [hs])]

theorem change_drain_ends {n : Nat} (hn : CommitsNow n s) (hf : s.fetchedOf d = some f) (hu : NoneUnder c s)
    (hm : s.openMigrations c = []) (hh : s.frozenHeld c = []) :
    Ends d 0 c { s.ctx c with state := .draining, changed := s.us } s (change n (some d) (.drain c) s) := by
  refine change_ends hn hf (fun v hv => ?_)
  have migrations : v.openMigrations c = [] := ((hv.moves c).openMigrations c).trans hm
  have drained := drainCtx_moves migrations (((hv.moves c).frozenHeld c).trans hh)
  rw [hv.ctx, hv.us] at drained
  refine ⟨drainCtx c v, ?_, drained⟩
  show awaitDrain (some d) (v.under c) (.finish (v.openMigrations c).length) (drainCtx c v) = _
  rw [migrations, awaitDrain_of_noneUnder hu hv]
  rfl

theorem exec_ctxDrain (hc : c < 2 ^ 18) (h : s.ready d 0x0103 [(8, 4, c)] = some f)
    (hs : (s.ctx c).state = .live ∨ (s.ctx c).state = .frozen) :
    exec (.ctxDrain d c) s = .next (change f.tier (some d) (.drain c) s) := by
  refine (onReady_of_ready h _).trans ?_
  rw [inState_of_mem hc (by simpa using hs)]

/-- A reduction of access behind a request under the old entry waits for it (R22). -/
theorem awaitDrain_of_held {r : Req} {v : State} (hv : Books (startDesc d s) v) (hr : r ∈ s.held) (hc : r.ctx = c)
    (hp : r.passed = true) (hl : r.remote = none) (next : AfterDrain) {w : State} (hw : w.held = v.held) :
    ∃ q, awaitDrain (some d) (v.under c) next w = { w with drains := w.drains ++ [q] } ∧ q.desc = d ∧ q.next = next := by
  have held : w.held = s.held := hw.trans (by rw [hv.frame]; rfl)
  have under : (r.port, r.tag) ∈ (v.under c).2 := by
    rw [hv.under c]
    exact List.mem_map.2 ⟨r, List.mem_filter.2 ⟨hr, by simp [hp, hl, hc]⟩, rfl⟩
  have waits : w.left (v.under c).1 (v.under c).2 = false := by
    rw [Bool.eq_false_iff]
    intro left
    simp only [State.left, Bool.and_eq_true, List.all_eq_true] at left
    have none := left.2 _ under
    rw [held, Bool.not_eq_true', List.any_eq_false] at none
    exact none r hr (by simp [hp, hl])
  exact ⟨{ desc := d, txids := (v.under c).1, reqs := (v.under c).2, next := next }, by simp [awaitDrain, waits], rfl, rfl⟩

/-- The freeze behind a request commits, and its descriptor waits. -/
theorem change_freeze_waits {n : Nat} {r : Req} (hn : CommitsNow n s) (hr : r ∈ s.held) (hc : r.ctx = c)
    (hp : r.passed = true) (hl : r.remote = none) :
    ∃ u w, change n (some d) (.freeze c) s = { u with drains := s.drains ++ [w] } ∧
      Moves c { s.ctx c with state := .frozen, changed := s.us, faultFrozen := false } (startDesc d s) u ∧
      w.desc = d ∧ w.next = .finish 0 := by
  have start := logReplicas_books 1 (startDesc d s)
  have m := enterCleared_moves (c := c) start .frozen
  have held : (enterCleared c .frozen (logReplicas 1 (startDesc d s))).held = (logReplicas 1 (startDesc d s)).held := by
    rw [m.books.frame]
  have drains : (enterCleared c .frozen (logReplicas 1 (startDesc d s))).drains = s.drains := by
    rw [(Moves.afterBooks start m).books.frame]; rfl
  obtain ⟨q, now, hd, hnext⟩ := awaitDrain_of_held start hr hc hp hl (.finish 0) held
  refine ⟨_, q, ?_, Moves.afterBooks start m, hd, hnext⟩
  rw [change_of_commitsNow hn, ← drains]
  exact now

theorem completes_ctxFreeze_waits {r : Req} (hcc : c < 2 ^ 18) (hn : CommitsNow f.tier s)
    (h : s.ready d 0x0104 [(8, 4, c)] = some f) (hs : (s.ctx c).state = .live) (hr : r ∈ s.held) (hc : r.ctx = c)
    (hp : r.passed = true) (hl : r.remote = none) :
    Completes (.ctxFreeze d c) s (fun t => (t.ctx c).state = .frozen ∧ t.cplQ = s.cplQ ∧
      (∃ x ∈ t.fetched, x.ref = d) ∧ ∃ w, t.drains = s.drains ++ [w] ∧ w.desc = d ∧ w.next = .finish 0) := by
  obtain ⟨u, w, now, m, hd, hnext⟩ := change_freeze_waits (d := d) hn hr hc hp hl
  have fetched : u.fetched = (startDesc d s).fetched := by rw [m.books.frame]
  have cplQ : u.cplQ = s.cplQ := by rw [m.books.frame]; rfl
  refine ⟨_, exec_ctxFreeze hcc h hs, ?_⟩
  rw [now]
  exact ⟨congrArg Ctx.state m.entry, cplQ, fetched ▸ startDesc_ref (State.fetchedOf_of_ready h), w, rfl, hd, hnext⟩

/-! #### CTX_RELEASE -/

/-- The extent entries of a context that are VALID. -/
def State.mapped (s : State) (c : Nat) : Sparse ExtEntry := s.exts.filter (fun e => e.1 / 2 ^ 20 = c && e.2.valid)

/-- Every tier that has an extent to clear is woken. -/
def wakeTiers (pens : List Nat) (s : State) : State := forEach pens (fun pen u => wakeForWork (penTier pen) u) s

theorem wakeTiers_books (pens : List Nat) (s : State) : Books s (wakeTiers pens s) :=
  Books.forEach pens _ (fun pen u => wakeForWork_books (penTier pen) u) s

/-- The walk with the extents it clears and the leases it returns. -/
def walk (c : Nat) (d : Option DescRef) (locals : List Nat) (remotes : List (Nat × Nat)) (s : State) : State :=
  let u := wakeTiers locals (queueReturns remotes s)
  { u with
    clears := u.clears ++ locals.map (fun pen => { tier := penTier pen, ext := penExt pen, ctx := some c })
    releases := u.releases ++ [{ ctx := c, desc := d, cleared := locals.length, returned := remotes.length }] }

theorem startWalk_eq (c : Nat) (d : Option DescRef) (s : State) :
    startWalk c d s = walk c d ((((s.mapped c).map (·.2)).filter (fun e => !e.remote)).map (·.pen))
      ((((s.mapped c).map (·.2)).filter (fun e => e.remote)).map (fun e => (e.lease, e.pen))) s := rfl

theorem walk_books (c : Nat) (d : Option DescRef) (locals : List Nat) (remotes : List (Nat × Nat)) (s : State) :
    ∃ u, Books s u ∧ walk c d locals remotes s = { u with
      clears := s.clears ++ locals.map (fun pen => { tier := penTier pen, ext := penExt pen, ctx := some c })
      releases := s.releases ++ [{ ctx := c, desc := d, cleared := locals.length, returned := remotes.length }] } := by
  have books := (queueReturns_books remotes s).trans (wakeTiers_books locals _)
  have clears : (wakeTiers locals (queueReturns remotes s)).clears = s.clears := by rw [books.frame]
  have releases : (wakeTiers locals (queueReturns remotes s)).releases = s.releases := by rw [books.frame]
  refine ⟨_, books, ?_⟩
  unfold walk
  dsimp only
  rw [clears, releases]

/-- Of a context without REMOTE extents every VALID extent is cleared. -/
theorem walked_of_local (hl : ∀ e ∈ s.exts, e.1 / 2 ^ 20 = c → e.2.valid = true → e.2.remote = false) :
    ((s.mapped c).map (·.2)).filter (fun e => !e.remote) = (s.mapped c).map (·.2) ∧
      ((s.mapped c).map (·.2)).filter (fun e => e.remote) = [] := by
  have loc : ∀ e ∈ (s.mapped c).map (·.2), e.remote = false := fun e he => by
    obtain ⟨k, hk, rfl⟩ := List.mem_map.1 he
    obtain ⟨hm, hp⟩ := List.mem_filter.1 hk
    rw [Bool.and_eq_true, decide_eq_true_eq] at hp
    exact hl k hm hp.1 hp.2
  exact ⟨List.filter_eq_self.2 (fun e he => by simp [loc e he]), List.filter_eq_nil_iff.2 (fun e he => by simp [loc e he])⟩

theorem change_release {n : Nat} (hn : CommitsNow n s)
    (hl : ∀ e ∈ s.exts, e.1 / 2 ^ 20 = c → e.2.valid = true → e.2.remote = false) :
    ∃ u, Moves c { s.ctx c with state := .releasing, changed := s.us } (startDesc d s) u ∧
      change n (some d) (.release c) s = { u with
        clears := s.clears ++ (s.mapped c).map (fun e => { tier := penTier e.2.pen, ext := penExt e.2.pen, ctx := some c })
        releases := s.releases ++ [{ ctx := c, desc := some d, cleared := (s.mapped c).length, returned := 0 }] } := by
  have start := logReplicas_books 1 (startDesc d s)
  have entered := enterState_moves c .releasing (logReplicas 1 (startDesc d s))
  rw [start.ctx, start.us] at entered
  have m := Moves.afterBooks start entered
  have frame := m.books.frame
  obtain ⟨local_, remote⟩ := walked_of_local hl
  have eq : commitChange (some d) (.release c) (logReplicas 1 (startDesc d s)) =
      walk c (some d) ((s.mapped c).map (fun e => e.2.pen)) [] (enterState c .releasing (logReplicas 1 (startDesc d s))) := by
    have exts : (enterState c .releasing (logReplicas 1 (startDesc d s))).mapped c = s.mapped c := by rw [frame]; rfl
    refine (startWalk_eq c (some d) _).trans ?_
    rw [exts, local_, remote, List.map_map]
    rfl
  obtain ⟨u, hu, hw⟩ := walk_books c (some d) ((s.mapped c).map (fun e => e.2.pen)) []
    (enterState c .releasing (logReplicas 1 (startDesc d s)))
  refine ⟨u, m.andBooks hu, ?_⟩
  rw [change_of_commitsNow hn]
  refine (eq.trans hw).trans ?_
  have clears : (enterState c .releasing (logReplicas 1 (startDesc d s))).clears = s.clears := by rw [frame]; rfl
  have releases : (enterState c .releasing (logReplicas 1 (startDesc d s))).releases = s.releases := by rw [frame]; rfl
  rw [clears, releases]
  simp

theorem exec_ctxRelease (hc : c < 2 ^ 18) (h : s.ready d 0x0106 [(8, 4, c)] = some f)
    (hs : (s.ctx c).state = .building ∨ (s.ctx c).state = .draining) (ht : ∀ k ∈ s.tasks, k.ctxs.contains c = false)
    (hl : ∀ e ∈ s.exts, e.1 / 2 ^ 20 = c → e.2.valid = true → e.2.remote = false) :
    exec (.ctxRelease d c) s = .next (change f.tier (some d) (.release c) s) := by
  refine (onReady_of_ready h _).trans ?_
  have remotes : s.exts.filter (fun e => e.1 / 2 ^ 20 = c && e.2.valid && e.2.remote) = [] :=
    List.filter_eq_nil_iff.2 (by simpa [and_imp] using fun k e he => hl (k, e) he)
  have tasks : s.tasks.filter (fun k => k.ctxs.contains c) = [] :=
    List.filter_eq_nil_iff.2 (fun k hk => by rw [ht k hk]; decide)
  rw [inState_of_mem hc (by simpa using hs), remotes, tasks]
  rfl

theorem completes_ctxRelease (hc : c < 2 ^ 18) (hn : CommitsNow f.tier s) (h : s.ready d 0x0106 [(8, 4, c)] = some f)
    (hs : (s.ctx c).state = .building ∨ (s.ctx c).state = .draining) (ht : ∀ k ∈ s.tasks, k.ctxs.contains c = false)
    (hl : ∀ e ∈ s.exts, e.1 / 2 ^ 20 = c → e.2.valid = true → e.2.remote = false) :
    Completes (.ctxRelease d c) s (fun t => (t.ctx c).state = .releasing ∧ t.cplQ = s.cplQ ∧
      (∃ r, t.releases = s.releases ++ [r] ∧ r.ctx = c ∧ r.desc = some d ∧ r.cleared = (s.mapped c).length ∧ r.returned = 0) ∧
      t.clears = s.clears ++ (s.mapped c).map (fun e => { tier := penTier e.2.pen, ext := penExt e.2.pen, ctx := some c }) ∧
      (∀ x, x ≠ c → t.ctx x = s.ctx x) ∧ t.exts = s.exts ∧ t.alloc = s.alloc ∧ t.valid = s.valid ∧ t.slices = s.slices ∧
      t.cistern = s.cistern ∧ t.keys = s.keys) := by
  obtain ⟨u, m, eq⟩ := change_release (d := d) hn hl
  refine ⟨_, exec_ctxRelease hc h hs ht hl, ?_⟩
  have cplQ : u.cplQ = s.cplQ := by rw [m.books.frame]; rfl
  rw [eq]
  exact ⟨congrArg Ctx.state m.entry, cplQ, ⟨_, rfl, rfl, rfl, rfl, rfl⟩, rfl, m.others, m.tables⟩

end

/-- Settles O10: the refusals before any change, then each change by what its commit does to the context's entry. -/
theorem contextPortsAndMoves : Obligations.ContextPortsAndMoves := by
  unfold Obligations.ContextPortsAndMoves
  refine ⟨fun d c p f s hc hp => ⟨fun h hs => ⟨?bindBad, ?bind⟩, fun h hs => ⟨?unbindBad, ?unbind⟩⟩, fun d c f s hc hn => ?moves⟩
  case bindBad => exact completes_ctxBindPortBind_badField hc h hs
  case bind => exact fun hh hb hw hi hl hn => completes_ctxBindPortBind hc hp h hs hh hb hw hi hl hn
  case unbindBad => exact completes_ctxBindPortUnbind_badField hc h hs
  case unbind => exact fun hb hl hn hu => completes_ctxBindPortUnbind hc hp h hs hb hl hn hu
  case moves =>
    refine ⟨fun h hs hp => ?activate, fun h hs hp => ?activateBad, fun h hs hu => ?freeze, fun r hr h hs hrc hpass hrem => ?freezeWaits,
      fun h hs hh => ?thaw, fun h hs hu hm hh => ?drain, fun h hs ht hl => ?release⟩
    case activate =>
      have e := change_activate_ends (c := c) hn (State.fetchedOf_of_ready h)
      exact ⟨_, exec_ctxActivate hc h hs hp, e.done, congrArg Ctx.state e.moved.entry, congrArg Ctx.changed e.moved.entry,
        e.moved.others, e.moved.tables⟩
    case activateBad => exact completes_ctxActivate_badField hc h hs hp
    case freeze =>
      have e := change_freeze_ends hn (State.fetchedOf_of_ready h) hu
      exact ⟨_, exec_ctxFreeze hc h hs, e.done, congrArg Ctx.state e.moved.entry, congrArg Ctx.faultFrozen e.moved.entry,
        e.moved.others, e.moved.tables⟩
    case freezeWaits => exact completes_ctxFreeze_waits hc hn h hs hr hrc hpass hrem
    case thaw =>
      have e := change_thaw_ends hn (State.fetchedOf_of_ready h) hh
      exact ⟨_, exec_ctxThaw hc h hs, e.done, congrArg Ctx.state e.moved.entry, congrArg Ctx.faultFrozen e.moved.entry,
        e.moved.others, e.moved.tables⟩
    case drain =>
      have e := change_drain_ends hn (State.fetchedOf_of_ready h) hu hm hh
      exact ⟨_, exec_ctxDrain hc h hs, e.done, congrArg Ctx.state e.moved.entry, e.moved.others, e.moved.tables⟩
    case release => exact completes_ctxRelease hc hn h hs ht hl

end Sys2Proof.Machine

namespace Sys2Proof.Machine
open Sys2Proof.Safety

/-! ### The ends of changes (R21, R22, R23, R88) -/

/-! #### RELEASE_FINISHED -/

section
variable {c : Nat} {s : State}

theorem exec_releaseFinished_waits (h : ∃ j ∈ s.clears, j.ctx = some c) : exec (.releaseFinished c) s = .next s := by
  have busy : s.clears.any (fun j => j.ctx = some c) = true := by simpa using h
  show execReleaseFinished c s = _
  unfold execReleaseFinished
  split
  · rfl
  · simp [busy]

/-- The windows of a released context on a port that wait for no host go with it. -/
def clearWindowsAt (c p : Nat) (s : State) : State :=
  forEach (s.port p).windows (fun w v => if w.2.ctx = c && w.2.valid && !w.2.pendrel then clearWindow p w.1 v else v) s

def clearWindows (c : Nat) (s : State) : State := forEach s.portList (clearWindowsAt c) s

theorem clearWindowsAt_books (c p : Nat) (s : State) : Books s (clearWindowsAt c p s) := by
  refine Books.forEach _ _ (fun w v => ?_) s
  split
  · exact clearWindow_books p w.1 v
  · exact Books.refl v

theorem clearWindows_books (c : Nat) (s : State) : Books s (clearWindows c s) :=
  Books.forEach _ _ (clearWindowsAt_books c) s

/-- The list space of a released context is free on every tier. -/
def freeLists (c : Nat) (s : State) : State := forEach s.tierList (fun t u => freeList t c u) s

theorem freeLists_books (c : Nat) (s : State) : Books s (freeLists c s) := Books.forEach _ _ (fun t u => freeList_books t c u) s

/-- The entry of a released context, and what it held beside the tables, is gone. -/
def released (c : Nat) (s : State) : State :=
  logReplicas 1 ((noteReleased c (freeLists c (clearWindows c s))).setCtx c {})

theorem released_moves (c : Nat) (s : State) : Moves c {} s (released c s) := by
  have before := ((clearWindows_books c s).trans (freeLists_books c _)).trans (noteReleased_books c _)
  exact (Moves.afterBooks before (Moves.setCtx c {} _)).andBooks (logReplicas_books 1 _)

theorem exec_releaseFinished {r : Releasing} (hr : s.releases.find? (fun r => r.ctx = c) = some r)
    (hj : ∀ j ∈ s.clears, j.ctx ≠ some c) (ha : s.acks (s.homeTier c) = true) :
    exec (.releaseFinished c) s = .next (completeOpt r.desc (r.cleared + r.returned * 2 ^ 32) { released c s with
      exts := s.exts.filter (fun e => e.1 / 2 ^ 20 ≠ c), releases := s.releases.erase r }) := by
  have idle : s.clears.any (fun j => j.ctx = some c) = false := by simpa using hj
  have exts : (released c s).exts = s.exts := by rw [(released_moves c s).books.frame]
  have releases : (released c s).releases = s.releases := by rw [(released_moves c s).books.frame]
  show execReleaseFinished c s = _
  unfold execReleaseFinished
  rw [hr]
  simp only [idle, ha, Bool.not_true, Bool.or_false, Bool.false_eq_true, if_false]
  rw [← exts, ← releases]
  rfl

theorem extKey_div {i : Nat} (c : Nat) (hi : i < 2 ^ 20) : extKey c i / 2 ^ 20 = c := by unfold extKey; omega
theorem extKey_mod {i : Nat} (c : Nat) (hi : i < 2 ^ 20) : extKey c i % 2 ^ 20 = i := by unfold extKey; omega

/-- The extents of a context whose entries have left the list read as never mapped. -/
theorem ext_valid_of_released {l : Sparse ExtEntry} {t : State} (ht : t.exts = l.filter (fun e => e.1 / 2 ^ 20 ≠ c)) {i : Nat}
    (hi : i < 2 ^ 20) : (t.ext c i).valid = false := by
  rcases Sparse.get_default_or_mem (fun _ => ({} : ExtEntry)) t.exts (extKey c i) with h | h
  · rw [State.ext, h]
  · rw [ht, List.mem_filter] at h
    exact absurd (extKey_div c hi) (of_decide_eq_true h.2)

theorem ext_of_released {x i : Nat} {t : State} (ht : t.exts = s.exts.filter (fun e => e.1 / 2 ^ 20 ≠ c)) (hx : x ≠ c)
    (hi : i < 2 ^ 20) : t.ext x i = s.ext x i := by
  rw [State.ext, ht]
  exact Sparse.get_filter_of_pass _ _ _ _ (fun v => decide_eq_true ((extKey_div x hi).trans_ne hx))

theorem completes_releaseFinished {r : Releasing} {d : DescRef} {f : Fetched}
    (hr : s.releases.find? (fun r => r.ctx = c) = some r) (hd : r.desc = some d) (hf : s.fetchedOf d = some f)
    (hj : ∀ j ∈ s.clears, j.ctx ≠ some c) (ha : s.acks (s.homeTier c) = true) :
    Completes (.releaseFinished c) s (fun t => Done d 0 (r.cleared + r.returned * 2 ^ 32) s t ∧ t.ctx c = {} ∧
      (∀ i, i < 2 ^ 20 → (t.ext c i).valid = false) ∧ (∀ x, x ≠ c → t.ctx x = s.ctx x) ∧
      (∀ x i, x ≠ c → i < 2 ^ 20 → t.ext x i = s.ext x i) ∧ t.releases = s.releases.erase r ∧
      t.slices = s.slices ∧ t.cistern = s.cistern) := by
  have m := released_moves c s
  have fetched : (released c s).fetched = s.fetched := by rw [m.books.frame]
  have cplQ : (released c s).cplQ = s.cplQ := by rw [m.books.frame]
  obtain ⟨-, -, -, slices, cistern, -⟩ := m.tables
  refine ⟨_, exec_releaseFinished hr hj ha, ?_⟩
  rw [hd, completeOpt, complete_of_fetched (f := f) (status := 0) ?here _ (by decide)]
  case here => exact (m.fetchedOf d).trans hf
  refine ⟨⟨?_, descFlag f.bytes 1, ?_⟩, m.entry, fun i hi => ext_valid_of_released rfl hi, m.others,
    fun x i hx hi => ext_of_released rfl hx hi, rfl, slices, cistern⟩
  · dsimp only; rw [fetched]
  · dsimp only; rw [cplQ]; rfl

end

/-! #### ACCESS_REDUCTION_DRAIN_DONE and COMMIT_POINT -/

theorem completes_accessReductionDrainDone {w : Drain} {n : Nat} {f : Fetched} {s : State}
    (hw : s.drains.find? (fun w => s.left w.txids w.reqs) = some w) (hn : w.next = .finish n) (hf : s.fetchedOf w.desc = some f) :
    Completes .accessReductionDrainDone s (fun t => Done w.desc 0 n s t ∧ t.drains = s.drains.erase w ∧ Kept s t) := by
  have eq : exec .accessReductionDrainDone s = .next (complete w.desc 0 n { s with drains := s.drains.erase w }) := by
    show execAccessReductionDrainDone s = _
    unfold execAccessReductionDrainDone
    rw [hw]
    simp only [hn, finishDrain]
  refine ⟨_, eq, ?_⟩
  rw [complete_of_fetched (f := f) (status := 0) ?here n (by decide)]
  case here => exact hf
  exact ⟨⟨rfl, _, rfl⟩, rfl, rfl, rfl, rfl, rfl, rfl, rfl, rfl, rfl, rfl, rfl⟩

/-- The tier on which a change was made: its descriptor's, tier 0 without one. -/
def State.changeTier (s : State) : Option DescRef → Nat
  | some d => (s.fetchedOf d).elim 0 (·.tier)
  | none => 0

theorem exec_commitPoint {d : Option DescRef} {ch : Change} {rest : List (Option DescRef × Change)} {s : State}
    (h : s.commits = (d, ch) :: rest) :
    exec .commitPoint s = .next (if s.acks (s.changeTier d) then
      commitChange d ch (logReplicas ch.writes { s with commits := rest }) else s) := by
  show execCommitPoint s = _
  unfold execCommitPoint
  rw [h]
  cases d <;> exact (apply_ite Host.Outcome.next _ _ _).symm

/-! #### FAULT_FREEZE -/

theorem exec_faultFreeze {c : Nat} {s : State} (hc : s.flt.freezes.contains c = true) (hup : s.sluiceUp (s.homeTier c) = true)
    (hb : s.ctxBusy c = false) :
    exec (.faultFreeze c) s =
      .next (change (s.homeTier c) none (.faultFreeze c) { s with flt := { s.flt with freezes := s.flt.freezes.erase c } }) := by
  show execFaultFreeze c s = _
  simp only [execFaultFreeze, hc, hup, hb, Bool.not_false, Bool.and_self, if_true]

/-- An internal freeze that commits at once makes a LIVE context FROZEN and marks it. -/
theorem change_faultFreeze_moves {n c : Nat} {s : State} (hn : CommitsNow n s) (hs : (s.ctx c).state = .live) :
    Moves c { s.ctx c with state := .frozen, changed := s.us, faultFrozen := true } s (change n none (.faultFreeze c) s) := by
  have logged := logReplicas_books 1 s
  have frozen := enterState_moves c .frozen (logReplicas 1 s)
  have now : change n none (.faultFreeze c) s = (enterState c .frozen (logReplicas 1 s)).setCtx c
      { (enterState c .frozen (logReplicas 1 s)).ctx c with faultFrozen := true } := by
    have live : ((logReplicas 1 s).ctx c).state = .live := by rw [logged.ctx, hs]
    simp [change, hn.1, hn.2, commitChange, Change.writes, live]
  rw [now, frozen.entry]
  rw [logged.ctx, logged.us] at frozen ⊢
  exact (Moves.afterBooks logged frozen).trans (Moves.setCtx c _ _)

/-- Settles O11: a release, a drained reduction and a commit point by what their commands do, an internal freeze by its commit. -/
theorem contextEnds : Obligations.ContextEnds := by
  unfold Obligations.ContextEnds
  refine ⟨?released, fun c s h => exec_releaseFinished_waits h, ?drained, ?committed, ?frozen⟩
  case released => exact fun c r d s hr hd ⟨f, hf⟩ hj ha => completes_releaseFinished hr hd hf hj ha
  case drained => exact fun w n s hw hn ⟨f, hf⟩ => completes_accessReductionDrainDone hw hn hf
  case committed =>
    intro d ch rest s h
    have now := exec_commitPoint h
    cases d <;> exact ⟨fun ha => now.trans (congrArg _ (if_pos ha)), fun ha => now.trans (congrArg _ (if_neg (ne_true_of_eq_false ha)))⟩
  case frozen =>
    intro c s hc hup hb hn hs
    have m := change_faultFreeze_moves (s := { s with flt := { s.flt with freezes := s.flt.freezes.erase c } }) hn hs
    obtain ⟨hexts, -, hvalid, hslices, hcistern, -⟩ := m.tables
    refine ⟨_, exec_faultFreeze hc hup hb, congrArg Ctx.state m.entry, congrArg Ctx.faultFrozen m.entry, ?_, m.others, hexts,
      hvalid, hslices, hcistern⟩
    rw [m.books.frame]

end Sys2Proof.Machine

namespace Sys2Proof

/-! ### Runs of keys -/

theorem forEach_upto_succ {σ : Type} (n : Nat) (f : Nat → σ → σ) (s : σ) :
    forEach (upto (n + 1)) f s = f n (forEach (upto n) f s) := by
  simp [forEach, upto, List.range_succ]

/-- `n` keys written from `k` on. -/
def Sparse.setRun {β : Type} [DecidableEq β] (d : Nat → β) (m : Sparse β) (k n : Nat) (v : Nat → β) : Sparse β :=
  forEach (upto n) (fun i m => Sparse.set d m (k + i) (v i)) m

theorem Sparse.setRun_succ {β : Type} [DecidableEq β] (d : Nat → β) (m : Sparse β) (k n : Nat) (v : Nat → β) :
    Sparse.setRun d m k (n + 1) v = Sparse.set d (Sparse.setRun d m k n v) (k + n) (v n) := forEach_upto_succ _ _ _

theorem Sparse.get_setRun {β : Type} [DecidableEq β] (d : Nat → β) (m : Sparse β) (k n j : Nat) (v : Nat → β) :
    Sparse.get d (Sparse.setRun d m k n v) j = if k ≤ j ∧ j < k + n then v (j - k) else Sparse.get d m j := by
  induction n with
  | zero => simp [Sparse.setRun, upto, show ¬(k ≤ j ∧ j < k) by omega]
  | succ n ih =>
    rw [Sparse.setRun_succ, Sparse.get_set, ih]
    by_cases h : j = k + n
    · simp [h]
    · have : (k ≤ j ∧ j < k + n) ↔ (k ≤ j ∧ j < k + (n + 1)) := by omega
      simp [h, this]

end Sys2Proof

namespace Sys2Proof.Machine
open Sys2Proof.Safety

/-! ### EXT_MAP (R76, R81, R259) -/

theorem setExt_run (c index count : Nat) (v : Nat → ExtEntry) (s : State) :
    forEach (upto count) (fun i u => u.setExt c (index + i) (v i)) s =
      { s with exts := Sparse.setRun (fun _ => {}) s.exts (extKey c index) count v } := by
  induction count with
  | zero => rfl
  | succ n ih =>
    have key : extKey c (index + n) = extKey c index + n := (Nat.add_assoc _ _ _).symm
    rw [forEach_upto_succ, ih, Sparse.setRun_succ, State.setExt, key]

theorem setAlloc_run (t e count : Nat) (v : Bool) (s : State) :
    forEach (upto count) (fun i u => u.setAlloc t (e + i) v) s =
      { s with alloc := Sparse.setRun (fun _ => false) s.alloc (tierExt t e) count (fun _ => v) } := by
  induction count with
  | zero => rfl
  | succ n ih =>
    have key : tierExt t (e + n) = tierExt t e + n := (Nat.add_assoc _ _ _).symm
    rw [forEach_upto_succ, ih, Sparse.setRun_succ, State.setAlloc, key]

/-- EXT_MAP of a run of this package's extents, its operands in range, for a context in a state that takes it. -/
structure MapsHere (d : DescRef) (c index pen count : Nat) (f : Fetched) (s : State) : Prop where
  ready : s.ready d 0x0200 [(8, 4, c), (12, 4, index), (16, 4, pen), (20, 4, count), (24, 4, 0)] = some f
  ctxid : c < 2 ^ 18
  least : 1 ≤ count
  most : count ≤ 65536
  penOk : pen < 2 ^ 27
  fits : penExt pen + count ≤ 2 ^ 20
  here : penPkg pen = s.pkg
  legal : (s.ctx c).state = .building ∨ (s.ctx c).state = .live ∨ (s.ctx c).state = .frozen

section
variable {d : DescRef} {c index pen count : Nat} {f : Fetched} {s : State}

theorem exec_extMap (d : DescRef) (c index pen count lease : Nat) (s : State) :
    exec (.extMap d c index pen count lease) s = execExtMap d c index pen count lease s := rfl

/-- A PEN out of range is refused before the context is looked at. -/
theorem completes_extMap_outside {lease k : Nat}
    (h : s.ready d 0x0200 [(8, 4, c), (12, 4, index), (16, 4, pen), (20, 4, count), (24, 4, lease)] = some f)
    (hp : penPkg pen = s.pkg) (hk : k < count) (hout : s.penInRange (pen + k) = false) :
    Completes (.extMap d c index pen count lease) s (fun t => Done d 0x02 0 s t ∧ Kept s t) := by
  have outside : s.runOutside pen count lease = true := by
    have some_ : (upto count).all (fun i => s.penInRange (pen + i)) = false := by
      rw [List.all_eq_false]
      exact ⟨k, by simpa [upto] using hk, by simp [hout]⟩
    simp [State.runOutside, hp, some_]
  refine completes_of_ready h (exec_extMap d c index pen count lease s) ?_
  simp only [outside, Bool.or_true, if_true]
  exact refused (State.fetchedOf_of_ready h) 0x02

/-- The checks of a run in range, in their order. -/
theorem MapsHere.exec (m : MapsHere d c index pen count f s) (hin : ∀ k, k < count → s.penInRange (pen + k) = true) :
    exec (.extMap d c index pen count 0) s = .next
      (if s.destOff pen then complete d 0x05 0 s
       else if (s.ctx c).wsize * 128 < index + count || s.destBad (s.ctx c) pen count 0 then complete d 0x02 0 s
       else if (upto count).any (fun i => (s.ext c (index + i)).valid) || s.destTaken pen count then complete d 0x0D 0 s
       else change f.tier (some d) (.map c index pen count 0) (claimRun pen count s)) := by
  have inside : s.runOutside pen count 0 = false := by
    have all : (upto count).all (fun i => s.penInRange (pen + i)) = true := by simpa [upto] using hin
    simp [State.runOutside, all]
  have ok : (!countOk count || decide (2 ^ 27 ≤ pen) || decide (2 ^ 20 < penExt pen + count) ||
      s.runOutside pen count 0) = false := by
    have h₁ := m.least; have h₂ := m.most; have h₃ := m.penOk; have h₄ := m.fits
    simp only [countOk, inside, Bool.or_false, Bool.or_eq_false_iff, Bool.not_eq_false', Bool.and_eq_true, decide_eq_true_eq,
      decide_eq_false_iff_not]
    omega
  refine (exec_extMap d c index pen count 0 s).trans ((onReady_of_ready m.ready _).trans ?_)
  simp only [ok, Bool.false_eq_true, if_false]
  rw [inState_of_mem m.ctxid (by simpa using m.legal)]
  simp [m.here]

theorem State.inRange_of_backed {integ : Bool} {p : Nat} (h : s.penBacked p integ = true) : s.penInRange p = true := by
  unfold State.penBacked at h
  exact (Bool.and_eq_true _ _ ▸ h).1

/-- A destination on a tier of this package in T3. -/
theorem MapsHere.completes_off (m : MapsHere d c index pen count f s) (ht : penTier pen < s.nTiers)
    (hpow : (s.tier (penTier pen)).power = 3) (hin : ∀ k, k < count → s.penInRange (pen + k) = true) :
    Completes (.extMap d c index pen count 0) s (fun t => Done d 0x05 0 s t ∧ Kept s t) := by
  have off : s.destOff pen = true := by simp [State.destOff, m.here, ht, hpow]
  refine ⟨_, m.exec hin, ?_⟩
  rw [if_pos off]
  exact refused (State.fetchedOf_of_ready m.ready) 0x05

theorem destOff_of_power (hpow : (s.tier (penTier pen)).power ≠ 3) : s.destOff pen = false := by simp [State.destOff, hpow]

theorem MapsHere.destBad_eq_false (m : MapsHere d c index pen count f s)
    (hb : ∀ k, k < count → s.penBacked (pen + k) (s.ctx c).integrity = true) : s.destBad (s.ctx c) pen count 0 = false := by
  have all : (upto count).all (fun i => s.penBacked (pen + i) (s.ctx c).integrity) = true := by simpa [upto] using hb
  simp [State.destBad, m.here, all]

/-- An extent that is not backed. -/
theorem MapsHere.completes_unbacked {i : Nat} (m : MapsHere d c index pen count f s)
    (hpow : (s.tier (penTier pen)).power ≠ 3) (hi : i < count) (hb : s.penBacked (pen + i) (s.ctx c).integrity = false) :
    Completes (.extMap d c index pen count 0) s (fun t => Done d 0x02 0 s t ∧ Kept s t) := by
  by_cases hin : ∀ k, k < count → s.penInRange (pen + k) = true
  · have bad : s.destBad (s.ctx c) pen count 0 = true := by
      have some_ : (upto count).all (fun i => s.penBacked (pen + i) (s.ctx c).integrity) = false := by
        rw [List.all_eq_false]
        exact ⟨i, by simpa [upto] using hi, by simp [hb]⟩
      simp [State.destBad, m.here, some_]
    refine ⟨_, m.exec hin, ?_⟩
    rw [if_neg (by simp [destOff_of_power hpow]), if_pos (by simp [bad])]
    exact refused (State.fetchedOf_of_ready m.ready) 0x02
  · obtain ⟨k, hk⟩ := not_forall.1 hin
    obtain ⟨hk, hout⟩ := Classical.not_imp.1 hk
    exact completes_extMap_outside m.ready m.here hk (by simpa using hout)

/-- A taken extent or entry. -/
theorem MapsHere.completes_taken {i : Nat} (m : MapsHere d c index pen count f s)
    (hpow : (s.tier (penTier pen)).power ≠ 3) (hw : index + count ≤ (s.ctx c).wsize * 128)
    (hb : ∀ k, k < count → s.penBacked (pen + k) (s.ctx c).integrity = true) (hi : i < count)
    (ht : (s.ext c (index + i)).valid = true ∨ s.penTaken (pen + i) = true) :
    Completes (.extMap d c index pen count 0) s (fun t => Done d 0x0D 0 s t ∧ Kept s t) := by
  have mem : i ∈ upto count := by simpa [upto] using hi
  have taken : ((upto count).any (fun i => (s.ext c (index + i)).valid) || s.destTaken pen count) = true := by
    simp only [State.destTaken, m.here, if_true, Bool.or_eq_true, List.any_eq_true]
    exact ht.imp (fun h => ⟨i, mem, h⟩) (fun h => ⟨i, mem, h⟩)
  refine ⟨_, m.exec (fun k hk => State.inRange_of_backed (hb k hk)), ?_⟩
  rw [if_neg (by simp [destOff_of_power hpow]), if_neg (by simp [m.destBad_eq_false hb, hw]), if_pos taken]
  exact refused (State.fetchedOf_of_ready m.ready) 0x0D

/-- The run's allocation bits are taken. -/
theorem claimRun_books (hp : penPkg pen = s.pkg) :
    Books { s with alloc := Sparse.setRun (fun _ => false) s.alloc (tierExt (penTier pen) (penExt pen)) count (fun _ => true) }
      (claimRun pen count s) := by
  have wake := (wakeForWork_books (penTier pen) s).frame
  have alloc : (wakeForWork (penTier pen) s).alloc = s.alloc := by rw [wake]
  unfold claimRun
  rw [if_pos hp, setAlloc_run, alloc]
  refine ⟨?_⟩
  rw [wake]

theorem allocBit_of_claimed {t : State} (ht : t.alloc =
      Sparse.setRun (fun _ => false) s.alloc (tierExt (penTier pen) (penExt pen)) count (fun _ => true)) {k : Nat} (hk : k < count) :
    t.allocBit (penTier pen) (penExt pen + k) = true := by
  have key : tierExt (penTier pen) (penExt pen + k) = tierExt (penTier pen) (penExt pen) + k := (Nat.add_assoc _ _ _).symm
  rw [State.allocBit, ht, Sparse.get_setRun, key, if_pos (by omega)]

theorem complete_withExts (d : DescRef) (result : Nat) (s : State) (m : Sparse ExtEntry) :
    complete d 0 result { s with exts := m } = { complete d 0 result s with exts := m } := by
  have same : State.fetchedOf { s with exts := m } d = s.fetchedOf d := rfl
  unfold complete
  rw [same]
  cases s.fetchedOf d <;> rfl

/-- The context's extent time is brought up to date and its extents are counted. -/
def counted (c : Nat) (g : Nat → Nat) (s : State) : State :=
  (accrue c s).setCtx c { (accrue c s).ctx c with extCount := g ((accrue c s).ctx c).extCount }

theorem counted_moves (c : Nat) (g : Nat → Nat) (s : State) :
    Moves c { s.ctx c with extCount := g (s.ctx c).extCount } s (counted c g s) := by
  have books := accrue_books c s
  unfold counted
  rw [books.ctx]
  exact Moves.afterBooks books (Moves.setCtx c _ _)

/-- The extent list with a run of entries filled from `index` on. -/
def mapRun (c index pen count : Nat) (m : Sparse ExtEntry) : Sparse ExtEntry :=
  Sparse.setRun (fun _ => {}) m (extKey c index) count (fun i => { valid := true, pen := pen + i })

theorem commitChange_map (hp : penPkg pen = s.pkg) :
    commitChange (some d) (.map c index pen count 0) s = complete d 0 count { counted c (· + count) s with
      exts := mapRun c index pen count s.exts } := by
  have exts : (accrue c s).exts = s.exts := by rw [(accrue_books c s).frame]
  have here : decide (penPkg pen ≠ (accrue c s).pkg) = false := by
    have pkg : (accrue c s).pkg = s.pkg := by rw [(accrue_books c s).frame]; rfl
    simp [pkg, hp]
  simp only [commitChange, here, setExt_run, exts]
  rfl

/-- The commit of a mapping fills the entries of the run and counts the extents. -/
theorem change_map {n : Nat} (hn : CommitsNow n s) (hf : s.fetchedOf d = some f) (hp : penPkg pen = s.pkg) :
    ∃ e, Ends d count c { s.ctx c with extCount := (s.ctx c).extCount + count } s e ∧
      change n (some d) (.map c index pen count 0) s = { e with
        exts := mapRun c index pen count s.exts } := by
  have start := logReplicas_books count (startDesc d s)
  have m := counted_moves c (· + count) (logReplicas count (startDesc d s))
  rw [start.ctx] at m
  refine ⟨_, ends_complete hf (Moves.afterBooks start m) count, ?_⟩
  have pkg : (logReplicas count (startDesc d s)).pkg = s.pkg := by rw [start.frame]; rfl
  have exts : (logReplicas count (startDesc d s)).exts = s.exts := by rw [start.frame]; rfl
  rw [← complete_withExts, change_of_commitsNow hn, ← exts]
  exact commitChange_map (hp.trans pkg.symm)

/-- The run's entries after a mapping, and every other entry as before. -/
theorem ext_of_mapped {s t : State} (ht : t.exts = mapRun c index pen count s.exts) (hr : index + count ≤ 2 ^ 20) :
    (∀ k, k < count → t.ext c (index + k) = { valid := true, pen := pen + k }) ∧
      (∀ x i, i < 2 ^ 20 → x ≠ c ∨ i < index ∨ index + count ≤ i → t.ext x i = s.ext x i) := by
  refine ⟨fun k hk => ?_, fun x i hi ho => ?_⟩
  · have key : extKey c (index + k) = extKey c index + k := (Nat.add_assoc _ _ _).symm
    rw [State.ext, ht, mapRun, Sparse.get_setRun, key, if_pos (by omega), Nat.add_sub_cancel_left]
  · rw [State.ext, ht, mapRun, Sparse.get_setRun, if_neg, State.ext]
    unfold extKey
    omega

theorem done_of_same_buffers {s' t : State} {status result : Nat} (h : Done d status result s' t) (hf : s'.fetched = s.fetched)
    (hc : s'.cplQ = s.cplQ) : Done d status result s t := by
  obtain ⟨left, queued⟩ := h
  rw [hf] at left
  rw [hc] at queued
  exact ⟨left, queued⟩

/-- A run that is free and backed is mapped. -/
theorem MapsHere.completes (m : MapsHere d c index pen count f s) (hpow : (s.tier (penTier pen)).power ≠ 3)
    (hw : index + count ≤ (s.ctx c).wsize * 128) (hr : index + count ≤ 2 ^ 20)
    (hfree : ∀ k, k < count → s.penBacked (pen + k) (s.ctx c).integrity = true ∧ (s.ext c (index + k)).valid = false ∧
      s.penTaken (pen + k) = false) (hn : CommitsNow f.tier s) :
    Completes (.extMap d c index pen count 0) s (fun t => Done d 0 count s t ∧
      (∀ k, k < count → t.ext c (index + k) = { valid := true, pen := pen + k } ∧
        t.allocBit (penTier pen) (penExt pen + k) = true) ∧
      (∀ x i, i < 2 ^ 20 → x ≠ c ∨ i < index ∨ index + count ≤ i → t.ext x i = s.ext x i) ∧
      (t.ctx c).extCount = (s.ctx c).extCount + count ∧ (∀ x, x ≠ c → t.ctx x = s.ctx x) ∧
      t.valid = s.valid ∧ t.slices = s.slices ∧ t.cistern = s.cistern) := by
  have backed (k : Nat) (hk : k < count) := (hfree k hk).1
  have free : ((upto count).any (fun i => (s.ext c (index + i)).valid) || s.destTaken pen count) = false := by
    simp only [State.destTaken, m.here, if_true, Bool.or_eq_false_iff, List.any_eq_false, upto, List.mem_range]
    exact ⟨fun k hk => by simp [hfree k hk], fun k hk => by simp [hfree k hk]⟩
  have eq := m.exec (fun k hk => State.inRange_of_backed (backed k hk))
  rw [if_neg (by simp [destOff_of_power hpow]), if_neg (by simp [m.destBad_eq_false backed, hw]), if_neg (by simp [free])] at eq
  have claimed := claimRun_books (count := count) m.here
  generalize claimRun pen count s = s₁ at eq claimed
  have hn₁ : CommitsNow f.tier s₁ := by rw [claimed.frame]; exact hn
  have hf₁ : s₁.fetchedOf d = some f := by rw [claimed.frame]; exact State.fetchedOf_of_ready m.ready
  have hp₁ : penPkg pen = s₁.pkg := by rw [claimed.frame]; exact m.here
  have hexts : s₁.exts = s.exts := by rw [claimed.frame]
  obtain ⟨e, he, now⟩ := change_map (c := c) (index := index) (count := count) hn₁ hf₁ hp₁
  obtain ⟨-, halloc, hvalid, hslices, hcistern, -⟩ := he.moved.tables
  rw [claimed.frame] at halloc hvalid hslices hcistern
  have done := done_of_same_buffers he.done (by rw [claimed.frame]) (by rw [claimed.frame])
  obtain ⟨mapped, others⟩ := ext_of_mapped (t := { e with exts := mapRun c index pen count s.exts }) rfl hr
  rw [hexts] at now
  refine ⟨_, eq.trans (congrArg _ now), ⟨done.left, done.queued⟩, fun k hk => ⟨mapped k hk, allocBit_of_claimed halloc hk⟩, others,
    ?_, fun x hx => (he.moved.others x hx).trans (claimed.ctx x), hvalid, hslices, hcistern⟩
  exact (congrArg Ctx.extCount he.moved.entry).trans (by rw [claimed.ctx]; rfl)

end
end Sys2Proof.Machine

namespace Sys2Proof.Machine
open Sys2Proof.Safety

/-! ### EXT_UNMAP (R22, R86, R260) -/

/-- The key of a context's entry in a run of indices. -/
def inRun (c index count k : Nat) : Bool := k / 2 ^ 20 = c && index ≤ k % 2 ^ 20 && k % 2 ^ 20 < index + count

/-- The VALID entries of a run. -/
def State.mappedIn (s : State) (c index count : Nat) : Sparse ExtEntry :=
  s.exts.filter (fun e => inRun c index count e.1 && e.2.valid)

/-- The extent list without the VALID entries of a run. -/
def unmapRun (c index count : Nat) (m : Sparse ExtEntry) : Sparse ExtEntry :=
  m.filter (fun e => !(inRun c index count e.1 && e.2.valid))

theorem inRun_extKey (c index count x : Nat) {i : Nat} (hi : i < 2 ^ 20) :
    inRun c index count (extKey x i) = true ↔ x = c ∧ index ≤ i ∧ i < index + count := by
  simp only [inRun, extKey_div x hi, extKey_mod x hi, Bool.and_eq_true, decide_eq_true_eq, and_assoc]

section
variable {d : DescRef} {c index count : Nat} {f : Fetched} {s : State}

/-- No entry of the run is left, and every other entry is as before. -/
theorem ext_of_unmapped {t : State} (ht : t.exts = unmapRun c index count s.exts) :
    (∀ i, i < 2 ^ 20 → index ≤ i → i < index + count → (t.ext c i).valid = false) ∧
      (∀ x i, i < 2 ^ 20 → x ≠ c ∨ i < index ∨ index + count ≤ i → t.ext x i = s.ext x i) := by
  refine ⟨fun i hi h₁ h₂ => ?_, fun x i hi ho => ?_⟩
  · have hrun := (inRun_extKey c index count c hi).2 ⟨rfl, h₁, h₂⟩
    rcases Sparse.get_default_or_mem (fun _ => ({} : ExtEntry)) t.exts (extKey c i) with h | h
    · rw [State.ext, h]
    · rw [ht, unmapRun, List.mem_filter, hrun, Bool.true_and, Bool.not_eq_true', ← unmapRun, ← ht] at h
      exact h.2
  · have hrun : inRun c index count (extKey x i) = false := by
      rw [← Bool.not_eq_true, inRun_extKey c index count x hi]; omega
    rw [State.ext, ht, unmapRun, Sparse.get_filter_of_pass _ _ _ _ (fun v => by simp [hrun]), State.ext]

theorem Moves.withExts {x : Ctx} {t : State} (h : Moves c x s t) (m : Sparse ExtEntry) :
    Moves c x { s with exts := m } { t with exts := m } := by
  refine ⟨⟨?_⟩, h.entry, h.others⟩
  exact congrArg (fun w : State => { w with exts := m }) h.books.frame

theorem queueReturns_nil (s : State) : queueReturns [] s = s := by simp [queueReturns]

/-- Once nothing is under the old entries, the clears of this package's extents are queued (R86). -/
theorem finishDrain_clear {pens : List Nat} (h : pens ≠ []) (n : Nat) (s : State) :
    ∃ u, Books s u ∧ finishDrain d (.clear n pens []) s = { u with
      clears := s.clears ++ pens.map (fun pen => { tier := penTier pen, ext := penExt pen, desc := some d, ctx := none })
      unmaps := s.unmaps ++ [(d, n)] } := by
  refine ⟨wakeTiers pens s, wakeTiers_books pens s, ?_⟩
  unfold finishDrain
  dsimp only
  rw [queueReturns_nil, if_neg h]
  rfl

/-- The commit of an unmapping, before its drain. -/
theorem commitChange_unmap (hl : ∀ e ∈ s.mappedIn c index count, e.2.remote = false) :
    commitChange (some d) (.unmap c index count) s = awaitDrain (some d) (s.under c)
      (.clear (s.mappedIn c index count).length ((s.mappedIn c index count).map (fun e => e.2.pen)) [])
      { counted c (· - (s.mappedIn c index count).length) s with exts := unmapRun c index count s.exts } := by
  have exts : (accrue c s).exts = s.exts := by rw [(accrue_books c s).frame]
  have loc : ∀ e ∈ (s.mappedIn c index count).map (·.2), e.remote = false := fun e he => by
    obtain ⟨k, hk, rfl⟩ := List.mem_map.1 he
    exact hl k hk
  have locals : ((s.mappedIn c index count).map (·.2)).filter (fun e => !e.remote) = (s.mappedIn c index count).map (·.2) :=
    List.filter_eq_self.2 (fun e he => by simp [loc e he])
  have remotes : ((s.mappedIn c index count).map (·.2)).filter (fun e => e.remote) = [] :=
    List.filter_eq_nil_iff.2 (fun e he => by simp [loc e he])
  have eq : commitChange (some d) (.unmap c index count) s = awaitDrain (some d) (s.under c)
      (.clear ((s.mappedIn c index count).map (·.2)).length
        ((((s.mappedIn c index count).map (·.2)).filter (fun e => !e.remote)).map (·.pen))
        ((((s.mappedIn c index count).map (·.2)).filter (fun e => e.remote)).map (fun e => (e.lease, e.pen))))
      { counted c (· - ((s.mappedIn c index count).map (·.2)).length) s with exts := unmapRun c index count (accrue c s).exts } := rfl
  rw [eq, locals, remotes, exts, List.length_map, List.map_map]
  rfl

theorem change_unmap {n : Nat} (hn : CommitsNow n s) (hu : NoneUnder c s)
    (hl : ∀ e ∈ s.mappedIn c index count, e.2.remote = false) :
    ∃ u, Moves c { s.ctx c with extCount := (s.ctx c).extCount - (s.mappedIn c index count).length } (startDesc d s) u ∧
      change n (some d) (.unmap c index count) s = finishDrain d
        (.clear (s.mappedIn c index count).length ((s.mappedIn c index count).map (fun e => e.2.pen)) [])
        { u with exts := unmapRun c index count s.exts } := by
  have start := logReplicas_books count (startDesc d s)
  have exts : (logReplicas count (startDesc d s)).exts = s.exts := by rw [start.frame]; rfl
  have run : (logReplicas count (startDesc d s)).mappedIn c index count = s.mappedIn c index count := by
    unfold State.mappedIn; rw [exts]
  have m := counted_moves c (· - (s.mappedIn c index count).length) (logReplicas count (startDesc d s))
  rw [start.ctx] at m
  refine ⟨_, Moves.afterBooks start m, ?_⟩
  have now := commitChange_unmap (d := d) (s := logReplicas count (startDesc d s)) (c := c) (index := index) (count := count)
    (by rw [run]; exact hl)
  rw [run, exts, awaitDrain_of_noneUnder hu start] at now
  rw [change_of_commitsNow hn]
  exact now

/-- EXT_UNMAP with its operands in range, for a context in a state that takes it. -/
structure UnmapsHere (d : DescRef) (c index count : Nat) (f : Fetched) (s : State) : Prop where
  ready : s.ready d 0x0201 [(8, 4, c), (12, 4, index), (20, 4, count)] = some f
  ctxid : c < 2 ^ 18
  least : 1 ≤ count
  most : count ≤ 65536
  legal : (s.ctx c).state = .building ∨ (s.ctx c).state = .live ∨ (s.ctx c).state = .frozen
  fits : index + count ≤ (s.ctx c).wsize * 128

theorem exec_extUnmap (d : DescRef) (c index count : Nat) (s : State) :
    exec (.extUnmap d c index count) s = execExtUnmap d c index count s := rfl

theorem UnmapsHere.exec (m : UnmapsHere d c index count f s) :
    exec (.extUnmap d c index count) s = .next
      (if (s.mappedIn c index count).any (fun e => e.2.migrating) then complete d 0x0D 0 s
       else if !s.returnsFit ((s.mappedIn c index count).filter (fun e => e.2.remote)).length then complete d 0x0C 0 s
       else change f.tier (some d) (.unmap c index count) s) := by
  have ok : (!countOk count) = false := by simp [countOk, m.least, m.most]
  refine (exec_extUnmap d c index count s).trans ((onReady_of_ready m.ready _).trans ?_)
  simp only [ok, Bool.false_eq_true, if_false]
  rw [inState_of_mem m.ctxid (by simpa using m.legal), if_neg (Nat.not_lt.2 m.fits)]
  rfl

theorem UnmapsHere.completes_migrating (m : UnmapsHere d c index count f s)
    (h : ∃ e ∈ s.mappedIn c index count, e.2.migrating = true) :
    Completes (.extUnmap d c index count) s (fun t => Done d 0x0D 0 s t ∧ Kept s t) := by
  refine ⟨_, m.exec, ?_⟩
  rw [if_pos (List.any_eq_true.2 h)]
  exact refused (State.fetchedOf_of_ready m.ready) 0x0D

theorem UnmapsHere.exec_local (m : UnmapsHere d c index count f s)
    (hl : ∀ e ∈ s.mappedIn c index count, e.2.migrating = false ∧ e.2.remote = false) :
    Machine.exec (.extUnmap d c index count) s = .next (change f.tier (some d) (.unmap c index count) s) := by
  have still : ¬ (s.mappedIn c index count).any (fun e => e.2.migrating) = true := by
    simpa using fun k e he => (hl (k, e) he).1
  have remotes : (s.mappedIn c index count).filter (fun e => e.2.remote) = [] :=
    List.filter_eq_nil_iff.2 (fun e he => by simp [hl e he])
  rw [m.exec, if_neg still, remotes]
  rfl

theorem UnmapsHere.completes (m : UnmapsHere d c index count f s)
    (hl : ∀ e ∈ s.mappedIn c index count, e.2.migrating = false ∧ e.2.remote = false) (hn : CommitsNow f.tier s)
    (hu : NoneUnder c s) :
    Completes (.extUnmap d c index count) s (fun t =>
      (∀ i, i < 2 ^ 20 → index ≤ i → i < index + count → (t.ext c i).valid = false) ∧
      (∀ x i, i < 2 ^ 20 → x ≠ c ∨ i < index ∨ index + count ≤ i → t.ext x i = s.ext x i) ∧
      (t.ctx c).extCount = (s.ctx c).extCount - (s.mappedIn c index count).length ∧
      t.clears = s.clears ++ (s.mappedIn c index count).map (fun e => { tier := penTier e.2.pen, ext := penExt e.2.pen, desc := some d }) ∧
      (s.mappedIn c index count = [] → Done d 0 0 s t) ∧
      (s.mappedIn c index count ≠ [] → t.cplQ = s.cplQ ∧ t.unmaps = s.unmaps ++ [(d, (s.mappedIn c index count).length)]) ∧
      t.alloc = s.alloc ∧ t.valid = s.valid ∧ t.slices = s.slices ∧ t.cistern = s.cistern) := by
  obtain ⟨u, hm, now⟩ := change_unmap (d := d) hn hu (fun e he => (hl e he).2)
  refine ⟨_, m.exec_local hl, ?_⟩
  rw [now]
  by_cases none : s.mappedIn c index count = []
  · have e := ends_complete (State.fetchedOf_of_ready m.ready) hm 0
    have eq : finishDrain d (.clear (s.mappedIn c index count).length ((s.mappedIn c index count).map (fun e => e.2.pen)) [])
        { u with exts := unmapRun c index count s.exts } = { complete d 0 0 u with exts := unmapRun c index count s.exts } := by
      rw [none, ← complete_withExts]
      simp [finishDrain, queueReturns_nil]
    obtain ⟨-, alloc, valid, slices, cistern, -⟩ := e.moved.tables
    obtain ⟨cleared, others⟩ := ext_of_unmapped (c := c) (index := index) (count := count) (s := s)
      (t := { complete d 0 0 u with exts := unmapRun c index count s.exts }) rfl
    have clears : (complete d 0 0 u).clears = s.clears := (congrArg State.clears e.moved.books.frame :)
    rw [eq]
    exact ⟨cleared, others, congrArg Ctx.extCount e.moved.entry, by simp [none, clears], fun _ => ⟨e.done.left, e.done.queued⟩,
      fun h => absurd none h, alloc, valid, slices, cistern⟩
  · obtain ⟨w, hw, eq⟩ := finishDrain_clear (d := d) (mt List.map_eq_nil_iff.1 none) (s.mappedIn c index count).length
      { u with exts := unmapRun c index count s.exts }
    have moved := (hm.withExts (unmapRun c index count s.exts)).andBooks hw
    have frame := moved.books.frame
    obtain ⟨exts, alloc, valid, slices, cistern, -⟩ := moved.tables
    obtain ⟨cleared, others⟩ := ext_of_unmapped (c := c) (index := index) (count := count) (s := s) (t := w) exts
    have cplQ : w.cplQ = s.cplQ := by rw [frame]; rfl
    have clears : u.clears = s.clears := by rw [hm.books.frame]; rfl
    have unmaps : u.unmaps = s.unmaps := by rw [hm.books.frame]; rfl
    rw [eq]
    refine ⟨cleared, others, congrArg Ctx.extCount moved.entry, ?_, fun h => absurd h none, fun _ => ⟨cplQ, ?_⟩, alloc, valid,
      slices, cistern⟩
    · dsimp only; rw [clears, List.map_map]; rfl
    · dsimp only; rw [unmaps]

end
end Sys2Proof.Machine

namespace Sys2Proof.Machine
open Sys2Proof.Safety

/-! ### VALID_LINE_CLEAR (R86) -/

/-- `u` differs from `s` at most in the poison lists, with the register that shows tier `t`'s. -/
structure Listed (t : Nat) (s u : State) : Prop where
  frame : u = { s with poison := u.poison, regs := u.regs, ovfTime := u.ovfTime }
  regs : ∀ o, o ≠ eccBase t + 0x18 → u.reg o = s.reg o

theorem Listed.refl (t : Nat) (s : State) : Listed t s s := ⟨rfl, fun _ _ => rfl⟩

theorem Listed.trans {t : Nat} {s u v : State} (h : Listed t s u) (k : Listed t u v) : Listed t s v := by
  refine ⟨?_, fun o ho => (k.regs o ho).trans (h.regs o ho)⟩
  have a := k.frame
  rw [h.frame] at a
  exact a

theorem Listed.setReg {t o : Nat} (s : State) (v : DWord) (ho : o = eccBase t + 0x18) : Listed t s (s.setReg o v) :=
  ⟨rfl, fun _ hj => State.reg_setReg_ne s v (ho ▸ hj)⟩

theorem Listed.put {t b : Nat} {f : Fld} (s : State) (v : Nat) (h : b + f.off = eccBase t + 0x18) : Listed t s (s.put b f v) :=
  Listed.setReg s _ h

theorem Listed.setPoison (t : Nat) (s : State) (m : Sparse (List Poison)) : Listed t s { s with poison := m } := ⟨rfl, fun _ _ => rfl⟩
theorem Listed.setOvfTime (t : Nat) (s : State) (m : Sparse Nat) : Listed t s { s with ovfTime := m } := ⟨rfl, fun _ _ => rfl⟩

theorem setPlist_listed (t : Nat) (l : List Poison) (s : State) : Listed t s (setPlist t l s) := by
  have count (u : State) (n : Nat) : Listed t u (u.put (eccBase t) ECC_PLIST_COUNT n) := Listed.put u n rfl
  have ovf (u : State) (n : Nat) : Listed t u (u.put (eccBase t) ECC_PLIST_OVF n) := Listed.put u n rfl
  have counted := (Listed.setPoison t s (Sparse.set (fun _ => []) s.poison t l)).trans (count _ l.length)
  unfold setPlist
  dsimp only
  split
  · exact (counted.trans (ovf _ _)).trans (Listed.setOvfTime t _ _)
  · exact counted

theorem unlistExtent_listed (t pen : Nat) (s : State) : Listed t s (unlistExtent t pen s) := by
  unfold unlistExtent
  split
  · exact setPlist_listed _ _ _
  · exact Listed.refl t s

section
variable {t e : Nat} {s : State}

/-- What clearing a valid-map line leaves: the line is `v` (the empty one), its extent free, and the poison list without its
entries. -/
structure Cleared (t e : Nat) (v : ValidLine) (s u : State) : Prop where
  frame : u = { s with
    valid := u.valid, alloc := u.alloc, poison := u.poison, regs := u.regs, ovfTime := u.ovfTime }
  valid : u.valid = (s.setValidLine t e v).valid
  alloc : u.allocBit t e = false

theorem Cleared.get (v : ValidLine) {u : State} (h : Cleared t e v s u) (k : Nat) :
    Sparse.get (fun _ => {}) u.valid k = if k = tierExt t e then v else Sparse.get (fun _ => {}) s.valid k := by
  rw [h.valid]
  exact Sparse.get_set _ _ _ _ _

theorem Listed.valid {u : State} (h : Listed t s u) : u.valid = s.valid := by rw [h.frame]
theorem Listed.badExt {v : ValidLine} {u : State} (h : Listed t (s.setValidLine t e v) u) : u.badExt = s.badExt := by
  rw [h.frame]; rfl

theorem Listed.cleared {v : ValidLine} {u : State} (h : Listed t (s.setValidLine t e v) u) :
    Cleared t e v s (u.setAlloc t e false) := by
  refine ⟨?_, h.valid, State.allocBit_setAlloc_same _ _ _ _⟩
  rw [h.frame]; rfl

theorem freeExtent_clearValid (hb : Sparse.get (fun _ => 0) s.badExt (tierExt t e) = 0) :
    Cleared t e {} s (freeExtent t e (clearValid t e s)) := by
  have listed : Listed t (s.setValidLine t e {}) (clearValid t e s) := unlistExtent_listed _ _ _
  have bad : Sparse.get (fun _ => 0) (clearValid t e s).badExt (tierExt t e) = 0 := by rw [listed.badExt]; exact hb
  unfold freeExtent
  rw [if_pos bad]
  exact listed.cleared

theorem exec_validLineClear_none (h : ∀ j ∈ s.clears, ¬(j.tier = t ∧ j.ext = e)) :
    exec (.validLineClear t e) s = .next s := by
  have none : s.clears.find? (fun j => j.tier = t && j.ext = e) = none := by
    simpa [List.find?_eq_none] using h
  show execValidLineClear t e s = _
  simp [execValidLineClear, none]

/-- What follows a clear: the last of an EXT_UNMAP completes its descriptor. -/
def afterClear (j : ClearJob) (s : State) : State :=
  match j.desc with
  | none => s
  | some d =>
    if s.clears.any (fun x => x.desc = some d) then s
    else match s.unmaps.find? (fun u => u.1 = d) with
      | none => s
      | some u => complete d 0 u.2 { s with unmaps := s.unmaps.erase u }

theorem exec_validLineClear {j : ClearJob} (hj : s.clears.find? (fun j => j.tier = t && j.ext = e) = some j)
    (hp : (s.tier t).power < 2) (hpr : (s.tier t).portReset = false) (her : (s.tier t).engReset = false)
    (hr : s.reacting = false) :
    exec (.validLineClear t e) s =
      .next (afterClear j (freeExtent t e (clearValid t e { s with clears := s.clears.erase j }))) := by
  show execValidLineClear t e s = _
  unfold execValidLineClear afterClear
  rw [hj]
  simp only [hpr, her, hr, Nat.not_le.2 hp, decide_false, Bool.or_false, Bool.false_eq_true, if_false]
  generalize freeExtent t e (clearValid t e { s with clears := s.clears.erase j }) = u
  cases j.desc with
  | none => rfl
  | some d =>
    by_cases h : u.clears.any (fun x => x.desc = some d) = true
    · simp only [h, if_true]
    · simp only [h]
      cases u.unmaps.find? (fun x => x.1 = d) <;> rfl

/-- A completion, where one follows, leaves what the clear left. -/
theorem afterClear_frame (j : ClearJob) (s : State) :
    afterClear j s = { s with
      fetched := (afterClear j s).fetched, cplQ := (afterClear j s).cplQ, unmaps := (afterClear j s).unmaps } := by
  unfold afterClear
  split
  · rfl
  · split
    · rfl
    · split
      · rfl
      · unfold complete
        split <;> rfl

theorem completes_validLineClear {j : ClearJob} (hj : s.clears.find? (fun j => j.tier = t && j.ext = e) = some j)
    (hp : (s.tier t).power < 2) (hpr : (s.tier t).portReset = false) (her : (s.tier t).engReset = false)
    (hr : s.reacting = false) (hb : Sparse.get (fun _ => 0) s.badExt (tierExt t e) = 0) :
    Completes (.validLineClear t e) s (fun u => u.validLine t e = {} ∧ u.allocBit t e = false ∧
      (∀ k, k ≠ tierExt t e → Sparse.get (fun _ => {}) u.valid k = Sparse.get (fun _ => {}) s.valid k) ∧
      u.clears = s.clears.erase j ∧ u.ctxs = s.ctxs ∧ u.exts = s.exts ∧ u.cistern = s.cistern ∧ u.slices = s.slices ∧
      (∀ d n g, j.desc = some d → (∀ x ∈ s.clears.erase j, x.desc ≠ some d) →
        s.unmaps.find? (fun x => x.1 = d) = some (d, n) → s.fetchedOf d = some g → Done d 0 n s u) ∧
      (j.desc = none → u.cplQ = s.cplQ)) := by
  refine ⟨_, exec_validLineClear hj hp hpr her hr, ?_⟩
  have cleared := freeExtent_clearValid (t := t) (e := e) (s := { s with clears := s.clears.erase j }) hb
  generalize freeExtent t e (clearValid t e { s with clears := s.clears.erase j }) = u at cleared
  have frame := cleared.frame
  have after := afterClear_frame j u
  have valid : (afterClear j u).valid = u.valid := by rw [after]
  have alloc : (afterClear j u).allocBit t e = u.allocBit t e := by rw [after]; rfl
  have kept : (afterClear j u).clears = s.clears.erase j ∧ (afterClear j u).ctxs = s.ctxs ∧ (afterClear j u).exts = s.exts ∧
      (afterClear j u).cistern = s.cistern ∧ (afterClear j u).slices = s.slices := by
    rw [after, frame]; exact ⟨rfl, rfl, rfl, rfl, rfl⟩
  obtain ⟨clears, ctxs, exts, cistern, slices⟩ := kept
  refine ⟨?_, alloc.trans cleared.alloc, fun k hk => ?_, clears, ctxs, exts, cistern, slices, fun d n g hd hlast hn hg => ?_, fun hd => ?_⟩
  · rw [State.validLine, valid, cleared.get, if_pos rfl]
  · rw [valid, cleared.get, if_neg hk]
  · have last : u.clears.any (fun x => x.desc = some d) = false := by
      rw [frame]; simpa using hlast
    have unmaps : u.unmaps.find? (fun x => x.1 = d) = some (d, n) := by rw [frame]; exact hn
    have fetched : u.fetchedOf d = some g := by rw [frame]; exact hg
    have now : afterClear j u = complete d 0 n { u with unmaps := u.unmaps.erase (d, n) } := by
      simp [afterClear, hd, last, unmaps]
    rw [now]
    have done := (done_kept_complete (s := { u with unmaps := u.unmaps.erase (d, n) }) fetched 0 n).1
    exact done_of_same_buffers done (by rw [frame]) (by rw [frame])
  · have now : afterClear j u = u := by simp [afterClear, hd]
    rw [now, frame]

end

/-- Settles O12: the checks of EXT_MAP in their order and its commit, EXT_UNMAP's commit with its drain, and the clears. -/
theorem extentMapping : Obligations.ExtentMapping := by
  unfold Obligations.ExtentMapping
  refine ⟨⟨fun d c index pen count f s h hc h₁ h₂ hp hr hpkg hs => ?map, ?outside⟩, fun d c index count f s h hc h₁ h₂ hs hw => ?unmap,
    ?clear, fun t e s h => exec_validLineClear_none h⟩
  case map =>
    have m : MapsHere d c index pen count f s := ⟨h, hc, h₁, h₂, hp, hr, hpkg, hs⟩
    exact ⟨m.completes_off, fun i hpow hi hb => m.completes_unbacked hpow hi hb,
      fun i hpow hw hb hi ht => m.completes_taken hpow hw hb hi ht, m.completes⟩
  case outside => exact fun d c index pen count lease k f s h hp hk hout => completes_extMap_outside h hp hk hout
  case unmap =>
    have m : UnmapsHere d c index count f s := ⟨h, hc, h₁, h₂, hs, hw⟩
    exact ⟨m.completes_migrating, m.completes⟩
  case clear => exact fun t e j s hj hp hpr her hr hb => completes_validLineClear hj hp hpr her hr hb

end Sys2Proof.Machine

namespace Sys2Proof.Machine
open Sys2Proof.Safety

/-! ### From a port to the tier that owns the line (R20, R80, R85) -/

/-- `u` differs from `s` at most in what the admission of a request notes: when tiers were last busy, and tokens. -/
structure Admitted (s u : State) : Prop where
  frame : u = { s with tiers := u.tiers, portWeirs := u.portWeirs }
  tiers : ∀ k, ∃ i, u.tier k = { s.tier k with idleSince := i }

theorem Admitted.trans {s t u : State} (h : Admitted s t) (k : Admitted t u) : Admitted s u := by
  refine ⟨?_, fun n => ?_⟩
  · have a := k.frame
    rw [h.frame] at a
    exact a
  · obtain ⟨i, hi⟩ := h.tiers n
    obtain ⟨j, hj⟩ := k.tiers n
    exact ⟨j, by rw [hj, hi]⟩

theorem wakeTier_of_awake {t : Nat} {s : State} (h : (s.tier t).power = 0) :
    wakeTier t s = s.setTier t { s.tier t with idleSince := s.us } := by simp [wakeTier, h]

theorem wakeTier_admitted {t : Nat} {s : State} (h : (s.tier t).power = 0) : Admitted s (wakeTier t s) := by
  rw [wakeTier_of_awake h]
  refine ⟨rfl, fun k => ?_⟩
  rw [State.tier_setTier]
  split
  · next e => exact ⟨s.us, by rw [e]⟩
  · exact ⟨(s.tier k).idleSince, rfl⟩

theorem takeToken_admitted (p k t : Nat) (s : State) : Admitted s (takeToken p k t s) :=
  ⟨rfl, fun n => ⟨(s.tier n).idleSince, rfl⟩⟩

theorem Admitted.power {s u : State} (h : Admitted s u) (t : Nat) : (u.tier t).power = (s.tier t).power := by
  obtain ⟨i, e⟩ := h.tiers t
  rw [e]

theorem Admitted.tierWait {s u : State} (h : Admitted s u) (t : Nat) : u.tierWait t = s.tierWait t := by
  obtain ⟨i, e⟩ := h.tiers t
  simp only [State.tierWait, e]

/-- A request that has passed its translation point with the access `a` in window `w` of a context with entry `x`. -/
def Req.translated (r : Req) (w : Window) (x : Ctx) (a : Acc) : Req :=
  { r with
    ctx := w.ctx, cls := x.cls, tier := a.t, chan := chanOf a.off, admitted := true, passed := true, off := a.off
    idx := indexOf w r.dpa, key := x.keyId, integ := x.integrity, noalloc := x.noalloc, wthru := x.wthru }

section
variable {p hpa : Nat} {w : Window} {a : Acc} {s u : State}

theorem attempt_of_reached (h : Reached p hpa w a s) (hu : Admitted s u) (ht : u.hasToken p a.cls = true) {r : Req}
    (hp : r.port = p) (hd : r.dpa = dpaOf p hpa s) (hr : r.passed = false) :
    attempt r u = attemptPassed (r.translated w (s.ctx w.ctx) a) (takeToken p a.cls a.t u) := by
  obtain ⟨i, hw⟩ := h.window
  obtain ⟨e, he, hvalid, hretired, hremote, hmig, hat, hoff⟩ := h.entry
  have cls : a.cls = (s.ctx w.ctx).cls := congrArg Acc.cls h.access
  have awake : ¬ 2 ≤ (u.tier (portTier p)).power := by rw [hu.power, h.awake]; decide
  have port : u.port p = s.port p := by rw [hu.frame]; rfl
  have ctx : u.ctx w.ctx = s.ctx w.ctx := by rw [hu.frame]; rfl
  have ext : u.ext w.ctx ((dpaOf p hpa s - w.wbase * 2 ^ 28) / 2 ^ 21) = e := by rw [← he, hu.frame]; rfl
  have path : u.reaches (portTier p) a.t = true := by rw [← h.path, hu.frame]; rfl
  unfold attempt
  rw [cls] at ht ⊢
  simp only [hr, hp, hd, awake, port, hw, h.opened, ctx, h.thawed, ext, hvalid, hretired, hremote, hmig, ← hat, path, ht,
    Bool.false_eq_true, if_false, Bool.not_true, Bool.not_false, Bool.and_false, Bool.false_and]
  rw [← hoff]
  simp only [Req.translated, indexOf, hp, hd]

/-- `x` differs from `v` at most in leaf counters and in the pages that migrations note as written. -/
def Counted (v x : State) : Prop := x = { v with leaves := x.leaves, migrations := x.migrations }

/-- The response to a host's request that a tier has served, for each DevLoad. -/
def Served.response (p tag : Nat) : Served → Option (Nat → Output)
  | .data m _ => some (.readResp p tag m false)
  | .zeros => some (.readResp p tag 0 false)
  | .written _ _ => some (.writeResp p tag)
  | _ => none

/-- A tier of power 0 that can serve answers what its service of the access gives. -/
theorem attemptPassed_of_served {r : Req} {o : Served} {y : Nat → Output} {v : State}
    (ha : a = { t := r.tier, off := r.off, ctx := r.ctx, key := r.key, cls := r.cls, integ := r.integ
                noalloc := r.noalloc, wthru := r.wthru, dpa := r.dpa / 64 * 64 })
    (hw : (wakeTier r.tier s).tierWait r.tier = none)
    (hs : serveLocal a r.kind r.data r.be r.poison (wakeTier r.tier s) = (v, o)) (ho : o.response r.port r.tag = some y) :
    ∃ x d, Counted v x ∧ attemptPassed r s = (x.emit (y d), none) := by
  unfold attemptPassed
  dsimp only
  rw [hw, ← ha]
  dsimp only
  rw [hs]
  cases o with
  | data m hit =>
    obtain rfl := Option.some.inj ho
    cases hit <;> refine ⟨_, _, ?_, rfl⟩ <;> rfl
  | zeros =>
    obtain rfl := Option.some.inj ho
    refine ⟨_, _, ?_, rfl⟩
    rfl
  | written n hit =>
    obtain rfl := Option.some.inj ho
    refine ⟨_, _, ?_, rfl⟩
    rfl
  | poison => cases ho
  | discarded => cases ho
  | silent => cases ho
  | wait why => cases ho

/-- A request that reaches its tier is answered as the tier serves it, in a state that only its admission has touched. -/
theorem hostRequest_of_reached (h : Reached p hpa w a s) (kind : ReqKind) (tag : Nat) (l : Line) (be : BitVec 64)
    (poison : Bool) :
    ∃ u, Admitted s u ∧ ∀ v o y, serveLocal a kind l be poison u = (v, o) → o.response p tag = some y →
      ∃ x d, Counted v x ∧ hostRequest kind p tag hpa l be poison s = x.emit (y d) := by
  have awake := wakeTier_admitted h.awake
  have taken := awake.trans (takeToken_admitted p a.cls a.t _)
  have served := taken.trans (wakeTier_admitted ((taken.power a.t).trans h.serves))
  refine ⟨_, served, fun v o y hs ho => ?_⟩
  have token : (wakeTier (portTier p) s).hasToken p a.cls = true := by rw [wakeTier_of_awake h.awake]; exact h.token
  have wait := (served.tierWait a.t).trans h.ready
  let r : Req := { port := p, tag := tag, kind := kind, data := l, be := be, poison := poison, arrival := s.us
                   dpa := dpaOf p hpa s }
  have tried := attempt_of_reached h awake token (r := r) rfl rfl rfl
  obtain ⟨x, d, hx, passed⟩ := attemptPassed_of_served (r := r.translated w (s.ctx w.ctx) a) h.access wait hs ho
  refine ⟨x, d, hx, ?_⟩
  have inside : ((s.port p).decoder.committed && (s.port p).decoder.base ≤ hpa &&
      hpa < (s.port p).decoder.base + (s.port p).decoder.size) = true := by
    simp [h.committed, h.above, h.below]
  unfold hostRequest
  simp only [h.admits, Bool.not_true, Bool.false_eq_true, if_false]
  rw [if_pos inside]
  have attempted := tried.trans passed
  show serveReq r _ = _
  unfold serveReq
  show (match attempt r (wakeTier (portTier p) s) with | (s, none) => s | (s, some (why, r)) => holdReq r why s) = _
  rw [attempted]

end
end Sys2Proof.Machine

namespace Sys2Proof.Machine
open Sys2Proof.Safety

/-! ### Ways of the basin (R101-R103) -/

theorem State.way_of_slices {s u : State} (h : u.slices = s.slices) : u.way = s.way := by
  funext t j n k
  simp only [State.way, State.slice, h]

theorem State.sliceOf_lt (s : State) (t off : Nat) : s.sliceOf t off < 16 := by
  have e (m : Nat) : 4 * m + 3 + 1 - 4 * m = 4 := by omega
  simp only [State.sliceOf, bitsAt, e]
  exact Nat.mod_lt _ (by decide)

/-- `u` differs from `s` at most in what an access to runnel `j` of tier `t` moves: lines, the slices' count of hits, the
poison list, counts, and what its admission notes. -/
structure Noted (t j : Nat) (s u : State) : Prop where
  frame : u = { s with
    slices := u.slices, regs := u.regs, poison := u.poison, ovfTime := u.ovfTime, tiers := u.tiers
    portWeirs := u.portWeirs, leaves := u.leaves, migrations := u.migrations }
  regs : ∀ o, o ≠ bsnBase t j + 8 → o ≠ eccBase t + 0x18 → u.reg o = s.reg o
  tiers : ∀ k, ∃ i, u.tier k = { s.tier k with idleSince := i }

section
variable {t j n y : Nat} {v v' : Way} {s u x : State}

theorem Noted.trans (h : Noted t j s u) (k : Noted t j u x) : Noted t j s x := by
  refine ⟨?_, fun o ho ho' => (k.regs o ho ho').trans (h.regs o ho ho'), fun m => ?_⟩
  · have a := k.frame
    rw [h.frame] at a
    exact a
  · obtain ⟨i, hi⟩ := h.tiers m
    obtain ⟨i', hi'⟩ := k.tiers m
    exact ⟨i', by rw [hi', hi]⟩

theorem Admitted.noted (h : Admitted s u) : Noted t j s u :=
  ⟨by rw [h.frame], fun o _ _ => by rw [h.frame]; rfl, h.tiers⟩

theorem Listed.noted (h : Listed t s u) : Noted t j s u :=
  ⟨by rw [h.frame], fun o _ ho => h.regs o ho, fun m => ⟨(s.tier m).idleSince, by rw [h.frame]; rfl⟩⟩

theorem Listed.slices (h : Listed t s u) : u.slices = s.slices := by rw [h.frame]

theorem Counted.noted (h : Counted s u) : Noted t j s u := by
  rw [Counted] at h
  exact ⟨by rw [h], fun o _ _ => by rw [h]; rfl, fun m => ⟨(s.tier m).idleSince, by rw [h]; rfl⟩⟩

theorem setSlice_noted (t' j' : Nat) (sl : Slice) : Noted t j s (s.setSlice t' j' sl) :=
  ⟨rfl, fun _ _ _ => rfl, fun m => ⟨(s.tier m).idleSince, rfl⟩⟩

theorem count_noted {o : Nat} (c : Nat) (ho : o = bsnBase t j + 8) : Noted t j s (s.count o c) :=
  ⟨rfl, fun _ hi _ => State.reg_count_ne s c (ho ▸ hi), fun m => ⟨(s.tier m).idleSince, rfl⟩⟩

/-- Way `y` of a set of the runnel becomes `v`, and every other way stays. -/
structure WayMoves (t j n y : Nat) (v : Way) (s u : State) : Prop extends Noted t j s u where
  entry : u.way t j n y = v
  others : ∀ t' j' n' k, j' < 16 → (t', j', n', k) ≠ (t, j, n, y) → u.way t' j' n' k = s.way t' j' n' k

theorem Noted.wayMoves (h : Noted t j s u) (e : u.slices = s.slices) : WayMoves t j n y (s.way t j n y) s u :=
  ⟨h, by rw [State.way_of_slices e], fun _ _ _ _ _ _ => by rw [State.way_of_slices e]⟩

theorem WayMoves.trans (h : WayMoves t j n y v s u) (k : WayMoves t j n y v' u x) : WayMoves t j n y v' s x :=
  ⟨h.toNoted.trans k.toNoted, k.entry, fun t' j' n' m hj hne => (k.others t' j' n' m hj hne).trans (h.others t' j' n' m hj hne)⟩

/-- A step that leaves the way as it stands adds nothing. -/
theorem WayMoves.keeping (h : WayMoves t j n y v s u) (k : WayMoves t j n y (u.way t j n y) u x) : WayMoves t j n y v s x := by
  have step := h.trans k
  rwa [h.entry] at step

theorem WayMoves.noted (h : WayMoves t j n y v s u) (k : Noted t j u x) (e : x.slices = u.slices) :
    WayMoves t j n y v s x := h.keeping (k.wayMoves e)

theorem State.way_setSlice (t j t' j' n k : Nat) (sl : Slice) (s : State) :
    (s.setSlice t j sl).way t' j' n k = if t' * 16 + j' = t * 16 + j then Sparse.get (fun _ => {}) (sl.set n) k
      else s.way t' j' n k := by
  unfold State.way State.slice State.setSlice
  rw [Sparse.get_set]
  split <;> rfl

theorem setSlice_wayMoves {sl : Slice} (h : sl.sets = (s.slice t j).sets) :
    WayMoves t j n y (s.way t j n y) s (s.setSlice t j sl) := by
  have same (t' j' n' k : Nat) : (s.setSlice t j sl).way t' j' n' k = s.way t' j' n' k := by
    rw [State.way_setSlice]
    split
    · next e => simp only [State.way, State.slice, Slice.set, e, h]
    · rfl
  exact ⟨setSlice_noted t j sl, same t j n y, fun t' j' n' k _ _ => same t' j' n' k⟩

theorem State.way_setWay (t j n y t' j' n' k : Nat) (v : Way) (s : State) (_ : j < 16) (_ : j' < 16) :
    (s.setWay t j n y v).way t' j' n' k = if (t', j', n', k) = (t, j, n, y) then v else s.way t' j' n' k := by
  unfold State.setWay
  rw [State.way_setSlice]
  simp only [Prod.mk.injEq]
  by_cases e : t' * 16 + j' = t * 16 + j
  · obtain ⟨rfl, rfl⟩ : t' = t ∧ j' = j := by omega
    simp only [Slice.set, Sparse.get_set, State.way]
    by_cases hn : n' = n
    · subst hn
      simp [Sparse.get_set]
    · simp [hn]
  · have : ¬(t' = t ∧ j' = j ∧ n' = n ∧ k = y) := fun h => e (by omega)
    rw [if_neg e, if_neg this]

theorem setWay_wayMoves (v : Way) (s : State) (hj : j < 16) : WayMoves t j n y v s (s.setWay t j n y v) :=
  ⟨setSlice_noted t j _, by rw [State.way_setWay _ _ _ _ _ _ _ _ _ _ hj hj, if_pos rfl], fun t' j' n' k hj' hne => by
    rw [State.way_setWay _ _ _ _ _ _ _ _ _ _ hj hj', if_neg hne]⟩

end

/-! ### The registers an access reads -/

theorem Noted.sliceOf {t j : Nat} {s u : State} (h : Noted t j s u) (_ : j < 16) (off : Nat) :
    u.sliceOf t off = s.sliceOf t off := by
  have hv : sliceHash (sectorOf off) < 64 := Nat.mod_lt _ (by decide)
  have reg := h.regs (bsnBase t 0 + 0x210 + 4 * (sliceHash (sectorOf off) / 8))
    (by simp only [bsnBase]; omega) (by simp only [bsnBase, eccBase]; omega)
  simp only [State.sliceOf, reg]

theorem Noted.through {a : Acc} {j : Nat} {s u : State} (h : Noted a.t j s u) (hj : j = s.sliceOf a.t a.off) :
    u.through a = s.through a := by
  have lt : j < 16 := hj ▸ s.sliceOf_lt a.t a.off
  have reg := h.regs (bsnBase a.t j + BSN_SLICE_STATUS_WIDTH.off)
    (by simp only [bsnBase, BSN_SLICE_STATUS_WIDTH]; omega) (by simp only [bsnBase, eccBase, BSN_SLICE_STATUS_WIDTH]; omega)
  simp only [State.through, State.halfWidth, h.sliceOf lt, ← hj, State.get, reg]

theorem Noted.injection {t j : Nat} {s u : State} (h : Noted t j s u) (_ : j < 16) :
    u.get (eccBase t) ECC_INJ_CTL_COUNT = s.get (eccBase t) ECC_INJ_CTL_COUNT := by
  have reg := h.regs (eccBase t + ECC_INJ_CTL_COUNT.off)
    (by simp only [bsnBase, eccBase, ECC_INJ_CTL_COUNT]; omega) (by simp only [eccBase, ECC_INJ_CTL_COUNT]; omega)
  simp only [State.get, reg]

theorem takeInjection_of_spent {t m : Nat} {s : State} (h : s.get (eccBase t) ECC_INJ_CTL_COUNT = 0) :
    takeInjection t m s = (s, none) := by simp [takeInjection, h]

/-! ### A set in which every way entry checks (R103, R110) -/

theorem forEach_of_fixed {α σ : Type} (l : List α) (f : α → σ → σ) (s : σ) (h : ∀ a ∈ l, f a s = s) : forEach l f s = s := by
  induction l with
  | nil => rfl
  | cons a l ih =>
    rw [forEach_cons, h a (by simp)]
    exact ih (fun b hb => h b (by simp [hb]))

theorem openSet_of_checks {t j n : Nat} {s : State}
    (h : ∀ k, k < 16 → (s.way t j n k).copy0Bad = false ∧ (s.way t j n k).copy1Bad = false) : openSet t j n s = s := by
  refine forEach_of_fixed _ _ s (fun k hk => ?_)
  obtain ⟨h0, h1⟩ := h k (List.mem_range.1 hk)
  simp [h0, h1]

section
variable {a : Acc} {y : Nat} {s u : State}

theorem inWay_of_unmoved (h : InWay a y s) (slices : u.slices = s.slices) (off : u.sliceOf a.t a.off = s.sliceOf a.t a.off) :
    InWay a y u := by
  have way := State.way_of_slices slices
  constructor
  · rw [way, off]; exact h.checks
  · rw [State.findWay, way, off]; exact h.found
  · rw [way, off]; exact h.present
  · rw [way, off]; exact h.clean
  · exact h.cached

/-- Way `y` of the access's set. -/
def State.wayOf (s : State) (a : Acc) (y : Nat) : Way := s.way a.t (s.sliceOf a.t a.off) (setNo a.off) y

/-- The way as a hit leaves it (R103, R107). -/
def Way.touched (v : Way) (a : Acc) : Way := { v with age := 0, cls := a.cls }

/-- The state after a lookup that hits way `y`: the way young and of the access's class, the hit counted. -/
def hitState (a : Acc) (y : Nat) (s : State) : State :=
  (touchWay a (s.sliceOf a.t a.off) (setNo a.off) y s).count (bsnBase a.t (s.sliceOf a.t a.off) + 8) 1

theorem hitState_wayMoves (a : Acc) (y : Nat) (s : State) :
    WayMoves a.t (s.sliceOf a.t a.off) (setNo a.off) y ((s.wayOf a y).touched a) s (hitState a y s) :=
  (setWay_wayMoves _ s (s.sliceOf_lt _ _)).noted (count_noted 1 rfl) rfl

theorem lookup_of_inWay (h : InWay a y s) (use : ReadFor) :
    lookup a use s = (hitState a y s, .hit y ((s.wayOf a y).line (basinLine a.off)).data
      ((s.wayOf a y).dirty.getLsbD (basinLine a.off))) := by
  unfold lookup
  dsimp only
  rw [openSet_of_checks h.checks, h.found]
  dsimp only
  rw [h.present, if_pos rfl, h.clean]
  rfl

theorem localRead_of_inWay (h : InWay a y s) :
    localRead a s = (hitState a y s, .data ((s.wayOf a y).line (basinLine a.off)).data false, true) := by
  unfold localRead
  rw [h.cached, if_neg Bool.false_ne_true, lookup_of_inWay h]

end
end Sys2Proof.Machine

namespace Sys2Proof.Machine
open Sys2Proof.Safety

/-! ### Storing a line in the basin (R102, R105) -/

section
variable {a : Acc} {y : Nat} {s u : State}

/-- The way as a write of the access's line leaves it. -/
def Way.stored (v : Way) (a : Acc) (l : Line) : Way :=
  { v with
    present := v.present ||| bit32 (basinLine a.off), dirty := v.dirty ||| bit32 (basinLine a.off), cls := a.cls
    lines := Sparse.set (fun _ => {}) v.lines (basinLine a.off)
      { data := l, code := .clean, key := a.key, ctx := a.ctx, integrity := a.integ } }

theorem Way.line_stored_same (v : Way) (a : Acc) (l : Line) :
    (v.stored a l).line (basinLine a.off) = { data := l, code := .clean, key := a.key, ctx := a.ctx, integrity := a.integ } :=
  Sparse.get_set_same _ _ _ _

theorem Way.line_stored_ne (v : Way) (a : Acc) (l : Line) {m : Nat} (h : m ≠ basinLine a.off) :
    (v.stored a l).line m = v.line m := Sparse.get_set_ne _ _ _ h

theorem getLsbD_or_bit32 (x : BitVec 32) (a : Acc) : (x ||| bit32 (basinLine a.off)).getLsbD (basinLine a.off) = true := by
  have lt : basinLine a.off < 32 := Nat.mod_lt _ (by decide)
  rw [BitVec.getLsbD_or, bit32, getLsbD_ofNat_two_pow]
  simp [lt]

theorem putBasin_wayMoves (l : Line) (h : s.get (eccBase a.t) ECC_INJ_CTL_COUNT = 0) :
    WayMoves a.t (s.sliceOf a.t a.off) (setNo a.off) y ((s.wayOf a y).stored a l) s (putBasin a y l false true s) := by
  have put := setWay_wayMoves (t := a.t) (n := setNo a.off) (y := y) ((s.wayOf a y).stored a l) s (s.sliceOf_lt a.t a.off)
  unfold putBasin
  dsimp only
  rw [takeInjection_of_spent h]
  dsimp only
  rw [if_pos rfl]
  exact put.keeping (setSlice_wayMoves rfl)

theorem dropVictim_wayMoves (a : Acc) (y : Nat) (s : State) :
    WayMoves a.t (s.sliceOf a.t a.off) (setNo a.off) y (s.wayOf a y) s (dropVictim a.t a.off s) := by
  unfold dropVictim
  dsimp only
  split
  · exact setSlice_wayMoves rfl
  · exact Noted.wayMoves ⟨rfl, fun _ _ _ => rfl, fun m => ⟨(s.tier m).idleSince, rfl⟩⟩ rfl

theorem unlistPoison_listed (t pa : Nat) (s : State) : Listed t s (unlistPoison t pa s) := by
  unfold unlistPoison
  split
  · exact setPlist_listed _ _ _
  · exact Listed.refl t s

/-- A step of the access's own runnel leaves the way it works in as another step finds it. -/
theorem WayMoves.wayOf {v : Way} (h : WayMoves a.t (s.sliceOf a.t a.off) (setNo a.off) y v s u) : u.wayOf a y = v := by
  rw [State.wayOf, h.toNoted.sliceOf (s.sliceOf_lt _ _)]
  exact h.entry

/-- Two steps that both work in way `y` of the access's set. -/
theorem WayMoves.andThen {x : State} {v v' : Way} (h : WayMoves a.t (s.sliceOf a.t a.off) (setNo a.off) y v s u)
    (k : WayMoves a.t (u.sliceOf a.t a.off) (setNo a.off) y v' u x) :
    WayMoves a.t (s.sliceOf a.t a.off) (setNo a.off) y v' s x := by
  rw [h.toNoted.sliceOf (s.sliceOf_lt _ _)] at k
  exact h.trans k

/-- The state after the line of a write that hit way `y` went into the basin. -/
def hitStored (a : Acc) (y : Nat) (l : Line) (s : State) : State := putBasin a y l false true (hitState a y s)

theorem hitStored_wayMoves (l : Line) (h : s.get (eccBase a.t) ECC_INJ_CTL_COUNT = 0) :
    WayMoves a.t (s.sliceOf a.t a.off) (setNo a.off) y (((s.wayOf a y).touched a).stored a l) s (hitStored a y l s) := by
  have hit := hitState_wayMoves a y s
  have spent := (hit.toNoted.injection (s.sliceOf_lt _ _)).trans h
  have put := putBasin_wayMoves (y := y) l spent
  rw [hit.wayOf] at put
  exact hit.andThen put

theorem hitState_through (a : Acc) (y : Nat) (s : State) : (hitState a y s).through a = s.through a :=
  (hitState_wayMoves a y s).toNoted.through rfl

/-- What follows the storing of a line, the drop of its older copy and of its poison record, moves no way. -/
theorem WayMoves.dropped {v : Way} (h : WayMoves a.t (s.sliceOf a.t a.off) (setNo a.off) y v s u) (pa : Nat) :
    WayMoves a.t (s.sliceOf a.t a.off) (setNo a.off) y v s (unlistPoison a.t pa (dropVictim a.t a.off u)) := by
  have dropped := h.andThen (dropVictim_wayMoves a y u)
  rw [h.wayOf] at dropped
  have listed := unlistPoison_listed a.t pa (dropVictim a.t a.off u)
  exact dropped.noted listed.noted listed.slices

/-- A whole write that hits the basin of a write-back context (R37, R105). -/
theorem localWrite_of_inWay (h : InWay a y s) (ht : s.through a = false) (hi : s.get (eccBase a.t) ECC_INJ_CTL_COUNT = 0)
    (l : Line) : ∃ x, localWrite a l false s = (x, .done) ∧
      WayMoves a.t (s.sliceOf a.t a.off) (setNo a.off) y (((s.wayOf a y).touched a).stored a l) s x := by
  refine ⟨_, ?_, (hitStored_wayMoves (y := y) l hi).dropped (State.pa (dropVictim a.t a.off (hitStored a y l s)) a)⟩
  have fold : (touchWay a (s.sliceOf a.t a.off) (setNo a.off) y s).count (bsnBase a.t (s.sliceOf a.t a.off) + 8) 1 =
      hitState a y s := by rw [hitState]
  unfold localWrite
  simp only [h.cached, Bool.false_eq_true, if_false, openSet_of_checks h.checks, h.found, h.present, if_true, fold,
    hitState_through, ht, hitStored]

/-- A partial write that hits the basin of a write-back context (R38, R105). -/
theorem localPartial_of_inWay (h : InWay a y s) (ht : s.through a = false) (l : Line) (be : BitVec 64) :
    localPartial a l be s =
      (hitStored a y (mergeBytes ((s.wayOf a y).line (basinLine a.off)).data l be) s, .done) := by
  unfold localPartial
  dsimp only
  rw [h.cached, if_neg Bool.false_ne_true, lookup_of_inWay h]
  dsimp only
  rw [hitState_through, ht]
  rfl

/-! ### Service at the tier that owns the line (R85, Table CTX-6) -/

/-- The valid-map line of the access's extent reads well, from both its copies. -/
def State.mapReads (s : State) (a : Acc) : Prop :=
  (s.validLine a.t (extOf a.off)).primaryBad = false ∧ (s.validLine a.t (extOf a.off)).shadowBad = false

theorem openValid_of_mapReads (h : s.mapReads a) : openValid a.t (extOf a.off) s = (s, true) := by
  obtain ⟨primary, shadow⟩ := h
  simp [openValid, primary, shadow]

theorem serveLocal_unwritten (h : s.mapReads a) (hv : s.pageValid a.t a.off = false) {kind : ReqKind} (hk : kind.isRead = true)
    (l : Line) (be : BitVec 64) (poison : Bool) : serveLocal a kind l be poison s = (s, .zeros) := by
  unfold serveLocal
  dsimp only
  rw [openValid_of_mapReads h]
  dsimp only
  rw [hv, Bool.not_false, if_pos rfl]
  cases kind with
  | read => rfl
  | readData => rfl
  | inv => rfl
  | write => cases hk
  | partialWrite => cases hk

theorem serveLocal_read (h : s.mapReads a) (hv : s.pageValid a.t a.off = true) {kind : ReqKind} (hk : kind.isRead = true)
    (hy : InWay a y s) (l : Line) (be : BitVec 64) (poison : Bool) :
    serveLocal a kind l be poison s = (hitState a y s, .data ((s.wayOf a y).line (basinLine a.off)).data true) := by
  unfold serveLocal
  dsimp only
  rw [openValid_of_mapReads h]
  dsimp only
  rw [hv, Bool.not_true, if_neg Bool.false_ne_true]
  have read := localRead_of_inWay hy
  cases kind with
  | read => dsimp only; rw [read]
  | readData => dsimp only; rw [read]
  | inv => dsimp only; rw [read]
  | write => cases hk
  | partialWrite => cases hk

theorem serveLocal_write (h : s.mapReads a) (hv : s.pageValid a.t a.off = true) {l : Line} {x : State}
    (hx : localWrite a l false s = (x, .done)) (be : BitVec 64) :
    serveLocal a .write l be false s = (x, .written 64 (s.inBasin a)) := by
  unfold serveLocal
  dsimp only
  rw [openValid_of_mapReads h]
  dsimp only
  rw [hv, Bool.not_true, if_neg Bool.false_ne_true, hx]

theorem serveLocal_partial (h : s.mapReads a) (hv : s.pageValid a.t a.off = true) {l : Line} {be : BitVec 64} {x : State}
    (hx : localPartial a l be s = (x, .done)) :
    serveLocal a .partialWrite l be false s = (x, .written (popCount be.toNat 64) (s.inBasin a)) := by
  unfold serveLocal
  dsimp only
  rw [openValid_of_mapReads h]
  dsimp only
  rw [hv, Bool.not_true, if_neg Bool.false_ne_true, if_neg Bool.false_ne_true, hx]

end
end Sys2Proof.Machine

namespace Sys2Proof.Machine
open Sys2Proof.Safety

/-! ### Reads and writes of hosts that hit the basin -/

section
variable {p hpa y : Nat} {w : Window} {a : Acc} {s u x : State}

theorem Admitted.slices (h : Admitted s u) : u.slices = s.slices := by rw [h.frame]
theorem Admitted.regs (h : Admitted s u) : u.regs = s.regs := by rw [h.frame]
theorem Admitted.pageValid (h : Admitted s u) (t off : Nat) : u.pageValid t off = s.pageValid t off := by rw [h.frame]; rfl

theorem State.sliceOf_of_regs (h : u.regs = s.regs) (t off : Nat) : u.sliceOf t off = s.sliceOf t off := by
  simp only [State.sliceOf, State.reg, h]

theorem Admitted.sliceOf (h : Admitted s u) (t off : Nat) : u.sliceOf t off = s.sliceOf t off :=
  State.sliceOf_of_regs h.regs t off

theorem Admitted.inWay (h : Admitted s u) (k : InWay a y s) : InWay a y u := inWay_of_unmoved k h.slices (h.sliceOf _ _)

theorem Admitted.wayOf (h : Admitted s u) : u.wayOf a y = s.wayOf a y := by
  simp only [State.wayOf, h.sliceOf, State.way_of_slices h.slices]

theorem Admitted.mapReads (h : Admitted s u) (k : Reached p hpa w a s) : u.mapReads a := by
  have line : u.validLine a.t (extOf a.off) = s.validLine a.t (extOf a.off) := by rw [h.frame]; rfl
  rw [State.mapReads, line]
  exact k.readable

/-- What is done in a way of the access's set between its admission and the counts at its end. -/
theorem WayMoves.around {v : State} {z : Way} (h : Admitted s u) (k : WayMoves a.t (u.sliceOf a.t a.off) (setNo a.off) y z u v)
    (e : Counted v x) : WayMoves a.t (s.sliceOf a.t a.off) (setNo a.off) y z s x := by
  rw [h.sliceOf] at k
  have counted : x.slices = v.slices := by rw [e]
  exact ((h.noted.wayMoves h.slices).trans k).noted e.noted counted

/-- R85, Table CTX-6: a page never written reads as zeros. -/
theorem completes_read_unwritten (h : Reached p hpa w a s) (hv : s.pageValid a.t a.off = false) {kind : ReqKind}
    (hk : kind.isRead = true) (tag : Nat) :
    ∃ u x d, Admitted s u ∧ Counted u x ∧ hostRequest kind p tag hpa 0 0 false s = x.emit (.readResp p tag 0 false d) := by
  obtain ⟨u, hu, answer⟩ := hostRequest_of_reached h kind tag 0 0 false
  have served := serveLocal_unwritten (hu.mapReads h) ((hu.pageValid _ _).trans hv) hk 0 0 false
  obtain ⟨x, d, hx, eq⟩ := answer _ _ _ served rfl
  exact ⟨u, x, d, hu, hx, eq⟩

theorem State.poison_count (s : State) (o n : Nat) : (s.count o n).poison = s.poison := rfl

theorem hitState_poison (a : Acc) (y : Nat) (s : State) : (hitState a y s).poison = s.poison := by
  rw [hitState, State.poison_count]
  rfl

/-- R103: a read that hits a present line returns it. -/
theorem completes_read_hit (h : Reached p hpa w a s) (hv : s.pageValid a.t a.off = true) (hy : InWay a y s) {kind : ReqKind}
    (hk : kind.isRead = true) (tag : Nat) :
    ∃ x d, hostRequest kind p tag hpa 0 0 false s =
        x.emit (.readResp p tag ((s.wayOf a y).line (basinLine a.off)).data false d) ∧
      WayMoves a.t (s.sliceOf a.t a.off) (setNo a.off) y ((s.wayOf a y).touched a) s x ∧ x.poison = s.poison := by
  obtain ⟨u, hu, answer⟩ := hostRequest_of_reached h kind tag 0 0 false
  have served := serveLocal_read (hu.mapReads h) ((hu.pageValid _ _).trans hv) hk (hu.inWay hy) 0 0 false
  obtain ⟨x, d, hx, eq⟩ := answer _ _ _ served rfl
  have hit := hitState_wayMoves a y u
  rw [hu.wayOf] at hit eq
  refine ⟨x, d, eq, WayMoves.around hu hit hx, ?_⟩
  have poison : x.poison = (hitState a y u).poison := by rw [hx]
  rw [poison, hitState_poison, hu.frame]

theorem Admitted.through (h : Admitted s u) : u.through a = s.through a := (h.noted (j := s.sliceOf a.t a.off)).through rfl

theorem Admitted.injection (h : Admitted s u) (t : Nat) :
    u.get (eccBase t) ECC_INJ_CTL_COUNT = s.get (eccBase t) ECC_INJ_CTL_COUNT :=
  (h.noted (j := 0)).injection (by decide)

/-- R37, R105: a whole write that hits a present line of a write-back context. -/
theorem completes_write_hit (h : Reached p hpa w a s) (hv : s.pageValid a.t a.off = true) (hy : InWay a y s)
    (ht : s.through a = false) (hi : s.get (eccBase a.t) ECC_INJ_CTL_COUNT = 0) (tag : Nat) (l : Line) (be : BitVec 64) :
    ∃ x d, hostRequest .write p tag hpa l be false s = x.emit (.writeResp p tag d) ∧
      WayMoves a.t (s.sliceOf a.t a.off) (setNo a.off) y (((s.wayOf a y).touched a).stored a l) s x := by
  obtain ⟨u, hu, answer⟩ := hostRequest_of_reached h .write tag l be false
  obtain ⟨v, wrote, moved⟩ := localWrite_of_inWay (hu.inWay hy) (hu.through.trans ht) ((hu.injection _).trans hi) l
  have served := serveLocal_write (hu.mapReads h) ((hu.pageValid _ _).trans hv) wrote be
  obtain ⟨x, d, hx, eq⟩ := answer _ _ _ served rfl
  rw [hu.wayOf] at moved
  exact ⟨x, d, eq, WayMoves.around hu moved hx⟩

/-- R38, R105: a partial write that hits a present line of a write-back context. -/
theorem completes_partial_hit (h : Reached p hpa w a s) (hv : s.pageValid a.t a.off = true) (hy : InWay a y s)
    (ht : s.through a = false) (hi : s.get (eccBase a.t) ECC_INJ_CTL_COUNT = 0) (tag : Nat) (l : Line) (be : BitVec 64) :
    ∃ x d, hostRequest .partialWrite p tag hpa l be false s = x.emit (.writeResp p tag d) ∧
      WayMoves a.t (s.sliceOf a.t a.off) (setNo a.off) y
        (((s.wayOf a y).touched a).stored a (mergeBytes ((s.wayOf a y).line (basinLine a.off)).data l be)) s x := by
  obtain ⟨u, hu, answer⟩ := hostRequest_of_reached h .partialWrite tag l be false
  have wrote := localPartial_of_inWay (hu.inWay hy) (hu.through.trans ht) l be
  have served := serveLocal_partial (hu.mapReads h) ((hu.pageValid _ _).trans hv) wrote
  obtain ⟨x, d, hx, eq⟩ := answer _ _ _ served rfl
  have moved := hitStored_wayMoves (y := y) (mergeBytes ((u.wayOf a y).line (basinLine a.off)).data l be)
    ((hu.injection _).trans hi)
  rw [hu.wayOf] at moved hx
  exact ⟨x, d, eq, WayMoves.around hu moved hx⟩

/-- What tenants stored outside the basin, and the requests that wait, as an access to the basin leaves them. -/
theorem Noted.kept {t j : Nat} (h : Noted t j s x) : x.out = s.out ∧ x.ctxs = s.ctxs ∧ x.exts = s.exts ∧ x.valid = s.valid ∧
    x.cistern = s.cistern ∧ x.chans = s.chans ∧ x.held = s.held := by
  rw [h.frame]
  exact ⟨rfl, rfl, rfl, rfl, rfl, rfl, rfl⟩

/-- Sets other than the access's keep all their ways. -/
theorem WayMoves.otherSets {t j n : Nat} {v : Way} (h : WayMoves t j n y v s x) {t' j' n' : Nat} (hne : (t', j', n') ≠ (t, j, n))
    (hj : j' < 16) (k : Nat) : x.way t' j' n' k = s.way t' j' n' k := by
  refine h.others t' j' n' k hj (fun e => hne ?_)
  simp only [Prod.mk.injEq] at e ⊢
  exact ⟨e.1, e.2.1, e.2.2.1⟩

theorem WayMoves.otherWays {v : Way} (h : WayMoves a.t (s.sliceOf a.t a.off) (setNo a.off) y v s x) {k : Nat} (hk : k ≠ y) :
    x.way a.t (s.sliceOf a.t a.off) (setNo a.off) k = s.way a.t (s.sliceOf a.t a.off) (setNo a.off) k :=
  h.others _ _ _ _ (s.sliceOf_lt _ _) (fun e => hk (by simp only [Prod.mk.injEq] at e; exact e.2.2.2))

/-- A hit changes no line. -/
theorem WayMoves.lines_touched (h : WayMoves a.t (s.sliceOf a.t a.off) (setNo a.off) y ((s.wayOf a y).touched a) s x)
    (k i : Nat) : (x.way a.t (s.sliceOf a.t a.off) (setNo a.off) k).line i =
      (s.way a.t (s.sliceOf a.t a.off) (setNo a.off) k).line i := by
  by_cases hk : k = y
  · rw [hk, h.entry]
    rfl
  · rw [h.otherWays hk]

section
variable {l : Line} (h : WayMoves a.t (s.sliceOf a.t a.off) (setNo a.off) y (((s.wayOf a y).touched a).stored a l) s x)
include h

/-- A write that hits changes its line alone. -/
theorem WayMoves.lines_stored {k m : Nat} (hne : (k, m) ≠ (y, basinLine a.off)) :
    (x.way a.t (s.sliceOf a.t a.off) (setNo a.off) k).line m = (s.way a.t (s.sliceOf a.t a.off) (setNo a.off) k).line m := by
  by_cases hk : k = y
  · have hm : m ≠ basinLine a.off := fun e => hne (by rw [hk, e])
    rw [hk, h.entry, Way.line_stored_ne _ _ _ hm]
    rfl
  · rw [h.otherWays hk]

/-- The line that a write stored stands in the way as the access will look for it. -/
theorem WayMoves.inWay_stored (hy : InWay a y s) : InWay a y x := by
  have entry : x.wayOf a y = ((s.wayOf a y).touched a).stored a l := h.wayOf
  have same (k : Nat) : (x.wayOf a k).valid = (s.wayOf a k).valid ∧ (x.wayOf a k).tag = (s.wayOf a k).tag ∧
      (x.wayOf a k).copy0Bad = (s.wayOf a k).copy0Bad ∧ (x.wayOf a k).copy1Bad = (s.wayOf a k).copy1Bad := by
    by_cases hk : k = y
    · rw [hk, entry]
      exact ⟨rfl, rfl, rfl, rfl⟩
    · have other : x.wayOf a k = s.wayOf a k := by
        rw [State.wayOf, h.toNoted.sliceOf (s.sliceOf_lt _ _)]
        exact h.otherWays hk
      rw [other]
      exact ⟨rfl, rfl, rfl, rfl⟩
  constructor
  · intro k hk
    obtain ⟨-, -, copy0, copy1⟩ := same k
    exact ⟨copy0.trans (hy.checks k hk).1, copy1.trans (hy.checks k hk).2⟩
  · refine Eq.trans (congrArg (fun f => (upto 16).find? f) (funext fun k => ?_)) hy.found
    obtain ⟨valid, tag, -, -⟩ := same k
    show ((x.wayOf a k).valid && decide ((x.wayOf a k).tag = sectorOf a.off)) = _
    rw [valid, tag]
    rfl
  · show (x.wayOf a y).present.getLsbD (basinLine a.off) = true
    rw [entry]
    exact getLsbD_or_bit32 _ a
  · show ((x.wayOf a y).line (basinLine a.off)).code = .clean
    rw [entry, Way.line_stored_same]
  · exact hy.cached

end

/-! ### The next access after one that hit the basin -/

theorem Noted.get {t j b : Nat} {f : Fld} (h : Noted t j s x) (h₁ : b + f.off ≠ bsnBase t j + 8) (h₂ : b + f.off ≠ eccBase t + 0x18) :
    x.get b f = s.get b f := by simp only [State.get, h.regs _ h₁ h₂]

/-- An access to the basin leaves the registers of the ports. -/
theorem Noted.get_port {t j : Nat} {f : Fld} (h : Noted t j s x) (_ : j < 16) (p : Nat) (hf : f.off < 0x1000) :
    x.get (hptBase p) f = s.get (hptBase p) f :=
  h.get (by simp only [hptBase, bsnBase, tierBase]; omega) (by simp only [hptBase, eccBase, tierBase]; omega)

theorem Noted.admits {t j : Nat} (h : Noted t j s x) (hj : j < 16) (p : Nat) : x.admits p = s.admits p := by
  have halted : x.get fltBase FLT_STATUS_HALTED = s.get fltBase FLT_STATUS_HALTED :=
    h.get (by simp only [fltBase, FLT_STATUS_HALTED, bsnBase, tierBase]; omega)
      (by simp only [fltBase, FLT_STATUS_HALTED, eccBase, tierBase]; omega)
  have flt : x.flt = s.flt := by rw [h.frame]
  have mode : x.pkgMode = s.pkgMode := by rw [h.frame]
  have wired : x.wired = s.wired := by rw [h.frame]
  have ports : x.ports = s.ports := by rw [h.frame]
  have ltssm := h.get_port (f := HPT_LINK_STATUS_LTSSM) hj p (by decide)
  have enable := h.get_port (f := HPT_PORT_CFG_ENABLE) hj p (by decide)
  have cxl := h.get_port (f := HPT_LINK_STATUS_CXL_MODE) hj p (by decide)
  unfold State.admits State.reacting State.hostPort State.portOn State.linkUp State.nTiers State.flag State.port
  rw [halted, flt, mode, wired, ports, ltssm, enable, cxl]

/-- A request that reaches its tier would reach it again after an access to the basin, with a token left. -/
theorem reached_again {j : Nat} (h : Reached p hpa w a s) (k : Noted a.t j s x) (hj : j < 16)
    (token : x.hasToken p a.cls = true) : Reached p hpa w a x := by
  have power (t : Nat) : (x.tier t).power = (s.tier t).power := by
    obtain ⟨i, e⟩ := k.tiers t
    rw [e]
  have wait : x.tierWait a.t = s.tierWait a.t := by
    obtain ⟨i, e⟩ := k.tiers a.t
    simp only [State.tierWait, e]
  have port : x.port p = s.port p := by rw [k.frame]; rfl
  have ctx : x.ctx w.ctx = s.ctx w.ctx := by rw [k.frame]; rfl
  have ext (i : Nat) : x.ext w.ctx i = s.ext w.ctx i := by rw [k.frame]; rfl
  have path : x.reaches (portTier p) a.t = s.reaches (portTier p) a.t := by rw [k.frame]; rfl
  have line : x.validLine a.t (extOf a.off) = s.validLine a.t (extOf a.off) := by rw [k.frame]; rfl
  have dpa : dpaOf p hpa x = dpaOf p hpa s := by simp only [dpaOf, port]
  constructor
  · constructor
    · constructor
      · exact (k.admits hj p).trans h.admits
      · rw [port]; exact h.committed
      · rw [port]; exact h.above
      · rw [port]; exact h.below
      · exact (power _).trans h.awake
    · rw [port, dpa]; exact h.window
    · exact h.opened
    · rw [ctx]; exact h.thawed
  · rw [dpa, ext]; exact h.entry
  · rw [ctx, dpa]; exact h.access
  · exact path.trans h.path
  · exact token
  · exact (power _).trans h.serves
  · exact wait.trans h.ready
  · rw [line]; exact h.readable

theorem reached_emit (h : Reached p hpa w a s) (o : Output) : Reached p hpa w a (s.emit o) :=
  ⟨⟨⟨h.admits, h.committed, h.above, h.below, h.awake⟩, h.window, h.opened, h.thawed⟩, h.entry, h.access, h.path, h.token, h.serves,
    h.ready, h.readable⟩

end

theorem exec_memrd (p tag hpa : Nat) (s : State) :
    exec (.memrd p tag hpa) s = .next (hostRequest .read p tag hpa 0 0 false s) := rfl

/-- A read command. -/
theorem exec_read {p tag hpa : Nat} {c : Instr} (hc : c ∈ [Instr.memrd p tag hpa, .memrddata p tag hpa]) (s : State) :
    ∃ kind : ReqKind, kind.isRead = true ∧ exec c s = .next (hostRequest kind p tag hpa 0 0 false s) := by
  simp only [List.mem_cons, List.not_mem_nil, or_false] at hc
  obtain rfl | rfl := hc
  · exact ⟨.read, rfl, exec_memrd p tag hpa s⟩
  · exact ⟨.readData, rfl, rfl⟩

theorem exec_memwr (p tag hpa : Nat) (l : Line) (s : State) :
    exec (.memwr p tag hpa l false) s = .next (hostRequest .write p tag hpa l (BitVec.allOnes 64) false s) := rfl

theorem exec_memwrptl (p tag hpa : Nat) (be : BitVec 64) (l : Line) (s : State) :
    exec (.memwrptl p tag hpa be l false) s = .next (hostRequest .partialWrite p tag hpa l be false s) := rfl

/-- Settles O8: admission changes neither lines nor tables, and a hit moves one way of one set. -/
theorem basinHits : Obligations.BasinHits := by
  unfold Obligations.BasinHits
  refine ⟨?unwritten, ?read, ?write, ?readBack⟩
  case unwritten =>
    intro p tag hpa w a s h hv c hc
    obtain ⟨kind, hk, run⟩ := exec_read hc s
    obtain ⟨u, x, d, hu, hx, eq⟩ := completes_read_unwritten h hv hk tag
    rw [eq] at run
    refine ⟨_, run, ?_⟩
    have frame := hx
    rw [Counted, hu.frame] at frame
    rw [frame]
    exact ⟨⟨rfl, rfl, rfl, rfl, rfl, rfl, rfl, rfl, rfl, rfl⟩, rfl, rfl, d, rfl⟩
  case read =>
    intro p tag hpa y w a s h hv hy c hc
    obtain ⟨kind, hk, run⟩ := exec_read hc s
    obtain ⟨x, d, eq, moved, poison⟩ := completes_read_hit h hv hy hk tag
    obtain ⟨out, ctxs, exts, valid, cistern, chans, held⟩ := moved.toNoted.kept
    rw [eq] at run
    exact ⟨_, run, ⟨d, congrArg _ out⟩, ctxs, exts, valid, cistern, chans, held, poison, moved.lines_touched,
      fun t' j n hne _ hj => moved.otherSets hne hj⟩
  case write =>
    intro p tag hpa y l be w a s h hv hy ht hi j n i stores
    have stored {c : Instr} {x : State} {d : Nat} {new : Line} (run : exec c s = .next (x.emit (.writeResp p tag d)))
        (moved : WayMoves a.t j n y (((s.wayOf a y).touched a).stored a new) s x) : stores c new := by
      obtain ⟨out, ctxs, exts, valid, cistern, chans, held⟩ := moved.toNoted.kept
      have entry : (x.emit (.writeResp p tag d)).way a.t j n y = ((s.wayOf a y).touched a).stored a new := moved.entry
      refine ⟨_, run, ⟨d, congrArg _ out⟩, ?_, ?_, ?_, ctxs, exts, valid, cistern, chans, held,
        fun k m hne => moved.lines_stored hne, fun t' j' n' hne _ hj => moved.otherSets hne hj⟩
      · rw [entry, Way.line_stored_same]
      · rw [entry]
        exact getLsbD_or_bit32 _ a
      · rw [entry]
        exact getLsbD_or_bit32 _ a
    constructor
    · obtain ⟨x, d, eq, moved⟩ := completes_write_hit h hv hy ht hi tag l (BitVec.allOnes 64)
      exact stored ((exec_memwr p tag hpa l s).trans (congrArg _ eq)) moved
    · obtain ⟨x, d, eq, moved⟩ := completes_partial_hit h hv hy ht hi tag l be
      exact stored ((exec_memwrptl p tag hpa be l s).trans (congrArg _ eq)) moved
  case readBack =>
    intro p tag tag' hpa y l w a s t h hv hy ht hi run token
    obtain ⟨x, d, eq, moved⟩ := completes_write_hit h hv hy ht hi tag l (BitVec.allOnes 64)
    rw [exec_memwr, eq] at run
    obtain rfl := Host.Outcome.next.inj run
    have again := reached_emit (reached_again h moved.toNoted (s.sliceOf_lt _ _) token) (.writeResp p tag d)
    have valid : (x.emit (.writeResp p tag d)).pageValid a.t a.off = true := by
      refine Eq.trans ?_ hv
      rw [moved.frame]
      rfl
    have inWay : InWay a y (x.emit (.writeResp p tag d)) := inWay_of_unmoved (moved.inWay_stored hy) rfl rfl
    obtain ⟨z, d', eq', moved', -⟩ := completes_read_hit again valid inWay (kind := .read) rfl tag'
    have line : (((x.emit (.writeResp p tag d)).wayOf a y).line (basinLine a.off)).data = l := by
      have entry : (x.emit (.writeResp p tag d)).wayOf a y = ((s.wayOf a y).touched a).stored a l := moved.wayOf
      rw [entry, Way.line_stored_same]
    obtain ⟨out, -⟩ := moved'.toNoted.kept
    have read := exec_memrd p tag' hpa (x.emit (.writeResp p tag d))
    rw [eq', line] at read
    exact ⟨_, read, d', congrArg _ out⟩

end Sys2Proof.Machine

/-! The windows, the mailbox and the link of a host port (chapter 02): a binding over a window whose release is pending, what the
mailbox answers, and what training and the power states leave in a port's registers. -/

namespace Sys2Proof.Machine
open Sys2Proof.Safety

/-! ### A window whose release is pending (R59) -/

theorem complete_port {d : DescRef} {f : Fetched} {status : Nat} {s : State} (h : s.fetchedOf d = some f) (result : Nat)
    (hs : status ≠ 0x05) (p : Nat) : (complete d status result s).port p = s.port p := by
  rw [complete_of_fetched h result hs]
  rfl

/-- A block of the context's window that the port's block map gives to another window: the binding is refused with IN_USE. -/
theorem completes_ctxBindPortBind_inUse {d : DescRef} {f : Fetched} {c p i : Nat} {s : State} (hc : c < 2 ^ 18)
    (h : s.ready d 0x0101 [(8, 4, c), (12, 1, p), (13, 1, 0)] = some f)
    (hs : (s.ctx c).state = .building ∨ (s.ctx c).state = .live) (hp : s.hostPort p = true)
    (hb : (s.ctx c).ports.getLsbD p = false) (hi : i < (s.ctx c).wsize)
    (hm : Sparse.get (fun _ => 0) (s.port p).blocks ((s.ctx c).wbase + i) ≠ 0) :
    Completes (.ctxBindPortBind d c p) s (fun t => Done d 0x0D 0 s t ∧ Kept s t ∧ t.port p = s.port p) := by
  have taken : (upto (s.ctx c).wsize).any
      (fun i => Sparse.get (fun _ => 0) (s.port p).blocks ((s.ctx c).wbase + i) ≠ 0) = true :=
    List.any_eq_true.2 ⟨i, by simpa [upto] using hi, by simpa using hm⟩
  have fetched := State.fetchedOf_of_ready h
  refine completes_of_ready h rfl ?_
  rw [inState_of_mem hc (by simpa using hs)]
  simp only [hp, hb, taken, Bool.not_true, Bool.or_self, Bool.false_eq_true, if_false, if_true]
  obtain ⟨done, kept⟩ := refused fetched 0x0D
  exact ⟨done, kept, complete_port fetched 0 (by decide) p⟩

/-- Settles O59: a window keeps its blocks in the block map while its release is pending. -/
theorem pendingReleaseRefusesBinding : Obligations.PendingReleaseRefusesBinding := by
  unfold Obligations.PendingReleaseRefusesBinding
  intro d c p i k f s hc h hs hp hb hi _ _ hm
  exact completes_ctxBindPortBind_inUse hc h hs hp hb hi (by rw [hm]; exact Nat.succ_ne_zero k)

end Sys2Proof.Machine

namespace Sys2Proof

/-- Writing a list's elements to the keys from `n` on. -/
theorem Sparse.get_foldl_set_zipIdx {β : Type} [DecidableEq β] (d : Nat → β) (l : List β) (m : Sparse β) (n i : Nat) :
    Sparse.get d ((l.zipIdx n).foldl (fun m x => Sparse.set d m x.2 x.1) m) i =
      if n ≤ i then (l[i - n]?).getD (Sparse.get d m i) else Sparse.get d m i := by
  induction l generalizing m n with
  | nil => simp
  | cons a l ih =>
    rw [List.zipIdx_cons, List.foldl_cons, ih, Sparse.get_set]
    obtain lt | rfl | gt := Nat.lt_trichotomy i n
    · rw [if_neg (by omega), if_neg (by omega), if_neg (by omega)]
    · simp
    · have next : i - n = i - (n + 1) + 1 := by omega
      rw [if_pos (by omega), if_neg (by omega), if_pos (by omega), next, List.getElem?_cons_succ]

end Sys2Proof

namespace Sys2Proof.Machine
open Sys2Proof.Safety

/-! ### The mailbox (R53, R54) -/

theorem Port.log_setLog_same (q : Port) (l : Nat) (v : EventLog) : (q.setLog l v).log l = v := Sparse.get_set_same _ _ _ _

section
variable {p : Nat} {s : State}

theorem mailboxDo_of_up (h : s.mailboxUp p = true) {f : State → State × Nat × List Nat} {t : State} {code : Nat}
    {payload : List Nat} (hf : f s = (t, code, payload)) :
    mailboxDo p s f = .next (t.emit (.mailbox p code payload)) := by
  simp [mailboxDo, h, hf]

@[simp] theorem State.port_emit (s : State) (o : Output) (p : Nat) : (s.emit o).port p = s.port p := rfl

/-- Only the ports and what was put out can differ. -/
def PortsOut (s t : State) : Prop := t = { s with ports := t.ports, out := t.out }

theorem PortsOut.trans {s t u : State} (h : PortsOut s t) (k : PortsOut t u) : PortsOut s u := by
  have e : u = { t with ports := u.ports, out := u.out } := k
  rw [h] at e
  exact e

theorem PortsOut.setPort (s : State) (p : Nat) (q : Port) : PortsOut s (s.setPort p q) := rfl
theorem PortsOut.emit (s : State) (o : Output) : PortsOut s (s.emit o) := rfl

/-! #### Event records -/

theorem exec_getEventRecords (p log : Nat) (s : State) : exec (.getEventRecords p log) s = execGetEventRecords p log s := rfl

/-- Marking records as fetched changes nothing else of them. -/
theorem map_unfetched_marked (l : List EventRec) (n : Nat) :
    ((l.take n).map (fun r : EventRec => { r with fetched := true }) ++ l.drop n).map
      (fun r : EventRec => { r with fetched := false }) = l.map (fun r : EventRec => { r with fetched := false }) := by
  rw [List.map_append, List.map_map, Function.comp_def, ← List.map_append, List.take_append_drop]

theorem completes_getEventRecords (h : s.mailboxUp p = true) (log : Nat) :
    Completes (.getEventRecords p log) s (fun t =>
      let lg := (s.port p).log log
      t.out = .mailbox p 0 ([lg.overflow, (lg.records.take 15).length, ofBool (lg.records.drop 15 ≠ [])] ++
        (lg.records.take 15).flatMap EventRec.fields) :: s.out ∧
      ((t.port p).log log).records.map (fun r => { r with fetched := false }) = lg.records.map (fun r => { r with fetched := false }) ∧
      t = { s with ports := t.ports, out := t.out }) := by
  refine ⟨_, (exec_getEventRecords p log s).trans (mailboxDo_of_up h rfl), rfl, ?_, rfl⟩
  rw [State.port_emit, State.port_setPort_same, Port.log_setLog_same]
  exact map_unfetched_marked _ 15

theorem exec_clearEventRecords (p log : Nat) (all : Bool) (handles : List Nat) (s : State) :
    exec (.clearEventRecords p log all handles) s = execClearEventRecords p log all handles s := rfl

/-- With no event held back, nothing is offered. -/
theorem offerHeld_of_none (h : (s.port p).heldDc = []) : offerHeld p s = s.setPort p (s.port p) := by
  have same : { s.port p with heldDc := [] } = s.port p := by rw [← h]
  simp only [offerHeld, h, List.take_nil, List.drop_nil, forEach_nil, same]

theorem completes_clearEventRecords (h : s.mailboxUp p = true) {log : Nat} {handles : List Nat}
    (hn : handles.all (fun h => ((s.port p).log log).records.any (fun r => r.handle = h)) = true)
    (hd : (s.port p).heldDc = []) :
    Completes (.clearEventRecords p log false handles) s (fun t =>
      t.out = .mailbox p 0 [] :: s.out ∧
      ((t.port p).log log).records = ((s.port p).log log).records.filter (fun r => !handles.contains r.handle) ∧
      t = { s with ports := t.ports, out := t.out }) := by
  refine ⟨_, (exec_clearEventRecords p log false handles s).trans
    (mailboxDo_of_up h ((if_neg Bool.false_ne_true).trans (if_pos hn))), ?_⟩
  rw [offerHeld_of_none (by rw [State.port_setPort_same]; exact hd), State.port_setPort_same]
  refine ⟨rfl, ?_, ((PortsOut.setPort _ _ _).trans (PortsOut.setPort _ _ _)).trans (PortsOut.emit _ _)⟩
  rw [State.port_emit, State.port_setPort_same, Port.log_setLog_same]

theorem exec_clearEventRecords_of_unknown (h : s.mailboxUp p = true) {log : Nat} {handles : List Nat} {x : Nat} (hx : x ∈ handles)
    (hn : ((s.port p).log log).records.any (fun r => r.handle = x) = false) :
    exec (.clearEventRecords p log false handles) s = .next (s.emit (.mailbox p 0xE [])) := by
  have unnamed : ¬handles.all (fun h => ((s.port p).log log).records.any (fun r => r.handle = h)) = true :=
    fun all => absurd (List.all_eq_true.1 all x hx) (by rw [hn]; exact Bool.false_ne_true)
  exact (exec_clearEventRecords p log false handles s).trans
    (mailboxDo_of_up h ((if_neg Bool.false_ne_true).trans (if_neg unnamed)))

/-! #### The interrupt policy and the timestamp -/

theorem exec_getEventInterruptPolicy (p : Nat) (s : State) :
    exec (.getEventInterruptPolicy p) s = execGetEventInterruptPolicy p s := rfl

theorem exec_setEventInterruptPolicy (p : Nat) (settings : List (BitVec 8)) (s : State) :
    exec (.setEventInterruptPolicy p settings) s = execSetEventInterruptPolicy p settings s := rfl

theorem exec_setEventInterruptPolicy_of_firmware (h : s.mailboxUp p = true) {settings : List (BitVec 8)}
    (hx : ∃ x ∈ settings, 2 ≤ x.toNat % 4) :
    exec (.setEventInterruptPolicy p settings) s = .next (s.emit (.mailbox p 2 [])) := by
  have firmware : settings.any (fun x => 2 ≤ x.toNat % 4) = true := by simpa using hx
  exact (exec_setEventInterruptPolicy p settings s).trans (mailboxDo_of_up h (if_pos firmware))

theorem completes_setEventInterruptPolicy (h : s.mailboxUp p = true) {settings : List (BitVec 8)}
    (hx : ∀ x ∈ settings, x.toNat % 4 < 2) :
    Completes (.setEventInterruptPolicy p settings) s (fun t =>
      t.out = .mailbox p 0 [] :: s.out ∧ t = { s with ports := t.ports, out := t.out } ∧
      ∀ i (h : i < settings.length), Sparse.get (fun _ => (0 : BitVec 8)) (t.port p).intPolicy i = settings[i]) := by
  have messages : ¬settings.any (fun x => 2 ≤ x.toNat % 4) = true := by simpa using fun x hx' => Nat.le_of_lt_succ (hx x hx')
  refine ⟨_, (exec_setEventInterruptPolicy p settings s).trans (mailboxDo_of_up h (if_neg messages)), rfl, rfl, fun i hi => ?_⟩
  rw [State.port_emit, State.port_setPort_same]
  refine (Sparse.get_foldl_set_zipIdx (fun _ => (0 : BitVec 8)) settings (s.port p).intPolicy 0 i).trans ?_
  simp [hi]

theorem exec_getTimestamp (p : Nat) (s : State) : exec (.getTimestamp p) s = execGetTimestamp p s := rfl

theorem exec_setTimestamp (p : Nat) (ts : BitVec 64) (s : State) : exec (.setTimestamp p ts) s = execSetTimestamp p ts s := rfl

theorem completes_setTimestamp (h : s.mailboxUp p = true) (ts : BitVec 64) :
    Completes (.setTimestamp p ts) s (fun t =>
      t.out = .mailbox p 0 [] :: s.out ∧ t = { s with ports := t.ports, out := t.out } ∧
      BitVec.ofNat 64 (t.us * 1000) + (t.port p).tsOffset = ts) := by
  refine ⟨_, (exec_setTimestamp p ts s).trans (mailboxDo_of_up h rfl), rfl, rfl, ?_⟩
  rw [State.port_emit, State.port_setPort_same]
  exact add_sub_cancel (BitVec.ofNat 64 (s.us * 1000)) ts

/-! #### Logs, identity, health and poison -/

theorem exec_getSupportedLogs (p : Nat) (s : State) : exec (.getSupportedLogs p) s = execGetSupportedLogs p s := rfl

theorem exec_getLog (p : Nat) (uuid : BitVec 128) (off len : Nat) (s : State) :
    exec (.getLog p uuid off len) s = execGetLog p uuid off len s := rfl

theorem exec_getLog_of_effects (h : s.mailboxUp p = true) {off len : Nat} (hl : off + len ≤ celBytes.length) :
    exec (.getLog p celUuid off len) s = .next (s.emit (.mailbox p 0 ((celBytes.drop off).take len))) :=
  (exec_getLog p celUuid off len s).trans (mailboxDo_of_up h (if_pos ⟨rfl, hl⟩))

theorem exec_getLog_of_unknown (h : s.mailboxUp p = true) {uuid : BitVec 128} (off len : Nat) (hu : uuid ≠ celUuid) :
    exec (.getLog p uuid off len) s = .next (s.emit (.mailbox p 2 [])) := by
  have unknown : ¬(uuid = celUuid ∧ off + len ≤ celBytes.length) := fun hc => hu hc.1
  exact (exec_getLog p uuid off len s).trans (mailboxDo_of_up h (if_neg unknown))

theorem exec_identifyMemoryDevice (p : Nat) (s : State) : exec (.identifyMemoryDevice p) s = execIdentifyMemoryDevice p s := rfl

theorem exec_getHealthInfo (p : Nat) (s : State) : exec (.getHealthInfo p) s = execGetHealthInfo p s := rfl

theorem exec_getPoisonList (p start : Nat) (s : State) : exec (.getPoisonList p start) s = execGetPoisonList p start s := rfl

theorem completes_getPoisonList (h : s.mailboxUp p = true) (start : Nat) :
    Completes (.getPoisonList p start) s (fun t =>
      t = { s with out := t.out } ∧ ∃ more ovf first, t.out = .mailbox p 0 ([more, ovf, first,
        min 32 (((s.portPoison p).drop start).length)] ++
        (((s.portPoison p).drop start).take 32).flatMap (fun e => [e.dpa, if e.extent then 2 ^ 21 else 64, e.source])) :: s.out) := by
  rw [← List.length_take]
  exact ⟨_, (exec_getPoisonList p start s).trans (mailboxDo_of_up h rfl), rfl, _, _, _, rfl⟩

/-! #### Dynamic capacity and unlisted commands -/

theorem exec_getDynamicCapacityConfiguration (p : Nat) (s : State) :
    exec (.getDynamicCapacityConfiguration p) s = execGetDynamicCapacityConfiguration p s := rfl

theorem exec_getDynamicCapacityExtentList (p start count : Nat) (s : State) :
    exec (.getDynamicCapacityExtentList p start count) s = execGetDynamicCapacityExtentList p start count s := rfl

theorem exec_mailboxUnsupportedCommand (p opcode : Nat) (s : State) :
    exec (.mailboxUnsupportedCommand p opcode) s = execMailboxUnsupportedCommand p opcode s := rfl

theorem exec_mailboxUnsupportedCommand_of_unlisted (h : s.mailboxUp p = true) {opcode : Nat}
    (ho : mailboxOpcodes.contains opcode = false) :
    exec (.mailboxUnsupportedCommand p opcode) s = .next (s.emit (.mailbox p 3 [])) := by
  rw [exec_mailboxUnsupportedCommand, execMailboxUnsupportedCommand, if_neg (by rw [ho]; exact Bool.false_ne_true)]
  exact mailboxDo_of_up h rfl

end

/-- Settles O5: a port that is up answers each mailbox command with the code and payload its function gives. -/
theorem mailbox : Obligations.Mailbox := by
  unfold Obligations.Mailbox
  refine ⟨fun p s h => ?reports, fun p s h => ?changes⟩
  case reports =>
    have plain {c : Instr} {f : State → State × Nat × List Nat} {code : Nat} {payload : List Nat}
        (hc : exec c s = mailboxDo p s f) (hf : f s = (s, code, payload)) :
        exec c s = .next (s.emit (.mailbox p code payload)) := hc.trans (mailboxDo_of_up h hf)
    exact ⟨completes_getEventRecords h, plain (exec_getEventInterruptPolicy p s) rfl, plain (exec_getTimestamp p s) rfl,
      plain (exec_getSupportedLogs p s) rfl, fun _ _ => exec_getLog_of_effects h, fun _ => exec_getLog_of_unknown h,
      plain (exec_identifyMemoryDevice p s) rfl, plain (exec_getHealthInfo p s) rfl, completes_getPoisonList h,
      plain (exec_getDynamicCapacityConfiguration p s) rfl,
      fun start count => plain (exec_getDynamicCapacityExtentList p start count s) rfl,
      fun _ => exec_mailboxUnsupportedCommand_of_unlisted h⟩
  case changes =>
    exact ⟨fun _ _ => completes_clearEventRecords h, fun _ _ _ => exec_clearEventRecords_of_unknown h,
      fun _ => exec_setEventInterruptPolicy_of_firmware h, fun _ => completes_setEventInterruptPolicy h, completes_setTimestamp h⟩

end Sys2Proof.Machine

namespace Sys2Proof.Machine
open Sys2Proof.Safety

/-! ### Fields of a port's registers -/

/-- Two fields of one block share no bit: they lie in different registers, or one lies above the other. -/
def Fld.apart (f g : Fld) : Bool :=
  g.off ≠ f.off || (f.lo ≤ f.hi && f.hi < 64 && g.lo ≤ g.hi && (g.hi < f.lo || f.hi < g.lo))

/-- A field keeps its value when one apart from it is stored. -/
theorem State.get_put_apart (s : State) (b v : Nat) {f g : Fld} (h : f.apart g = true) : (s.put b f v).get b g = s.get b g := by
  by_cases ho : g.off = f.off
  · simp only [Fld.apart, ho, ne_eq, not_true, decide_false, Bool.false_or, Bool.and_eq_true, Bool.or_eq_true,
      decide_eq_true_eq] at h
    obtain ⟨⟨⟨hf, hw⟩, hg⟩, hd⟩ := h
    exact s.get_put_field b b v f g (by rw [ho]) hf hw hg hd
  · exact s.get_put_register b b v f g (by omega)

theorem State.get_putFlag_apart (s : State) (b : Nat) (v : Bool) {f g : Fld} (h : f.apart g = true) :
    (s.putFlag b f v).get b g = s.get b g := s.get_put_apart b _ h

/-- A one-bit field reads back as it was stored. -/
theorem State.get_putFlag_same (s : State) (b : Nat) (v : Bool) {f : Fld} (h : f.lo = f.hi) (hw : f.hi < 64) :
    (s.putFlag b f v).get b f = ofBool v := by
  have width : f.hi + 1 - f.lo = 1 := by omega
  rw [State.putFlag, State.get_put_same s b _ f (Nat.le_of_eq h) hw, width]
  cases v <;> rfl

theorem decide_ofBool_ne_zero (v : Bool) : decide (ofBool v ≠ 0) = v := by cases v <;> rfl

/-- A sticky bit: set when the condition holds, else left. -/
def stick (b : Nat) (f : Fld) (c : Bool) (s : State) : State := if c then s.putFlag b f true else s

theorem State.get_stick_apart (s : State) (b : Nat) (c : Bool) {f g : Fld} (h : f.apart g = true) :
    (stick b f c s).get b g = s.get b g := by
  cases c
  · rfl
  · exact s.get_putFlag_apart b true h

theorem State.flag_stick_same (s : State) (b : Nat) (c : Bool) {f : Fld} (h : f.lo = f.hi) (hw : f.hi < 64) :
    (stick b f c s).flag b f = (s.flag b f || c) := by
  cases c
  · exact (Bool.or_false _).symm
  · rw [Bool.or_true]
    exact (congrArg (fun n => decide (n ≠ 0)) (s.get_putFlag_same b true h hw)).trans (decide_ofBool_ne_zero true)

theorem State.flag_stick_apart (s : State) (b : Nat) (c : Bool) {f g : Fld} (h : f.apart g = true) :
    (stick b f c s).flag b g = s.flag b g := by simp only [State.flag, s.get_stick_apart b c h]

/-- The registers of port `p` hold the same. -/
def SamePort (p : Nat) (s t : State) : Prop := ∀ i, i < 0x1000 → t.reg (hptBase p + i) = s.reg (hptBase p + i)

section
variable {p : Nat} {s t u : State}

theorem SamePort.trans (h : SamePort p s t) (k : SamePort p t u) : SamePort p s u := fun i hi => (k i hi).trans (h i hi)

theorem SamePort.get (h : SamePort p s t) {f : Fld} (hf : f.off < 0x1000) : t.get (hptBase p) f = s.get (hptBase p) f := by
  simp only [State.get, h f.off hf]

theorem SamePort.flag (h : SamePort p s t) {f : Fld} (hf : f.off < 0x1000) : t.flag (hptBase p) f = s.flag (hptBase p) f := by
  simp only [State.flag, h.get hf]

theorem faultReg_port {i : Nat} (p : Nat) (_ : i < 0x1000) : faultReg (hptBase p + i) = false := by
  unfold faultReg hptBase tierBase fltBase rilBase
  rw [← Bool.not_eq_true]
  simp only [Bool.or_eq_true, Bool.and_eq_true, decide_eq_true_iff]
  omega

/-- A message to the collector leaves the registers of the ports. -/
theorem SamePort.ofReports (p : Nat) (h : Reports s t) : SamePort p s t := fun _ hi => h.regs _ (faultReg_port p hi)

theorem SamePort.setPort (p : Nat) (s : State) (q : Port) : SamePort p s (s.setPort p q) := fun _ _ => rfl

theorem SamePort.stick (h : SamePort p s t) {f : Fld} (c : Bool) (hf : f.off < 0x1000) :
    SamePort p (stick (hptBase p) f c s) (stick (hptBase p) f c t) := by
  cases c
  · exact h
  · intro i hi
    show (t.put _ _ _).reg _ = (s.put _ _ _).reg _
    simp only [State.put, State.reg_setReg, h i hi, h f.off hf]

end

/-! ### The link status (R41, R45) -/

theorem OnlyRegs.trans {q : Nat → Prop} {s t u : State} (h : OnlyRegs q s t) (k : OnlyRegs q t u) : OnlyRegs q s u := by
  refine ⟨?_, fun o ho => (k.2 o ho).trans (h.2 o ho)⟩
  have e := k.1
  rw [h.1] at e
  exact e

/-- Only HPT_LINK_STATUS of port `p` can differ. -/
def OnlyStatus (p : Nat) (s t : State) : Prop := OnlyRegs (· = hptBase p + 8) s t

theorem OnlyStatus.trans {p : Nat} {s t u : State} (h : OnlyStatus p s t) (k : OnlyStatus p t u) : OnlyStatus p s u :=
  OnlyRegs.trans h k

theorem onlyStatus_put (s : State) (p v : Nat) {f : Fld} (hf : f.off = 8) : OnlyStatus p s (s.put (hptBase p) f v) := by
  have key := onlyRegs_setReg s (hptBase p + f.off) (BitVec.ofNat 64 (setBits (s.reg (hptBase p + f.off)).toNat f.hi f.lo v))
  rw [hf] at key
  rw [State.put, hf]
  exact key

theorem setLtssm_onlyStatus (p v : Nat) (s : State) : OnlyStatus p s (setLtssm p v s) := onlyStatus_put s p v rfl

theorem OnlyStatus.get {p : Nat} {s t : State} (h : OnlyStatus p s t) {f : Fld} (hf : f.off ≠ 8) :
    t.get (hptBase p) f = s.get (hptBase p) f := by
  simp only [State.get, h.2 (hptBase p + f.off) (by omega)]

theorem OnlyStatus.port {p : Nat} {s t : State} (h : OnlyStatus p s t) (k : Nat) : t.port k = s.port k := by
  have ports : t.ports = s.ports := by rw [h.1]
  rw [State.port, ports, State.port]

theorem OnlyStatus.afterSetPort {p k : Nat} {s t : State} {q : Port} (h : OnlyStatus p (s.setPort k q) t) :
    t = { s with regs := t.regs, ports := t.ports } := by
  have frame := h.1
  rw [frame]
  rfl

theorem ltssm_setLtssm {v : Nat} (p : Nat) (s : State) (hv : v < 16) : (setLtssm p v s).ltssm p = v :=
  (s.get_put_same (hptBase p) v HPT_LINK_STATUS_LTSSM (by decide) (by decide)).trans (Nat.mod_eq_of_lt hv)

/-- A link whose state and width change. -/
def relinked (p state width : Nat) (s : State) : State := (setLtssm p state s).put (hptBase p) HPT_LINK_STATUS_WIDTH width

theorem relinked_onlyStatus (p state width : Nat) (s : State) : OnlyStatus p s (relinked p state width s) :=
  (setLtssm_onlyStatus p state s).trans (onlyStatus_put _ p width rfl)

theorem ltssm_relinked {state : Nat} (p width : Nat) (s : State) (h : state < 16) : (relinked p state width s).ltssm p = state :=
  (State.get_put_apart _ _ _ (by decide)).trans (ltssm_setLtssm p s h)

theorem width_relinked {width : Nat} (p state : Nat) (s : State) (h : width < 4) :
    (relinked p state width s).get (hptBase p) HPT_LINK_STATUS_WIDTH = width :=
  (State.get_put_same _ _ _ _ (by decide) (by decide)).trans (Nat.mod_eq_of_lt h)

/-! ### Training (R41, R42, R50) -/

/-- Only what training touches can differ: registers, ports and what a message to the collector changes. -/
def Surface (s t : State) : Prop :=
  t = { s with regs := t.regs, ports := t.ports, flt := t.flt, mgmt := t.mgmt, out := t.out, pool := t.pool }

theorem Surface.refl (s : State) : Surface s s := rfl

theorem Surface.trans {s t u : State} (h : Surface s t) (k : Surface t u) : Surface s u := by
  have e : u = { t with regs := u.regs, ports := u.ports, flt := u.flt, mgmt := u.mgmt, out := u.out, pool := u.pool } := k
  rw [h] at e
  exact e

theorem Surface.ofReports {s t : State} (h : Reports s t) : Surface s t := h.frame

theorem Surface.ofStatus {p : Nat} {s t : State} (h : OnlyStatus p s t) : Surface s t := by
  rw [h.1]
  rfl

theorem Surface.setPort (s : State) (p : Nat) (q : Port) : Surface s (s.setPort p q) := rfl

theorem Surface.stick (b : Nat) (f : Fld) (c : Bool) (s : State) : Surface s (stick b f c s) := by
  cases c <;> rfl

theorem Surface.leaves {s t : State} (h : Surface s t) :
    t.held = s.held ∧ t.remote = s.remote ∧ t.ctxs = s.ctxs ∧ t.exts = s.exts ∧ t.cistern = s.cistern ∧ t.slices = s.slices ∧
    t.valid = s.valid := by
  have e : t = { s with regs := t.regs, ports := t.ports, flt := t.flt, mgmt := t.mgmt, out := t.out, pool := t.pool } := h
  rw [e]
  exact ⟨rfl, rfl, rfl, rfl, rfl, rfl, rfl⟩

/-- HPT_LINK_STATUS of a link that has come up. -/
def linkShown (p speed width : Nat) (rev : Bool) (pol : BitVec 2) (flit256 : Bool) (s : State) : State :=
  let b := hptBase p
  ((((relinked p 3 width s).put b HPT_LINK_STATUS_SPEED speed).putFlag b HPT_LINK_STATUS_LANE_REV rev).put b
    HPT_LINK_STATUS_POL_INV pol.toNat).putFlag b HPT_LINK_STATUS_CXL_MODE flit256

section
variable {p speed width : Nat} {rev flit256 : Bool} {pol : BitVec 2} {s : State}

theorem linkShown_onlyStatus : OnlyStatus p s (linkShown p speed width rev pol flit256 s) :=
  ((((relinked_onlyStatus p 3 width s).trans (onlyStatus_put _ p _ rfl)).trans (onlyStatus_put _ p _ rfl)).trans
    (onlyStatus_put _ p _ rfl)).trans (onlyStatus_put _ p _ rfl)

/-- The link status reads as it was shown. -/
theorem linkShown_status (hs : speed < 8) (hw : width < 4) :
    let t := linkShown p speed width rev pol flit256 s
    let b := hptBase p
    t.get b HPT_LINK_STATUS_LTSSM = 3 ∧ t.get b HPT_LINK_STATUS_SPEED = speed ∧ t.get b HPT_LINK_STATUS_WIDTH = width ∧
    t.get b HPT_LINK_STATUS_LANE_REV = ofBool rev ∧ t.get b HPT_LINK_STATUS_POL_INV = pol.toNat ∧
    t.get b HPT_LINK_STATUS_CXL_MODE = ofBool flit256 := by
  have ltssm : (relinked p 3 width s).get (hptBase p) HPT_LINK_STATUS_LTSSM = 3 := ltssm_relinked p width s (by decide)
  have lane (u : State) := u.get_putFlag_same (hptBase p) rev (f := HPT_LINK_STATUS_LANE_REV) rfl (by decide)
  have cxl (u : State) := u.get_putFlag_same (hptBase p) flit256 (f := HPT_LINK_STATUS_CXL_MODE) rfl (by decide)
  simp (disch := decide) only [linkShown, ltssm, width_relinked p 3 s hw, lane, cxl, State.get_put_apart, State.get_putFlag_apart,
    State.get_put_same]
  exact ⟨trivial, Nat.mod_eq_of_lt hs, trivial, trivial, Nat.mod_eq_of_lt pol.isLt, trivial⟩

/-- The sticky bits of a rate or a width below the target, and their message (R41, R42). -/
def downtrained (p : Nat) (slow narrow : Bool) (s : State) : State :=
  let s := stick (hptBase p) HPT_ERR_STATUS_DOWNTRAIN_WIDTH narrow (stick (hptBase p) HPT_ERR_STATUS_DOWNTRAIN_SPEED slow s)
  if slow || narrow then raiseDetail (portSource p) 0 p s else s

theorem downtrained_reports (p : Nat) (slow narrow : Bool) (s : State) :
    Reports (stick (hptBase p) HPT_ERR_STATUS_DOWNTRAIN_WIDTH narrow (stick (hptBase p) HPT_ERR_STATUS_DOWNTRAIN_SPEED slow s))
      (downtrained p slow narrow s) := Reports.opt _ (raiseDetail_reports _ _ _ _)

/-- A partner without 256-byte flits sets its sticky bit and is reported (R50). -/
def negotiated (p : Nat) (flit256 : Bool) (s : State) : State :=
  if flit256 then s else raiseOpen (portSource p) 1 (s.putFlag (hptBase p) HPT_ERR_STATUS_CXL_NEG_FAIL true)

theorem negotiated_reports (p : Nat) (flit256 : Bool) (s : State) :
    Reports (stick (hptBase p) HPT_ERR_STATUS_CXL_NEG_FAIL (!flit256) s) (negotiated p flit256 s) := by
  cases flit256
  · exact raiseOpen_reports _ _ _
  · exact Reports.refl s

/-- Pending dynamic-capacity events are offered again (R48). -/
def reoffered (p : Nat) (s : State) : State :=
  let q := s.port p
  let lg := q.log 4
  let t := s.setPort p (q.setLog 4 { lg with records := lg.records.map (fun r => { r with fetched := false }) })
  if lg.records ≠ [] ∧ (Sparse.get (fun _ => (0 : BitVec 8)) q.intPolicy 4).toNat % 4 = 1 then t.emit (.msix p 0 5) else t

theorem reoffered_reports (p : Nat) (s : State) : Reports s (reoffered p s) :=
  Reports.ite ((Reports.setPort s _ _).trans (Reports.emit _ _)) (Reports.setPort s _ _)

/-- A host port that has trained: its link shown, its faults told, and its pending events offered again. -/
def linkTrained (p partner speed tgt width : Nat) (x1 rev : Bool) (pol : BitVec 2) (flit256 : Bool) (s : State) : State :=
  let u := linkShown p speed width rev pol flit256 s
  reoffered p (negotiated p flit256 (downtrained p (decide (speed < tgt)) (decide (width = 1) && !x1)
    (u.setPort p { u.port p with partnerSpeed := partner, fullWidth := width })))

theorem exec_linkTrainingComplete {partner : Nat} {lane0 lane1 : Bool} (hm : s.mayTrain p = true) (hp : p < 12 * s.nTiers)
    (hon : s.portOn p = true) (hr : s.inPerst p = false) (hd : s.linkUp p = false) (hb : (s.port (p / 2 * 2)).bonded = false)
    (hl : (lane0 || lane1) = true) :
    exec (.linkTrainingComplete p partner lane0 lane1 rev pol flit256) s =
      let tgt := min 5 (s.get (hptBase p) HPT_PORT_CFG_TGT_SPEED)
      let x1 := s.flag (hptBase p) HPT_PORT_CFG_X1_ONLY
      .next (linkTrained p partner (min (min 5 partner) tgt) tgt (if lane0 && lane1 && !x1 then 2 else 1) x1 rev pol flit256 s) := by
  have run : exec (.linkTrainingComplete p partner lane0 lane1 rev pol flit256) s =
    execLinkTrainingComplete p partner lane0 lane1 rev pol flit256 s := rfl
  have trains : (decide (12 * s.nTiers ≤ p) || !s.portOn p || s.inPerst p || s.linkUp p || !(lane0 || lane1)) = false := by
    simp [hp, hon, hr, hd, hl]
  simp only [run, execLinkTrainingComplete, hm, trains, hb, Bool.not_true, Bool.false_eq_true, if_false]
  rfl

theorem linkTrained_surface {partner tgt : Nat} {x1 : Bool} :
    Surface s (linkTrained p partner speed tgt width x1 rev pol flit256 s) :=
  Surface.trans ((Surface.ofStatus linkShown_onlyStatus).trans (Surface.setPort _ _ _)) <|
    Surface.trans (((Surface.stick _ _ _ _).trans (Surface.stick _ _ _ _)).trans (Surface.ofReports (downtrained_reports _ _ _ _))) <|
    Surface.trans ((Surface.stick _ _ _ _).trans (Surface.ofReports (negotiated_reports _ _ _))) <|
    Surface.ofReports (reoffered_reports _ _)

/-- The registers of the port show the link and the sticky bits of the training. -/
theorem linkTrained_samePort {partner tgt : Nat} {x1 : Bool} :
    SamePort p (stick (hptBase p) HPT_ERR_STATUS_CXL_NEG_FAIL (!flit256)
        (stick (hptBase p) HPT_ERR_STATUS_DOWNTRAIN_WIDTH (decide (width = 1) && !x1)
          (stick (hptBase p) HPT_ERR_STATUS_DOWNTRAIN_SPEED (decide (speed < tgt)) (linkShown p speed width rev pol flit256 s))))
      (linkTrained p partner speed tgt width x1 rev pol flit256 s) := by
  have shown := SamePort.setPort p (linkShown p speed width rev pol flit256 s)
    { (linkShown p speed width rev pol flit256 s).port p with partnerSpeed := partner, fullWidth := width }
  have down := ((shown.stick (f := HPT_ERR_STATUS_DOWNTRAIN_SPEED) (decide (speed < tgt)) (by decide)).stick
    (f := HPT_ERR_STATUS_DOWNTRAIN_WIDTH) (decide (width = 1) && !x1) (by decide)).trans
      (SamePort.ofReports p (downtrained_reports _ _ _ _))
  exact ((down.stick (f := HPT_ERR_STATUS_CXL_NEG_FAIL) (!flit256) (by decide)).trans
    (SamePort.ofReports p (negotiated_reports _ _ _))).trans (SamePort.ofReports p (reoffered_reports _ _))

theorem linkTrained_errors {partner tgt : Nat} {x1 : Bool} :
    let t := linkTrained p partner speed tgt width x1 rev pol flit256 s
    let b := hptBase p
    t.flag b HPT_ERR_STATUS_DOWNTRAIN_SPEED = (s.flag b HPT_ERR_STATUS_DOWNTRAIN_SPEED || decide (speed < tgt)) ∧
    t.flag b HPT_ERR_STATUS_DOWNTRAIN_WIDTH = (s.flag b HPT_ERR_STATUS_DOWNTRAIN_WIDTH || (decide (width = 1) && !x1)) ∧
    t.flag b HPT_ERR_STATUS_CXL_NEG_FAIL = (s.flag b HPT_ERR_STATUS_CXL_NEG_FAIL || !flit256) := by
  have same := linkTrained_samePort (p := p) (speed := speed) (width := width) (rev := rev) (pol := pol) (flit256 := flit256)
    (s := s) (partner := partner) (tgt := tgt) (x1 := x1)
  have before {f : Fld} (hf : f.off ≠ 8) :
      (linkShown p speed width rev pol flit256 s).flag (hptBase p) f = s.flag (hptBase p) f := by
    simp only [State.flag, linkShown_onlyStatus.get hf]
  simp (disch := decide) only [same.flag, State.flag_stick_apart, State.flag_stick_same, before, and_self]

theorem linkTrained_status {partner tgt : Nat} {x1 : Bool} {f : Fld} (hf : f.off = 8) :
    (linkTrained p partner speed tgt width x1 rev pol flit256 s).get (hptBase p) f =
      (linkShown p speed width rev pol flit256 s).get (hptBase p) f := by
  have apart {e : Fld} (he : e.off ≠ 8) : e.apart f = true := by simp [Fld.apart, hf, he.symm]
  rw [linkTrained_samePort.get (by omega), State.get_stick_apart _ _ _ (apart (by decide)),
    State.get_stick_apart _ _ _ (apart (by decide)), State.get_stick_apart _ _ _ (apart (by decide))]

theorem completes_linkTrainingComplete {partner : Nat} {lane0 lane1 : Bool} (hm : s.mayTrain p = true) (hp : p < 12 * s.nTiers)
    (hon : s.portOn p = true) (hr : s.inPerst p = false) (hd : s.linkUp p = false) (hb : (s.port (p / 2 * 2)).bonded = false)
    (hl : (lane0 || lane1) = true) :
    Completes (.linkTrainingComplete p partner lane0 lane1 rev pol flit256) s (fun t =>
      let b := hptBase p
      let tgt := min 5 (s.get b HPT_PORT_CFG_TGT_SPEED)
      let x1 := s.flag b HPT_PORT_CFG_X1_ONLY
      let width := if lane0 && lane1 && !x1 then 2 else 1
      t.ltssm p = 3 ∧
      t.get b HPT_LINK_STATUS_SPEED = min (min 5 partner) tgt ∧
      t.get b HPT_LINK_STATUS_WIDTH = width ∧
      t.flag b HPT_LINK_STATUS_LANE_REV = rev ∧
      t.get b HPT_LINK_STATUS_POL_INV = pol.toNat ∧
      t.flag b HPT_LINK_STATUS_CXL_MODE = flit256 ∧
      t.flag b HPT_ERR_STATUS_DOWNTRAIN_SPEED = (s.flag b HPT_ERR_STATUS_DOWNTRAIN_SPEED || decide (min 5 partner < tgt)) ∧
      t.flag b HPT_ERR_STATUS_DOWNTRAIN_WIDTH = (s.flag b HPT_ERR_STATUS_DOWNTRAIN_WIDTH || (decide (width = 1) && !x1)) ∧
      t.flag b HPT_ERR_STATUS_CXL_NEG_FAIL = (s.flag b HPT_ERR_STATUS_CXL_NEG_FAIL || !flit256) ∧
      t = { s with regs := t.regs, ports := t.ports, flt := t.flt, mgmt := t.mgmt, out := t.out, pool := t.pool }) := by
  refine ⟨_, exec_linkTrainingComplete hm hp hon hr hd hb hl, ?_⟩
  dsimp only
  generalize min 5 (s.get (hptBase p) HPT_PORT_CFG_TGT_SPEED) = tgt
  generalize s.flag (hptBase p) HPT_PORT_CFG_X1_ONLY = x1
  have narrow : (if lane0 && lane1 && !x1 then 2 else 1) < 4 := by split <;> decide
  generalize (if lane0 && lane1 && !x1 then 2 else 1) = width at narrow
  have slow : decide (min 5 partner < tgt) = decide (min (min 5 partner) tgt < tgt) := by simp
  obtain ⟨ltssm, hspeed, hwidth, hrev, hpol, hcxl⟩ := linkShown_status (p := p) (rev := rev) (flit256 := flit256) (pol := pol)
    (s := s) (show min (min 5 partner) tgt < 8 by omega) narrow
  obtain ⟨fast, wide, cxl⟩ := linkTrained_errors (p := p) (rev := rev) (flit256 := flit256) (pol := pol) (s := s)
    (partner := partner) (tgt := tgt) (x1 := x1) (speed := min (min 5 partner) tgt) (width := width)
  have flag {f : Fld} {v : Bool} (hf : f.off = 8)
      (h : (linkShown p (min (min 5 partner) tgt) width rev pol flit256 s).get (hptBase p) f = ofBool v) :
      (linkTrained p partner (min (min 5 partner) tgt) tgt width x1 rev pol flit256 s).flag (hptBase p) f = v := by
    rw [State.flag, linkTrained_status hf, h, decide_ofBool_ne_zero]
  rw [slow]
  exact ⟨(linkTrained_status rfl).trans ltssm, (linkTrained_status rfl).trans hspeed, (linkTrained_status rfl).trans hwidth,
    flag rfl hrev, (linkTrained_status rfl).trans hpol, flag rfl hcxl, fast, wide, cxl, linkTrained_surface⟩

end

/-! ### Power states, margining, retrains (R44, R45, R68) -/

section
variable {p : Nat} {s : State}

/-- A x2 link in L0 keeps one lane and remembers its width. -/
theorem narrowLink_of_wide (h3 : s.ltssm p = 3) (hw : s.get (hptBase p) HPT_LINK_STATUS_WIDTH = 2)
    (hb : (s.port (p / 2 * 2)).bonded = false) :
    narrowLink p s = relinked p 4 1 (s.setPort p { s.port p with fullWidth := 2 }) := by
  simp only [narrowLink, h3, hw, hb, Bool.not_false, and_self, if_true]
  rfl

theorem exec_l0pDeviceRequest (p : Nat) (s : State) :
    exec (.l0pDeviceRequest p) s = .next (if s.flag (hptBase p) HPT_PORT_CFG_L0P_EN then narrowLink p s else s) := rfl

theorem exec_l0pPartnerRequest (p : Nat) (s : State) : exec (.l0pPartnerRequest p) s = .next (narrowLink p s) := rfl

theorem completes_l0p (he : s.flag (hptBase p) HPT_PORT_CFG_L0P_EN = true) (h3 : s.ltssm p = 3)
    (hw : s.get (hptBase p) HPT_LINK_STATUS_WIDTH = 2) (hb : (s.port (p / 2 * 2)).bonded = false) {c : Instr}
    (hc : c ∈ [Instr.l0pDeviceRequest p, Instr.l0pPartnerRequest p]) :
    Completes c s (fun t => t.ltssm p = 4 ∧ t.get (hptBase p) HPT_LINK_STATUS_WIDTH = 1 ∧ (t.port p).fullWidth = 2 ∧
      t = { s with regs := t.regs, ports := t.ports } ∧ ∀ o, o ≠ hptBase p + 8 → t.reg o = s.reg o) := by
  have run : exec c s = .next (relinked p 4 1 (s.setPort p { s.port p with fullWidth := 2 })) := by
    rw [← narrowLink_of_wide h3 hw hb]
    simp only [List.mem_cons, List.not_mem_nil, or_false] at hc
    obtain rfl | rfl := hc
    · rw [exec_l0pDeviceRequest, if_pos he]
    · exact exec_l0pPartnerRequest p s
  have status := relinked_onlyStatus p 4 1 (s.setPort p { s.port p with fullWidth := 2 })
  have port : ((relinked p 4 1 (s.setPort p { s.port p with fullWidth := 2 })).port p).fullWidth = 2 := by
    rw [status.port, State.port_setPort_same]
  exact ⟨_, run, ltssm_relinked p 1 _ (by decide), width_relinked p 4 _ (by decide), port, status.afterSetPort, status.2⟩

theorem exec_l0pDeviceRequest_of_disabled (h : s.flag (hptBase p) HPT_PORT_CFG_L0P_EN = false) :
    exec (.l0pDeviceRequest p) s = .next s := by
  rw [exec_l0pDeviceRequest, if_neg (by rw [h]; exact Bool.false_ne_true)]

/-- The link goes back to L0 at its full width. -/
theorem completes_relinked {c : Instr} (hc : exec c s = .next (relinked p 3 (s.port p).fullWidth s)) (hw : (s.port p).fullWidth < 4) :
    Completes c s (fun t =>
      t.ltssm p = 3 ∧ t.get (hptBase p) HPT_LINK_STATUS_WIDTH = (s.port p).fullWidth ∧ t = { s with regs := t.regs } ∧
      ∀ o, o ≠ hptBase p + 8 → t.reg o = s.reg o) :=
  ⟨_, hc, ltssm_relinked p _ s (by decide), width_relinked p 3 s hw, relinked_onlyStatus p 3 _ s⟩

theorem exec_linkWiden (h4 : s.ltssm p = 4) (hq : s.deepQueue = true) :
    exec (.linkWiden p) s = .next (relinked p 3 (s.port p).fullWidth s) := by
  have run : exec (.linkWiden p) s = execLinkWiden p s := rfl
  rw [run, execLinkWiden, if_pos (by simp [h4, hq])]
  rfl

theorem exec_aspmL1Exit (h6 : s.ltssm p = 6) : exec (.aspmL1Exit p) s = .next (relinked p 3 (s.port p).fullWidth s) := by
  have run : exec (.aspmL1Exit p) s = execAspmL1Exit p s := rfl
  rw [run, execAspmL1Exit, if_pos h6]
  rfl

/-- The state of the link changes, and nothing else. -/
theorem completes_setLtssm {c : Instr} {v : Nat} (hc : exec c s = .next (setLtssm p v s)) (hv : v < 16) :
    Completes c s (fun t => t.ltssm p = v ∧ t = { s with regs := t.regs } ∧ ∀ o, o ≠ hptBase p + 8 → t.reg o = s.reg o) :=
  ⟨_, hc, ltssm_setLtssm p s hv, setLtssm_onlyStatus p v s⟩

theorem exec_aspmL1Entry (h : s.ltssm p = 3 ∨ s.ltssm p = 4) (hb : (s.port (p / 2 * 2)).bonded = false) :
    exec (.aspmL1Entry p) s = .next (setLtssm p 6 s) := by
  have run : exec (.aspmL1Entry p) s = execAspmL1Entry p s := rfl
  rw [run, execAspmL1Entry, if_pos ⟨h, by rw [hb]; rfl⟩]

theorem retrainPort_of_linkUp (h : s.linkUp p = true) : retrainPort p s = setLtssm p 5 s := if_pos h

theorem exec_retrain (h : s.linkUp p = true) (hd : s.blockDown (hptBase p) = false) :
    exec (.retrain p) s = .next (setLtssm p 5 s) := by
  have run : exec (.retrain p) s = execRetrain p s := rfl
  rw [run, execRetrain, if_neg (by rw [hd]; exact Bool.false_ne_true), retrainPort_of_linkUp h]

theorem completes_laneMargining {lane : Nat} (voltage : Bool) (result : BitVec 8) (h3 : s.ltssm p = 3)
    (hs : 3 ≤ s.get (hptBase p) HPT_LINK_STATUS_SPEED) (hl : lane < s.get (hptBase p) HPT_LINK_STATUS_WIDTH) :
    Completes (.laneMargining p lane voltage result) s (fun t =>
      (t.port p).margin = some (lane, voltage, result) ∧ t.out = .marginReport p lane result :: s.out ∧
      t = { s with ports := t.ports, out := t.out }) := by
  have run : exec (.laneMargining p lane voltage result) s = execLaneMargining p lane voltage result s := rfl
  refine ⟨_, run.trans (if_pos ⟨h3, hs, hl⟩), ?_, rfl, rfl⟩
  rw [State.port_emit, State.port_setPort_same]

theorem exec_flitReplayLimit (h : s.linkUp p = true) :
    exec (.flitReplayLimit p) s =
      .next (raiseOpen (portSource p) 2 (setLtssm p 5 (stick (hptBase p) HPT_ERR_STATUS_REPLAY_LIMIT true s))) := by
  have run : exec (.flitReplayLimit p) s = execFlitReplayLimit p s := rfl
  have up : (stick (hptBase p) HPT_ERR_STATUS_REPLAY_LIMIT true s).linkUp p = true := by
    rw [State.linkUp, State.get_stick_apart _ _ _ (by decide)]
    exact h
  rw [run, execFlitReplayLimit, if_pos h, ← retrainPort_of_linkUp up]
  rfl

theorem completes_flitReplayLimit (h : s.linkUp p = true) :
    Completes (.flitReplayLimit p) s (fun t =>
      t.flag (hptBase p) HPT_ERR_STATUS_REPLAY_LIMIT = true ∧ t.ltssm p = 5 ∧ t.ctxs = s.ctxs ∧ t.cistern = s.cistern) := by
  have status := setLtssm_onlyStatus p 5 (stick (hptBase p) HPT_ERR_STATUS_REPLAY_LIMIT true s)
  have told := raiseOpen_reports (portSource p) 2 (setLtssm p 5 (stick (hptBase p) HPT_ERR_STATUS_REPLAY_LIMIT true s))
  have same := SamePort.ofReports p told
  have touched : Surface s _ := ((Surface.stick _ _ _ _).trans (Surface.ofStatus status)).trans (Surface.ofReports told)
  obtain ⟨-, -, ctxs, -, cistern, -⟩ := touched.leaves
  refine ⟨_, exec_flitReplayLimit h, ?_, (same.get (by decide)).trans (ltssm_setLtssm p _ (by decide)), ctxs, cistern⟩
  rw [same.flag (by decide), State.flag, status.get (by decide)]
  exact (State.flag_stick_same s _ true rfl (by decide)).trans (Bool.or_true _)

/-! ### The loss of the link (R48) -/

theorem updateCredits_frame (p : Nat) (s : State) : updateCredits p s = { s with portWeirs := (updateCredits p s).portWeirs } := rfl

theorem get_updateCredits (p b : Nat) (f : Fld) (s : State) : (updateCredits p s).get b f = s.get b f := by
  have regs : (updateCredits p s).regs = s.regs := rfl
  simp only [State.get, State.reg, regs]

/-- The requests of a port whose link goes: held requests leave, and remote ones are no longer answered. -/
def requestsGone (p : Nat) (s : State) : State :=
  { s with
    held := s.held.filter (fun r => decide (r.port ≠ p) || r.remote.isSome)
    remote := s.remote.map (fun (o : Outstanding) => if o.port = p then { o with internal := true } else o) }

theorem mem_held_requestsGone {r : Req} (h : r ∈ (requestsGone p s).held) (hp : r.port = p) : r.remote.isSome = true := by
  have := List.of_mem_filter h
  simpa [hp] using this

theorem mem_remote_requestsGone {o : Outstanding} (h : o ∈ (requestsGone p s).remote) (hp : o.port = p) : o.internal = true := by
  obtain ⟨x, -, rfl⟩ := List.mem_map.1 h
  by_cases hx : x.port = p
  · simp [hx]
  · simp [hx] at hp

/-- The status of a port whose link has gone. -/
def statusGone (p : Nat) (s : State) : State := setLtssm p 0 (s.setReg (hptBase p + 8) 0)

theorem statusGone_onlyStatus (p : Nat) (s : State) : OnlyStatus p s (statusGone p s) :=
  OnlyStatus.trans (onlyRegs_setReg s (hptBase p + 8) 0) (setLtssm_onlyStatus p 0 _)

theorem width_statusGone (p : Nat) (s : State) : (statusGone p s).get (hptBase p) HPT_LINK_STATUS_WIDTH = 0 := by
  have zero : (s.setReg (hptBase p + 8) 0).get (hptBase p) HPT_LINK_STATUS_WIDTH = 0 := by
    rw [State.get, show hptBase p + HPT_LINK_STATUS_WIDTH.off = hptBase p + 8 from rfl, State.reg_setReg_same]
    rfl
  exact (State.get_put_apart _ _ _ (by decide)).trans zero

/-- A port whose link has gone, before the message that tells it. -/
def unlinked (p : Nat) (s : State) : State := updateCredits p (statusGone p (requestsGone p s))

theorem unlinked_leaves (p : Nat) (s : State) :
    let t := unlinked p s
    t.held = (requestsGone p s).held ∧ t.remote = (requestsGone p s).remote ∧ t.ports = s.ports ∧ t.ctxs = s.ctxs ∧
    t.exts = s.exts ∧ t.cistern = s.cistern ∧ t.slices = s.slices ∧ t.valid = s.valid := by
  have credits := updateCredits_frame p (statusGone p (requestsGone p s))
  have status := (statusGone_onlyStatus p (requestsGone p s)).1
  unfold unlinked
  generalize statusGone p (requestsGone p s) = u at credits status
  generalize updateCredits p u = t at credits
  rw [credits, status]
  exact ⟨rfl, rfl, rfl, rfl, rfl, rfl, rfl, rfl⟩

theorem dropLink_of_up (h : s.linkUp p = true) (hb : (s.port (p / 2 * 2)).bonded = false) :
    dropLink p 0 s = raiseOpen (portSource p) 3 (stick (hptBase p) HPT_ERR_STATUS_LINK_DOWN true (unlinked p s)) := by
  have port : ((unlinked p s).port (p / 2 * 2)).bonded = false := by
    obtain ⟨-, -, ports, -⟩ := unlinked_leaves p s
    rw [State.port, ports]
    exact hb
  simp only [unlinked, statusGone, requestsGone] at port
  simp only [dropLink, h, port, Bool.false_eq_true, if_false, if_true]
  rfl

theorem completes_linkDown (h : s.linkUp p = true) (hb : (s.port (p / 2 * 2)).bonded = false) :
    Completes (.linkDown p) s (fun t =>
      t.ltssm p = 0 ∧ t.get (hptBase p) HPT_LINK_STATUS_WIDTH = 0 ∧ t.flag (hptBase p) HPT_ERR_STATUS_LINK_DOWN = true ∧
      (∀ r ∈ t.held, r.port = p → r.remote.isSome = true) ∧ (∀ o ∈ t.remote, o.port = p → o.internal = true) ∧
      t.ctxs = s.ctxs ∧ t.exts = s.exts ∧ t.cistern = s.cistern ∧ t.slices = s.slices ∧ t.valid = s.valid) := by
  have run : exec (.linkDown p) s = execLinkDown p s := rfl
  refine ⟨_, (run.trans (if_pos (by rw [h]; rfl))).trans (congrArg _ (dropLink_of_up h hb)), ?_⟩
  have told := raiseOpen_reports (portSource p) 3 (stick (hptBase p) HPT_ERR_STATUS_LINK_DOWN true (unlinked p s))
  have same := SamePort.ofReports p told
  have touched : Surface (unlinked p s) _ := (Surface.stick _ _ _ _).trans (Surface.ofReports told)
  generalize raiseOpen _ _ _ = t at told same touched
  have shows {f : Fld} (hf : f.off = 8) : t.get (hptBase p) f = (statusGone p (requestsGone p s)).get (hptBase p) f := by
    have apart : HPT_ERR_STATUS_LINK_DOWN.apart f = true := by simp [Fld.apart, hf, HPT_ERR_STATUS_LINK_DOWN]
    rw [same.get (by omega), State.get_stick_apart _ _ _ apart, unlinked, get_updateCredits]
  have down : t.flag (hptBase p) HPT_ERR_STATUS_LINK_DOWN = true := by
    rw [same.flag (by decide), State.flag_stick_same _ _ _ rfl (by decide), Bool.or_true]
  obtain ⟨held, remote, ctxs, exts, cistern, slices, valid⟩ := touched.leaves
  obtain ⟨held', remote', -, ctxs', exts', cistern', slices', valid'⟩ := unlinked_leaves p s
  exact ⟨(shows rfl).trans (ltssm_setLtssm p _ (by decide)), (shows rfl).trans (width_statusGone p _), down,
    fun r hr => mem_held_requestsGone (held.trans held' ▸ hr), fun o ho => mem_remote_requestsGone (remote.trans remote' ▸ ho),
    ctxs.trans ctxs', exts.trans exts', cistern.trans cistern', slices.trans slices', valid.trans valid'⟩

end

/-- Settles O3: the link status and the sticky bits lie in fields apart, and messages to the collector leave a port's registers. -/
theorem linkTrainingAndStates : Obligations.LinkTrainingAndStates := by
  unfold Obligations.LinkTrainingAndStates
  refine ⟨fun p partner lane0 lane1 rev flit256 pol s => completes_linkTrainingComplete, fun p s he h3 hw hb c hc => ?narrow,
    fun p s h => exec_l0pDeviceRequest_of_disabled h, fun p s h4 hq hw => ?widen, fun p s h hb => ?entry, fun p s h6 hw => ?exit,
    fun p lane voltage result s => completes_laneMargining voltage result, fun p s h hd => ?retrain,
    fun p s => completes_flitReplayLimit, fun p s => completes_linkDown⟩
  case narrow => exact completes_l0p he h3 hw hb hc
  case widen => exact completes_relinked (exec_linkWiden h4 hq) hw
  case entry => exact completes_setLtssm (exec_aspmL1Entry h hb) (by decide)
  case exit => exact completes_relinked (exec_aspmL1Exit h6) hw
  case retrain => exact completes_setLtssm (exec_retrain h hd) (by decide)

end Sys2Proof.Machine

/-! The making of contexts and the queries (R69, R174, R253, R255, R258, R262), and the phases of a migration (R89, R261, R274,
R332): what the start of a context's commands checks, and what each step of a migration does to the tables. -/

namespace Sys2Proof.Machine
open Sys2Proof.Safety

/-! ### Refusals of the context commands (R77, R253, R255) -/

section
variable {d : DescRef} {c : Nat} {f : Fetched} {s : State}

theorem inState_of_badCtxid (hc : 2 ^ 18 ≤ c) (legal : List CtxState) (body : State → State) :
    inState d c legal body s = complete d 0x02 0 s := by
  have bad : ctxidOk c = false := by simpa [ctxidOk] using hc
  simp [inState, bad]

theorem inState_of_notMem {legal : List CtxState} (hc : c < 2 ^ 18) (h : (s.ctx c).state ∉ legal) (body : State → State) :
    inState d c legal body s = complete d 0x05 0 s := by
  have ok : ctxidOk c = true := by simpa [ctxidOk] using hc
  simp [inState, ok, h]

/-- A command of a context is refused for a CTXID out of range, and in a state that its row does not list. -/
theorem completes_refused_of_inState {i : Instr} {op : Nat} {l : List (Nat × Nat × Nat)} {legal : List CtxState}
    {body : Fetched → State → State} (h : s.ready d op l = some f)
    (hi : exec i s = onReady d op l (fun g => inState d c legal (body g)) s) :
    (2 ^ 18 ≤ c → Completes i s (fun t => Done d 0x02 0 s t ∧ Kept s t)) ∧
    (c < 2 ^ 18 → (s.ctx c).state ∉ legal → Completes i s (fun t => Done d 0x05 0 s t ∧ Kept s t)) := by
  have fetched := State.fetchedOf_of_ready h
  refine ⟨fun hc => completes_of_ready h hi ?_, fun hc hs => completes_of_ready h hi ?_⟩
  · rw [inState_of_badCtxid hc]
    exact refused fetched 0x02
  · rw [inState_of_notMem hc hs]
    exact refused fetched 0x05

end

/-! ### CTX_CREATE (R69, R72, R174, Table CTX-5 action a) -/

/-- The entry that CTX_CREATE builds from its operands, with list space at `a` on the home tier `h`. -/
def newCtx (h a account keyid cls cflags wbase wsize : Nat) : Ctx :=
  { keyId := keyid, cls := cls, account := account, wthru := bitAt cflags 0, noalloc := bitAt cflags 1
    remoteOk := bitAt cflags 2, integrity := bitAt cflags 3, wbase := wbase, wsize := wsize, extptr := [(h, a + 1)] }

/-- CTX_CREATE with its operands in range, and no creation waiting for its commit. -/
structure CreatesHere (d : DescRef) (c account keyid cls cflags wbase wsize : Nat) (f : Fetched) (s : State) : Prop where
  ready : s.ready d 0x0100 [(8, 4, c), (12, 2, account), (14, 2, keyid), (16, 1, cls), (17, 1, cflags), (18, 4, wbase),
    (22, 2, wsize)] = some f
  ctxid : c < 0x3FFFF
  keyLeast : 1 ≤ keyid
  keyMost : keyid < 4096
  clsOk : cls < 64
  flagsOk : cflags < 16
  writeOk : cflags % 4 ≠ 3
  sizeLeast : 1 ≤ wsize
  sizeMost : wsize ≤ 8192
  windowOk : wbase + wsize ≤ 262144
  now : CommitsNow f.tier s

section
variable {d : DescRef} {c account keyid cls cflags wbase wsize : Nat} {f : Fetched} {s : State}

theorem exec_ctxCreate (d : DescRef) (c account keyid cls cflags wbase wsize : Nat) (s : State) :
    exec (.ctxCreate d c account keyid cls cflags wbase wsize) s = execCtxCreate d c account keyid cls cflags wbase wsize s := rfl

/-- The checks of a creation in range, in their order (Table CTX-5). -/
theorem CreatesHere.exec (m : CreatesHere d c account keyid cls cflags wbase wsize f s) :
    exec (.ctxCreate d c account keyid cls cflags wbase wsize) s = .next
      (if (s.ctx c).state ≠ .free then complete d 0x05 0 s
       else if s.key keyid = none then complete d 0x02 0 s
       else if Sparse.get (fun _ => none) s.meter.released c ≠ none then complete d 0x0D 0 s
       else (claimList (s.homeTier c) c (wsize * 128) s).elim (complete d 0x06 0 s) (fun r =>
        change f.tier (some d) (.create c (newCtx (s.homeTier c) r.2 account keyid cls cflags wbase wsize)) r.1)) := by
  obtain ⟨ready, ctxid, keyLeast, keyMost, clsOk, flagsOk, writeOk, sizeLeast, sizeMost, windowOk, -, none⟩ := m
  have ok : (!ctxidOk c || decide (c = 0x3FFFF) || decide (keyid = 0) || decide (4096 ≤ keyid) || decide (64 ≤ cls) ||
      decide (16 ≤ cflags) || decide (cflags % 4 = 3) || decide (wsize = 0) || decide (8192 < wsize) ||
      decide (262144 < wbase + wsize)) = false := by
    simp only [ctxidOk, Bool.or_eq_false_iff, Bool.not_eq_false', decide_eq_true_eq, decide_eq_false_iff_not]
    omega
  refine (exec_ctxCreate d c account keyid cls cflags wbase wsize s).trans ((onReady_of_ready ready _).trans (congrArg _ ?_))
  simp only [none, List.any_nil, ok, Bool.false_eq_true, if_false]
  cases claimList (s.homeTier c) c (wsize * 128) s <;> rfl

theorem claimList_books {t len : Nat} {r : State × Nat} (h : claimList t c len s = some r) : Books s r.1 := by
  obtain ⟨a, -, rfl⟩ := Option.map_eq_some_iff.1 h
  exact ⟨rfl⟩

theorem claimList_ports {t len : Nat} {r : State × Nat} (h : claimList t c len s = some r) : r.1.ports = s.ports := by
  obtain ⟨a, -, rfl⟩ := Option.map_eq_some_iff.1 h
  rfl

/-- The commit of a creation: the context is BUILDING from now on, and its birth is noted for the open tick. -/
def createdAt (c : Nat) (x : Ctx) (s : State) : State :=
  (noteCreated c { s with extAt := Sparse.set (fun _ => 0) s.extAt c s.us }).setCtx c
    { x with state := .building, created := s.us, changed := s.us }

theorem createdAt_moves (c : Nat) (x : Ctx) (s : State) :
    Moves c { x with state := .building, created := s.us, changed := s.us } s (createdAt c x s) :=
  Moves.afterBooks ⟨rfl⟩ (Moves.setCtx c _ _)

/-- RESULT of CTX_CREATE: the place of the list and the home tier. -/
def createResult (h : Nat) (x : Ctx) : Nat := (Sparse.get (fun _ => 0) x.extptr h - 1) + h * 2 ^ 32

theorem commitChange_create (d : DescRef) (c : Nat) (x : Ctx) (s : State) :
    commitChange (some d) (.create c x) s = complete d 0 (createResult (s.homeTier c) x) (createdAt c x s) := rfl

theorem change_create_ends {n : Nat} {x : Ctx} (hn : CommitsNow n s) (hf : s.fetchedOf d = some f) :
    Ends d (createResult (s.homeTier c) x) c { x with state := .building, created := s.us, changed := s.us } s
      (change n (some d) (.create c x) s) := by
  refine change_ends hn hf (fun v hv => ⟨createdAt c x v, ?_, ?_⟩)
  · have home : v.homeTier c = s.homeTier c := by rw [hv.frame]; rfl
    rw [commitChange_create, home]
  · have us : v.us = s.us := hv.us
    rw [← us]
    exact createdAt_moves c x v

theorem change_create_ports {n : Nat} {x : Ctx} (hn : CommitsNow n s) : (change n (some d) (.create c x) s).ports = s.ports := by
  rw [change_of_commitsNow hn, commitChange_create, complete_ports]
  exact logReplicas_ports 1 (startDesc d s)

/-- A FREE context with a key, not released in the open tick, for which the home tier has list space. -/
theorem CreatesHere.completes (m : CreatesHere d c account keyid cls cflags wbase wsize f s) (hs : (s.ctx c).state = .free)
    (hk : s.key keyid ≠ none) (hr : Sparse.get (fun _ => none) s.meter.released c = none)
    (hl : claimList (s.homeTier c) c (wsize * 128) s ≠ none) :
    Completes (.ctxCreate d c account keyid cls cflags wbase wsize) s (fun t =>
      (∃ r, Done d 0 r s t) ∧
      (∃ l, t.ctx c = { state := .building, keyId := keyid, cls := cls, account := account, wthru := bitAt cflags 0
                        noalloc := bitAt cflags 1, remoteOk := bitAt cflags 2, integrity := bitAt cflags 3, wbase := wbase
                        wsize := wsize, extptr := l, created := s.us, changed := s.us }) ∧
      (∀ x, x ≠ c → t.ctx x = s.ctx x) ∧ t.exts = s.exts ∧ t.alloc = s.alloc ∧ t.valid = s.valid ∧ t.slices = s.slices ∧
      t.cistern = s.cistern ∧ t.keys = s.keys ∧ t.ports = s.ports) := by
  obtain ⟨⟨u, a⟩, hclaim⟩ := Option.ne_none_iff_exists'.1 hl
  have claimed : Books s u := claimList_books hclaim
  have eq := m.exec
  rw [if_neg (by simp [hs]), if_neg hk, if_neg (by simp [hr]), hclaim] at eq
  have frame := claimed.frame
  have now : CommitsNow f.tier u := by rw [frame]; exact m.now
  have fetched : u.fetchedOf d = some f := by rw [frame]; exact State.fetchedOf_of_ready m.ready
  have ends := change_create_ends (c := c) (x := newCtx (s.homeTier c) a account keyid cls cflags wbase wsize) now fetched
  have ports := change_create_ports (d := d) (c := c) (x := newCtx (s.homeTier c) a account keyid cls cflags wbase wsize) now
  refine ⟨_, eq, ?_⟩
  dsimp only [Option.elim_some]
  generalize change f.tier _ _ u = t at ends ports
  have moved : Moves c _ s { t with fetched := u.fetched, cplQ := u.cplQ } := Moves.afterBooks claimed ends.moved
  obtain ⟨exts, alloc, valid, slices, cistern, keys⟩ := moved.tables
  have done : Done d 0 _ s t := done_of_same_buffers ends.done (by rw [frame]) (by rw [frame])
  refine ⟨⟨_, done⟩, ⟨[(s.homeTier c, a + 1)], ?_⟩, moved.others, exts, alloc, valid, slices, cistern, keys,
    ports.trans (claimList_ports hclaim)⟩
  rw [← claimed.us]
  exact moved.entry

theorem CreatesHere.completes_notFree (m : CreatesHere d c account keyid cls cflags wbase wsize f s)
    (hs : (s.ctx c).state ≠ .free) :
    Completes (.ctxCreate d c account keyid cls cflags wbase wsize) s (fun t => Done d 0x05 0 s t ∧ Kept s t) := by
  refine ⟨_, m.exec, ?_⟩
  rw [if_pos hs]
  exact refused (State.fetchedOf_of_ready m.ready) 0x05

theorem CreatesHere.completes_emptyKey (m : CreatesHere d c account keyid cls cflags wbase wsize f s)
    (hs : (s.ctx c).state = .free) (hk : s.key keyid = none) :
    Completes (.ctxCreate d c account keyid cls cflags wbase wsize) s (fun t => Done d 0x02 0 s t ∧ Kept s t) := by
  refine ⟨_, m.exec, ?_⟩
  rw [if_neg (by simp [hs]), if_pos hk]
  exact refused (State.fetchedOf_of_ready m.ready) 0x02

theorem CreatesHere.completes_released (m : CreatesHere d c account keyid cls cflags wbase wsize f s)
    (hs : (s.ctx c).state = .free) (hk : s.key keyid ≠ none) (hr : Sparse.get (fun _ => none) s.meter.released c ≠ none) :
    Completes (.ctxCreate d c account keyid cls cflags wbase wsize) s (fun t => Done d 0x0D 0 s t ∧ Kept s t) := by
  refine ⟨_, m.exec, ?_⟩
  rw [if_neg (by simp [hs]), if_neg hk, if_pos hr]
  exact refused (State.fetchedOf_of_ready m.ready) 0x0D

theorem CreatesHere.completes_noSpace (m : CreatesHere d c account keyid cls cflags wbase wsize f s)
    (hs : (s.ctx c).state = .free) (hk : s.key keyid ≠ none) (hr : Sparse.get (fun _ => none) s.meter.released c = none)
    (hl : claimList (s.homeTier c) c (wsize * 128) s = none) :
    Completes (.ctxCreate d c account keyid cls cflags wbase wsize) s (fun t => Done d 0x06 0 s t ∧ Kept s t) := by
  refine ⟨_, m.exec, ?_⟩
  rw [if_neg (by simp [hs]), if_neg hk, if_neg (by simp [hr]), hl]
  exact refused (State.fetchedOf_of_ready m.ready) 0x06

end

/-! ### The queries (R258, R262) -/

section
variable {d : DescRef} {f : Fetched} {s : State}

theorem State.ref_of_ready {op : Nat} {l : List (Nat × Nat × Nat)} (h : s.ready d op l = some f) : f.ref = d := by
  simpa using List.find?_some (State.fetchedOf_of_ready h)

/-- A query completes OK once its words have gone out to host memory, and changes nothing else. -/
theorem complete_emit {result : Nat} {o : Output} (hf : s.fetchedOf d = some f) :
    let t := complete d 0 result (s.emit o)
    Done d 0 result s t ∧ t.out = o :: s.out ∧ t = { s with fetched := t.fetched, cplQ := t.cplQ, out := t.out } := by
  have eq := complete_of_fetched (s := s.emit o) (status := 0) hf result (by decide)
  dsimp only
  rw [eq]
  exact ⟨⟨rfl, _, rfl⟩, rfl, rfl⟩

theorem exec_ctxQuery (d : DescRef) (c haddr : Nat) (s : State) : exec (.ctxQuery d c haddr) s = execCtxQuery d c haddr s := rfl

theorem exec_extQuery (d : DescRef) (c index count haddr : Nat) (s : State) :
    exec (.extQuery d c index count haddr) s = execExtQuery d c index count haddr s := rfl

theorem completes_ctxQuery {c haddr : Nat} (h : s.ready d 0x0107 [(8, 4, c), (16, 8, haddr)] = some f) (hc : c < 2 ^ 18)
    (ha : haddr % 64 = 0) (h0 : haddr ≠ 0) :
    Completes (.ctxQuery d c haddr) s (fun t =>
      Done d 0 ((s.ctx c).ctl + (s.ctx c).extCount * 2 ^ 32) s t ∧
      t.out = .dmaWrite (s.ring d.ring).dmaPort haddr (dwords 40 (s.ctxBlock c)) :: s.out ∧
      t = { s with fetched := t.fetched, cplQ := t.cplQ, out := t.out }) := by
  refine completes_of_ready h (exec_ctxQuery d c haddr s) ?_
  have ok : (!ctxidOk c || decide (haddr % 64 ≠ 0)) = false := by simpa [ctxidOk, ha] using hc
  simp only [ok, Bool.false_eq_true, if_false, dmaOut, h0, State.ref_of_ready h]
  exact complete_emit (State.fetchedOf_of_ready h)

theorem completes_extQuery {c index count haddr : Nat}
    (h : s.ready d 0x0203 [(8, 4, c), (12, 4, index), (20, 4, count), (24, 8, haddr)] = some f) (hc : c < 2 ^ 18)
    (h₁ : 1 ≤ count) (h₂ : count ≤ 65536) (ha : haddr % 16 = 0) (hs : (s.ctx c).state ≠ .free)
    (hw : index + count ≤ (s.ctx c).wsize * 128) :
    Completes (.extQuery d c index count haddr) s (fun t => Done d 0 count s t ∧
      t.out = .dmaWrite (s.ring d.ring).dmaPort haddr
        ((upto count).flatMap (fun i => dwords 2 (s.ext c (index + i)).word)) :: s.out ∧
      t = { s with fetched := t.fetched, cplQ := t.cplQ, out := t.out }) := by
  refine completes_of_ready h (exec_extQuery d c index count haddr s) ?_
  have ok : (!countOk count || decide (haddr % 16 ≠ 0)) = false := by simp [countOk, h₁, h₂, ha]
  have legal : (s.ctx c).state ∈ [CtxState.building, .live, .draining, .frozen, .releasing] := by
    cases e : (s.ctx c).state <;> simp_all
  simp only [ok, Bool.false_eq_true, if_false]
  rw [inState_of_mem hc legal, if_neg (Nat.not_lt.2 hw), State.ref_of_ready h]
  exact complete_emit (State.fetchedOf_of_ready h)

end

/-- Settles O9: the refusals before a command's body, the checks of a creation in their order with its commit, and the queries
by the words they put out. -/
theorem contextCreation : Obligations.ContextCreation := by
  unfold Obligations.ContextCreation
  refine ⟨fun d c f s => ?refused,
    fun d c account keyid cls cflags wbase wsize f s h hc hk₁ hk₂ hcls hf hw hs₁ hs₂ hb hn => ?create,
    fun d c haddr f s h hc ha h0 => completes_ctxQuery h hc ha h0,
    fun d c index count haddr f s h hc h₁ h₂ ha hs hw => completes_extQuery h hc h₁ h₂ ha hs hw⟩
  case refused =>
    simp only [List.mem_cons, List.not_mem_nil, or_false]
    rintro x (rfl | rfl | rfl | rfl | rfl) h
    all_goals exact completes_refused_of_inState h rfl
  case create =>
    have m : CreatesHere d c account keyid cls cflags wbase wsize f s := ⟨h, hc, hk₁, hk₂, hcls, hf, hw, hs₁, hs₂, hb, hn⟩
    exact ⟨m.completes_notFree, m.completes_emptyKey, m.completes_released, m.completes_noSpace, m.completes⟩

end Sys2Proof.Machine

namespace Sys2Proof.Machine
open Sys2Proof.Safety

/-! ### The start of a migration (R89, R261, R332) -/

section
variable {d : DescRef} {c index dest lease : Nat} {f : Fetched} {s : State}

/-- The migration that EXT_MIGRATE asks for. -/
def newMigration (d : DescRef) (c index dest lease : Nat) (ph : MigPhase) (s : State) : Migration :=
  { ctx := c, index := index, src := (s.ext c index).pen, dest := dest, lease := lease, phase := ph, desc := d }

theorem exec_extMigrate (d : DescRef) (c index dest lease : Nat) (s : State) :
    exec (.extMigrate d c index dest lease) s = execExtMigrate d c index dest lease s := rfl

/-- The tier whose jets would run the migration of an extent. -/
def State.sourceTier (s : State) (c index : Nat) : Nat := s.migTier { ctx := c, src := (s.ext c index).pen }

theorem exec_extMigrate_waits
    (h : s.ready d 0x0202 [(8, 4, c), (12, 4, index), (16, 4, dest), (24, 4, lease)] = some f)
    (hv : (s.ext c index).valid = true) (hn : 32 ≤ s.copying (s.sourceTier c index)) :
    exec (.extMigrate d c index dest lease) s =
      .next { startDesc d s with migrations := s.migrations ++ [newMigration d c index dest lease .waiting s] } := by
  have waits : ((s.ext c index).valid && decide (32 ≤ s.copying (s.sourceTier c index))) = true := by simp [hv, hn]
  exact (exec_extMigrate d c index dest lease s).trans ((onReady_of_ready h _).trans (congrArg _ (if_pos waits)))

theorem exec_extMigrate_starts
    (h : s.ready d 0x0202 [(8, 4, c), (12, 4, index), (16, 4, dest), (24, 4, lease)] = some f)
    (hn : s.copying (s.sourceTier c index) < 32) :
    exec (.extMigrate d c index dest lease) s = .next (startMigration f.tier d c index dest lease s) := by
  have starts : ¬((s.ext c index).valid && decide (32 ≤ s.copying (s.sourceTier c index))) = true := by simp [hn]
  exact (exec_extMigrate d c index dest lease s).trans ((onReady_of_ready h _).trans (congrArg _ (if_neg starts)))

/-- The state in which a start step runs: a waiting migration of the descriptor has left the queue. -/
def unqueued (d : DescRef) (s : State) : State :=
  { s with migrations := s.migrations.filter (fun m => !(m.desc = d && m.phase = .waiting)) }

/-- A destination in this package starts with no page written. -/
def destCleared (dest : Nat) (s : State) : State :=
  if penPkg dest = s.pkg then clearValid (penTier dest) (penExt dest) s else s

/-- The start step of a migration for a context in a state that takes it: its checks in their order, then its change. -/
def startChecked (t : Nat) (d : DescRef) (c index dest lease : Nat) (s : State) : State :=
  if s.destOff dest then complete d 0x05 0 s
  else if (s.ctx c).wsize * 128 ≤ index || !(s.ext c index).valid || (s.ext c index).retired ||
    s.destBad (s.ctx c) dest 1 lease then complete d 0x02 0 s
  else if (s.ext c index).migrating || s.destTaken dest 1 then complete d 0x0D 0 s
  else if 255 ≤ (s.ctx c).migCount then complete d 0x06 0 s
  else if penPkg dest ≠ s.pkg && !(s.ctx c).remoteOk then complete d 0x08 0 s
  else if !s.returnsFit (ofBool (s.ext c index).remote) then complete d 0x0C 0 s
  else change t (some d) (.migStart c index dest lease) (destCleared dest (claimRun dest 1 s))

theorem startMigration_eq (t : Nat) (d : DescRef) (c index dest lease : Nat) (s : State) :
    startMigration t d c index dest lease s =
      if 2 ^ 27 ≤ dest || (unqueued d s).runOutside dest 1 lease then complete d 0x02 0 (unqueued d s)
      else inState d c [.live, .frozen] (startChecked t d c index dest lease) (unqueued d s) := rfl

theorem startMigration_retired (hc : c < 2 ^ 18) (hs : (s.ctx c).state = .live ∨ (s.ctx c).state = .frozen)
    (hoff : s.destOff dest = false) (hr : (s.ext c index).retired = true) (t : Nat) :
    startMigration t d c index dest lease s = complete d 0x02 0 (unqueued d s) := by
  have off : (unqueued d s).destOff dest = false := hoff
  have retired : ((unqueued d s).ext c index).retired = true := hr
  have legal : ((unqueued d s).ctx c).state = .live ∨ ((unqueued d s).ctx c).state = .frozen := hs
  rw [startMigration_eq, inState_of_mem hc (by simpa using legal)]
  simp [startChecked, off, retired]

/-- A RETIRED extent is not migrated (R332). -/
theorem completes_extMigrate_retired
    (h : s.ready d 0x0202 [(8, 4, c), (12, 4, index), (16, 4, dest), (24, 4, lease)] = some f) (hc : c < 2 ^ 18)
    (hs : (s.ctx c).state = .live ∨ (s.ctx c).state = .frozen) (hoff : s.destOff dest = false)
    (hr : (s.ext c index).retired = true) (hn : s.copying (s.migTier { ctx := c, src := (s.ext c index).pen }) < 32) :
    Completes (.extMigrate d c index dest lease) s (fun t => Done d 0x02 0 s t ∧ Kept s t) := by
  refine ⟨_, exec_extMigrate_starts h hn, ?_⟩
  rw [startMigration_retired hc hs hoff hr]
  have fetched : s.fetchedOf d = some f := State.fetchedOf_of_ready h
  obtain ⟨⟨left, queued⟩, kept⟩ := refused (s := unqueued d s) fetched 0x02
  obtain ⟨ctxs, exts, alloc, valid, slices, cistern, chans, tags, keys, poison⟩ := kept
  exact ⟨⟨left, queued⟩, ctxs, exts, alloc, valid, slices, cistern, chans, tags, keys, poison⟩

/-- With 32 copy phases on its source tier a migration waits (R274). -/
theorem completes_extMigrate_waits
    (h : s.ready d 0x0202 [(8, 4, c), (12, 4, index), (16, 4, dest), (24, 4, lease)] = some f)
    (hv : (s.ext c index).valid = true) (hn : 32 ≤ s.copying (s.migTier { ctx := c, src := (s.ext c index).pen })) :
    Completes (.extMigrate d c index dest lease) s (fun t => t.cplQ = s.cplQ ∧ Kept s t ∧
      ∃ m, t.migrations = s.migrations ++ [m] ∧ m.phase = .waiting ∧ m.desc = d) := by
  refine ⟨_, exec_extMigrate_waits h hv hn, ?_⟩
  exact ⟨rfl, ⟨rfl, rfl, rfl, rfl, rfl, rfl, rfl, rfl, rfl, rfl⟩, _, rfl, rfl, rfl⟩

theorem exec_migrationWaitsForCopySlot {t : Nat} {m : Migration}
    (hm : s.migrations.find? (fun m => m.phase = .waiting && s.migTier m = t) = some m) (hf : s.fetchedOf m.desc = some f)
    (hn : s.copying t < 32) (hb : s.ctxBusy m.ctx = false) (hup : s.sluiceUp f.tier = true)
    (hz : s.flt.freezes.contains m.ctx = false) :
    exec (.migrationWaitsForCopySlot t) s = .next (startMigration f.tier m.desc m.ctx m.index m.dest m.lease s) := by
  show execMigrationWaitsForCopySlot t s = _
  unfold execMigrationWaitsForCopySlot
  rw [hm]
  simp only [hf, hn, hb, hup, hz, decide_true, Bool.not_false, Bool.and_self, if_true]

/-- The commit of a migration's start, beside what `Books` names. -/
theorem commitChange_migStart_books (d : DescRef) (c index dest lease : Nat) (s : State) :
    ∃ p, Books { s with
      exts := (s.setExt c index { s.ext c index with migrating := true, dest := dest }).exts
      ctxs := (s.setCtx c { s.ctx c with migCount := (s.ctx c).migCount + 1 }).ctxs
      migrations := s.migrations.filter (fun y => y.desc ≠ d) ++ [newMigration d c index dest lease .copying s]
      pieces := p } (commitChange (some d) (.migStart c index dest lease) s) := ⟨_, wakeForWork_books _ _⟩

/-- EXT_MIGRATE of an extent of this package to a free and backed extent of this package, with no other migration. -/
structure MigratesHere (d : DescRef) (c index dest : Nat) (f : Fetched) (s : State) : Prop where
  ready : s.ready d 0x0202 [(8, 4, c), (12, 4, index), (16, 4, dest), (24, 4, 0)] = some f
  ctxid : c < 2 ^ 18
  destOk : dest < 2 ^ 27
  here : penPkg dest = s.pkg
  legal : (s.ctx c).state = .live ∨ (s.ctx c).state = .frozen
  mapped : (s.ext c index).valid = true
  still : (s.ext c index).migrating = false
  own : (s.ext c index).remote = false
  sound : (s.ext c index).retired = false
  inWindow : index < (s.ctx c).wsize * 128
  awake : (s.tier (penTier dest)).power < 2
  backed : s.penBacked dest (s.ctx c).integrity = true
  free : s.penTaken dest = false
  room : (s.ctx c).migCount < 255
  alone : s.migrations = []
  now : CommitsNow f.tier s

theorem unqueued_of_alone (h : s.migrations = []) : unqueued d s = s := by
  have same (l : List Migration) (hl : l = s.migrations) : { s with migrations := l } = s := by rw [hl]
  exact same _ (by rw [h, List.filter_nil])

/-- The start step of a migration claims and clears its destination, then makes its change. -/
theorem MigratesHere.exec (m : MigratesHere d c index dest f s) :
    exec (.extMigrate d c index dest 0) s = .next (change f.tier (some d) (.migStart c index dest 0)
      (clearValid (penTier dest) (penExt dest) (claimRun dest 1 s))) := by
  have inside : s.runOutside dest 1 0 = false := by
    simp [State.runOutside, upto, State.inRange_of_backed m.backed]
  have good : s.destBad (s.ctx c) dest 1 0 = false := by simp [State.destBad, m.here, upto, m.backed]
  have free : s.destTaken dest 1 = false := by simp [State.destTaken, m.here, upto, m.free]
  have awake := m.awake
  have on : s.destOff dest = false := destOff_of_power (by omega)
  have few : s.copying (s.sourceTier c index) < 32 := by simp [State.copying, m.alone]
  have fits : s.returnsFit (ofBool (s.ext c index).remote) = true := by simp [State.returnsFit, m.own, ofBool]
  have claimed : penPkg dest = (claimRun dest 1 s).pkg := by rw [(claimRun_books m.here).frame]; exact m.here
  refine (exec_extMigrate_starts m.ready few).trans (congrArg _ ?_)
  rw [startMigration_eq, unqueued_of_alone m.alone, inside, inState_of_mem m.ctxid (by simpa using m.legal),
    if_neg (by simpa using m.destOk)]
  simp [startChecked, on, good, free, fits, Nat.not_le.2 m.inWindow, m.mapped, m.sound, m.still, Nat.not_le.2 m.room,
    m.here, destCleared, ← claimed]

/-- What the start's change does at once to the tables. -/
theorem change_migStart_tables {n : Nat} (hn : CommitsNow n s) :
    let t := change n (some d) (.migStart c index dest lease) s
    t.exts = (s.setExt c index { s.ext c index with migrating := true, dest := dest }).exts ∧
      t.ctxs = (s.setCtx c { s.ctx c with migCount := (s.ctx c).migCount + 1 }).ctxs ∧
      t.migrations = s.migrations.filter (fun y => y.desc ≠ d) ++ [newMigration d c index dest lease .copying s] ∧
      t.alloc = s.alloc ∧ t.valid = s.valid ∧ t.cplQ = s.cplQ ∧ t.slices = s.slices ∧ t.cistern = s.cistern := by
  dsimp only
  rw [change_of_commitsNow hn]
  have logged := (logReplicas_books 1 (startDesc d s)).frame
  dsimp only [Change.writes]
  generalize logReplicas 1 (startDesc d s) = v at logged
  obtain ⟨p, ⟨started⟩⟩ := commitChange_migStart_books d c index dest lease v
  rw [started, logged]
  exact ⟨rfl, rfl, rfl, rfl, rfl, rfl, rfl, rfl⟩

theorem MigratesHere.completes (m : MigratesHere d c index dest f s) :
    Completes (.extMigrate d c index dest 0) s (fun t =>
      t.ext c index = { s.ext c index with migrating := true, dest := dest } ∧
      t.allocBit (penTier dest) (penExt dest) = true ∧ t.validLine (penTier dest) (penExt dest) = {} ∧
      (t.ctx c).migCount = (s.ctx c).migCount + 1 ∧ t.cplQ = s.cplQ ∧
      (∃ m, t.migrations = [m] ∧ m.ctx = c ∧ m.index = index ∧ m.src = (s.ext c index).pen ∧ m.dest = dest ∧ m.desc = d ∧
        m.phase = .copying) ∧ t.slices = s.slices ∧ t.cistern = s.cistern) := by
  refine ⟨_, m.exec, ?_⟩
  have claimed := claimRun_books (count := 1) m.here
  generalize claimRun dest 1 s = s₁ at claimed
  have cleared : Listed (penTier dest) (s₁.setValidLine (penTier dest) (penExt dest) {})
      (clearValid (penTier dest) (penExt dest) s₁) := unlistExtent_listed _ _ _
  generalize clearValid (penTier dest) (penExt dest) s₁ = u at cleared
  have now : CommitsNow f.tier u := by rw [cleared.frame, claimed.frame]; exact m.now
  have ext : u.ext c index = s.ext c index := by rw [cleared.frame, claimed.frame]; rfl
  have ctx : u.ctx c = s.ctx c := by rw [cleared.frame, claimed.frame]; rfl
  have valid : u.valid = (s₁.setValidLine (penTier dest) (penExt dest) {}).valid := cleared.valid
  obtain ⟨migrations, alloc, cplQ, slices, cistern⟩ : u.migrations = [] ∧
      u.alloc = Sparse.setRun (fun _ => false) s.alloc (tierExt (penTier dest) (penExt dest)) 1 (fun _ => true) ∧
      u.cplQ = s.cplQ ∧ u.slices = s.slices ∧ u.cistern = s.cistern := by
    rw [← m.alone, cleared.frame]
    dsimp only [State.setValidLine]
    rw [claimed.frame]
    exact ⟨rfl, rfl, rfl, rfl, rfl⟩
  obtain ⟨texts, tctxs, tmigrations, talloc, tvalid, tcplQ, tslices, tcistern⟩ :=
    change_migStart_tables (d := d) (c := c) (index := index) (dest := dest) (lease := 0) now
  generalize change f.tier _ _ u = t at texts tctxs tmigrations talloc tvalid tcplQ tslices tcistern
  refine ⟨?_, allocBit_of_claimed (k := 0) (talloc.trans alloc) Nat.one_pos, ?_, ?_, tcplQ.trans cplQ,
    ⟨newMigration d c index dest 0 .copying u, ?_, rfl, rfl, congrArg ExtEntry.pen ext, rfl, rfl, rfl⟩, tslices.trans slices,
    tcistern.trans cistern⟩
  · rw [State.ext, texts, ← ext]
    exact u.ext_setExt_same c index _
  · rw [State.validLine, tvalid, valid, State.setValidLine, Sparse.get_set_same]
  · rw [State.ctx, tctxs, ← ctx]
    exact congrArg Ctx.migCount (u.ctx_setCtx_same c _)
  · rw [tmigrations, migrations]
    rfl

end

/-! ### The steps of a running migration (R89) -/

section
variable {c index : Nat} {m : Migration} {s : State}

theorem migNow_of_unique (hu : ∀ x ∈ s.migrations, x.desc = m.desc → x = m) : s.migNow m = m := by
  unfold State.migNow
  cases h : s.migrations.find? (fun y => y.desc = m.desc) with
  | none => rfl
  | some y => exact hu y (List.mem_of_find?_eq_some h) (by simpa using List.find?_some h)

theorem mem_setMigration {n : Migration} (hm : m ∈ s.migrations) (hd : m.desc = n.desc) : n ∈ (setMigration n s).migrations :=
  List.mem_map.2 ⟨m, hm, if_pos hd⟩

theorem pages_zero {w : Nat} : (upto w).filter (fun p => (0 : BitVec w).getLsbD p) = [] :=
  List.filter_eq_nil_iff.2 (fun _ _ => by simp)

/-- A pass that leaves no page dirty goes to the switch. -/
theorem afterPass_of_clean (hd : m.dirty = 0) : afterPass m s = setMigration { m with phase := .switching } s := by
  have none : m.dirtyCount = 0 := by rw [Migration.dirtyCount, hd, pages_zero]; rfl
  simp [afterPass, none]

theorem exec_migrationCopyPassEnd {answer : List (Nat × Option Line)}
    (hm : s.migrations.find? (fun m => m.ctx = c && m.index = index && m.phase = .copying) = some m)
    (hr : s.migReachable m = true) (hre : s.reacting = false) (hp : (s.tier (s.migTier m)).power < 2)
    (hpkg : penPkg m.src = s.pkg) (h0 : m.passes = 0) (hv : (s.validLine (penTier m.src) (penExt m.src)).bits = 0)
    (hu : ∀ x ∈ s.migrations, x.desc = m.desc → x = m) :
    exec (.migrationCopyPassEnd c index answer) s = .next (afterPass { m with passes := 1 }
      { s with pieces := s.pieces.filter (fun p => p.desc ≠ m.desc) }) := by
  have pages : s.sourcePages m answer = [] := by rw [State.sourcePages, if_pos hpkg, hv, pages_zero]
  have same : State.migNow { s with pieces := s.pieces.filter (fun p => p.desc ≠ m.desc) } m = m := migNow_of_unique hu
  have copied : copyPages m [] answer s = s := rfl
  show execMigrationCopyPassEnd c index answer s = _
  unfold execMigrationCopyPassEnd
  rw [hm]
  simp only [hr, hre, Nat.not_le.2 hp, decide_false, Bool.not_true, Bool.or_false, Bool.false_eq_true, if_false, h0, if_true,
    pages, copied, same]
  rfl

theorem completes_migrationCopyPassEnd {answer : List (Nat × Option Line)}
    (hm : s.migrations.find? (fun m => m.ctx = c && m.index = index && m.phase = .copying) = some m)
    (hr : s.migReachable m = true) (hre : s.reacting = false) (hp : (s.tier (s.migTier m)).power < 2)
    (hpkg : penPkg m.src = s.pkg) (h0 : m.passes = 0) (hv : (s.validLine (penTier m.src) (penExt m.src)).bits = 0)
    (hd : m.dirty = 0) (hu : ∀ x ∈ s.migrations, x.desc = m.desc → x = m) :
    Completes (.migrationCopyPassEnd c index answer) s (fun t =>
      ({ m with passes := 1, phase := .switching } ∈ t.migrations) ∧ Kept s t) := by
  refine ⟨_, exec_migrationCopyPassEnd hm hr hre hp hpkg h0 hv hu, ?_⟩
  have clean : ({ m with passes := 1 } : Migration).dirty = 0 := hd
  rw [afterPass_of_clean clean]
  exact ⟨mem_setMigration (m := m) (List.mem_of_find?_eq_some hm) rfl, rfl, rfl, rfl, rfl, rfl, rfl, rfl, rfl, rfl, rfl⟩

/-! #### The switch -/

theorem retryHeld_of_none {p : Req → Bool} (h : ∀ r ∈ s.held, p r = false) : retryHeld p s = s := by
  have none : s.held.filter p = [] := List.filter_eq_nil_iff.2 (fun r hr => by simp [h r hr])
  have all : s.held.filter (fun r => !p r) = s.held := List.filter_eq_self.2 (fun r hr => by simp [h r hr])
  unfold retryHeld
  dsimp only
  rw [none, all]
  rfl

/-- The extent's entry takes the destination, and the context counts one migration less. -/
def entrySwitched (c index : Nat) (m : Migration) (s : State) : State :=
  let t := s.setExt c index { valid := true, pen := m.dest }
  logReplicas 1 (t.setCtx c { t.ctx c with migCount := (t.ctx c).migCount - 1 })

theorem entrySwitched_books (c index : Nat) (m : Migration) (s : State) :
    Books { s with
      exts := (s.setExt c index { valid := true, pen := m.dest }).exts
      ctxs := (s.setCtx c { s.ctx c with migCount := (s.ctx c).migCount - 1 }).ctxs } (entrySwitched c index m s) :=
  logReplicas_books 1 _

/-- The migration waits for what is under the source entry. -/
def switched (c index : Nat) (m : Migration) (s : State) : State :=
  setMigration { m with
    phase := .finishing, dirty := 0, txids := (s.under c).1, reqs := (s.under c).2, lease := (s.ext c index).lease }
    (entrySwitched c index m s)

theorem switched_books (c index : Nat) (m : Migration) (s : State) :
    Books { s with
      exts := (s.setExt c index { valid := true, pen := m.dest }).exts
      ctxs := (s.setCtx c { s.ctx c with migCount := (s.ctx c).migCount - 1 }).ctxs
      migrations := (switched c index m s).migrations } (switched c index m s) :=
  ⟨congrArg (fun (w : State) => { w with migrations := (switched c index m s).migrations })
    (entrySwitched_books c index m s).frame⟩

theorem switched_finishes {p : Migration → Bool} (hm : s.migrations.find? p = some m) :
    ∃ y ∈ (switched c index m s).migrations, y.desc = m.desc ∧ y.phase = .finishing := by
  have there : m ∈ (entrySwitched c index m s).migrations := by
    rw [(entrySwitched_books c index m s).frame]
    exact List.mem_of_find?_eq_some hm
  exact ⟨_, mem_setMigration there rfl, rfl, rfl⟩

theorem extKey_injective {x y i j : Nat} (hi : i < 2 ^ 20) (hj : j < 2 ^ 20) (h : extKey x i = extKey y j) :
    (x, i) = (y, j) :=
  Prod.ext (by rw [← extKey_div x hi, h, extKey_div y hj]) (by rw [← extKey_mod x hi, h, extKey_mod y hj])

/-- A switch with no page left to copy. -/
structure Switches (c index : Nat) (m : Migration) (s : State) : Prop where
  found : s.migrations.find? (fun m => m.ctx = c && m.index = index && m.phase = .switching) = some m
  reachable : s.migReachable m = true
  runs : s.reacting = false
  acks : s.acks (s.migTier m) = true
  noCommits : s.commits = []
  clean : m.dirty = 0
  landed : ∀ o ∈ s.remote, o.task ≠ some m.desc
  noOther : ∀ g ∈ s.fetched, g.ref ≠ m.desc → changes g.bytes ≠ some c
  here : penPkg m.dest = s.pkg
  noneHeld : ∀ r ∈ s.held, r.why ≠ .migration
  unique : ∀ x ∈ s.migrations, x.desc = m.desc → x = m

theorem Switches.exec (w : Switches c index m s) (answer : List (Nat × Option Line)) :
    exec (.migrationSwitch c index answer) s = .next (switched c index m s) := by
  have idle : s.fetched.any (fun f => f.ref ≠ m.desc && changes f.bytes = some c && s.executing f) = false := by
    rw [List.any_eq_false]
    intro g hg
    by_cases hd : g.ref = m.desc
    · simp [hd]
    · simp [w.noOther g hg hd]
  have landed : s.remote.any (fun o => o.task = some m.desc) = false := by simpa using w.landed
  have pages : (upto 512).filter (fun p => m.dirty.getLsbD p) = [] := by rw [w.clean, pages_zero]
  have copied : copyPages m [] answer s = s := rfl
  have noneHeld : ∀ r ∈ (switched c index m s).held, (decide (r.why = .migration) && decide (r.ctx = c)) = false := by
    rw [(switched_books c index m s).frame]
    intro r hr
    simp [w.noneHeld r hr]
  have here : decide (penPkg m.dest ≠ s.pkg) = false := by simp [w.here]
  show execMigrationSwitch c index answer s = _
  unfold execMigrationSwitch
  rw [w.found]
  simp only [idle, w.reachable, w.runs, w.acks, w.noCommits, landed, pages, copied, migNow_of_unique w.unique, here, ne_eq,
    not_true_eq_false, decide_false, Bool.not_true, Bool.or_false, Bool.false_eq_true, if_false]
  refine Eq.trans ?_ (congrArg Host.Outcome.next (retryHeld_of_none noneHeld))
  rfl

theorem Switches.completes (w : Switches c index m s) (hi : index < 2 ^ 20) (answer : List (Nat × Option Line)) :
    Completes (.migrationSwitch c index answer) s (fun t => t.ext c index = { valid := true, pen := m.dest } ∧
      (∀ x i, i < 2 ^ 20 → (x, i) ≠ (c, index) → t.ext x i = s.ext x i) ∧
      (t.ctx c).migCount = (s.ctx c).migCount - 1 ∧ (∃ y ∈ t.migrations, y.desc = m.desc ∧ y.phase = .finishing) ∧
      t.slices = s.slices ∧ t.cistern = s.cistern ∧ t.valid = s.valid ∧ t.alloc = s.alloc) := by
  refine ⟨_, w.exec answer, ?_⟩
  have frame := (switched_books c index m s).frame
  have finishing := switched_finishes (c := c) (index := index) w.found
  generalize switched c index m s = t at frame finishing
  obtain ⟨exts, ctxs, kept⟩ : t.exts = (s.setExt c index { valid := true, pen := m.dest }).exts ∧
      t.ctxs = (s.setCtx c { s.ctx c with migCount := (s.ctx c).migCount - 1 }).ctxs ∧
      t.slices = s.slices ∧ t.cistern = s.cistern ∧ t.valid = s.valid ∧ t.alloc = s.alloc := by
    rw [frame]; exact ⟨rfl, rfl, rfl, rfl, rfl, rfl⟩
  refine ⟨?_, fun x i hx hne => ?_, ?_, finishing, kept⟩
  · rw [State.ext, exts]
    exact s.ext_setExt_same c index _
  · have key : extKey x i ≠ extKey c index := fun h => hne (extKey_injective hx hi h)
    rw [State.ext, exts, State.setExt, Sparse.get_set_ne _ _ _ key, State.ext]
  · rw [State.ctx, ctxs]
    exact congrArg Ctx.migCount (s.ctx_setCtx_same c _)

/-! #### The finish -/

/-- An extent of this package is cleared and free again. -/
def extentFreed (pen : Nat) (s : State) : State :=
  freeExtent (penTier pen) (penExt pen) (clearValid (penTier pen) (penExt pen) s)

/-- RESULT of a migration holds the pages copied and the passes run below its write hold (Table CMD-4). -/
theorem migResult_mod (m : Migration) (hold : Nat) :
    migResult m hold % 2 ^ 40 = m.copied % 2 ^ 32 + m.passes % 256 * 2 ^ 32 := by
  unfold migResult
  omega

/-- The source is given back and the migration is gone. -/
def sourceFreed (m : Migration) (s : State) : State :=
  { (extentFreed m.src s).drawn with migrations := (extentFreed m.src s).migrations.filter (fun y => y.desc ≠ m.desc) }

theorem exec_migrationFinish
    (hm : s.migrations.find? (fun m => m.ctx = c && m.index = index && m.phase = .finishing) = some m)
    (hl : s.left m.txids m.reqs = true) (hr : ∀ o ∈ s.remote, o.task ≠ some m.desc) (hp : penPkg m.src = s.pkg) :
    ∃ hold, exec (.migrationFinish c index) s = .next (complete m.desc 0 (migResult m hold) (sourceFreed m s)) := by
  have landed : s.remote.any (fun o => o.task = some m.desc) = false := by simpa using hr
  refine ⟨(Config.freeWord (extentFreed m.src s).fresh).toNat, ?_⟩
  show execMigrationFinish c index s = _
  unfold execMigrationFinish
  rw [hm]
  simp only [hl, landed, hp, Bool.not_true, Bool.or_false, Bool.false_eq_true, if_false, if_true]
  rfl

theorem completes_migrationFinish {f : Fetched}
    (hm : s.migrations.find? (fun m => m.ctx = c && m.index = index && m.phase = .finishing) = some m)
    (hl : s.left m.txids m.reqs = true) (hr : ∀ o ∈ s.remote, o.task ≠ some m.desc) (hf : s.fetchedOf m.desc = some f)
    (hp : penPkg m.src = s.pkg)
    (hb : Sparse.get (fun _ => 0) s.badExt (tierExt (penTier m.src) (penExt m.src)) = 0) :
    Completes (.migrationFinish c index) s (fun t => (∃ r, Done m.desc 0 r s t ∧
        r % 2 ^ 40 = m.copied % 2 ^ 32 + m.passes % 256 * 2 ^ 32) ∧
      t.validLine (penTier m.src) (penExt m.src) = {} ∧ t.allocBit (penTier m.src) (penExt m.src) = false ∧
      t.migrations = s.migrations.filter (fun y => y.desc ≠ m.desc) ∧ t.exts = s.exts ∧ t.ctxs = s.ctxs ∧
      t.cistern = s.cistern ∧ t.slices = s.slices) := by
  obtain ⟨hold, eq⟩ := exec_migrationFinish hm hl hr hp
  refine ⟨_, eq, ?_⟩
  have cleared : Cleared (penTier m.src) (penExt m.src) {} s (extentFreed m.src s) := freeExtent_clearValid hb
  unfold sourceFreed
  generalize extentFreed m.src s = u at cleared
  obtain ⟨fetched, cplQ, migrations, exts, ctxs, cistern, slices⟩ : u.fetched = s.fetched ∧ u.cplQ = s.cplQ ∧
      u.migrations = s.migrations ∧ u.exts = s.exts ∧ u.ctxs = s.ctxs ∧ u.cistern = s.cistern ∧ u.slices = s.slices := by
    rw [cleared.frame]; exact ⟨rfl, rfl, rfl, rfl, rfl, rfl, rfl⟩
  have here : u.fetchedOf m.desc = some f := by rw [State.fetchedOf, fetched]; exact hf
  rw [complete_of_fetched (s := { u.drawn with migrations := u.migrations.filter (fun y => y.desc ≠ m.desc) }) (status := 0)
    here _ (by decide)]
  refine ⟨⟨migResult m hold, ⟨?_, descFlag f.bytes 1, ?_⟩, migResult_mod m hold⟩, ?_, cleared.alloc, ?_, exts, ctxs, cistern,
    slices⟩
  · exact congrArg (List.filter _) fetched
  · exact congrArg (· ++ _) cplQ
  · exact (cleared.get _ _).trans (if_pos rfl)
  · exact congrArg (List.filter _) migrations

/-! #### The early end -/

/-- `t` differs from `s` at most by an extent given back, the valid map and poison lists, and messages to the collector. -/
structure GivesBack (s t : State) : Prop where
  frame : t = { s with
    alloc := t.alloc, valid := t.valid, badExt := t.badExt, poison := t.poison, ovfTime := t.ovfTime, regs := t.regs
    flt := t.flt, mgmt := t.mgmt, ports := t.ports, out := t.out, pool := t.pool }

theorem GivesBack.trans {s t u : State} (h : GivesBack s t) (k : GivesBack t u) : GivesBack s u := by
  have e := k.frame
  rw [h.frame] at e
  exact ⟨e⟩

theorem GivesBack.ofReports {s t : State} (h : Reports s t) : GivesBack s t := by
  have frame := h.frame
  generalize t = u at frame ⊢
  rw [frame]
  exact ⟨rfl⟩

theorem GivesBack.ofListed {t : Nat} {s u : State} (h : Listed t s u) : GivesBack s u := by
  have frame := h.frame
  generalize u = v at frame ⊢
  rw [frame]
  exact ⟨rfl⟩

theorem setValidLine_givesBack (t e : Nat) (v : ValidLine) (s : State) : GivesBack s (s.setValidLine t e v) := ⟨rfl⟩

theorem clearValid_givesBack (t e : Nat) (s : State) : GivesBack s (clearValid t e s) :=
  (setValidLine_givesBack t e {} s).trans (.ofListed (unlistExtent_listed _ _ _))

theorem withhold_givesBack (t e : Nat) (s : State) : GivesBack s (withhold t e s) := by
  unfold withhold
  dsimp only
  split
  · exact GivesBack.trans ⟨rfl⟩ (.ofReports (raiseOpen_reports _ _ _))
  · exact ⟨rfl⟩

theorem freeExtent_givesBack (t e : Nat) (s : State) : GivesBack s (freeExtent t e s) := by
  unfold freeExtent
  split
  · exact ⟨rfl⟩
  · exact withhold_givesBack t e s

/-- The tables of a migration that ends early: its extent's entry as before its start, and the migration gone. -/
def unstarted (m : Migration) (s : State) : State :=
  (s.setExt m.ctx m.index { s.ext m.ctx m.index with migrating := false, dest := 0 }).setCtx m.ctx
    { s.ctx m.ctx with migCount := (s.ctx m.ctx).migCount - 1 }

/-- The migration and its pieces are gone. -/
def withdrawn (m : Migration) (s : State) : State :=
  { s with migrations := s.migrations.filter (fun y => y.desc ≠ m.desc), pieces := s.pieces.filter (fun p => p.desc ≠ m.desc) }

/-- The Contained event of a migration that ends early. -/
def noteEnded (m : Migration) (s : State) : State := raiseOpen (tierSource (s.migTier m) 41) 2 s

theorem endMigration_here {status : Nat} (hp : penPkg m.dest = s.pkg) :
    endMigration m status s = complete m.desc status (migResult m 0) (retryHeld (fun r => r.why = .migration && r.ctx = m.ctx)
      (noteEnded m (withdrawn m (extentFreed m.dest (unstarted m s))))) := by
  have pick : (if penPkg m.dest = (unstarted m s).pkg then extentFreed m.dest (unstarted m s)
      else queueReturns [(m.lease, m.dest)] (unstarted m s)) = extentFreed m.dest (unstarted m s) := if_pos hp
  rw [← pick]
  rfl

/-- An early end gives the destination back and leaves no trace of the migration in the tables. -/
theorem endMigration_eq {status : Nat} (hp : penPkg m.dest = s.pkg) (hh : ∀ r ∈ s.held, r.why ≠ .migration) :
    ∃ u, GivesBack (withdrawn m (unstarted m s)) u ∧ endMigration m status s = complete m.desc status (migResult m 0) u := by
  have returned : GivesBack (unstarted m s) (extentFreed m.dest (unstarted m s)) :=
    (clearValid_givesBack _ _ _).trans (freeExtent_givesBack _ _ _)
  have gone : GivesBack (withdrawn m (unstarted m s)) (withdrawn m (extentFreed m.dest (unstarted m s))) := by
    have frame := returned.frame
    generalize extentFreed m.dest (unstarted m s) = u at frame
    rw [frame]
    exact ⟨rfl⟩
  have back : GivesBack (withdrawn m (unstarted m s)) (noteEnded m (withdrawn m (extentFreed m.dest (unstarted m s)))) :=
    gone.trans (.ofReports (raiseOpen_reports _ _ _))
  refine ⟨_, back, ?_⟩
  rw [endMigration_here hp, retryHeld_of_none]
  rw [back.frame]
  intro r hr
  simp [hh r hr]

theorem completes_migrationAbort {f : Fetched} (hm : (s.openMigrations c).find? (fun m => m.index = index) = some m)
    (hc : m.ctx = c) (hp : penPkg m.dest = s.pkg) (hr : s.reaches (s.migTier m) (penTier m.dest) = false)
    (hf : s.fetchedOf m.desc = some f) (hh : ∀ r ∈ s.held, r.why ≠ .migration) :
    Completes (.migrationAbort c index) s (fun t => (∃ r, Done m.desc 0x0A r s t) ∧
      (m.index = index → t.ext c index = { s.ext c index with migrating := false, dest := 0 }) ∧
      t.migrations = s.migrations.filter (fun y => y.desc ≠ m.desc) ∧ t.cistern = s.cistern ∧ t.slices = s.slices) := by
  have eq : exec (.migrationAbort c index) s = .next (endMigration m 0x0A s) := by
    show execMigrationAbort c index s = _
    unfold execMigrationAbort
    rw [hm]
    simp only [hp, hr, if_true, Bool.not_false]
  obtain ⟨u, back, ended⟩ := endMigration_eq (status := 0x0A) hp hh
  refine ⟨_, eq, ?_⟩
  obtain ⟨fetched, cplQ, exts, migrations, cistern, slices⟩ : u.fetched = s.fetched ∧ u.cplQ = s.cplQ ∧
      u.exts = (unstarted m s).exts ∧ u.migrations = s.migrations.filter (fun y => y.desc ≠ m.desc) ∧
      u.cistern = s.cistern ∧ u.slices = s.slices := by
    rw [back.frame]; exact ⟨rfl, rfl, rfl, rfl, rfl, rfl⟩
  have here : u.fetchedOf m.desc = some f := by rw [State.fetchedOf, fetched]; exact hf
  rw [ended, complete_of_fetched here _ (by decide)]
  refine ⟨⟨migResult m 0, ?_, descFlag f.bytes 1, ?_⟩, fun hi => ?_, migrations, cistern, slices⟩
  · exact congrArg (List.filter _) fetched
  · exact congrArg (· ++ _) cplQ
  · subst hc hi
    exact (congrArg (fun l => Sparse.get _ l _) exts).trans (Sparse.get_set_same _ _ _ _)

end

/-- Settles O13: the start's checks in their order with its commit, then each later step by what it does to the tables when no
page is left to copy. -/
theorem migrationPhases : Obligations.MigrationPhases := by
  unfold Obligations.MigrationPhases
  refine ⟨?start, fun d c index dest lease f s h hc hs ho hr hn => completes_extMigrate_retired h hc hs ho hr hn,
    fun d c index dest lease f s h hv hn => completes_extMigrate_waits h hv hn,
    fun t m f s hm hf hn hb hup hz => exec_migrationWaitsForCopySlot hm hf hn hb hup hz,
    fun c index answer m s hm hr hre hp hpkg h0 hv hd hu => completes_migrationCopyPassEnd hm hr hre hp hpkg h0 hv hd hu,
    ?switch, fun c index m f s hm hl hr hf hp hb => completes_migrationFinish hm hl hr hf hp hb,
    fun c index m f s hm hc hp hr hf hh => completes_migrationAbort hm hc hp hr hf hh⟩
  case start =>
    intro d c index dest f s h hc hd hp hs hv hmig hrem hret hw hpow hb ht hroom hal hn
    exact MigratesHere.completes ⟨h, hc, hd, hp, hs, hv, hmig, hrem, hret, hw, hpow, hb, ht, hroom, hal, hn⟩
  case switch =>
    intro c index answer m s hm hi hr hre ha hcom hd hrem ho hp hh hu
    exact Switches.completes ⟨hm, hr, hre, ha, hcom, hd, hrem, ho, hp, hh, hu⟩ hi answer

end Sys2Proof.Machine

/-! Leases of remote extents (R92, R292-R295): what a frame sent and a message to the collector leave of the pool, and the commands
of the manager, the owner and the standby. -/

namespace Sys2Proof.Machine
open Sys2Proof.Safety

/-! ### The pool beside the frames sent (R309, R310) -/

/-- The pool differs at most in the frames sent and the number of the next. -/
def FramesOnly (s t : State) : Prop := t.pool = { s.pool with frames := t.pool.frames, nextFseq := t.pool.nextFseq }

theorem FramesOnly.ofPool {s t : State} (h : t.pool = s.pool) : FramesOnly s t := by rw [FramesOnly, h]

theorem FramesOnly.refl (s : State) : FramesOnly s s := .ofPool rfl

theorem FramesOnly.trans {s t u : State} (h : FramesOnly s t) (k : FramesOnly t u) : FramesOnly s u := by
  have e : u.pool = { t.pool with frames := u.pool.frames, nextFseq := u.pool.nextFseq } := k
  rw [h] at e
  exact e

theorem FramesOnly.ite {s t u : State} {c : Prop} [Decidable c] (h : FramesOnly s t) (k : FramesOnly s u) :
    FramesOnly s (if c then t else u) := by split <;> assumption

theorem FramesOnly.opt {s t : State} (c : Prop) [Decidable c] (h : FramesOnly s t) : FramesOnly s (if c then t else s) :=
  h.ite (.refl s)

theorem FramesOnly.rest {s t : State} (h : FramesOnly s t) :
    t.pool.mgrOps = s.pool.mgrOps ∧ t.pool.directory = s.pool.directory ∧ t.pool.granted = s.pool.granted ∧
      t.pool.returns = s.pool.returns ∧ t.pool.ops = s.pool.ops ∧ t.pool.standbyActive = s.pool.standbyActive := by
  have e : t.pool = { s.pool with frames := t.pool.frames, nextFseq := t.pool.nextFseq } := h
  rw [e]
  exact ⟨rfl, rfl, rfl, rfl, rfl, rfl⟩

/-- `t` differs from `s` by frames sent. -/
structure Sends (s t : State) : Prop where
  frame : t = { s with pool := t.pool, regs := t.regs, out := t.out }
  pool : FramesOnly s t

theorem Sends.refl (s : State) : Sends s s := ⟨rfl, .refl s⟩

theorem Sends.trans {s t u : State} (h : Sends s t) (k : Sends t u) : Sends s u := by
  refine ⟨?_, h.pool.trans k.pool⟩
  have e := k.frame
  rw [h.frame] at e
  exact e

theorem Sends.forEach {α : Type} (l : List α) (f : α → State → State) (h : ∀ a t, Sends t (f a t)) (s : State) :
    Sends s (forEach l f s) :=
  forEach_keeps (Sends s) l f (fun a _ ht => ht.trans (h a _)) s (Sends.refl s)

theorem Sends.kept {s t : State} (h : Sends s t) : Kept s t := by
  rw [h.frame]; exact ⟨rfl, rfl, rfl, rfl, rfl, rfl, rfl, rfl, rfl, rfl⟩

theorem rillSend_sends (dst ftype : Nat) (payload : List Nat) (s : State) : Sends s (rillSend dst ftype payload s) := by
  unfold rillSend rillSendFor
  dsimp only
  split <;> exact ⟨rfl, rfl⟩

/-- A unicast frame is kept until it is acknowledged. -/
theorem frames_rillSend {dst ftype : Nat} (payload : List Nat) (s : State) (hd : dst ≠ 0xFF) (hf : ftype ≠ 0x7F) :
    ∃ x, (rillSend dst ftype payload s).pool.frames = s.pool.frames ++ [x] ∧ x.dst = dst ∧ x.ftype = ftype ∧
      x.payload = payload := by
  have keeps : ¬(decide (dst = 0xFF) || decide (ftype = 0x7F)) = true := by simp [hd, hf]
  unfold rillSend rillSendFor
  dsimp only
  rw [if_neg keeps]
  split <;> exact ⟨_, rfl, rfl, rfl, rfl⟩

/-! ### The pool beside a message to the collector (R341-R349) -/

theorem placeEvent_pool (p l : Nat) (r : EventRec) (s : State) : (placeEvent p l r s).pool = s.pool := by
  unfold placeEvent
  dsimp only
  split
  · rfl
  · split <;> rfl

theorem notifyHosts_pool (r : FRec) (s : State) : (notifyHosts r s).pool = s.pool := by
  refine forEach_field State.pool _ _ (fun p t => ?_) s
  split
  · split
    · exact placeEvent_pool _ _ _ _
    · rfl
  · rfl

theorem capture_pool (base : Nat) (r : FRec) (n : Nat) (s : State) : (capture base r n s).pool = s.pool := by
  unfold capture
  split
  · rfl
  · simp only [State.setRegBit_frame]
    exact forEach_field State.pool _ _ (fun _ _ => by simp only [State.setReg_frame]) s

theorem captureNew_pool (r : FRec) (s : State) : (captureNew r s).pool = s.pool := by
  unfold captureNew
  split
  · exact capture_pool _ _ _ _
  · rfl

theorem mergeInto_pool (n cls : Nat) (s : State) : (mergeInto n cls s).pool = s.pool := by
  unfold mergeInto
  dsimp only
  split
  · split <;> rfl
  · rfl

theorem enqueue_pool (r : FRec) (s : State) : (enqueue r s).1.pool = s.pool := by
  unfold enqueue
  dsimp only
  repeat' split
  all_goals rfl

theorem recordQueued_pool (n : Nat) (s : State) : (recordQueued n s).pool = s.pool := by
  unfold recordQueued
  split <;> rfl

theorem startReaction_pool (r : FRec) (s : State) : (startReaction r s).pool = s.pool := by
  unfold startReaction
  split
  · rfl
  · split <;> rfl

theorem routeRecord_framesOnly (r : FRec) (s : State) : FramesOnly s (routeRecord r s) := by
  have hosts : FramesOnly s (tellHosts r s) := .opt _ (.ofPool (notifyHosts_pool r s))
  have freeze (t : State) : FramesOnly t (askFreeze r t) := .opt _ (.ofPool rfl)
  have manager (t : State) : FramesOnly t (tellManager r t) := .opt _ (rillSend_sends _ _ _ _).pool
  have msix (t : State) : FramesOnly t (askMsix r t) := .opt _ (.ofPool rfl)
  exact ((hosts.trans (freeze _)).trans (manager _)).trans (msix _)

theorem noteSource_pool (src cls : Nat) (s : State) : (noteSource src cls s).pool = s.pool := by
  simp only [noteSource, State.put_frame, State.putFlag_frame]

theorem clearLost_pool (src : Nat) (s : State) : (clearLost src s).pool = s.pool := rfl

theorem acceptOne_framesOnly (src kind cls level addr detail : Nat) (s : State) :
    FramesOnly s (acceptOne src kind cls level addr detail s).1 := by
  have noted : FramesOnly s (noteSource src cls s) := .ofPool (noteSource_pool src cls s)
  unfold acceptOne
  refine noted.trans ?_
  generalize noteSource src cls s = t
  dsimp only
  split
  · exact .ofPool (mergeInto_pool _ _ _)
  · have queued (r : FRec) : FramesOnly t (recordQueued r.recnum (enqueue r (captureNew r (clearLost src t))).1) :=
      .ofPool ((recordQueued_pool _ _).trans ((enqueue_pool _ _).trans ((captureNew_pool _ _).trans (clearLost_pool src t))))
    exact ((queued _).trans (routeRecord_framesOnly _ _)).trans (.ofPool (startReaction_pool _ _))

theorem acceptDropping_framesOnly (src kind cls level addr detail : Nat) (s : State) :
    FramesOnly s (acceptDropping src kind cls level addr detail s) := by
  have first := acceptOne_framesOnly src kind cls level addr detail s
  unfold acceptDropping
  split
  · next h => rw [h] at first; exact first
  · next h =>
    rw [h] at first
    exact first.ite (first.trans (acceptOne_framesOnly _ _ _ _ _ _ _))

theorem acceptRaised_framesOnly (src kind raised level addr detail : Nat) (s : State) :
    FramesOnly s (acceptRaised src kind raised level addr detail s) := by
  have first (cls : Nat) (t : State) := acceptDropping_framesOnly src kind cls level addr detail t
  have tallied (t : State) : FramesOnly t (tallyCorrected src t) := .ofPool rfl
  have checked (t : State) : FramesOnly t (checkCorrected src level addr detail t) :=
    .opt _ (acceptDropping_framesOnly _ _ _ _ _ _ _)
  exact ((((first _ _).trans (tallied _)).trans (checked _))).ite (first _ _)

theorem raise_framesOnly (src kind level addr detail : Nat) (s : State) : FramesOnly s (raise src kind level addr detail s) := by
  unfold raise
  split
  · exact .refl s
  · split
    · exact FramesOnly.opt _ (.ofPool (capture_pool _ _ _ _))
    · exact acceptRaised_framesOnly _ _ _ _ _ _ _

theorem raiseOpen_framesOnly (src kind : Nat) (s : State) : FramesOnly s (raiseOpen src kind s) := raise_framesOnly _ _ _ _ _ _

/-! ### The manager (R292, R293) -/

section
variable {s : State}

theorem mgrNum_lt (s : State) : s.mgrNum < 16 := Nat.mod_lt _ (by decide)

theorem lt_of_mem_poolMembers {p : Nat} (h : p ∈ s.poolMembers) : p < 16 := by
  simpa [upto] using (List.mem_filter.1 h).1

/-- A change of the pool alone. -/
theorem kept_poolSet (p : Pool) : Kept s (s.poolSet p) := ⟨rfl, rfl, rfl, rfl, rfl, rfl, rfl, rfl, rfl, rfl⟩

theorem kept_trans {t u : State} (h : Kept s t) (k : Kept t u) : Kept s u :=
  ⟨k.ctxs.trans h.ctxs, k.exts.trans h.exts, k.alloc.trans h.alloc, k.valid.trans h.valid, k.slices.trans h.slices,
    k.cistern.trans h.cistern, k.chans.trans h.chans, k.tags.trans h.tags, k.keys.trans h.keys, k.poison.trans h.poison⟩

/-- The manager has given a lease request a number of its own and waits for the owner's answer (step 2 of R292). -/
def leaseNumbered (src tag owner : Nat) (s : State) : State :=
  s.poolSet { s.pool with
    nextLease := s.leaseNumber + 1, mgrOps := s.pool.mgrOps ++ [.asking s.leaseNumber src tag owner s.us] }

theorem managerGrant_asks {src tag owner otier count : Nat} (hm : s.managing = true) (hne : owner ≠ src)
    (hmem : owner ∈ s.poolMembers) (hroom : s.pool.directory.length + s.pool.mgrOps.length < 16384) (hpkg : owner ≠ s.pkg)
    (hcur : (s.member owner).current = true) :
    managerGrant src tag owner otier count s =
      rillSend owner 0x10 [1, s.leaseNumber, otier, count, src] (leaseNumbered src tag owner s) := by
  have few (p : MgrOp → Bool) : ¬16384 ≤ s.pool.directory.length + (s.pool.mgrOps.filter p).length :=
    Nat.not_le.2 (lt_of_le_of_lt (Nat.add_le_add_left (List.length_filter_le _ _) _) hroom)
  have known : ¬(decide (owner = src) || !s.poolMembers.contains owner) = true := by simp [hne, hmem]
  have heard : ¬(decide (owner ≠ s.pkg) && !(s.member owner).current) = true := by simp [hcur]
  refine (if_neg (by simp [hm])).trans ((if_neg known).trans ((if_neg (few _)).trans ((if_neg heard).trans ?_)))
  exact if_neg hpkg

theorem completes_leaseRequestFrame {src tag owner otier count : Nat} (hs : s.mgmt.services = true) (hm : s.managing = true)
    (hne : owner ≠ src) (hmem : owner ∈ s.poolMembers) (hroom : s.pool.directory.length + s.pool.mgrOps.length < 16384)
    (hpkg : owner ≠ s.pkg) (hcur : (s.member owner).current = true) :
    Completes (.leaseRequestFrame src tag owner otier count) s (fun t =>
      t.pool.mgrOps = s.pool.mgrOps ++ [.asking s.leaseNumber src tag owner s.us] ∧
      (∃ x, t.pool.frames = s.pool.frames ++ [x] ∧ x.dst = owner ∧ x.ftype = 0x10 ∧
        x.payload = [1, s.leaseNumber, otier, count, src]) ∧
      t.pool.directory = s.pool.directory ∧ Kept s t) := by
  have run : exec (.leaseRequestFrame src tag owner otier count) s =
      .next (rillSend owner 0x10 [1, s.leaseNumber, otier, count, src] (leaseNumbered src tag owner s)) :=
    congrArg Host.Outcome.next ((if_pos hs).trans (managerGrant_asks hm hne hmem hroom hpkg hcur))
  have unicast : owner ≠ 0xFF := by have := lt_of_mem_poolMembers hmem; omega
  refine ⟨_, run, ?_⟩
  obtain ⟨x, frames, named⟩ := frames_rillSend [1, s.leaseNumber, otier, count, src] (leaseNumbered src tag owner s) unicast
    (ftype := 0x10) (by decide)
  have sends := rillSend_sends owner 0x10 [1, s.leaseNumber, otier, count, src] (leaseNumbered src tag owner s)
  generalize rillSend owner 0x10 _ _ = t at frames sends
  obtain ⟨mgrOps, directory, -⟩ := sends.pool.rest
  exact ⟨mgrOps, ⟨x, frames, named⟩, directory, kept_trans (kept_poolSet _) sends.kept⟩

end

section
variable {s : State}

/-! ### The owner (R292, R293, R294) -/

theorem allocBit_of_setRun {t : State} {u e count k : Nat}
    (ht : t.alloc = Sparse.setRun (fun _ => false) s.alloc (tierExt u e) count (fun _ => true)) (hk : k < count) :
    t.allocBit u (e + k) = true := by
  have key : tierExt u (e + k) = tierExt u e + k := (Nat.add_assoc _ _ _).symm
  rw [State.allocBit, ht, Sparse.get_setRun, key, if_pos (by omega)]

/-- The run that an owner claims for a lease, entered in its table (step 3 of R292). -/
def leaseClaimed (lease otier a count borrower : Nat) (s : State) : State :=
  { s with
    alloc := Sparse.setRun (fun _ => false) s.alloc (tierExt otier a) count (fun _ => true)
    pool := { s.pool with granted := s.pool.granted ++
      [{ num := lease, owner := s.pkg, tier := otier, first := a, count := count, borrower := borrower }] } }

theorem claimLease_of_free {lease otier count borrower a : Nat} (ht : otier < s.nTiers) (h8 : otier < 8)
    (hg : s.pool.granted.length < 4096) (hp : (s.tier otier).power ≠ 3) (hf : s.freeRun otier count = some a) :
    claimLease lease otier count borrower s =
      (leaseClaimed lease otier a count borrower s, 0, s.pkg * 2 ^ 23 + otier * 2 ^ 20 + a) := by
  have named : otier ≠ 0xFF := by omega
  have there : ¬(decide (otier ≠ 0xFF) && decide (s.nTiers ≤ otier)) = true := by simp [ht]
  have found : (([otier].filter (fun t => (s.tier t).power ≠ 3)).findSome? (fun t => (s.freeRun t count).map (fun a => (t, a)))) =
      some (otier, a) := by simp [hp, hf]
  unfold claimLease
  rw [if_neg there, if_neg (Nat.not_le.2 hg)]
  dsimp only
  rw [if_neg named, found]
  dsimp only
  rw [setAlloc_run]
  rfl

theorem completes_leaseClaimAtOwner {src lease otier count borrower a : Nat} (hs : s.mgmt.services = true) (hr : s.role ≠ 0)
    (ht : otier < s.nTiers) (h8 : otier < 8) (hg : s.pool.granted.length < 4096) (hp : (s.tier otier).power ≠ 3)
    (hf : s.freeRun otier count = some a) (hsrc : src < 16) :
    Completes (.leaseClaimAtOwner src lease otier count borrower) s (fun t =>
      (∀ i, i < count → t.allocBit otier (a + i) = true) ∧
      t.pool.granted = s.pool.granted ++
        [{ num := lease, owner := s.pkg, tier := otier, first := a, count := count, borrower := borrower }] ∧
      (∃ x ∈ t.pool.frames, x.dst = src ∧ x.ftype = 0x11 ∧
        x.payload = [1, lease, 0, s.pkg * 2 ^ 23 + otier * 2 ^ 20 + a, count]) ∧
      t.exts = s.exts ∧ t.ctxs = s.ctxs ∧ t.cistern = s.cistern) := by
  have serves : (s.mgmt.services && decide (s.role ≠ 0)) = true := by simp [hs, hr]
  have run : exec (.leaseClaimAtOwner src lease otier count borrower) s = .next (rillSend src 0x11
      [1, lease, 0, s.pkg * 2 ^ 23 + otier * 2 ^ 20 + a, count] (leaseClaimed lease otier a count borrower s)) := by
    show execLeaseClaimAtOwner src lease otier count borrower s = _
    unfold execLeaseClaimAtOwner
    rw [if_pos serves, claimLease_of_free ht h8 hg hp hf]
  refine ⟨_, run, ?_⟩
  obtain ⟨x, frames, named⟩ := frames_rillSend [1, lease, 0, s.pkg * 2 ^ 23 + otier * 2 ^ 20 + a, count]
    (leaseClaimed lease otier a count borrower s) (dst := src) (ftype := 0x11) (by omega) (by decide)
  have sends := rillSend_sends src 0x11 [1, lease, 0, s.pkg * 2 ^ 23 + otier * 2 ^ 20 + a, count]
    (leaseClaimed lease otier a count borrower s)
  generalize rillSend src 0x11 _ _ = t at frames sends
  obtain ⟨-, -, granted, -⟩ := sends.pool.rest
  obtain ⟨ctxs, exts, alloc, -, -, cistern, -⟩ := sends.kept
  exact ⟨fun i hi => allocBit_of_setRun (s := s) alloc hi, granted, ⟨x, by simp [frames], named⟩, exts, ctxs, cistern⟩

theorem wakeForWork_frame (t : Nat) (s : State) : wakeForWork t s = { s with wakeReq := (wakeForWork t s).wakeReq } := by
  unfold wakeForWork
  split <;> rfl

/-- An extent comes back to its owner: its valid line is to be cleared, and its lease is shorter (R293). -/
def takenBack (l : Lease) (lease pen : Nat) (s : State) : State :=
  wakeForWork l.tier { s with
    clears := s.clears ++ [{ tier := l.tier, ext := penExt pen }]
    pool := { s.pool with granted := shrinkLease lease pen s.pool.granted } }

theorem ownerReturn_of_granted {lease pen : Nat} {l : Lease} (hl : s.pool.granted.find? (fun l => l.num = lease) = some l)
    (ht : penTier pen = l.tier) (h₁ : l.first ≤ penExt pen) (h₂ : penExt pen < l.first + l.count) (hr : pen ∉ l.returned) :
    ownerReturn lease pen s = takenBack l lease pen s := by
  have covers : (decide (penTier pen = l.tier) && decide (l.first ≤ penExt pen) && decide (penExt pen < l.first + l.count) &&
      !l.returned.contains pen) = true := by simp [ht, h₁, h₂, hr]
  unfold ownerReturn
  rw [hl]
  exact if_pos covers

theorem completes_extentReturnFrame {src lease pen : Nat} {l : Lease} (hs : s.mgmt.services = true) (hsrc : src ≠ s.pkg)
    (hr : s.role ≠ 3) (hl : s.pool.granted.find? (fun l => l.num = lease) = some l) (ht : penTier pen = l.tier)
    (h₁ : l.first ≤ penExt pen) (h₂ : penExt pen < l.first + l.count) (hn : pen ∉ l.returned) :
    Completes (.extentReturnFrame src lease pen) s (fun t =>
      (∃ j, t.clears = s.clears ++ [j] ∧ j.tier = l.tier ∧ j.ext = penExt pen) ∧
      t.pool.granted = shrinkLease lease pen s.pool.granted ∧ Kept s t) := by
  have heard : ¬(!s.mgmt.services || decide (src = s.pkg)) = true := by simp [hs, hsrc]
  have run : exec (.extentReturnFrame src lease pen) s = .next (takenBack l lease pen s) := by
    show execExtentReturnFrame src lease pen s = _
    unfold execExtentReturnFrame
    rw [if_neg heard, if_neg hr, ownerReturn_of_granted hl ht h₁ h₂ hn]
  refine ⟨_, run, ?_⟩
  rw [takenBack, wakeForWork_frame]
  exact ⟨⟨_, rfl, rfl, rfl⟩, rfl, rfl, rfl, rfl, rfl, rfl, rfl, rfl, rfl, rfl, rfl⟩

theorem completes_coldOwnerRejoin {l : LeaseInfo} (hr : s.role ≠ 0) :
    Completes (.coldOwnerRejoin [l]) s (fun t =>
      (∀ i, i < l.count → t.allocBit l.tier (l.first + i) = true) ∧
      (∃ g ∈ t.pool.granted, g.num = l.num ∧ g.lost = true ∧ g.owner = s.pkg ∧ g.count = l.count) ∧ t.exts = s.exts ∧ t.ctxs = s.ctxs ∧ t.cistern = s.cistern) := by
  have run : exec (.coldOwnerRejoin [l]) s = .next (takeLost (leaseOf l) s) := if_neg hr
  refine ⟨_, run, ?_⟩
  unfold takeLost
  rw [setAlloc_run]
  exact ⟨fun i hi => allocBit_of_setRun (s := s) rfl hi,
    ⟨_, List.mem_append_right _ (List.mem_singleton_self _), rfl, rfl, rfl, rfl⟩, rfl, rfl, rfl⟩

/-! ### The borrower's returns (R92) -/

theorem completes_leaseReturnHandover {lease pen : Nat} {rest : List (Nat × Nat)} (hq : s.pool.returns = (lease, pen) :: rest)
    (hup : s.managerUp = true) (hr : s.role ≠ 3) :
    Completes .leaseReturnHandover s (fun t => t.pool.returns = rest ∧
      (∃ x, t.pool.frames = s.pool.frames ++ [x] ∧ x.ftype = 0x13 ∧ x.payload = [lease, pen] ∧ x.dst = s.mgrNum) ∧
      Kept s t) := by
  have run : exec .leaseReturnHandover s =
      .next (rillSend s.mgrNum 0x13 [lease, pen] (s.poolSet { s.pool with returns := rest })) := by
    show execLeaseReturnHandover s = _
    unfold execLeaseReturnHandover
    rw [hq]
    simp only [hup, hr, Bool.not_true, Bool.false_eq_true, if_false]
  have unicast : s.mgrNum ≠ 0xFF := by have := mgrNum_lt s; omega
  refine ⟨_, run, ?_⟩
  obtain ⟨x, frames, dst, ftype, payload⟩ := frames_rillSend [lease, pen] (s.poolSet { s.pool with returns := rest }) unicast
    (ftype := 0x13) (by decide)
  have sends := rillSend_sends s.mgrNum 0x13 [lease, pen] (s.poolSet { s.pool with returns := rest })
  generalize rillSend s.mgrNum 0x13 _ _ = t at frames sends
  obtain ⟨-, -, -, returns, -⟩ := sends.pool.rest
  exact ⟨returns, ⟨x, frames, ftype, payload, dst⟩, kept_trans (kept_poolSet _) sends.kept⟩

/-! ### The standby (R295) -/

theorem exec_mirrorFrame {src : Nat} (hr : s.role = 2) (hs : s.mgmt.services = true) (hm : src = s.mgrNum) (c : List Nat) :
    exec (.mirrorFrame src c) s = .next (applyChange c s) := by
  have taken : (decide (s.role = 2) && s.mgmt.services && decide (src = s.mgrNum)) = true := by simp [hr, hs, hm]
  exact if_pos taken

theorem tryHandover_of_none (h : ∀ o ∈ s.pool.ops, o.opcode ≠ 0x0904) : tryHandover s = s := by
  have none : s.pool.ops.find? (fun o => o.opcode = 0x0904) = none := by simpa [List.find?_eq_none] using h
  unfold tryHandover
  rw [none]

/-- The one mirror frame under way is done with: nothing waits for it. -/
theorem mirrored_of_single {n at_ : Nat} (h : s.pool.mgrOps = [.mirroring n at_ []]) (ho : ∀ o ∈ s.pool.ops, o.opcode ≠ 0x0904) :
    mirrored n s = s.poolSet { s.pool with mgrOps := [] } := by
  unfold mirrored
  rw [h]
  simp only [List.find?_cons, decide_true, forEach_nil, List.filter_cons, Bool.not_true, Bool.false_eq_true, if_false,
    List.filter_nil]
  exact tryHandover_of_none (s := s.poolSet { s.pool with mgrOps := [] }) ho

/-- The manager goes on without its standby. -/
def standbyDropped (s : State) : State := raiseOpen 0x00D 1 (s.poolSet { s.pool with standbyActive := false })

theorem completes_standbyAckTimeout {n at_ : Nat} (h : s.pool.mgrOps = [.mirroring n at_ []]) (hlate : at_ + 1000 ≤ s.us)
    (ho : ∀ o ∈ s.pool.ops, o.opcode ≠ 0x0904) :
    Completes (.standbyAckTimeout n) s (fun t => t.pool.standbyActive = false ∧ t.pool.mgrOps = [] ∧
      t.pool.directory = s.pool.directory ∧ Kept s t) := by
  have run : exec (.standbyAckTimeout n) s = .next (mirrored n (standbyDropped s)) := by
    show execStandbyAckTimeout n s = _
    unfold execStandbyAckTimeout standbyLost
    rw [h]
    simp [hlate, standbyDropped]
  refine ⟨_, run, ?_⟩
  have told : Reports _ (standbyDropped s) := raiseOpen_reports _ _ _
  have frames : FramesOnly _ (standbyDropped s) := raiseOpen_framesOnly _ _ _
  generalize standbyDropped s = t at told frames
  obtain ⟨mgrOps, directory, -, -, ops, active⟩ := frames.rest
  have kept : Kept s t := by rw [told.frame]; exact ⟨rfl, rfl, rfl, rfl, rfl, rfl, rfl, rfl, rfl, rfl⟩
  rw [mirrored_of_single (mgrOps.trans h) (fun o hm => ho o (ops ▸ hm))]
  exact ⟨active, rfl, directory, kept_trans kept (kept_poolSet _)⟩

/-- A lease of the directory goes to the standby, with the extents that have left it. -/
def leaseCopied (p : Nat) (l : Lease) (s : State) : State :=
  forEach l.returned (fun pen t => rillSend p 0x12 [1, l.num, pen] t) (rillSend p 0x12 (0 :: l.fields) s)

theorem leaseCopied_sends (p : Nat) (l : Lease) (s : State) : Sends s (leaseCopied p l s) :=
  (rillSend_sends _ _ _ _).trans (Sends.forEach _ _ (fun _ _ => rillSend_sends _ _ _ _) _)

def membersCopied (p : Nat) (s : State) : State := forEach s.poolMembers (fun q t => rillSend p 0x12 [3, q, 1] t) s

theorem membersCopied_sends (p : Nat) (s : State) : Sends s (membersCopied p s) :=
  Sends.forEach _ _ (fun _ _ => rillSend_sends _ _ _ _) s

/-- The members and the whole directory go to the standby. -/
def copiedTo (p : Nat) (s : State) : State := forEach (membersCopied p s).pool.directory (leaseCopied p) (membersCopied p s)

theorem copiedTo_sends (p : Nat) (s : State) : Sends s (copiedTo p s) :=
  (membersCopied_sends p s).trans (Sends.forEach _ _ (leaseCopied_sends p) _)

theorem completes_standbyResync {p : Nat} (hp : s.pool.standby = some p) (hr : s.role = 3) (ha : s.pool.standbyActive = false)
    (hc : (s.member p).current = true) (hs : s.mgmt.services = true) :
    Completes .standbyResync s (fun t => t.pool.standbyActive = true ∧ t.pool.directory = s.pool.directory ∧ Kept s t) := by
  have ready : ¬(decide (s.role ≠ 3) || s.pool.standbyActive || !(s.member p).current || !s.mgmt.services) = true := by
    simp [hr, ha, hc, hs]
  have run : exec .standbyResync s = .next ((copiedTo p s).poolSet { (copiedTo p s).pool with standbyActive := true }) := by
    show execStandbyResync s = _
    unfold execStandbyResync
    rw [hp]
    exact if_neg ready
  refine ⟨_, run, ?_⟩
  have sends := copiedTo_sends p s
  obtain ⟨-, directory, -⟩ := sends.pool.rest
  exact ⟨rfl, directory, kept_trans sends.kept (kept_poolSet _)⟩

end

/-- Settles O32: a frame sent and a message to the collector leave the pool's tables, so each command shows its own change. -/
theorem leases : Obligations.Leases := by
  unfold Obligations.Leases
  refine ⟨fun src tag owner otier count s hs hm hne hmem hroom hpkg hcur => ?request,
    fun src lease otier count borrower a s hs hr ht h8 hg hp hf hsrc => ?claim,
    fun src lease pen l s hs hsrc hr hl ht h₁ h₂ hn => ?extentReturn, fun lease pen rest s hq hup hr => ?handover,
    fun l s hr _ => ?rejoin, fun src num owner tier first count borrower s hr hs hm => ?mirror,
    fun n at_ s h hlate ho => ?timeout, fun p s hp hr ha hc hs => ?resync⟩
  case request => exact completes_leaseRequestFrame hs hm hne hmem hroom hpkg hcur
  case claim => exact completes_leaseClaimAtOwner hs hr ht h8 hg hp hf hsrc
  case extentReturn => exact completes_extentReturnFrame hs hsrc hr hl ht h₁ h₂ hn
  case handover => exact completes_leaseReturnHandover hq hup hr
  case rejoin => exact completes_coldOwnerRejoin hr
  case mirror => exact ⟨⟨_, exec_mirrorFrame hr hs hm _, rfl, rfl⟩, ⟨_, exec_mirrorFrame hr hs hm _, rfl, rfl⟩⟩
  case timeout => exact completes_standbyAckTimeout h hlate ho
  case resync => exact completes_standbyResync hp hr ha hc hs

end Sys2Proof.Machine

/-! The commands over a register path (R117, R184, R336, R344, R351, R352, R354, R477): the set-up lock, the tag enable of a tier, the
clearing of counters and of a source's status, an injected message and RESUME. -/

namespace Sys2Proof.Machine
open Sys2Proof.Safety

/-! ### Writes of a command's register -/

/-- The register at `o` has one word, and no field of it obeys the set-up lock. -/
def unlockedWord (o : Nat) : Bool :=
  (regAt o).any (fun e => e.2 = o && !e.1.wide && e.1.rwl = 0) && o % 4 = 0

theorem unlockedWord_of_regAt {o : Nat} {r : RegRow} (h : regAt o = some (r, o)) (hw : r.wide = false) (hl : r.rwl = 0)
    (ha : o % 4 = 0) : unlockedWord o = true := by simp [unlockedWord, h, hw, hl, ha]

theorem unlockedWord_clrCnt : ∀ t < 8, ∀ j < 16, unlockedWord (bsnBase t j + 4) = true := by decide +kernel
theorem narrow_tagEn : ∀ t < 8, (regAt (scrBase t)).any (fun e => e.2 = scrBase t && !e.1.wide) = true := by decide +kernel

/-- A list of registers none of which can hold a package offset from `lo` up to `hi`. -/
def clearOf (lo hi : Nat) (l : List RegRow) : Bool :=
  l.all (fun r => r.tier || hi ≤ r.base || (0 < r.step && r.base + r.count * r.step ≤ lo))

theorem RegRow.locate_of_clear {r : RegRow} {lo hi o : Nat} (h : clearOf lo hi [r] = true) (h₁ : lo ≤ o) (h₂ : o < hi)
    (hp : o < 0x100000) : r.locate o = none := by
  simp only [clearOf, List.all_cons, List.all_nil, Bool.and_true, Bool.or_eq_true, Bool.and_eq_true, decide_eq_true_eq] at h
  have block : o / 0x100000 = 0 := by omega
  have rel : o % 0x100000 = o := by omega
  unfold RegRow.locate
  dsimp only
  rw [block, rel]
  rcases h with (tier | above) | ⟨pos, below⟩
  · simp [tier]
  · simp [show ¬r.base ≤ o by omega]
  · have far : ¬(o - r.base) / r.step < r.count := by rw [Nat.div_lt_iff_lt_mul pos]; omega
    simp [far]

theorem findReg_append_of_clear {lo hi o : Nat} {l : List RegRow} (l' : List RegRow) (h : clearOf lo hi l = true) (h₁ : lo ≤ o)
    (h₂ : o < hi) (hp : o < 0x100000) : findReg o (l ++ l') = findReg o l' := by
  induction l with
  | nil => rfl
  | cons r l ih =>
    simp only [clearOf, List.all_cons, Bool.and_eq_true] at h
    obtain ⟨hr, hl⟩ := h
    rw [List.cons_append, findReg, RegRow.locate_of_clear (by simpa [clearOf] using hr) h₁ h₂ hp]
    exact ih hl

theorem findReg_append_of_some {o : Nat} {l : List RegRow} {e : RegRow × Nat} (l' : List RegRow) (h : findReg o l = some e) :
    findReg o (l ++ l') = some e := by
  induction l with
  | nil => simp [findReg] at h
  | cons r l ih =>
    rw [List.cons_append, findReg]
    rw [findReg] at h
    split
    · next lo hlo => rwa [hlo] at h
    · next hlo => rw [hlo] at h; exact ih h

/-- The registers listed before the collector's. -/
def regRowsBeforeFLT : List RegRow :=
  regRowsHPT ++ regRowsBSN ++ regRowsDRC ++ regRowsECC ++ regRowsSCR ++ regRowsJET ++ regRowsGLB ++ regRowsMGT ++ regRowsOTP ++
    regRowsPWR ++ regRowsTHM

/-- An offset of the collector's block is looked up among its own registers. -/
theorem regAt_flt {o : Nat} {e : RegRow × Nat} (h₁ : fltBase ≤ o) (h₂ : o < fltBase + 0x10000) (h : findReg o regRowsFLT = some e) :
    regAt o = some e := by
  have clear : clearOf fltBase (fltBase + 0x10000) regRowsBeforeFLT = true := by decide +kernel
  have own : findReg o (regRowsBeforeFLT ++ regRowsFLT) = some e :=
    (findReg_append_of_clear _ clear h₁ h₂ (by simp only [fltBase] at h₂; omega)).trans h
  have behind (l' : List RegRow) {l : List RegRow} (hl : findReg o l = some e) : findReg o (l ++ l') = some e :=
    findReg_append_of_some l' hl
  exact behind regRowsDBG (behind regRowsRIL (behind regRowsAQD (behind regRowsWEIR (behind regRowsMTR (behind regRowsSLU own)))))

theorem findReg_srcStat : ∀ src < 512,
    findReg (fltBase + 0x2000 + 4 * src) regRowsFLT =
      some (⟨false, 0x40000, 1, 0x10000, 0x2000, 512, 0x4, false, 0x0, 0x0, 0x80000000, 0x0, 0x0, 0x0⟩, fltBase + 0x2000 + 4 * src) := by
  decide +kernel

theorem unlockedWord_srcStat {src : Nat} (h : src < 512) : unlockedWord (fltBase + 0x2000 + 4 * src) = true := by
  have row := regAt_flt (by omega) (by simp only [fltBase]; omega) (findReg_srcStat src h)
  exact unlockedWord_of_regAt row rfl rfl (by simp only [fltBase]; omega)

section
variable {path : Path} {o : Nat} {s : State}

theorem regAt_of_unlockedWord (h : unlockedWord o = true) :
    ∃ r : RegRow, regAt o = some (r, o) ∧ r.wide = false ∧ r.rwl = 0 ∧ o % 4 = 0 := by
  simp only [unlockedWord, Bool.and_eq_true, decide_eq_true_eq, Option.any_eq_true, Bool.not_eq_true'] at h
  obtain ⟨⟨⟨r, lo⟩, hr, ⟨rfl, hw⟩, hl⟩, ha⟩ := h
  exact ⟨r, hr, hw, hl, ha⟩

theorem RegRow.lockHit_of_rwl_zero {r : RegRow} (h : r.rwl = 0) (locked : Bool) (old v : DWord) :
    r.lockHit locked old v = false := by simp [RegRow.lockHit, h]

/-- A write over an open path of a one-word register stores the word. -/
theorem exec_registerWrite_narrow {r : RegRow} (v : Word) (h : Writable path o s) (hr : regAt o = some (r, o))
    (hw : r.wide = false) (ha : o % 4 = 0) :
    exec (.registerWrite path o v) s = .next (storeReg path r o (v.zeroExtend 64) s) := by
  rw [exec_registerWrite_of_open v h.opened ha, writeReg_of_narrow path v (State.regOf_of_writable h ▸ hr) h.up hw]

/-- A write of a package register without locked fields has its own effect alone. -/
theorem exec_registerWrite_pkg (v : Word) (h : Writable path o s) (hu : unlockedWord o = true) (hp : o < 0x100000)
    (hsel : ¬(o = 0x70028 ∨ o = 0x3000C ∨ o = 0x50018 ∨ o = 0x10118)) :
    ∃ new, exec (.registerWrite path o v) s = .next (pkgWritten path o (v.zeroExtend 64) (s.reg o) new s) := by
  obtain ⟨r, hr, hw, hl, ha⟩ := regAt_of_unlockedWord hu
  refine ⟨r.written s.locked (s.reg o) (v.zeroExtend 64), (exec_registerWrite_narrow v h hr hw ha).trans ?_⟩
  simp [storeReg, or_assoc, hsel, hp, RegRow.lockHit_of_rwl_zero hl]

theorem exec_registerWrite_tier (v : Word) (h : Writable path o s) (hu : unlockedWord o = true) (hp : 0x100000 ≤ o) :
    ∃ new, exec (.registerWrite path o v) s = .next (tierWritten o (v.zeroExtend 64) (s.reg o) new s) := by
  obtain ⟨r, hr, hw, hl, ha⟩ := regAt_of_unlockedWord hu
  have hsel : ¬(o = 0x70028 ∨ o = 0x3000C ∨ o = 0x50018 ∨ o = 0x10118) := by omega
  refine ⟨r.written s.locked (s.reg o) (v.zeroExtend 64), (exec_registerWrite_narrow v h hr hw ha).trans ?_⟩
  simp [storeReg, or_assoc, hsel, Nat.not_lt.2 hp, RegRow.lockHit_of_rwl_zero hl]

end

end Sys2Proof.Machine

namespace Sys2Proof.Safety
open Sys2Proof.Machine

/-! ### Registers that alone differ -/

section
variable {P : Nat → Prop} {s t : State}

theorem OnlyRegs.refl (P : Nat → Prop) (s : State) : OnlyRegs P s s := ⟨rfl, fun _ _ => rfl⟩

theorem OnlyRegs.mono {Q : Nat → Prop} (h : OnlyRegs P s t) (k : ∀ o, P o → Q o) : OnlyRegs Q s t :=
  ⟨h.1, fun o ho => h.2 o (fun hp => ho (k o hp))⟩

theorem OnlyRegs.setReg (h : OnlyRegs P s t) {o : Nat} (v : DWord) (ho : P o) : OnlyRegs P s (t.setReg o v) :=
  Sys2Proof.Machine.OnlyRegs.trans h (OnlyRegs.mono (onlyRegs_setReg t o v) (by rintro _ rfl; exact ho))

theorem OnlyRegs.put (h : OnlyRegs P s t) {b : Nat} {f : Fld} (v : Nat) (ho : P (b + f.off)) : OnlyRegs P s (t.put b f v) :=
  h.setReg _ ho

theorem OnlyRegs.putFlag (h : OnlyRegs P s t) {b : Nat} {f : Fld} (v : Bool) (ho : P (b + f.off)) :
    OnlyRegs P s (t.putFlag b f v) := h.put _ ho

end

end Sys2Proof.Safety

namespace Sys2Proof.Machine
open Sys2Proof.Safety

theorem State.flag_putFlag_same (s : State) (b : Nat) (v : Bool) {f : Fld} (h : f.lo = f.hi) (hw : f.hi < 64) :
    (s.putFlag b f v).flag b f = v :=
  (congrArg (fun n => decide (n ≠ 0)) (s.get_putFlag_same b v h hw)).trans (decide_ofBool_ne_zero v)

/-- A flag of another register keeps its value. -/
theorem State.flag_put_register (s : State) (b b' v : Nat) (f g : Fld) (h : b' + g.off ≠ b + f.off) :
    (s.put b f v).flag b' g = s.flag b' g := by
  simp only [State.flag, s.get_put_register b b' v f g h]

theorem State.get_of_regs {s t : State} (h : t.regs = s.regs) (b : Nat) (f : Fld) : t.get b f = s.get b f := by
  simp only [State.get, State.reg, h]

theorem State.flag_of_regs {s t : State} (h : t.regs = s.regs) (b : Nat) (f : Fld) : t.flag b f = s.flag b f := by
  simp only [State.flag, State.get_of_regs h]

/-! ### The set-up lock (R477) -/

section
variable {path : Path} {s : State}

theorem setupLocked_of_locked {v : DWord} (h : s.locked = true) : setupLocked v s = s := by simp [setupLocked, h]

theorem locked_putFlag_lock (s : State) : (s.putFlag glbBase GLB_SETUP_LOCK_LOCK true).locked = true :=
  s.flag_putFlag_same glbBase true rfl (by decide)

theorem endProg_shown (code : Nat) (s : State) :
    (endProg code s).flag otpBase OTP_PROG_RESULT_BUSY = false ∧ (endProg code s).get otpBase OTP_PROG_RESULT_CODE = code % 16 := by
  refine ⟨?_, State.get_put_same _ _ _ _ (by decide) (by decide)⟩
  exact (congrArg (fun n => decide (n ≠ 0)) (State.get_put_apart _ _ _ (by decide))).trans
    (s.flag_putFlag_same otpBase false rfl (by decide))

theorem endProg_onlyRegs (code : Nat) (s : State) : OnlyRegs (· = otpBase + 0x114) s (endProg code s) :=
  OnlyRegs.put (P := (· = otpBase + 0x114)) (OnlyRegs.putFlag (OnlyRegs.refl _ s) false rfl) code rfl

/-- Setting the lock over a path: the lock, and with it the end of a fuse request not yet written. -/
theorem exec_lock (h : Writable path 0x10 s) : exec (.lock path) s = .next (setupLocked 1 s) := by
  obtain ⟨new, e⟩ := exec_registerWrite_pkg (path := path) 1 h (by decide +kernel) (by decide) (by decide)
  exact e

theorem completes_lock (h : Writable path 0x10 s) : Completes (.lock path) s (fun t =>
    t.locked = true ∧ (s.locked = true → t = s) ∧
    (s.locked = false → s.flag otpBase OTP_PROG_RESULT_BUSY = true →
      t.flag otpBase OTP_PROG_RESULT_BUSY = false ∧ t.get otpBase OTP_PROG_RESULT_CODE = 7) ∧
    OnlyRegs (fun o => o = 0x10 ∨ o = otpBase + 0x114) s t) := by
  refine ⟨_, exec_lock h, ?_⟩
  cases hl : s.locked with
  | true =>
    rw [setupLocked_of_locked hl]
    exact ⟨hl, fun _ => rfl, fun h => absurd h (by simp), OnlyRegs.refl _ s⟩
  | false =>
    have busy : (s.putFlag glbBase GLB_SETUP_LOCK_LOCK true).flag otpBase OTP_PROG_RESULT_BUSY =
        s.flag otpBase OTP_PROG_RESULT_BUSY := s.flag_put_register _ _ _ _ _ (by decide)
    have lock : OnlyRegs (fun o => o = 0x10 ∨ o = otpBase + 0x114) s (s.putFlag glbBase GLB_SETUP_LOCK_LOCK true) :=
      (OnlyRegs.refl _ s).putFlag _ (.inl rfl)
    have run : setupLocked 1 s = if s.flag otpBase OTP_PROG_RESULT_BUSY then
        endProg 7 (s.putFlag glbBase GLB_SETUP_LOCK_LOCK true) else s.putFlag glbBase GLB_SETUP_LOCK_LOCK true := by
      simp [setupLocked, hl, busy]
    rw [run]
    cases hb : s.flag otpBase OTP_PROG_RESULT_BUSY with
    | true =>
      refine ⟨?_, fun h => absurd h (by simp), fun _ _ => endProg_shown 7 _,
        OnlyRegs.trans lock ((endProg_onlyRegs 7 _).mono (fun _ => .inr))⟩
      exact (State.flag_put_register _ _ _ _ _ _ (by decide)).trans
        ((State.flag_put_register _ _ _ _ _ _ (by decide)).trans (locked_putFlag_lock s))
    | false => exact ⟨locked_putFlag_lock s, fun h => absurd h (by simp), fun _ h => absurd h (by simp), lock⟩

/-! ### Tag checking of a tier (R184) -/

theorem exec_tagEnWrite {tier : Nat} (v : Word) (h : Writable path (scrBase tier) s) (ht : tier < 8) :
    exec (.tagEnWrite path tier v) s = .next (tagEnWritten tier (v.getLsbD 0) s) := by
  have row := narrow_tagEn tier ht
  simp only [Option.any_eq_true, Bool.and_eq_true, decide_eq_true_eq, Bool.not_eq_true'] at row
  obtain ⟨⟨r, lo⟩, hr, rfl, hw⟩ := row
  have place : scrBase tier = (tier + 1) * 0x100000 + 0x44000 := by unfold scrBase tierBase; omega
  refine (exec_registerWrite_narrow v h hr hw (by omega)).trans ?_
  have number : scrBase tier / 0x100000 - 1 = tier := by omega
  have inside : scrBase tier % 0x100000 = 0x44000 := by omega
  have tierBlock : ¬scrBase tier < 0x100000 := by omega
  have sel : ¬(scrBase tier = 0x70028 ∨ scrBase tier = 0x3000C ∨ scrBase tier = 0x50018 ∨ scrBase tier = 0x10118) := by omega
  simp [storeReg, tierWritten, or_assoc, sel, number, inside, tierBlock]

theorem completes_tagEnWrite_locked {tier : Nat} {v : Word} (h : Writable path (scrBase tier) s) (ht : tier < 8)
    (hne : s.flag (scrBase tier) SCR_TIER_CFG_TAG_EN ≠ v.getLsbD 0) (hl : s.locked = true) :
    Completes (.tagEnWrite path tier v) s (fun t => Reports s t) := by
  refine ⟨_, exec_tagEnWrite v h ht, ?_⟩
  simp only [tagEnWritten, hne, hl, if_true, if_false]
  exact noteLocked_reports s

/-- What giving spares back and reserving them changes: allocation bits, the repair record and registers. -/
def SparesOnly (s t : State) : Prop := t = { s with regs := t.regs, alloc := t.alloc, repair := t.repair }

theorem SparesOnly.trans {u t : State} (h : SparesOnly s t) (k : SparesOnly t u) : SparesOnly s u := by
  unfold SparesOnly at h k ⊢
  rw [h] at k
  exact k

theorem SparesOnly.setReg (s : State) (o : Nat) (v : DWord) : SparesOnly s (s.setReg o v) := rfl
theorem SparesOnly.setRep (s : State) (t : Nat) (r : Repair) : SparesOnly s (s.setRep t r) := rfl

theorem SparesOnly.setAlloc (s : State) (t e : Nat) (b : Bool) : SparesOnly s (s.setAlloc t e b) := rfl

theorem SparesOnly.setAllocs (l : List Nat) (t : Nat) (f : Nat → Nat) (b : Bool) (s : State) :
    SparesOnly s (forEach l (fun i u => u.setAlloc t (f i) b) s) :=
  forEach_keeps (SparesOnly s) l _ (fun i u h => h.trans (SparesOnly.setAlloc u t (f i) b)) s rfl

theorem reserveSpares_sparesOnly (t : Nat) (s : State) : SparesOnly s (reserveSpares t s) :=
  ((SparesOnly.setRep s t _).trans (SparesOnly.setAllocs _ _ _ _ _)).trans (SparesOnly.setReg _ _ _)

theorem forEach_setAlloc_reg (l : List Nat) (t : Nat) (f : Nat → Nat) (b : Bool) (s : State) (o : Nat) :
    (forEach l (fun i u => u.setAlloc t (f i) b) s).reg o = s.reg o :=
  forEach_field (fun u : State => u.reg o) l (fun i u => u.setAlloc t (f i) b) (fun _ _ => rfl) s

theorem reserveSpares_reg {t o : Nat} (h : o ≠ bsnBase t 0 + 0x278) (s : State) : (reserveSpares t s).reg o = s.reg o :=
  (State.reg_setReg_ne _ _ h).trans (forEach_setAlloc_reg _ _ _ _ _ o)

/-- The spares of a tier go, its tag enable is set, and the tag base and the new spares follow. -/
def tagEnSet (t : Nat) (on : Bool) (s : State) : State :=
  reserveSpares t (setTagBase t (s.putFlag (scrBase t) SCR_TIER_CFG_TAG_EN on))

theorem tagEnSet_flag (t : Nat) (on : Bool) (s : State) : (tagEnSet t on s).flag (scrBase t) SCR_TIER_CFG_TAG_EN = on := by
  have far : scrBase t + SCR_TIER_CFG_TAG_EN.off ≠ bsnBase t 0 + 0x278 := by
    simp only [scrBase, bsnBase, SCR_TIER_CFG_TAG_EN]; omega
  have base : scrBase t + SCR_TIER_CFG_TAG_EN.off ≠ scrBase t + SCR_TAG_BASE_TB_EXT.off := by
    simp [SCR_TIER_CFG_TAG_EN, SCR_TAG_BASE_TB_EXT]
  simp only [State.flag, State.get, tagEnSet, reserveSpares_reg far]
  exact (State.flag_put_register _ _ _ _ SCR_TAG_BASE_TB_EXT SCR_TIER_CFG_TAG_EN base).trans
    (s.flag_putFlag_same (scrBase t) on rfl (by decide))

theorem tagEnSet_sparesOnly (t : Nat) (on : Bool) (s : State) : SparesOnly s (tagEnSet t on s) :=
  ((SparesOnly.setReg s _ _).trans (SparesOnly.setReg _ _ _)).trans (reserveSpares_sparesOnly t _)

theorem tagEnWritten_of_unallocated {t : Nat} {on : Bool} {s : State} (hne : s.flag (scrBase t) SCR_TIER_CFG_TAG_EN ≠ on)
    (hl : s.locked = false) (ha : ∀ e ∈ s.alloc, e.1 / 2 ^ 20 ≠ t) :
    tagEnWritten t on s =
      tagEnSet t on (forEach (upto (s.spareCount t)) (fun i u => u.setAlloc t (s.extTop t - s.spareCount t + i) false) s) := by
  have none : s.alloc.any (fun e => e.1 / 2 ^ 20 = t && e.2 && !s.isSpare t (e.1 % 2 ^ 20)) = false := by
    rw [List.any_eq_false]
    intro e he
    rw [decide_eq_false (ha e he)]
    simp
  simp only [tagEnWritten, hne, hl, none, if_false, Bool.false_eq_true]
  rfl

theorem completes_tagEnWrite {tier : Nat} {v : Word} (h : Writable path (scrBase tier) s) (ht : tier < 8)
    (hl : s.locked = false) (ha : ∀ e ∈ s.alloc, e.1 / 2 ^ 20 ≠ tier) :
    Completes (.tagEnWrite path tier v) s (fun t => t.flag (scrBase tier) SCR_TIER_CFG_TAG_EN = v.getLsbD 0 ∧
      t.ctxs = s.ctxs ∧ t.exts = s.exts ∧ t.cistern = s.cistern) := by
  refine ⟨_, exec_tagEnWrite v h ht, ?_⟩
  by_cases same : s.flag (scrBase tier) SCR_TIER_CFG_TAG_EN = v.getLsbD 0
  · rw [show tagEnWritten tier (v.getLsbD 0) s = s by rw [tagEnWritten, if_pos same]]
    exact ⟨same, rfl, rfl, rfl⟩
  · rw [tagEnWritten_of_unallocated same hl ha]
    refine ⟨tagEnSet_flag _ _ _, ?_⟩
    have only := (SparesOnly.setAllocs (upto (s.spareCount tier)) tier (fun i => s.extTop tier - s.spareCount tier + i) false s).trans
      (tagEnSet_sparesOnly tier (v.getLsbD 0) _)
    rw [only]
    exact ⟨rfl, rfl, rfl⟩

/-! ### Counters and status cleared (R117, R344, R354) -/

/-- Writing 0 to the registers of a list leaves each of them 0, and no other differs. -/
theorem forEach_setReg_zero (l : List Nat) (at_ : Nat → Nat) (s : State) :
    (∀ i ∈ l, (forEach l (fun i u => u.setReg (at_ i) 0) s).reg (at_ i) = 0) ∧
    OnlyRegs (fun o => ∃ i ∈ l, o = at_ i) s (forEach l (fun i u => u.setReg (at_ i) 0) s) := by
  have once (o : Nat) (l : List Nat) : ∀ u : State, u.reg o = 0 → (forEach l (fun i u => u.setReg (at_ i) 0) u).reg o = 0 :=
    fun u hu => forEach_keeps (fun u : State => u.reg o = 0) l _ (fun i u hu => by
      rw [State.reg_setReg]
      split
      · rfl
      · exact hu) u hu
  induction l generalizing s with
  | nil => exact ⟨fun i h => absurd h (by simp), OnlyRegs.refl _ s⟩
  | cons a l ih =>
    obtain ⟨zero, only⟩ := ih (s.setReg (at_ a) 0)
    refine ⟨fun i hi => ?_, OnlyRegs.trans ((onlyRegs_setReg s (at_ a) 0).mono ?_) (only.mono ?_)⟩
    · rcases List.mem_cons.1 hi with rfl | hi
      · exact once _ l _ (State.reg_setReg_same s _ 0)
      · exact zero i hi
    · rintro _ rfl; exact ⟨a, by simp, rfl⟩
    · rintro _ ⟨i, hi, rfl⟩; exact ⟨i, by simp [hi], rfl⟩

theorem mem_upto {n i : Nat} : i ∈ upto n ↔ i < n := by simp [upto]

theorem clearSliceCounters_cleared (t j : Nat) (s : State) :
    (∀ i, i < 6 → (clearSliceCounters t j s).reg (bsnBase t j + 8 + 8 * i) = 0) ∧
    OnlyRegs (fun o => ∃ i, i < 6 ∧ o = bsnBase t j + 8 + 8 * i) s (clearSliceCounters t j s) := by
  obtain ⟨zero, only⟩ := forEach_setReg_zero (upto 6) (fun i => bsnBase t j + 8 + 8 * i) s
  exact ⟨fun i hi => zero i (mem_upto.2 hi), only.mono (fun _ ⟨i, hi, e⟩ => ⟨i, mem_upto.1 hi, e⟩)⟩

theorem exec_clrCnt {t j : Nat} (h : Writable path (bsnBase t j + 4) s) (ht : t < 8) (hj : j < 16) :
    exec (.clrCnt path t j) s = .next (clearSliceCounters t j s) := by
  have place : bsnBase t j + 4 = (t + 1) * 0x100000 + (0x30004 + j * 0x400) := by unfold bsnBase tierBase; omega
  obtain ⟨new, e⟩ := exec_registerWrite_tier (path := path) 1 h (unlockedWord_clrCnt t ht j hj) (by omega)
  refine Eq.trans e ?_
  have number : (bsnBase t j + 4) / 0x100000 - 1 = t := by omega
  have inside : (bsnBase t j + 4) % 0x100000 = 0x30004 + j * 0x400 := by omega
  have register : (0x30004 + j * 0x400) % 0x400 = 4 := by omega
  have slice : (0x30004 + j * 0x400 - 0x30000) / 0x400 = j := by omega
  have block : ¬0x30004 + j * 0x400 < 0xC000 ∧ ¬0x30004 + j * 0x400 < 0x30000 ∧ 0x30000 ≤ 0x30004 + j * 0x400 ∧
      0x30004 + j * 0x400 < 0x34000 := by omega
  obtain ⟨notPort, notChannel, below, above⟩ := block
  simp [tierWritten, number, inside, register, slice, notPort, notChannel, below, above]

/-- A write of FLT_CTL has the effect of Table FLT-15 alone. -/
theorem exec_fltCtl (v : Word) (h : Writable path (fltBase + 8) s) :
    exec (.registerWrite path (fltBase + 8) v) s = .next (fltCtlWritten path v s) := by
  obtain ⟨new, e⟩ := exec_registerWrite_pkg (path := path) v h (by decide +kernel) (by decide) (by decide)
  rw [e]
  simp [pkgWritten, fltBase]

theorem completes_fltClrCnt (h : Writable path (fltBase + 8) s) : Completes (.fltClrCnt path) s (fun u =>
    u.reg (fltBase + 0x40) = 0 ∧ u.reg (fltBase + 0x48) = 0 ∧ u.reg (fltBase + 0x50) = 0 ∧
    OnlyRegs (fun o => o = fltBase + 0x40 ∨ o = fltBase + 0x48 ∨ o = fltBase + 0x50) s u) := by
  have run : fltCtlWritten path 2 s = forEach [fltBase + 0x40, fltBase + 0x48, fltBase + 0x50] (fun i u => u.setReg i 0) s := rfl
  obtain ⟨zero, only⟩ := forEach_setReg_zero [fltBase + 0x40, fltBase + 0x48, fltBase + 0x50] id s
  refine ⟨_, (exec_fltCtl 2 h).trans (congrArg _ run), zero _ (by simp), zero _ (by simp), zero _ (by simp), only.mono ?_⟩
  rintro _ ⟨i, hi, rfl⟩
  simpa only [List.mem_cons, List.not_mem_nil, or_false] using hi

theorem exec_fltSrcStatClear {src : Nat} (h : Writable path (fltBase + 0x2000 + 4 * src) s) (hs : src < 512) :
    exec (.fltSrcStatClear path src) s = .next (srcStatWritten src 0x80000000 s) := by
  have place : fltBase + 0x2000 + 4 * src = 0x42000 + 4 * src := rfl
  obtain ⟨new, e⟩ := exec_registerWrite_pkg (path := path) 0x80000000 h (unlockedWord_srcStat hs) (by omega) (by omega)
  refine Eq.trans e ?_
  have others : ∀ o ∈ [0x10, 0x100, 0x8014, 0x10110, 0x20008, 0x20010, 0x40008, 0x40018], ¬0x42000 + 4 * src = o := by
    intro o ho
    fin_cases ho <;> omega
  simp only [List.forall_mem_cons] at others
  have range : 0x42000 + 4 * src < 0x42800 := by omega
  rw [place]
  simp [pkgWritten, others, range]

theorem completes_fltSrcStatClear {src : Nat} (h : Writable path (fltBase + 0x2000 + 4 * src) s) (hs : src < 512) :
    Completes (.fltSrcStatClear path src) s (fun u =>
      u.flag (srcCfg src) FLT_SRC_STAT_STICKY = false ∧ u.get (srcCfg src) FLT_SRC_STAT_MAXCLASS = 0 ∧
      u.get (srcCfg src) FLT_SRC_STAT_COUNT = 0 ∧ OnlyRegs (· = srcCfg src + 0x2000) s u) := by
  refine ⟨_, exec_fltSrcStatClear h hs, ?_, ?_, ?_, ?_⟩
  · show decide (State.get (State.put (State.put _ _ _ _) _ _ _) _ _ ≠ 0) = false
    rw [State.get_put_apart _ _ _ (by decide), State.get_put_apart _ _ _ (by decide), State.get_putFlag_same _ _ _ rfl (by decide)]
    rfl
  · exact (State.get_put_apart _ _ _ (by decide)).trans (State.get_put_same _ _ _ _ (by decide) (by decide))
  · exact State.get_put_same _ _ _ _ (by decide) (by decide)
  · have sticky := OnlyRegs.putFlag (P := (· = srcCfg src + 0x2000)) (OnlyRegs.refl _ s) (f := FLT_SRC_STAT_STICKY) false rfl
    exact (sticky.put 0 rfl).put 0 rfl

/-! ### An injected message (R336) -/

/-- The fields of FLT_INJECT that obey the set-up lock: all but GO. -/
def injectRow : RegRow := ⟨false, 0x40000, 1, 0x10000, 0x18, 1, 0x4, false, 0x0, 0x7E007FFF, 0x0, 0x0, 0x80000000, 0x0⟩

theorem regAt_inject : regAt (fltBase + 0x18) = some (injectRow, fltBase + 0x18) :=
  regAt_flt (by decide) (by decide) (by decide +kernel)

theorem setBit_true_mod (n i : Nat) : setBit n i true % 2 ^ i = n % 2 ^ i := by
  unfold setBit
  split
  · rfl
  · simp

theorem bitAt_setBit_true (n i : Nat) : bitAt (setBit n i true) i = true := by
  unfold setBit
  split
  · assumption
  · next h =>
    simp only [bitAt, decide_eq_true_eq, if_true] at h ⊢
    rw [Nat.add_div_right _ (by positivity)]
    omega

/-- What GO writes: FLT_INJECT as it stands, with GO set. -/
def goWord (s : State) : Word := BitVec.ofNat 32 (setBit (s.reg (fltBase + 0x18)).toNat 31 true)

theorem goWord_go (s : State) : (goWord s).getLsbD 31 = true := by
  have h := bitAt_setBit_true (s.reg (fltBase + 0x18)).toNat 31
  rw [bitAt, ← Nat.testBit_eq_decide_div_mod_eq] at h
  rw [goWord, BitVec.getLsbD_ofNat]
  exact h

/-- Below GO the word holds the fields as they stand. -/
theorem goWord_fields (s : State) :
    (goWord s).zeroExtend 64 &&& injectRow.rwl = s.reg (fltBase + 0x18) &&& injectRow.rwl := by
  apply BitVec.eq_of_getLsbD_eq
  intro i hi
  by_cases low : i < 31
  · have same : (setBit (s.reg (fltBase + 0x18)).toNat 31 true).testBit i = (s.reg (fltBase + 0x18)).toNat.testBit i := by
      have h := congrArg (Nat.testBit · i) (setBit_true_mod (s.reg (fltBase + 0x18)).toNat 31)
      simpa only [Nat.testBit_mod_two_pow, low, decide_true, Bool.true_and] using h
    have bit : ((goWord s).zeroExtend 64).getLsbD i = (s.reg (fltBase + 0x18)).getLsbD i := by
      rw [BitVec.getLsbD_setWidth, goWord, BitVec.getLsbD_ofNat, same, BitVec.testBit_toNat]
      simp [hi, show i < 32 by omega]
    rw [BitVec.getLsbD_and, BitVec.getLsbD_and, bit]
  · have above : injectRow.rwl.getLsbD i = false :=
      Nat.testBit_lt_two_pow (Nat.lt_of_lt_of_le (by decide) (Nat.pow_le_pow_right (by decide) (Nat.not_lt.1 low)))
    simp [above]

theorem injectRow_written (locked : Bool) (s : State) :
    injectRow.written locked (s.reg (fltBase + 0x18)) ((goWord s).zeroExtend 64) = s.reg (fltBase + 0x18) := by
  apply BitVec.eq_of_getLsbD_eq
  intro i _
  have masks : injectRow.rw = 0 ∧ injectRow.w1c = 0 ∧ injectRow.w1s = 0 := ⟨rfl, rfl, rfl⟩
  obtain ⟨hrw, hw1c, hw1s⟩ := masks
  have field := congrArg (BitVec.getLsbD · i) (goWord_fields s)
  simp only [BitVec.getLsbD_and] at field
  rw [RegRow.written_getLsbD, hrw, hw1c, hw1s]
  cases hm : injectRow.rwl.getLsbD i with
  | false => simp
  | true =>
    rw [hm, Bool.and_true, Bool.and_true] at field
    cases locked <;> simp [field]

/-- GO over a path writes FLT_INJECT back as it stands and sends its message. -/
theorem exec_go (h : Writable path (fltBase + 0x18) s) :
    exec (.go path) s = .next (injectGo (s.setReg (fltBase + 0x18) (s.reg (fltBase + 0x18)))) := by
  have run := exec_registerWrite_narrow (goWord s) h regAt_inject rfl (by decide)
  have noHit : injectRow.lockHit s.locked (s.reg (fltBase + 0x18)) ((goWord s).zeroExtend 64) = false := by
    simp [RegRow.lockHit, goWord_fields s]
  have go : ((goWord s).zeroExtend 64).truncate 32 = goWord s := by simp
  refine Eq.trans run ?_
  simp only [storeReg, injectRow_written, noHit, pkgWritten, go, goWord_go]
  rfl

theorem completes_go_locked (h : Writable path (fltBase + 0x18) s) (hl : s.locked = true) :
    Completes (.go path) s (fun u => Reports s u) := by
  have kept : (s.setReg (fltBase + 0x18) (s.reg (fltBase + 0x18))).locked = true :=
    (congrArg (fun n => decide (n ≠ 0)) (s.get_setReg_register _ _ _ _ (by decide))).trans hl
  refine ⟨_, exec_go h, ?_⟩
  rw [injectGo, if_pos kept]
  exact (Reports.setReg s _ (by decide)).trans (noteIgnored_reports _)

theorem exec_go_unlocked (h : Writable path (fltBase + 0x18) s) (hl : s.locked = false)
    (he : s.sourceExists (s.get fltBase FLT_INJECT_SOURCE) = true) :
    exec (.go path) s = .next (acceptRaised (s.get fltBase FLT_INJECT_SOURCE) (s.get fltBase FLT_INJECT_KIND)
      (s.get fltBase FLT_INJECT_CLASS) (s.get fltBase FLT_INJECT_LEVEL) 0 0
      (s.setReg (fltBase + 0x18) (s.reg (fltBase + 0x18)))) := by
  have same (o : Nat) : (s.setReg (fltBase + 0x18) (s.reg (fltBase + 0x18))).reg o = s.reg o := by
    rw [State.reg_setReg]
    split
    · next e => rw [e]
    · rfl
  have field (b : Nat) (f : Fld) : (s.setReg (fltBase + 0x18) (s.reg (fltBase + 0x18))).get b f = s.get b f := by
    simp only [State.get, same]
  have unlocked : (s.setReg (fltBase + 0x18) (s.reg (fltBase + 0x18))).locked = false := by
    simpa only [State.locked, State.flag, field] using hl
  have exists_ : (s.setReg (fltBase + 0x18) (s.reg (fltBase + 0x18))).sourceExists (s.get fltBase FLT_INJECT_SOURCE) = true := he
  rw [exec_go h]
  simp [injectGo, unlocked, field, exists_]

/-! ### RESUME (R351, R352) -/

/-- The registers after a RESUME that leaves the halt: HALTED clear, and the cause of the reset. -/
def resumeShown (s : State) : State := (s.putFlag fltBase FLT_STATUS_HALTED false).put glbBase GLB_RESET_CAUSE_CAUSE 5

theorem resumeShown_fields (s : State) :
    (resumeShown s).flag fltBase FLT_STATUS_HALTED = false ∧ (resumeShown s).get glbBase GLB_RESET_CAUSE_CAUSE = 5 :=
  ⟨(State.flag_put_register _ _ _ _ _ _ (by decide)).trans (s.flag_putFlag_same fltBase false rfl (by decide)),
    State.get_put_same _ _ _ _ (by decide) (by decide)⟩

theorem resumeShown_frame (s : State) : resumeShown s = { s with regs := (resumeShown s).regs } :=
  (OnlyRegs.put (P := fun _ => True) (OnlyRegs.putFlag (OnlyRegs.refl _ s) false trivial) 5 trivial).1

theorem fltCtlWritten_resume (hh : s.flag fltBase FLT_STATUS_HALTED = true) :
    fltCtlWritten .mctp 1 s =
      setSysReady false { s with regs := (resumeShown s).regs, flt := { s.flt with stopped := true } } := by
  have run : fltCtlWritten .mctp 1 s =
      setSysReady false { resumeShown s with flt := { (resumeShown s).flt with stopped := true } } := by
    simp [fltCtlWritten, hh, resumeShown]
  rw [run, resumeShown_frame]

theorem completes_resume_mctp (h : Writable .mctp (fltBase + 8) s) (hh : s.flag fltBase FLT_STATUS_HALTED = true)
    (hr : s.pkgMode.sysReady = true) :
    Completes (.resume .mctp) s (fun t => t.flag fltBase FLT_STATUS_HALTED = false ∧ t.pkgMode.sysReady = false ∧
      t.get glbBase GLB_RESET_CAUSE_CAUSE = 5 ∧ t.flt = { s.flt with stopped := true } ∧
      t.out = .pin "SYS_READY" false :: s.out ∧ t = { s with regs := t.regs, flt := t.flt, pkgMode := t.pkgMode, out := t.out }) := by
  refine ⟨_, (exec_fltCtl 1 h).trans (congrArg _ (fltCtlWritten_resume hh)), ?_⟩
  rw [setSysReady, if_neg (by simp [hr])]
  obtain ⟨halted, cause⟩ := resumeShown_fields s
  exact ⟨(State.flag_of_regs rfl _ _).trans halted, rfl, (State.get_of_regs rfl _ _).trans cause, rfl, rfl, rfl⟩

theorem exec_resume_other (h : Writable path (fltBase + 8) s) (hh : s.flag fltBase FLT_STATUS_HALTED = true) (hp : path ≠ .mctp) :
    exec (.resume path) s = .next s := by
  refine (exec_fltCtl 1 h).trans ?_
  simp [fltCtlWritten, hh, hp]

theorem completes_resume_running (h : Writable path (fltBase + 8) s) (hh : s.flag fltBase FLT_STATUS_HALTED = false) :
    Completes (.resume path) s (fun t => Reports s t) := by
  have run : fltCtlWritten path 1 s = noteIgnored s := by simp [fltCtlWritten, hh]
  exact ⟨_, (exec_fltCtl 1 h).trans (congrArg _ run), noteIgnored_reports s⟩

end

/-- Settles O54: each command is a write of its register, which stores the word with the register's own effect and no other. -/
theorem registerCommands : Obligations.RegisterCommands := by
  unfold Obligations.RegisterCommands
  refine ⟨⟨fun _ _ h => completes_lock h, fun _ _ _ _ h ht hne hl => completes_tagEnWrite_locked h ht hne hl,
      fun _ _ _ _ h ht hl ha => completes_tagEnWrite h ht hl ha⟩,
    ⟨fun _ t j s h ht hj => ?clrCnt, fun _ _ h => completes_fltClrCnt h, fun _ _ _ h hs => completes_fltSrcStatClear h hs,
      fun _ _ h hl he => exec_go_unlocked h hl he, fun _ _ h hl => completes_go_locked h hl⟩,
    ⟨fun _ h hh hr => completes_resume_mctp h hh hr, fun _ _ h hh hp => exec_resume_other h hh hp,
      fun _ _ h hh => completes_resume_running h hh⟩⟩
  case clrCnt => exact ⟨_, exec_clrCnt h ht hj, clearSliceCounters_cleared t j s⟩

end Sys2Proof.Machine

/-! What an access to a tier's memory leaves unchanged (chapters 04 to 07): the operations on the cistern keep the basin's lines and
registers, and those on the basin keep the tables of the package. -/

namespace Sys2Proof.Machine
open Sys2Proof.Safety

/-! ### Work on the cistern -/

/-- A register of a basin slice or of the basin of a tier. -/
def basinReg (o : Nat) : Prop := 0x100000 ≤ o ∧ 0x30000 ≤ o % 0x100000 ∧ o % 0x100000 < 0x34000

/-- `t` differs from `s` at most by work on the cistern: channels and queues, stored lines, tag lines, poison, corrections, and what the
collector does with messages. The basin's lines and registers stay. -/
structure CisternWork (s t : State) : Prop where
  frame : t = { s with
    regs := t.regs, flt := t.flt, mgmt := t.mgmt, ports := t.ports, out := t.out, pool := t.pool, fresh := t.fresh
    poison := t.poison, ovfTime := t.ovfTime, unitCe := t.unitCe, rowWatch := t.rowWatch, tagSets := t.tagSets
    sweeps := t.sweeps, chans := t.chans, cistern := t.cistern, chanWeirs := t.chanWeirs }
  regs : ∀ o, basinReg o → t.reg o = s.reg o

section
variable {s t u : State}

theorem CisternWork.refl (s : State) : CisternWork s s := ⟨rfl, fun _ _ => rfl⟩

theorem CisternWork.trans (h : CisternWork s t) (k : CisternWork t u) : CisternWork s u := by
  refine ⟨?_, fun o ho => (k.regs o ho).trans (h.regs o ho)⟩
  have e := k.frame
  rw [h.frame] at e
  exact e

theorem CisternWork.ite {c : Prop} [Decidable c] (h : CisternWork s t) (k : CisternWork s u) :
    CisternWork s (if c then t else u) := by split <;> assumption

theorem CisternWork.forEach {α : Type} (h : CisternWork s t) (l : List α) (f : α → State → State)
    (hf : ∀ a ∈ l, ∀ u, CisternWork u (f a u)) : CisternWork s (forEach l f t) := by
  induction l generalizing t with
  | nil => exact h
  | cons a l ih => exact ih (h.trans (hf a (by simp) t)) (fun b hb => hf b (by simp [hb]))

theorem faultReg_of_basinReg {o : Nat} (h : basinReg o) : faultReg o = false := by
  obtain ⟨low, from_, below⟩ := h
  have apart : ¬(fltBase ≤ o ∧ o < fltBase + 0x10000) ∧ o ≠ rilBase + 0x40 ∧ ¬(0x100000 ≤ o ∧ 0x60000 ≤ o % 0x100000) := by
    simp only [fltBase, rilBase]; omega
  simpa [faultReg, and_assoc] using apart

theorem CisternWork.ofReports (h : Reports s t) : CisternWork s t := by
  refine ⟨?_, fun o ho => h.regs o (faultReg_of_basinReg ho)⟩
  have frame := h.frame
  generalize t = u at frame ⊢
  rw [frame]

theorem CisternWork.ofListed {n : Nat} (h : Listed n s t) : CisternWork s t := by
  refine ⟨?_, fun o ⟨_, from_, below⟩ => h.regs o (by simp only [eccBase, tierBase]; omega)⟩
  have frame := h.frame
  generalize t = u at frame ⊢
  rw [frame]

theorem not_basinReg_ecc {t o : Nat} (h : eccBase t ≤ o) (k : o < eccBase t + 0xC000) : ¬basinReg o := by
  simp only [eccBase, tierBase] at h k
  simp only [basinReg]; omega
theorem not_basinReg_drc {t c i : Nat} (hc : c < 4) (h : i < 0x4000) : ¬basinReg (drcBase t c + i) := by
  simp only [basinReg, drcBase, tierBase]; omega

/-! What follows work on the cistern and is such work itself. -/

theorem CisternWork.setReg (h : CisternWork s t) {o : Nat} (v : DWord) (ho : ¬basinReg o) : CisternWork s (t.setReg o v) :=
  h.trans ⟨rfl, fun _ hj => State.reg_setReg_ne t v (by rintro rfl; exact ho hj)⟩
theorem CisternWork.count (h : CisternWork s t) {o : Nat} (n : Nat) (ho : ¬basinReg o) : CisternWork s (t.count o n) := h.setReg _ ho
theorem CisternWork.put (h : CisternWork s t) {b : Nat} {f : Fld} (v : Nat) (ho : ¬basinReg (b + f.off)) : CisternWork s (t.put b f v) :=
  h.setReg _ ho
theorem CisternWork.putFlag (h : CisternWork s t) {b : Nat} {f : Fld} (v : Bool) (ho : ¬basinReg (b + f.off)) :
    CisternWork s (t.putFlag b f v) := h.setReg _ ho
theorem CisternWork.raise (h : CisternWork s t) (src kind level addr detail : Nat) :
    CisternWork s (Machine.raise src kind level addr detail t) := h.trans (.ofReports (raise_reports _ _ _ _ _ _))
theorem CisternWork.raiseCtx (h : CisternWork s t) (src kind c : Nat) : CisternWork s (Machine.raiseCtx src kind c t) :=
  h.raise _ _ _ _ _
theorem CisternWork.raiseOpen (h : CisternWork s t) (src kind : Nat) : CisternWork s (Machine.raiseOpen src kind t) :=
  h.raise _ _ _ _ _
theorem CisternWork.drawn (h : CisternWork s t) : CisternWork s t.drawn := h.trans ⟨rfl, fun _ _ => rfl⟩
theorem CisternWork.setUnitCe (h : CisternWork s t) (m : Sparse Nat) : CisternWork s { t with unitCe := m } :=
  h.trans ⟨rfl, fun _ _ => rfl⟩
theorem CisternWork.setOvfTime (h : CisternWork s t) (m : Sparse Nat) : CisternWork s { t with ovfTime := m } :=
  h.trans ⟨rfl, fun _ _ => rfl⟩
theorem CisternWork.setSweeps (h : CisternWork s t) (l : List (Nat × Nat)) : CisternWork s { t with sweeps := l } :=
  h.trans ⟨rfl, fun _ _ => rfl⟩
theorem CisternWork.setRowWatch (h : CisternWork s t) (m : Sparse (List RowWatch)) : CisternWork s { t with rowWatch := m } :=
  h.trans ⟨rfl, fun _ _ => rfl⟩
theorem CisternWork.setChan (h : CisternWork s t) (n c : Nat) (v : Chan) : CisternWork s (t.setChan n c v) :=
  h.trans ⟨rfl, fun _ _ => rfl⟩
theorem CisternWork.setCline (h : CisternWork s t) (n o : Nat) (l : CLine) : CisternWork s (t.setCline n o l) :=
  h.trans ⟨rfl, fun _ _ => rfl⟩
theorem CisternWork.setTagSet (h : CisternWork s t) (n x : Nat) (g : TagSet) : CisternWork s (t.setTagSet n x g) :=
  h.trans ⟨rfl, fun _ _ => rfl⟩

/-- A result of work on the cistern, when there is one. -/
def Worked (s : State) (r : Except HoldWhy State) : Prop := ∀ t, r = .ok t → CisternWork s t

theorem Worked.ok (h : CisternWork s t) : Worked s (.ok t) := fun _ e => by injection e with e; exact e ▸ h
theorem Worked.error (s : State) (w : HoldWhy) : Worked s (.error w) := fun _ e => by cases e
theorem Worked.after {r : Except HoldWhy State} (h : CisternWork s t) (k : Worked t r) : Worked s r := fun u e => h.trans (k u e)

end

theorem chanOf_lt (off : Nat) : chanOf off < 4 := by unfold chanOf; dsimp only; omega
theorem chanOf_lt_checkers (off : Nat) : chanOf off < 64 := (chanOf_lt off).trans (by decide)

/-! #### Corrections and poison (R155, R160) -/

section
variable {s t : State}

theorem CisternWork.watchRow (h : CisternWork s t) (n : Nat) (basin : Bool) (row line : Nat) (uncorr : Bool) :
    CisternWork s (Machine.watchRow n basin row line uncorr t) := h.setRowWatch _

theorem CisternWork.corrected (h : CisternWork s t) (n unit src level addr : Nat) {checker : Nat} (basin quiet : Bool) (hc : checker < 64) :
    CisternWork s (Machine.corrected n checker unit src level addr basin quiet t) := by
  unfold Machine.corrected
  dsimp only
  have counted (u : State) (k : CisternWork s u) : CisternWork s (u.count (eccBase n + 0x400 + 0x10 * checker) 1) :=
    k.count 1 (not_basinReg_ecc (t := n) (by omega) (by omega))
  have shown (u : State) (v : DWord) (k : CisternWork s u) : CisternWork s (u.setReg (eccBase n + 0x28) v) :=
    k.setReg v (not_basinReg_ecc (t := n) (by omega) (by omega))
  have flagged (u : State) (k : CisternWork s u) : CisternWork s (u.putFlag (eccBase n) ECC_STATUS_CE_THRESH true) :=
    k.putFlag true (not_basinReg_ecc (t := n) (by omega) (by simp only [ECC_STATUS_CE_THRESH]; omega))
  have noted (m : Sparse Nat) := (shown _ (BitVec.ofNat 64 (addr % 2 ^ 48 + ofBool basin * 2 ^ 48)) (counted _ h)).setUnitCe m
  have told (m : Sparse Nat) := (noted m).ite (c := quiet = true) ((noted m).raise (tierSource n src) 0 level addr 0)
  exact .ite ((flagged _ (told _)).raise _ _ _ _ _) (told _)

theorem CisternWork.sawUncorrectable (h : CisternWork s t) (n addr : Nat) {checker : Nat} (basin : Bool) (hc : checker < 64) :
    CisternWork s (Machine.sawUncorrectable n checker addr basin t) := by
  have counted := h.count (o := eccBase n + 0x408 + 0x10 * checker) 1 (not_basinReg_ecc (t := n) (by omega) (by omega))
  have shown := counted.setReg (o := eccBase n + 0x20) (BitVec.ofNat 64 (addr % 2 ^ 48 + ofBool basin * 2 ^ 48))
    (not_basinReg_ecc (t := n) (by omega) (by omega))
  exact shown.putFlag true (not_basinReg_ecc (t := n) (by omega) (by simp only [ECC_STATUS_UE]; omega))

theorem CisternWork.listPoison (h : CisternWork s t) (n : Nat) (p : Poison) : CisternWork s (Machine.listPoison n p t) := by
  have overflowed : CisternWork s ((t.putFlag (eccBase n) ECC_PLIST_OVF true).putFlag (eccBase n) ECC_STATUS_PLIST_OVF true) :=
    (h.putFlag true (not_basinReg_ecc (t := n) (by omega) (by simp only [ECC_PLIST_OVF]; omega))).putFlag true
      (not_basinReg_ecc (t := n) (by omega) (by simp only [ECC_STATUS_PLIST_OVF]; omega))
  exact .ite h (.ite (h.trans (.ofListed (setPlist_listed _ _ _))) (.ite overflowed (overflowed.setOvfTime _)))

theorem CisternWork.listAcc (h : CisternWork s t) (a : Acc) (source : Nat) : CisternWork s (Machine.listAcc a source t) := h.listPoison _ _

theorem CisternWork.firstDetected (h : CisternWork s t) (src kind : Nat) (a : Acc) :
    CisternWork s (Machine.firstDetected src kind a t) := .ite h ((h.raiseCtx _ _ _).listAcc _ _)

theorem CisternWork.reportPoison (h : CisternWork s t) (src : Nat) (use : ReadFor) (a : Acc) :
    CisternWork s (Machine.reportPoison src use a t) := .ite ((h.raiseCtx _ _ _).listAcc _ _) (h.firstDetected _ _ _)

/-! #### Channels (R121, R122, R139, R168) -/

theorem CisternWork.takeInjection (h : CisternWork s t) (n m : Nat) : CisternWork s (Machine.takeInjection n m t).1 := by
  have counted (v : Nat) : CisternWork s (t.put (eccBase n) ECC_INJ_CTL_COUNT v) :=
    h.put v (not_basinReg_ecc (t := n) (by omega) (by simp only [ECC_INJ_CTL_COUNT]; omega))
  unfold Machine.takeInjection
  dsimp only
  split
  · exact .ite ((counted _).putFlag true (not_basinReg_ecc (t := n) (by omega) (by simp only [ECC_STATUS_INJ_DONE]; omega))) (counted _)
  · exact h

theorem CisternWork.encodeCistern (h : CisternWork s t) (a : Acc) (l : CLine) : CisternWork s (Machine.encodeCistern a l t).1 := by
  have lt := chanOf_lt a.off
  unfold Machine.encodeCistern
  dsimp only
  have first := h.takeInjection a.t (chanOf a.off)
  generalize Machine.takeInjection a.t (chanOf a.off) t = r at first ⊢
  obtain ⟨u, _ | ⟨_ | _, m⟩⟩ := r
  all_goals
    have second := CisternWork.takeInjection first a.t (32 + chanOf a.off)
    dsimp only at second ⊢
    generalize Machine.takeInjection a.t (32 + chanOf a.off) u = r at second ⊢
    obtain ⟨v, _ | ⟨poison, m'⟩⟩ := r
    · exact second
    · dsimp only
      split
      · exact second.drawn
      · exact second.drawn.corrected _ _ _ _ _ _ _ (by omega)
      · exact ((second.drawn.sawUncorrectable _ _ _ (by omega)).raiseCtx _ _ _).listAcc _ _

theorem CisternWork.lostOnFence (h : CisternWork s t) (n k x : Nat) {c : Nat} (hc : c < 4) :
    CisternWork s (Machine.lostOnFence n c k x t) := by
  have counted := h.count (o := drcBase n c + 0x68) 1 (not_basinReg_drc hc (by decide))
  exact .ite counted ((counted.setChan _ _ _).raiseCtx _ _ _)

theorem CisternWork.touchRank (h : CisternWork s t) (n c k : Nat) : CisternWork s (Machine.touchRank n c k t) := h.setChan _ _ _
theorem CisternWork.notePool (h : CisternWork s t) (n c : Nat) : CisternWork s (Machine.notePool n c t) := h.trans ⟨rfl, fun _ _ => rfl⟩
theorem CisternWork.noteServed (h : CisternWork s t) (n c k : Nat) (x : Option Nat) : CisternWork s (Machine.noteServed n c k x t) :=
  h.trans ⟨rfl, fun _ _ => rfl⟩

theorem CisternWork.putStored (h : CisternWork s t) (n off : Nat) (l : CLine) : CisternWork s (Machine.putStored n off l t) := by
  unfold Machine.putStored
  dsimp only
  split
  · exact h.setChan _ _ _
  · exact h.setCline _ _ _

theorem CisternWork.writeMarker (h : CisternWork s t) (a : Acc) : CisternWork s (Machine.writeMarker a t) := (h.putStored _ _ _).listAcc _ _

theorem CisternWork.acceptWrite (h : CisternWork s t) (a : Acc) (l : CLine) (pend : Bool) :
    Worked s (Machine.acceptWrite a l pend t) := by
  have encoded := h.encodeCistern a l
  unfold Machine.acceptWrite
  dsimp only
  split
  · exact .ok (h.lostOnFence _ _ _ (chanOf_lt _))
  split
  · exact .error _ _
  split
  · exact .ok (encoded.setChan _ _ _)
  split
  · exact .ok (((encoded.setChan _ _ _).touchRank _ _ _).notePool _ _)
  split
  · exact .ok (((encoded.setCline _ _ _).touchRank _ _ _).noteServed _ _ _ _)
  · exact .error _ _

/-! #### Tag lines (R183-R188) -/

theorem CisternWork.scrFlag (h : CisternWork s t) (n : Nat) {f : Fld} (v : Bool) (hf : f.off < 0xC000) :
    CisternWork s (t.putFlag (scrBase n) f v) := h.putFlag v (by simp only [basinReg, scrBase, tierBase]; omega)
theorem CisternWork.scrCount (h : CisternWork s t) (n k : Nat) {i : Nat} (hi : i < 0xC000) : CisternWork s (t.count (scrBase n + i) k) :=
  h.count k (by simp only [basinReg, scrBase, tierBase]; omega)

theorem CisternWork.placeTag (h : CisternWork s t) (a : Acc) (x w : Nat) (v : TagWay) : CisternWork s (Machine.placeTag a x w v t) := by
  unfold Machine.placeTag
  dsimp only
  refine CisternWork.setTagSet ?_ _ _ _
  split
  · split
    · next heq => exact h.acceptWrite _ _ _ _ heq
    · exact h
  · exact h

theorem CisternWork.repairTagSet (h : CisternWork s t) (a : Acc) (x : Nat) : CisternWork s (Machine.repairTagSet a x t) := by
  unfold Machine.repairTagSet
  dsimp only
  split
  · exact (((h.setTagSet _ _ _).scrFlag _ _ (by decide)).setSweeps _).raise _ _ _ _ _
  · exact .ite ((h.setTagSet _ _ _).raiseOpen _ _) h

theorem CisternWork.repairTagWay (h : CisternWork s t) (a : Acc) (x : Nat) : CisternWork s (Machine.repairTagWay a x t) := by
  unfold Machine.repairTagWay
  dsimp only
  split
  · exact h
  · exact .ite h (.ite (((h.setTagSet _ _ _).scrFlag _ _ (by decide)).setSweeps _) ((h.setTagSet _ _ _).raiseOpen _ _))

theorem CisternWork.listCovered (h : CisternWork s t) (a : Acc) (x : Nat) : CisternWork s (Machine.listCovered a x t) :=
  h.forEach _ _ (fun _ _ u => .ite (((CisternWork.refl u).scrCount _ _ (by decide)).listAcc _ _) (.refl u))

theorem CisternWork.readTag (h : CisternWork s t) (a : Acc) (x : Nat) : CisternWork s (Machine.readTag a x t).1 := by
  have repaired := (h.repairTagSet a x).repairTagWay a x
  have flagged (u : State) (k : CisternWork s u) := k.scrFlag a.t true (f := SCR_STATUS_TAG_LINE_UE) (by decide)
  have missed := repaired.scrCount a.t 1 (i := 0x48) (by decide)
  unfold Machine.readTag
  dsimp only
  split
  · exact repaired
  split
  · exact (repaired.scrCount _ _ (by decide)).setTagSet _ _ _
  split
  · exact missed
  split
  · exact (flagged _ missed).sawUncorrectable _ _ _ (chanOf_lt_checkers _)
  · exact (flagged _ missed).sawUncorrectable _ _ _ (chanOf_lt_checkers _)
  · split
    · exact .ite ((missed.corrected _ _ _ _ _ _ _ (chanOf_lt_checkers _)).watchRow _ _ _ _ _) missed
    · exact .placeTag (.ite ((missed.corrected _ _ _ _ _ _ _ (chanOf_lt_checkers _)).watchRow _ _ _ _ _) missed) _ _ _ _

theorem CisternWork.sweepTag (h : CisternWork s t) (a : Acc) (x : Nat) (keep : Option Nat) :
    CisternWork s (Machine.sweepTag a x keep t) := by
  unfold Machine.sweepTag
  dsimp only
  have line (b : Acc) (u : State) : CisternWork u (Machine.writeMarker b (u.count (scrBase a.t + 0x58) 1)) :=
    ((CisternWork.refl u).scrCount _ _ (by decide)).writeMarker _
  refine .ite ?_ (.putStored ?_ _ _ _) <;>
    exact .raiseCtx (h.forEach _ _ (fun _ _ u => .ite (line _ u) (.refl u))) _ _ _

/-- What is made of a tag line that was read, or of a fresh one after a sweep, is work on the cistern when each way of going on is. -/
theorem Worked.ofTagRead {put : Line → State → Except HoldWhy State} {sweep : State → State} (fresh : Line)
    (stored : ∀ l u, CisternWork s u → Worked s (put l u)) (swept : ∀ u, CisternWork s u → CisternWork s (sweep u))
    (r : State × TagRead) : CisternWork s r.1 → Worked s (match r with
      | (u, .line l) => put l u
      | (_, .wait w) => .error w
      | (u, .bad) => put fresh (sweep u)) := by
  intro hr
  obtain ⟨u, l | _ | w⟩ := r
  · exact stored l u hr
  · exact stored fresh _ (swept u hr)
  · exact .error _ _

theorem CisternWork.writeTag (h : CisternWork s t) (a : Acc) (tag : Word) (pend : Bool) : Worked s (Machine.writeTag a tag pend t) := by
  unfold Machine.writeTag
  extract_lets x i put
  have stored (l : Line) (u : State) (k : CisternWork s u) : Worked s (put l u) := by
    unfold put
    extract_lets g
    cases hw : g.find x with
    | some w => exact .ok (k.setTagSet _ _ _)
    | none =>
      cases hv : g.victim with
      | some w => exact .ok (k.placeTag _ _ _ _)
      | none => exact .error _ _
  split
  · exact .ok h
  · exact Worked.ofTagRead _ stored (fun u k => k.sweepTag a x (some i)) _ (h.readTag a x)

/-! #### Data lines (R36, R139, R179, R189) -/

theorem CisternWork.writeCistern (h : CisternWork s t) (a : Acc) (l : Line) (marker : Bool) :
    Worked s (Machine.writeCistern a l marker t) := by
  have accepted := h.acceptWrite a
  unfold Machine.writeCistern
  dsimp only
  split
  · exact .error _ _
  · next u heq =>
    split
    · exact (accepted _ _ u heq).writeTag _ _ _
    · exact .ok (accepted _ _ u heq)

theorem CisternWork.checkTag (h : CisternWork s t) (a : Acc) (l : CLine) (out : RdOut) (use : ReadFor) :
    CisternWork s (Machine.checkTag a l out use t).1 := by
  unfold Machine.checkTag
  dsimp only
  split
  · exact h
  have read := h.readTag a (tagIndex a.off)
  generalize Machine.readTag a (tagIndex a.off) t = r at read ⊢
  obtain ⟨u, tl | _ | w⟩ := r
  · have compared := CisternWork.scrCount read a.t 1 (i := 0x50) (by decide)
    dsimp only
    split
    · split
      · exact compared
      · exact compared.raiseOpen _ _
    · exact compared
  · exact .listCovered (.ite read (read.raiseCtx _ _ _)) _ _
  · exact read

theorem CisternWork.readCistern (h : CisternWork s t) (a : Acc) (use : ReadFor) : CisternWork s (Machine.readCistern a use t).1 := by
  unfold Machine.readCistern
  dsimp only
  split
  · exact h.lostOnFence _ _ _ (chanOf_lt _)
  split
  · exact h
  split
  · exact h
  have entered {c : Prop} [Decidable c] (v : Chan) : CisternWork s (if c then t else Machine.notePool a.t (chanOf (a.off / 64 * 64))
      (Machine.touchRank a.t (chanOf (a.off / 64 * 64)) (rankOf (a.off / 64 * 64)) (t.setChan a.t (chanOf (a.off / 64 * 64)) v))) :=
    .ite h (((h.setChan _ _ _).touchRank _ _ _).notePool _ _)
  have served {c c' : Prop} [Decidable c] [Decidable c'] (v : Chan) := CisternWork.ite (c := c')
    ((entered (c := c) v).noteServed a.t (chanOf (a.off / 64 * 64)) a.cls (some a.ctx)) (entered (c := c) v)
  split
  · exact (served _).reportPoison _ _ _
  · exact (((served _).sawUncorrectable _ _ _ (chanOf_lt_checkers _)).watchRow _ _ _ _ _).reportPoison _ _ _
  · exact (((served _).corrected _ _ _ _ _ _ _ (chanOf_lt_checkers _)).watchRow _ _ _ _ _).checkTag _ _ _ _
  · exact (served _).checkTag _ _ _ _

end

end Sys2Proof.Machine

namespace Sys2Proof.Machine
open Sys2Proof.Safety

/-! ### Work on a tier's memory -/

/-- `t` differs from `s` at most by work on a tier's memory: work on the cistern, the basin's slices, and the valid map. -/
structure MemoryWork (s t : State) : Prop where
  frame : t = { s with
    regs := t.regs, flt := t.flt, mgmt := t.mgmt, ports := t.ports, out := t.out, pool := t.pool, fresh := t.fresh
    poison := t.poison, ovfTime := t.ovfTime, unitCe := t.unitCe, rowWatch := t.rowWatch, tagSets := t.tagSets
    sweeps := t.sweeps, chans := t.chans, cistern := t.cistern, chanWeirs := t.chanWeirs, slices := t.slices, valid := t.valid }

section
variable {s t u : State}

theorem MemoryWork.refl (s : State) : MemoryWork s s := ⟨rfl⟩

theorem MemoryWork.trans (h : MemoryWork s t) (k : MemoryWork t u) : MemoryWork s u := by
  have e := k.frame
  rw [h.frame] at e
  exact ⟨e⟩

theorem MemoryWork.cistern (h : MemoryWork s t) (k : CisternWork t u) : MemoryWork s u := by
  refine h.trans ⟨?_⟩
  have frame := k.frame
  generalize u = v at frame ⊢
  rw [frame]

theorem MemoryWork.ite {c : Prop} [Decidable c] (h : MemoryWork s t) (k : MemoryWork s u) :
    MemoryWork s (if c then t else u) := by split <;> assumption

theorem MemoryWork.forEach {α : Type} (h : MemoryWork s t) (l : List α) (f : α → State → State) (hf : ∀ a u, MemoryWork u (f a u)) :
    MemoryWork s (forEach l f t) := by
  induction l generalizing t with
  | nil => exact h
  | cons a l ih => exact ih (h.trans (hf a t))

theorem MemoryWork.setReg (h : MemoryWork s t) (o : Nat) (v : DWord) : MemoryWork s (t.setReg o v) := h.trans ⟨rfl⟩
theorem MemoryWork.count (h : MemoryWork s t) (o n : Nat) : MemoryWork s (t.count o n) := h.setReg _ _
theorem MemoryWork.setSlice (h : MemoryWork s t) (n j : Nat) (sl : Slice) : MemoryWork s (t.setSlice n j sl) := h.trans ⟨rfl⟩
theorem MemoryWork.setWay (h : MemoryWork s t) (n j k w : Nat) (v : Way) : MemoryWork s (t.setWay n j k w v) := h.setSlice _ _ _
theorem MemoryWork.setValidLine (h : MemoryWork s t) (n e : Nat) (v : ValidLine) : MemoryWork s (t.setValidLine n e v) := h.trans ⟨rfl⟩

/-- A result of work on a tier's memory, when there is one. -/
def Stored (s : State) (r : Except HoldWhy State) : Prop := ∀ t, r = .ok t → MemoryWork s t

theorem Stored.ok (h : MemoryWork s t) : Stored s (.ok t) := fun _ e => by injection e with e; exact e ▸ h
theorem Stored.error (s : State) (w : HoldWhy) : Stored s (.error w) := fun _ e => by cases e
theorem Stored.ofWorked {r : Except HoldWhy State} (h : MemoryWork s t) (k : Worked t r) : Stored s r := fun u e => h.cistern (k u e)

theorem MemoryWork.writeCistern (h : MemoryWork s t) (a : Acc) (l : Line) (marker : Bool) : Stored s (Machine.writeCistern a l marker t) :=
  .ofWorked h ((CisternWork.refl t).writeCistern a l marker)
theorem MemoryWork.readCistern (h : MemoryWork s t) (a : Acc) (use : ReadFor) : MemoryWork s (Machine.readCistern a use t).1 :=
  h.cistern ((CisternWork.refl t).readCistern a use)
theorem MemoryWork.reportPoison (h : MemoryWork s t) (src : Nat) (use : ReadFor) (a : Acc) :
    MemoryWork s (Machine.reportPoison src use a t) := h.cistern ((CisternWork.refl t).reportPoison _ _ _)
theorem MemoryWork.raise (h : MemoryWork s t) (src kind level addr detail : Nat) :
    MemoryWork s (Machine.raise src kind level addr detail t) := h.cistern ((CisternWork.refl t).raise _ _ _ _ _)

/-! #### Ways of the basin (R102-R110) -/

theorem MemoryWork.openSet (h : MemoryWork s t) (n j k : Nat) : MemoryWork s (Machine.openSet n j k t) :=
  h.forEach _ _ (fun _ u => .ite ((((MemoryWork.refl u).setWay _ _ _ _ _).count _ _).raise _ _ _ _ _)
    (.ite (((MemoryWork.refl u).setWay _ _ _ _ _).count _ _) (.refl u)))

theorem MemoryWork.readDirty (h : MemoryWork s t) {j : Nat} (hj : j < 16) (n k w i : Nat) :
    MemoryWork s (Machine.readDirty n j k w i t).1 := by
  unfold Machine.readDirty
  dsimp only
  split
  · exact h
  · exact h
  · exact h.cistern (((CisternWork.refl t).corrected _ _ _ _ _ _ _ (by omega)).watchRow _ _ _ _ _)
  · exact h.cistern ((((CisternWork.refl t).sawUncorrectable _ _ _ (by omega)).watchRow _ _ _ _ _).firstDetected _ _ _)

theorem MemoryWork.bufferLine (h : MemoryWork s t) {j : Nat} (hj : j < 16) (n k w i : Nat) :
    MemoryWork s (Machine.bufferLine n j k w i t) := ((h.readDirty hj n k w i).setSlice _ _ _).count _ _

theorem MemoryWork.evictWay (h : MemoryWork s t) {j : Nat} (hj : j < 16) (n k w : Nat) : Stored s (Machine.evictWay n j k w t) := by
  unfold Machine.evictWay
  dsimp only
  split
  · exact .error _ _
  · exact .ok ((h.forEach _ _ (fun _ u => (MemoryWork.refl u).bufferLine hj _ _ _ _)).setWay _ _ _ _ _)

theorem MemoryWork.ageOthers (h : MemoryWork s t) (n j k : Nat) (keep : Option Nat) : MemoryWork s (Machine.ageOthers n j k keep t) :=
  h.forEach _ _ (fun _ u => .ite ((MemoryWork.refl u).setWay _ _ _ _ _) (.refl u))

theorem MemoryWork.allocWay (h : MemoryWork s t) (a : Acc) {u : State} {w : Option Nat} (e : Machine.allocWay a t = .ok (u, w)) :
    MemoryWork s u := by
  unfold Machine.allocWay at e
  dsimp only at e
  split at e
  · injection e with e; injection e with e; exact e ▸ h
  split at e
  · injection e with e; injection e with e; exact e ▸ h
  split at e
  · injection e with e; injection e with e; exact e ▸ h
  split at e
  · cases e
  · next v heq =>
    injection e with e
    injection e with e
    exact e ▸ (h.evictWay (t.sliceOf_lt _ _) _ _ _ v heq).setWay _ _ _ _ _

/-! #### Lines of the basin -/

theorem MemoryWork.putBasin (h : MemoryWork s t) (a : Acc) (w : Nat) (l : Line) (marker dirty : Bool) :
    MemoryWork s (Machine.putBasin a w l marker dirty t) := by
  have taken := h.cistern ((CisternWork.refl t).takeInjection a.t (4 + t.sliceOf a.t a.off))
  unfold Machine.putBasin
  dsimp only
  generalize Machine.takeInjection a.t (4 + t.sliceOf a.t a.off) t = r at taken ⊢
  obtain ⟨u, _ | ⟨_ | _, m⟩⟩ := r
  · exact .ite ((MemoryWork.setWay taken _ _ _ _ _).setSlice _ _ _) (MemoryWork.setWay taken _ _ _ _ _)
  · have drawn := MemoryWork.cistern taken (CisternWork.refl u).drawn
    exact .ite ((drawn.setWay _ _ _ _ _).setSlice _ _ _) (drawn.setWay _ _ _ _ _)
  · exact .ite ((MemoryWork.setWay taken _ _ _ _ _).setSlice _ _ _) (MemoryWork.setWay taken _ _ _ _ _)

theorem MemoryWork.dropLine (h : MemoryWork s t) (n j k w i : Nat) : MemoryWork s (Machine.dropLine n j k w i t) := h.setWay _ _ _ _ _
theorem MemoryWork.touchWay (h : MemoryWork s t) (a : Acc) (j n w : Nat) : MemoryWork s (Machine.touchWay a j n w t) := h.setWay _ _ _ _ _
theorem MemoryWork.dropVictim (h : MemoryWork s t) (n off : Nat) : MemoryWork s (Machine.dropVictim n off t) :=
  .ite (h.setSlice _ _ _) h

end
end Sys2Proof.Machine

namespace Sys2Proof.Machine
open Sys2Proof.Safety
section
variable {s t : State}

/-- What has been brought into the basin so far, when no line has to wait. -/
def Promoted (s : State) (r : Except HoldWhy (State × Bool)) : Prop := ∀ t ok, r = .ok (t, ok) → MemoryWork s t

theorem Promoted.ok {ok : Bool} (h : MemoryWork s t) : Promoted s (.ok (t, ok)) := fun _ _ e => by
  injection e with e; injection e with e; exact e ▸ h

theorem promotePage_promoted (a : Acc) (s : State) : Promoted s (promotePage a s) := by
  unfold promotePage
  dsimp only
  refine List.foldlRecOn _ _ (.ok (.refl s)) (fun r hr i _ => ?_)
  split
  · exact fun _ _ e => by cases e
  · next u ok =>
    have work : MemoryWork s u := hr u ok rfl
    split
    · exact .ok work
    split
    · exact fun _ _ e => by cases e
    · next v heq => exact .ok (work.allocWay _ heq)
    · next v w heq =>
      have read := (work.allocWay _ heq).readCistern { a with
        off := a.off / 4096 * 4096 + i * 64, dpa := a.dpa / 4096 * 4096 + i * 64, force := true } .read
      split
      · next heq =>
        rw [heq] at read
        exact .ok (read.putBasin _ _ _ _ _)
      · next heq =>
        rw [heq] at read
        exact .ok read

theorem autoPromote_memoryWork (c page : Nat) (s : State) : MemoryWork s (autoPromote c page s) := by
  unfold autoPromote
  dsimp only
  split
  · exact .refl s
  split
  · exact .refl s
  split
  · next u ok heq => exact promotePage_promoted _ s u ok heq
  · exact .refl s

end
end Sys2Proof.Machine

namespace Sys2Proof.Machine
open Sys2Proof.Safety

/-! ### Heat (R111) -/

/-- The count of a page in a slice's heat table, 0 when it has no place, and 1 more than the accesses counted otherwise. -/
def State.heatAt (s : State) (t j key : Nat) : Nat := Sparse.get zeroOf (s.slice t j).heat key

/-- The heat table of a slice with a page's count set. -/
def setHeatAt (t j key v : Nat) (s : State) : State :=
  s.setSlice t j { s.slice t j with heat := Sparse.set zeroOf (s.slice t j).heat key v }

theorem heatAt_setHeatAt (t j key v : Nat) (s : State) : (setHeatAt t j key v s).heatAt t j key = v := by
  rw [State.heatAt, setHeatAt, State.slice_setSlice_same, Sparse.get_set_same]

theorem heatKey_context {page : Nat} (c : Nat) (h : page < 2 ^ 29) : heatKey c page / 2 ^ 29 = c := by unfold heatKey; omega

section
variable {t j c page : Nat} {s : State}

/-- A page is promoted only where AUTO_PROMOTE is set. -/
theorem promoteHot_of_off (key : Nat) (h : s.flag (bsnBase t 0) BSN_TIER_CFG_AUTO_PROMOTE = false) : promoteHot t j key s = s := by
  simp [promoteHot, h]

/-- A jet of the tier that samples: the heat tables are on, the tier is awake and the jet serves. -/
structure Samples (t j : Nat) (s : State) : Prop where
  on : s.flag (bsnBase t 0) BSN_TIER_CFG_HEAT_EN = true
  awake : (s.tier t).power = 0
  tier : t < s.nTiers
  jet : j < 16
  serves : s.retiredJet t j = false

theorem Samples.guard (h : Samples t j s) :
    ¬(!s.flag (bsnBase t 0) BSN_TIER_CFG_HEAT_EN || (s.tier t).power ≠ 0 || s.nTiers ≤ t || 16 ≤ j || s.retiredJet t j) = true := by
  simp [h.on, h.awake, Nat.not_le.2 h.tier, Nat.not_le.2 h.jet, h.serves]

theorem Samples.counted (h : Samples t j s) (hs : s.heatAt t j (heatKey c page) ≠ 0) :
    exec (.heatSample t j c page) s = .next (promoteHot t j (heatKey c page)
      (setHeatAt t j (heatKey c page) (min 256 (s.heatAt t j (heatKey c page) + 1)) s)) := by
  show execHeatSample t j c page s = _
  unfold execHeatSample
  rw [if_neg h.guard]
  exact if_pos hs

theorem Samples.placed (h : Samples t j s) (hs : s.heatAt t j (heatKey c page) = 0) (hl : (s.slice t j).heat.length < 8192) :
    exec (.heatSample t j c page) s = .next (promoteHot t j (heatKey c page) (setHeatAt t j (heatKey c page) 2 s)) := by
  show execHeatSample t j c page s = _
  unfold execHeatSample
  rw [if_neg h.guard]
  exact (if_neg (not_not.2 hs)).trans (if_pos hl)

end

/-- The least of a list and a bound is the bound or of the list. -/
theorem foldl_min_eq {α : Type} (f : α → Nat) (l : List α) (b : Nat) :
    l.foldl (fun m e => min m (f e)) b = b ∨ ∃ e ∈ l, l.foldl (fun m e => min m (f e)) b = f e := by
  induction l generalizing b with
  | nil => exact .inl rfl
  | cons x l ih =>
    obtain h | ⟨e, he, h⟩ := ih (min b (f x))
    · rcases Nat.le_total b (f x) with hle | hle
      · exact .inl (h.trans (Nat.min_eq_left hle))
      · exact .inr ⟨x, by simp, h.trans (Nat.min_eq_right hle)⟩
    · exact .inr ⟨e, by simp [he], h⟩

theorem foldl_min_le {α : Type} (f : α → Nat) (l : List α) (b : Nat) :
    l.foldl (fun m e => min m (f e)) b ≤ b ∧ ∀ e ∈ l, l.foldl (fun m e => min m (f e)) b ≤ f e := by
  induction l generalizing b with
  | nil => exact ⟨le_refl _, fun _ h => by simp at h⟩
  | cons x l ih =>
    obtain ⟨hb, hl⟩ := ih (min b (f x))
    refine ⟨hb.trans (Nat.min_le_left _ _), fun e he => ?_⟩
    obtain rfl | he := List.mem_cons.1 he
    · exact hb.trans (Nat.min_le_right _ _)
    · exact hl e he

section
variable {t j c page : Nat} {s : State}

/-- A new page is a tracker miss when every place holds a page counted more than once. -/
theorem Samples.missed (h : Samples t j s) (hs : s.heatAt t j (heatKey c page) = 0) (hl : 8192 ≤ (s.slice t j).heat.length)
    (hot : ∀ e ∈ (s.slice t j).heat, 2 < e.2) (bounded : ∃ e ∈ (s.slice t j).heat, e.2 ≤ 256) :
    exec (.heatSample t j c page) s = .next (s.count (bsnBase t j + 0x30) 1) := by
  obtain ⟨below, least⟩ := foldl_min_le Prod.snd (s.slice t j).heat 256
  have attained : ∃ e ∈ (s.slice t j).heat, (s.slice t j).heat.foldl (fun m e => min m e.2) 256 = e.2 := by
    obtain eq | found := foldl_min_eq Prod.snd (s.slice t j).heat 256
    · obtain ⟨e, he, hle⟩ := bounded
      exact ⟨e, he, eq.trans (by have := least e he; omega)⟩
    · exact found
  obtain ⟨e, he, eq⟩ := attained
  have low : 2 < (s.slice t j).heat.foldl (fun m e => min m e.2) 256 := eq ▸ hot e he
  show execHeatSample t j c page s = _
  unfold execHeatSample
  rw [if_neg h.guard]
  refine ((if_neg (not_not.2 hs)).trans (if_neg (Nat.not_lt.2 hl))).trans ?_
  dsimp only
  cases found : (s.slice t j).heat.find? (fun e => e.2 = (s.slice t j).heat.foldl (fun m e => min m e.2) 256) with
  | some x => exact if_neg (Nat.not_le.2 low)
  | none => exact absurd (List.find?_eq_none.1 found e he) (by simp [eq])

/-- A page at the threshold is promoted and its count halved. -/
theorem promoteHot_of_hot {key n : Nat} (auto : s.flag (bsnBase t 0) BSN_TIER_CFG_AUTO_PROMOTE = true) (held : s.heatAt t j key = n + 1)
    (allocates : (s.ctx (key / 2 ^ 29)).noalloc = false) (share : (s.cls (s.ctx (key / 2 ^ 29)).cls).ways ≠ 0)
    (reached : max 1 (s.get (bsnBase t 0) BSN_TIER_CFG_PROMOTE_THRESH) ≤ n) :
    promoteHot t j key s = setHeatAt t j key (n / 2 + 1) (autoPromote (key / 2 ^ 29) (key % 2 ^ 29) s) := by
  have stored : Sparse.get zeroOf (s.slice t j).heat key = n + 1 := held
  unfold promoteHot
  dsimp only
  rw [stored]
  generalize key / 2 ^ 29 = c at allocates share ⊢
  exact if_pos (by simpa [auto, allocates, share] using reached)

theorem completes_heatSample_hot (h : Samples t j s) (hp : page < 2 ^ 29)
    (auto : s.flag (bsnBase t 0) BSN_TIER_CFG_AUTO_PROMOTE = true) (hs : s.heatAt t j (heatKey c page) ≠ 0)
    (allocates : (s.ctx c).noalloc = false) (share : (s.cls (s.ctx c).cls).ways ≠ 0)
    (reached : max 1 (s.get (bsnBase t 0) BSN_TIER_CFG_PROMOTE_THRESH) ≤ min 255 (s.heatAt t j (heatKey c page))) :
    Completes (.heatSample t j c page) s (fun u => u.heatAt t j (heatKey c page) = min 255 (s.heatAt t j (heatKey c page)) / 2 + 1 ∧
      u.ctxs = s.ctxs ∧ u.exts = s.exts ∧ u.keys = s.keys ∧ u.held = s.held) := by
  have ctx := heatKey_context c hp
  have counted : min 256 (s.heatAt t j (heatKey c page) + 1) = min 255 (s.heatAt t j (heatKey c page)) + 1 := by omega
  have put := h.counted hs
  rw [counted] at put
  have hot := promoteHot_of_hot (s := setHeatAt t j (heatKey c page) (min 255 (s.heatAt t j (heatKey c page)) + 1) s) (key := heatKey c page)
    auto (heatAt_setHeatAt _ _ _ _ _) (by rw [ctx]; exact allocates) (by rw [ctx]; exact share) reached
  refine ⟨_, put.trans (congrArg _ hot), heatAt_setHeatAt _ _ _ _ _, ?_⟩
  have work := (autoPromote_memoryWork (heatKey c page / 2 ^ 29) (heatKey c page % 2 ^ 29)
    (setHeatAt t j (heatKey c page) (min 255 (s.heatAt t j (heatKey c page)) + 1) s)).frame
  generalize autoPromote _ _ _ = u at work ⊢
  rw [work]
  exact ⟨rfl, rfl, rfl, rfl⟩

/-- The state with every count of a slice's heat table halved now. -/
def decayed (t j : Nat) (s : State) : State :=
  (s.setSlice t j { s.slice t j with heat := (s.slice t j).heat.map (fun e => (e.1, (e.2 - 1) / 2 + 1)) }).setJet t j
    { s.jet t j with heatAt := s.us }

/-- A decay halves every count, and without AUTO_PROMOTE it does nothing else. -/
theorem completes_heatDecay (hj : j < 16) (ht : t < s.nTiers) (hoff : s.flag (bsnBase t 0) BSN_TIER_CFG_AUTO_PROMOTE = false)
    (due : (s.jet t j).heatAt + max 1 (s.get (bsnBase t 0) BSN_TIER_CFG_HEAT_DECAY) * 10000 ≤ s.us) :
    Completes (.heatDecay t j) s (fun u => (u.slice t j).heat = (s.slice t j).heat.map (fun e => (e.1, (e.2 - 1) / 2 + 1)) ∧
      (u.jet t j).heatAt = s.us ∧ u = { s with slices := u.slices, jets := u.jets }) := by
  have run : exec (.heatDecay t j) s =
      .next (forEach ((s.slice t j).heat.map (·.1)) (fun k u => promoteHot t j k u) (decayed t j s)) := by
    show execHeatDecay t j s = _
    unfold execHeatDecay
    exact if_neg (by simp [Nat.not_le.2 hj, Nat.not_le.2 ht, due])
  have cool := forEach_of_fixed ((s.slice t j).heat.map (·.1)) (fun k u => promoteHot t j k u) (decayed t j s)
    (fun k _ => promoteHot_of_off k hoff)
  exact ⟨_, run.trans (congrArg _ cool), congrArg Slice.heat (State.slice_setSlice_same _ _ _ _),
    congrArg Jet.heatAt (Sparse.get_set_same _ _ _ _), rfl⟩

end
end Sys2Proof.Machine

namespace Sys2Proof.Machine
open Sys2Proof.Safety

/-! ### Victim buffers (R106) -/

section
variable {t c k : Nat} {s : State}

theorem encodeCistern_of_spent {a : Acc} (l : CLine) (h : s.get (eccBase a.t) ECC_INJ_CTL_COUNT = 0) :
    encodeCistern a l s = (s, l) := by
  unfold encodeCistern
  dsimp only
  rw [takeInjection_of_spent h]
  dsimp only
  rw [takeInjection_of_spent h]

/-- A write that takes a new entry of its channel's queue (R121). -/
def enqueueWrite (t c k : Nat) (e : WriteEntry) (s : State) : State :=
  notePool t c (touchRank t c k (s.setChan t c { s.chan t c with writes := (s.chan t c).writes ++ [e] }))

theorem writes_enqueueWrite (e : WriteEntry) : ((enqueueWrite t c k e s).chan t c).writes = (s.chan t c).writes ++ [e] := by
  have put := State.chan_setChan_same s t c { s.chan t c with writes := (s.chan t c).writes ++ [e] }
  have noted : (enqueueWrite t c k e s).chan t c =
      (touchRank t c k (s.setChan t c { s.chan t c with writes := (s.chan t c).writes ++ [e] })).chan t c := rfl
  rw [noted, touchRank, State.setRank, State.chan_setChan_same, Chan.setRank, put]

theorem notePool_frame (t c : Nat) (s : State) : notePool t c s = { s with chanWeirs := (notePool t c s).chanWeirs } := rfl
theorem setChan_frame (t c : Nat) (v : Chan) (s : State) : s.setChan t c v = { s with chans := (s.setChan t c v).chans } := rfl

theorem enqueueWrite_frame (t c k : Nat) (e : WriteEntry) (s : State) : enqueueWrite t c k e s =
    { s with chans := (enqueueWrite t c k e s).chans, chanWeirs := (enqueueWrite t c k e s).chanWeirs } := by
  unfold enqueueWrite touchRank State.setRank
  have queued := setChan_frame t c { s.chan t c with writes := (s.chan t c).writes ++ [e] } s
  generalize s.setChan t c { s.chan t c with writes := (s.chan t c).writes ++ [e] } = u at queued ⊢
  have touched := setChan_frame t c ((u.chan t c).setRank k { u.rank t c k with idleSince := u.us }) u
  generalize u.setChan t c ((u.chan t c).setRank k { u.rank t c k with idleSince := u.us }) = v at touched ⊢
  have noted := notePool_frame t c v
  generalize notePool t c v = w at noted ⊢
  rw [noted, touched, queued]

theorem acceptWrite_of_room {a : Acc} {l : CLine} {pend : Bool} (hoff : a.off / 64 * 64 = a.off)
    (open_ : s.fenced a.t (chanOf a.off) (rankOf a.off) = false) (ready : s.rankHeld a.t (chanOf a.off) (rankOf a.off) = false)
    (new : (s.chan a.t (chanOf a.off)).entry a.off = none)
    (room : s.poolRoom a.cls ((s.chan a.t (chanOf a.off)).writes.map (·.cls)) = true)
    (spent : s.get (eccBase a.t) ECC_INJ_CTL_COUNT = 0) :
    acceptWrite a l pend s = .ok (enqueueWrite a.t (chanOf a.off) (rankOf a.off)
      { off := a.off, line := l, cls := a.cls, ctx := a.ctx, arrival := s.us, pend := pend } s) := by
  unfold acceptWrite
  dsimp only
  rw [hoff, open_, if_neg Bool.false_ne_true, ready, Bool.false_and, if_neg Bool.false_ne_true, new, encodeCistern_of_spent l spent]
  dsimp only
  rw [if_pos room]
  rfl

end

section
variable {t j : Nat} {v : Victim} {rest : List Victim} {s : State}

theorem exec_victimBufferOffer {u : State} (hp : (s.tier t).portReset = false) (he : (s.tier t).engReset = false)
    (hr : s.reacting = false) (hv : (s.slice t j).victims = v :: rest) (offered : offerVictim t v s = .ok u) :
    exec (.victimBufferOffer t j) s = .next (u.setSlice t j { u.slice t j with victims := rest }) := by
  show execVictimBufferOffer t j s = _
  unfold execVictimBufferOffer
  rw [if_neg (by simp [hp, he, hr])]
  dsimp only
  rw [hv]
  dsimp only
  rw [offered]

theorem offerVictim_of_room (valid : s.pageValid t v.off = true) (hoff : v.off % 64 = 0)
    (open_ : s.fenced t (chanOf v.off) (rankOf v.off) = false) (ready : s.rankHeld t (chanOf v.off) (rankOf v.off) = false)
    (untagged : v.line.integrity = false) (new : (s.chan t (chanOf v.off)).entry v.off = none)
    (room : s.poolRoom v.cls ((s.chan t (chanOf v.off)).writes.map (·.cls)) = true)
    (spent : s.get (eccBase t) ECC_INJ_CTL_COUNT = 0) :
    ∃ e : WriteEntry, e.off = v.off ∧ e.cls = v.cls ∧ e.ctx = v.line.ctx ∧
      offerVictim t v s = .ok (enqueueWrite t (chanOf v.off) (rankOf v.off) e s) := by
  have accepted (l : CLine) (pend : Bool) := acceptWrite_of_room (a := victimAcc t v) (l := l) (pend := pend)
    (Nat.div_mul_cancel (Nat.dvd_of_mod_eq_zero hoff)) open_ ready new room spent
  unfold offerVictim
  rw [valid, Bool.not_true, if_neg Bool.false_ne_true]
  unfold writeCistern
  dsimp only
  rw [accepted]
  dsimp only
  have plain : (victimAcc t v).integ = false := untagged
  rw [plain]
  exact ⟨_, rfl, rfl, rfl, rfl⟩

theorem completes_victimBufferOffer (hp : (s.tier t).portReset = false) (he : (s.tier t).engReset = false)
    (hr : s.reacting = false) (hv : (s.slice t j).victims = v :: rest) (valid : s.pageValid t v.off = true) (hoff : v.off % 64 = 0)
    (open_ : s.fenced t (chanOf v.off) (rankOf v.off) = false) (ready : s.rankHeld t (chanOf v.off) (rankOf v.off) = false)
    (untagged : v.line.integrity = false) (new : (s.chan t (chanOf v.off)).entry v.off = none)
    (room : s.poolRoom v.cls ((s.chan t (chanOf v.off)).writes.map (·.cls)) = true)
    (spent : s.get (eccBase t) ECC_INJ_CTL_COUNT = 0) :
    Completes (.victimBufferOffer t j) s (fun u => (u.slice t j).victims = rest ∧
      (∃ e, (u.chan t (chanOf v.off)).writes = (s.chan t (chanOf v.off)).writes ++ [e] ∧ e.off = v.off ∧ e.cls = v.cls ∧
        e.ctx = v.line.ctx) ∧
      u.cistern = s.cistern ∧ u.ctxs = s.ctxs ∧ u.exts = s.exts ∧ u.valid = s.valid ∧ u.held = s.held) := by
  obtain ⟨e, hoffset, hcls, hctx, offered⟩ := offerVictim_of_room valid hoff open_ ready untagged new room spent
  have frame := enqueueWrite_frame t (chanOf v.off) (rankOf v.off) e s
  have writes := writes_enqueueWrite (t := t) (c := chanOf v.off) (k := rankOf v.off) (s := s) e
  generalize enqueueWrite t (chanOf v.off) (rankOf v.off) e s = x at offered frame writes
  refine ⟨_, exec_victimBufferOffer hp he hr hv offered, congrArg Slice.victims (State.slice_setSlice_same _ _ _ _),
    ⟨e, writes, hoffset, hcls, hctx⟩, ?_⟩
  rw [frame]
  exact ⟨rfl, rfl, rfl, rfl, rfl⟩

end

/-! ### Refresh of the dies (R114-R116) -/

section
variable {t j die bank : Nat} {s : State}

theorem sets_setSlice {v : Slice} (h : v.sets = (s.slice t j).sets) : ((s.setSlice t j v).slice t j).sets = (s.slice t j).sets := by
  rw [State.slice_setSlice_same, h]

theorem exec_basinBankRefresh_of_asleep (h : (s.slice t j).dieSr.getLsbD die = true) :
    exec (.basinBankRefresh t j die bank) s = .next s := by
  show execBasinBankRefresh t j die bank s = _
  simp [execBasinBankRefresh, h]

theorem completes_basinBankRefresh (hd : die < 8) (hb : bank < 16) (h : (s.slice t j).dieSr.getLsbD die = false) :
    Completes (.basinBankRefresh t j die bank) s (fun u =>
      (∀ k, Sparse.get (fun _ => 0) (u.slice t j).refreshes k = Sparse.get (fun _ => 0) (s.slice t j).refreshes k +
        (if k = die * 16 + bank then 1 else 0)) ∧ (u.slice t j).sets = (s.slice t j).sets ∧ u = { s with slices := u.slices }) := by
  refine ⟨_, if_neg (by simp [h, Nat.not_le.2 hd, Nat.not_le.2 hb]), fun k => ?_, sets_setSlice (t := t) (j := j) rfl, rfl⟩
  rw [State.slice_setSlice_same]
  have counted := Sparse.get_set zeroOf (s.slice t j).refreshes (die * 16 + bank) k
    (Sparse.get zeroOf (s.slice t j).refreshes (die * 16 + bank) + 1)
  refine Eq.trans counted ?_
  split
  · next hk => subst hk; rfl
  · rfl

/-- A slice with its dies in self-refresh, or out of it, differs from before in the slice and its status register alone. -/
theorem slice_setSlice_apart {k : Nat} (v : Slice) (h : k ≠ j) : (s.setSlice t j v).slice t k = s.slice t k :=
  Sparse.get_set_ne _ _ _ (by omega)

theorem putFlag_setSlice_frame (b : Nat) (f : Fld) (x : Bool) (v : Slice) :
    (s.setSlice t j v).putFlag b f x = { s with
      slices := ((s.setSlice t j v).putFlag b f x).slices, regs := ((s.setSlice t j v).putFlag b f x).regs } := by
  have frame := (OnlyRegs.putFlag (P := fun _ => True) (OnlyRegs.refl _ (s.setSlice t j v)) (b := b) (f := f) x trivial).1
  generalize (s.setSlice t j v).putFlag b f x = u at frame ⊢
  rw [frame]
  rfl

theorem slice_putFlag (b : Nat) (f : Fld) (x : Bool) (k : Nat) : (s.putFlag b f x).slice t k = s.slice t k := by
  simp only [State.slice, State.putFlag_frame]

theorem completes_basinSelfRefreshEntry (ht : t < s.nTiers) (hj : j < 16) (h : s.basinSleeps t = true) :
    Completes (.basinSelfRefreshEntry t j) s (fun u => (u.slice t j).dieSr = 0xFF ∧
      u.flag (bsnBase t j) BSN_SLICE_STATUS_SR = true ∧ (u.slice t j).sets = (s.slice t j).sets ∧
      (∀ k, k ≠ j → k < 16 → u.slice t k = s.slice t k) ∧ u = { s with slices := u.slices, regs := u.regs }) := by
  refine ⟨sliceToSr t j s, congrArg Host.Outcome.next (if_pos (by simp [h, ht, hj])), ?_, ?_, ?_, ?_, putFlag_setSlice_frame _ _ _ _⟩
  · exact congrArg Slice.dieSr ((slice_putFlag _ _ _ j).trans (State.slice_setSlice_same _ _ _ _))
  · exact State.flag_putFlag_same _ _ _ rfl (by decide)
  · exact (congrArg Slice.sets (slice_putFlag _ _ _ j)).trans (sets_setSlice rfl)
  · exact fun k hk _ => (slice_putFlag _ _ _ k).trans (slice_setSlice_apart _ hk)

theorem completes_basinSelfRefreshExit (ht : t < s.nTiers) (hj : j < 16) (h : s.basinSleeps t = false) :
    Completes (.basinSelfRefreshExit t j) s (fun u => (u.slice t j).dieSr = 0 ∧
      u.flag (bsnBase t j) BSN_SLICE_STATUS_SR = false ∧ (u.slice t j).sets = (s.slice t j).sets ∧
      (∀ k, k ≠ j → k < 16 → u.slice t k = s.slice t k) ∧ u = { s with slices := u.slices, regs := u.regs }) := by
  refine ⟨sliceFromSr t j s, congrArg Host.Outcome.next (if_pos (by simp [h, ht, hj])), ?_, ?_, ?_, ?_, putFlag_setSlice_frame _ _ _ _⟩
  · exact congrArg Slice.dieSr ((slice_putFlag _ _ _ j).trans (State.slice_setSlice_same _ _ _ _))
  · exact State.flag_putFlag_same _ _ _ rfl (by decide)
  · exact (congrArg Slice.sets (slice_putFlag _ _ _ j)).trans (sets_setSlice rfl)
  · exact fun k hk _ => (slice_putFlag _ _ _ k).trans (slice_setSlice_apart _ hk)

theorem getLsbD_or_bit8 (x : BitVec 8) {k : Nat} (hk : k < 8) :
    (x ||| BitVec.ofNat 8 (2 ^ die)).getLsbD k = (x.getLsbD k || decide (k = die)) := by
  rw [BitVec.getLsbD_or, getLsbD_ofNat_two_pow]
  simp [hk, eq_comm]

theorem completes_dieClockLossSelfRefresh (hd : die < 8) (h : (s.slice t j).dieSr.getLsbD die = false) :
    Completes (.dieClockLossSelfRefresh t j die) s (fun u =>
      (∀ k, k < 8 → (u.slice t j).dieSr.getLsbD k = ((s.slice t j).dieSr.getLsbD k || decide (k = die))) ∧
      (u.slice t j).dieLoss.getLsbD die = true ∧ (u.slice t j).sets = (s.slice t j).sets ∧
      u = { s with slices := u.slices }) := by
  refine ⟨_, if_neg (by simp [h, Nat.not_le.2 hd]), fun k hk => ?_, ?_, sets_setSlice rfl, rfl⟩
  · rw [State.slice_setSlice_same]
    exact getLsbD_or_bit8 _ hk
  · rw [State.slice_setSlice_same]
    exact (getLsbD_or_bit8 _ hd).trans (by simp)

end
end Sys2Proof.Machine

namespace Sys2Proof.Machine
open Sys2Proof.Safety

/-! ### The first reading (R114, R484) -/

/-- A sensor with its first reading, which sets its die's refresh flags directly. -/
def Sensor.first (x : Sensor) (v : Int) : Sensor :=
  { x with reading := v, above85 := decide (680 < v), above45 := decide (360 ≤ v), run85 := 0, run45 := 0 }

/-- The first readings of the dies from number `n` on. -/
def readDies (t n : Nat) (dies : List Int) (s : State) : State :=
  forEach (dies.zipIdx n) (fun e u => u.setSensor t (8 + e.2) ((u.sensor t (8 + e.2)).first e.1)) s

section
variable {t : Nat} {s : State}

theorem State.sensor_setSensor (t k d : Nat) (x : Sensor) (s : State) :
    (s.setSensor t k x).sensor t d = if d = k then x else s.sensor t d := by
  refine (Sparse.get_set _ _ _ _ _).trans ?_
  simp only [Nat.add_left_cancel_iff]
  rfl

theorem readDies_cons (n : Nat) (v : Int) (dies : List Int) (s : State) :
    readDies t n (v :: dies) s = readDies t (n + 1) dies (s.setSensor t (8 + n) ((s.sensor t (8 + n)).first v)) := rfl

/-- The dies before number `n` keep their sensors. -/
theorem sensor_readDies_before {n d : Nat} (h : d < n) (dies : List Int) (s : State) :
    (readDies t n dies s).sensor t (8 + d) = s.sensor t (8 + d) := by
  induction dies generalizing n s with
  | nil => rfl
  | cons v dies ih => rw [readDies_cons, ih (by omega), State.sensor_setSensor, if_neg (by omega)]

theorem sensor_readDies {n d : Nat} (dies : List Int) (s : State) (h : d < dies.length) :
    (readDies t n dies s).sensor t (8 + (n + d)) = (s.sensor t (8 + (n + d))).first (dies.getD d 0) := by
  induction dies generalizing n d s with
  | nil => simp at h
  | cons v dies ih =>
    rw [readDies_cons]
    cases d with
    | zero => rw [sensor_readDies_before (by omega), State.sensor_setSensor, if_pos (by omega)]; rfl
    | succ d =>
      have next : n + (d + 1) = n + 1 + d := by omega
      rw [next, ih _ (by simpa using h), State.sensor_setSensor, if_neg (by omega)]
      rfl

theorem setSensor_frame (t k : Nat) (x : Sensor) (s : State) : s.setSensor t k x = { s with sensors := (s.setSensor t k x).sensors } := rfl

theorem readDies_frame (t n : Nat) (dies : List Int) (s : State) :
    readDies t n dies s = { s with sensors := (readDies t n dies s).sensors } := by
  induction dies generalizing n s with
  | nil => rfl
  | cons v dies ih =>
    rw [readDies_cons]
    have first := setSensor_frame t (8 + n) ((s.sensor t (8 + n)).first v) s
    generalize s.setSensor t (8 + n) ((s.sensor t (8 + n)).first v) = u at first ⊢
    have rest := ih (n + 1) u
    generalize readDies t (n + 1) dies u = w at rest ⊢
    rw [rest, first]

/-- The state after the first readings of a tier's dies, before the refresh rate is set. -/
def sensed (t : Nat) (dies : List Int) (s : State) : State :=
  (readDies t 0 dies s).setHeat t { (readDies t 0 dies s).tierHeat t with sensed := true }

theorem sensed_frame (t : Nat) (dies : List Int) (s : State) :
    sensed t dies s = { s with sensors := (sensed t dies s).sensors, heat := (sensed t dies s).heat } := by
  have frame := readDies_frame t 0 dies s
  unfold sensed
  generalize readDies t 0 dies s = u at frame ⊢
  rw [frame]
  rfl

theorem sensor_sensed {dies : List Int} {d : Nat} (h : d < dies.length) :
    (sensed t dies s).sensor t (8 + d) = (s.sensor t (8 + d)).first (dies.getD d 0) := by
  have read := sensor_readDies (t := t) (n := 0) dies s h
  rw [Nat.zero_add] at read
  exact read

theorem State.tierHeat_setHeat_same (t : Nat) (h : TierHeat) (s : State) : (s.setHeat t h).tierHeat t = h := Sparse.get_set_same _ _ _ _

theorem tierHeat_sensed (t : Nat) (dies : List Int) (s : State) : ((sensed t dies s).tierHeat t).sensed = true :=
  congrArg TierHeat.sensed (State.tierHeat_setHeat_same t { (readDies t 0 dies s).tierHeat t with sensed := true } _)

/-! #### The rate of the hottest die -/

theorem foldl_max_of_top {f : Nat → Nat} {b : Nat} (l : List Nat) (m : Nat) (h : ∀ d ∈ l, f d ≤ b) (hm : m ≤ b)
    (top : m = b ∨ ∃ d ∈ l, f d = b) : l.foldl (fun m d => max m (f d)) m = b := by
  induction l generalizing m with
  | nil => simpa using top
  | cons x l ih =>
    refine ih _ (fun d hd => h d (by simp [hd])) (max_le hm (h x (by simp))) ?_
    obtain rfl | ⟨d, hd, e⟩ := top
    · exact .inl (max_eq_left (h x (by simp)))
    · obtain rfl | hd := List.mem_cons.1 hd
      · exact .inl ((max_eq_right (hm.trans_eq e.symm)).trans e)
      · exact .inr ⟨d, hd, e⟩

/-- The refresh rate of a slice follows the hottest die. -/
def State.dieRates (s : State) (t : Nat) : Nat := (upto 8).foldl (fun m d => max m (s.dieRate t d)) 0

theorem dieRate_le (s : State) (t d : Nat) : s.dieRate t d ≤ 2 := by
  unfold State.dieRate
  dsimp only
  split
  · exact le_refl _
  · split <;> omega

theorem dieRates_of_above85 {d : Nat} (hd : d < 8) (h : (s.sensor t (8 + d)).above85 = true) : s.dieRates t = 2 :=
  foldl_max_of_top _ _ (fun _ _ => dieRate_le _ _ _) (by decide) (.inr ⟨d, mem_upto.2 hd, by simp [State.dieRate, h]⟩)

theorem dieRates_of_cool (on : s.flag (bsnBase t 0) BSN_TIER_CFG_TCR_EN = true)
    (h : ∀ d, d < 8 → (s.sensor t (8 + d)).above85 = false ∧ (s.sensor t (8 + d)).above45 = false) : s.dieRates t = 0 := by
  have cool (d : Nat) (hd : d ∈ upto 8) : s.dieRate t d ≤ 0 := by
    obtain ⟨h85, h45⟩ := h d (mem_upto.1 hd)
    simp [State.dieRate, h85, h45, on]
  exact foldl_max_of_top _ _ cool (le_refl _) (.inl rfl)

theorem get_forEach_put_apart (f : Fld) (v : Nat) {j : Nat} {l : List Nat} (hj : j ∉ l) (s : State) :
    (forEach l (fun k u => u.put (bsnBase t k) f v) s).get (bsnBase t j) f = s.get (bsnBase t j) f := by
  induction l generalizing s with
  | nil => rfl
  | cons k l ih =>
    obtain ⟨hk, hl⟩ : j ≠ k ∧ j ∉ l := by simpa using hj
    rw [forEach_cons, ih hl, State.get_put_register]
    simp only [bsnBase]; omega

/-- A field written to a list of slices' registers reads back at each of them. -/
theorem get_forEach_put {f : Fld} (hf : f.lo ≤ f.hi) (hw : f.hi < 64) (v : Nat) {j : Nat} {l : List Nat} (hj : j ∈ l) (s : State) :
    (forEach l (fun k u => u.put (bsnBase t k) f v) s).get (bsnBase t j) f = v % 2 ^ (f.hi + 1 - f.lo) := by
  induction l generalizing s with
  | nil => simp at hj
  | cons k l ih =>
    rw [forEach_cons]
    by_cases more : j ∈ l
    · exact ih more _
    · obtain rfl | hj := List.mem_cons.1 hj
      · rw [get_forEach_put_apart f v more, State.get_put_same _ _ _ _ hf hw]
      · exact absurd hj more

theorem setRefrate_onlyRegs (t : Nat) (s : State) : OnlyRegs (fun _ => True) s (setRefrate t s) :=
  forEach_keeps (fun u => OnlyRegs (fun _ => True) s u) _ _ (fun _ _ h => OnlyRegs.put h _ trivial) s (OnlyRegs.refl _ s)

theorem setRefrate_kept (t : Nat) (s : State) : (setRefrate t s).heat = s.heat ∧ (setRefrate t s).sensors = s.sensors := by
  have frame := (setRefrate_onlyRegs t s).1
  generalize setRefrate t s = u at frame ⊢
  rw [frame]
  exact ⟨rfl, rfl⟩

theorem get_setRefrate {j : Nat} (hj : j < 16) (hr : s.dieRates t < 4) :
    (setRefrate t s).get (bsnBase t j) BSN_SLICE_STATUS_REFRATE = s.dieRates t :=
  (get_forEach_put (f := BSN_SLICE_STATUS_REFRATE) (by decide) (by decide) (s.dieRates t) (mem_upto.2 hj) s).trans (Nat.mod_eq_of_lt hr)

theorem exec_firstSensorReading {dies : List Int} (ht : t < s.nTiers) (hs : (s.tierHeat t).sensed = false)
    (hm : s.pkgMode.mode = .up) (hp : (s.tier t).power ≠ 3) (hl : dies.length = 8) :
    exec (.firstSensorReading t dies) s = .next (setRefrate t (sensed t dies s)) :=
  if_neg (by simp [hs, hm, hp, hl, Nat.not_le.2 ht])

theorem completes_firstSensorReading {dies : List Int} (ht : t < s.nTiers) (hs : (s.tierHeat t).sensed = false)
    (hm : s.pkgMode.mode = .up) (hp : (s.tier t).power ≠ 3) (hl : dies.length = 8) :
    Completes (.firstSensorReading t dies) s (fun u => (u.tierHeat t).sensed = true ∧
      (∀ d, d < 8 → (u.sensor t (8 + d)).reading = dies.getD d 0 ∧ (u.sensor t (8 + d)).above85 = decide (680 < dies.getD d 0)) ∧
      (∀ j, j < 16 → (∃ v ∈ dies, 680 < v) → u.get (bsnBase t j) BSN_SLICE_STATUS_REFRATE = 2) ∧
      (∀ j, j < 16 → (∀ v ∈ dies, v < 360) → s.flag (bsnBase t 0) BSN_TIER_CFG_TCR_EN = true →
        u.get (bsnBase t j) BSN_SLICE_STATUS_REFRATE = 0) ∧
      u = { s with sensors := u.sensors, heat := u.heat, regs := u.regs }) := by
  have frame := (setRefrate_onlyRegs t (sensed t dies s)).1
  obtain ⟨heat, sensors⟩ := setRefrate_kept t (sensed t dies s)
  have read (d : Nat) (hd : d < 8) : (sensed t dies s).sensor t (8 + d) = (s.sensor t (8 + d)).first (dies.getD d 0) :=
    sensor_sensed (by omega)
  refine ⟨_, exec_firstSensorReading ht hs hm hp hl, ?_, fun d hd => ?_, fun j hj hot => ?_, fun j hj cool on => ?_, ?_⟩
  · rw [State.tierHeat, heat]
    exact tierHeat_sensed t dies s
  · have same : (setRefrate t (sensed t dies s)).sensor t (8 + d) = (sensed t dies s).sensor t (8 + d) := by
      simp only [State.sensor, sensors]
    rw [same, read d hd]
    exact ⟨rfl, rfl⟩
  · obtain ⟨v, hv, above⟩ := hot
    obtain ⟨d, hd, rfl⟩ := List.mem_iff_getElem.1 hv
    have top : (sensed t dies s).dieRates t = 2 := dieRates_of_above85 (hl ▸ hd) (by
      rw [read d (hl ▸ hd), List.getD_eq_getElem _ _ hd]
      exact decide_eq_true above)
    rw [get_setRefrate hj (by omega), top]
  · have low (d : Nat) (hd : d < 8) : dies.getD d 0 < 360 := by
      rw [List.getD_eq_getElem _ _ (hl ▸ hd)]
      exact cool _ (List.getElem_mem _)
    have flag : (sensed t dies s).flag (bsnBase t 0) BSN_TIER_CFG_TCR_EN = true :=
      (State.flag_of_regs (by rw [sensed_frame]) _ _).trans on
    have bottom : (sensed t dies s).dieRates t = 0 := dieRates_of_cool flag (fun d hd => by
      have := low d hd
      rw [read d hd]
      exact ⟨decide_eq_false (by omega), decide_eq_false (by omega)⟩)
    rw [get_setRefrate hj (by omega), bottom]
  · have before := sensed_frame t dies s
    generalize sensed t dies s = u at frame before ⊢
    generalize setRefrate t u = w at frame ⊢
    rw [frame, before]

end
end Sys2Proof.Machine

namespace Sys2Proof.Machine
open Sys2Proof.Safety

/-- Settles O14: a sample by what the heat table holds of its page, and each of the other steps by the state it leaves. -/
theorem basinUpkeep : Obligations.BasinUpkeep := by
  unfold Obligations.BasinUpkeep
  refine ⟨⟨?heat, fun t j s hj ht hoff due => completes_heatDecay hj ht hoff due, ?offer⟩, ?refresh, ?asleep, ?reading⟩
  case heat =>
    intro t j c page s on awake tier jet serves hp
    have samples : Samples t j s := ⟨on, awake, tier, jet, serves⟩
    intro key stored put
    refine ⟨fun off hs => ?_, fun off hs hl => ?_, fun hs hl hot bounded => ?_, fun auto hs allocates share reached => ?_⟩
    · have counted : min 256 (stored + 1) = min 255 stored + 1 := by omega
      have sampled := (samples.counted (c := c) (page := page) hs).trans (congrArg _ (promoteHot_of_off key off))
      rw [← counted]
      exact sampled
    · exact (samples.placed (c := c) (page := page) hs hl).trans (congrArg _ (promoteHot_of_off key off))
    · exact samples.missed (c := c) (page := page) hs hl hot bounded
    · exact completes_heatSample_hot (c := c) (page := page) samples hp auto hs allocates share reached
  case offer =>
    intro t j v rest s hp he hr hv
    refine ⟨fun gone => exec_victimBufferOffer hp he hr hv (if_pos (by simp [gone])),
      fun valid hoff open_ ready untagged new room spent =>
        completes_victimBufferOffer hp he hr hv valid hoff open_ ready untagged new room spent⟩
  case refresh =>
    exact fun t j die bank s hd hb => ⟨completes_basinBankRefresh hd hb, exec_basinBankRefresh_of_asleep⟩
  case asleep =>
    exact fun t j s ht _ hj => ⟨completes_basinSelfRefreshEntry ht hj, completes_basinSelfRefreshExit ht hj,
      fun die hd h => completes_dieClockLossSelfRefresh hd h⟩
  case reading =>
    exact fun t dies s ht _ hs hm hp hl => completes_firstSensorReading ht hs hm hp hl

end Sys2Proof.Machine

/-! Failing signal pairs, and the flush of a narrowed slice (R100, R319, R321-R324). -/

namespace Sys2Proof.Machine
open Sys2Proof.Safety

/-! ### What the loss of a runnel does elsewhere -/

/-- `u` keeps the basin's registers, its slices but for their victim buffers, the migrations and the repair state. -/
structure BasinKept (s u : State) : Prop where
  regs : ∀ o, basinReg o → u.reg o = s.reg o
  lines : ∀ t j, (u.slice t j).sets = (s.slice t j).sets ∧ (u.slice t j).dirtyExt = (s.slice t j).dirtyExt ∧
    (u.slice t j).flush = (s.slice t j).flush
  migrations : u.migrations = s.migrations
  repair : u.repair = s.repair

section
variable {s t u : State}

theorem BasinKept.refl (s : State) : BasinKept s s := ⟨fun _ _ => rfl, fun _ _ => ⟨rfl, rfl, rfl⟩, rfl, rfl⟩

theorem BasinKept.trans (h : BasinKept s t) (k : BasinKept t u) : BasinKept s u where
  regs o ho := (k.regs o ho).trans (h.regs o ho)
  lines n j := by
    obtain ⟨sets, ext, flush⟩ := h.lines n j
    obtain ⟨sets', ext', flush'⟩ := k.lines n j
    exact ⟨sets'.trans sets, ext'.trans ext, flush'.trans flush⟩
  migrations := k.migrations.trans h.migrations
  repair := k.repair.trans h.repair

theorem BasinKept.ofSlices (regs : ∀ o, basinReg o → u.reg o = s.reg o) (slices : u.slices = s.slices)
    (migrations : u.migrations = s.migrations) (repair : u.repair = s.repair) : BasinKept s u :=
  ⟨regs, fun t j => by simp only [State.slice, slices]; exact ⟨trivial, trivial, trivial⟩, migrations, repair⟩

theorem BasinKept.ofCistern (h : CisternWork s t) : BasinKept s t := by
  obtain ⟨slices, migrations, repair⟩ : t.slices = s.slices ∧ t.migrations = s.migrations ∧ t.repair = s.repair := by
    have frame := h.frame
    generalize t = u at frame ⊢
    rw [frame]
    exact ⟨rfl, rfl, rfl⟩
  exact .ofSlices h.regs slices migrations repair

theorem BasinKept.ofReports (h : Reports s t) : BasinKept s t := .ofCistern (.ofReports h)

theorem BasinKept.ite {c : Prop} [Decidable c] (h : BasinKept s t) (k : BasinKept s u) : BasinKept s (if c then t else u) := by
  split <;> assumption

theorem BasinKept.forEach {α : Type} (h : BasinKept s t) (l : List α) (f : α → State → State) (hf : ∀ a u, BasinKept u (f a u)) :
    BasinKept s (forEach l f t) := by
  induction l generalizing t with
  | nil => exact h
  | cons a l ih => exact ih (h.trans (hf a t))

theorem BasinKept.setReg (h : BasinKept s t) {o : Nat} (v : DWord) (ho : ¬basinReg o) : BasinKept s (t.setReg o v) :=
  h.trans (.ofCistern ((CisternWork.refl t).setReg v ho))

theorem not_basinReg_package {o : Nat} (h : o < 0x100000) : ¬basinReg o := fun k => Nat.not_le.2 h k.1

theorem BasinKept.raise (h : BasinKept s t) (src kind level addr detail : Nat) :
    BasinKept s (Machine.raise src kind level addr detail t) := h.trans (.ofReports (raise_reports _ _ _ _ _ _))

/-- A slice's victim buffer is not among what is kept. -/
theorem BasinKept.setVictims (h : BasinKept s t) (n j : Nat) (l : List Victim) :
    BasinKept s (t.setSlice n j { t.slice n j with victims := l }) := by
  refine h.trans ⟨fun _ _ => rfl, fun n' j' => ?_, rfl, rfl⟩
  by_cases same : n' * 16 + j' = n * 16 + j
  · have moved : (t.setSlice n j { t.slice n j with victims := l }).slice n' j' = { t.slice n j with victims := l } := by
      unfold State.slice State.setSlice
      rw [same, Sparse.get_set_same]
    have old : t.slice n' j' = t.slice n j := by unfold State.slice; rw [same]
    rw [moved, old]
    exact ⟨rfl, rfl, rfl⟩
  · have other : (t.setSlice n j { t.slice n j with victims := l }).slice n' j' = t.slice n' j' := Sparse.get_set_ne _ _ _ same
    rw [other]
    exact ⟨rfl, rfl, rfl⟩

/-! #### Registers of a slice -/

theorem basinReg_slice {t j i : Nat} (hj : j < 16) (hi : i < 0x400) : basinReg (bsnBase t j + i) := by
  simp only [basinReg, bsnBase, tierBase]; omega

theorem BasinKept.get (h : BasinKept s u) (t : Nat) {j : Nat} {f : Fld} (hj : j < 16) (hf : f.off < 0x400) :
    u.get (bsnBase t j) f = s.get (bsnBase t j) f := by
  simp only [State.get, h.regs _ (basinReg_slice hj hf)]

theorem BasinKept.width (h : BasinKept s u) (t : Nat) {j : Nat} (hj : j < 16) : u.width t j = s.width t j := h.get t hj (by decide)

theorem BasinKept.flag (h : BasinKept s u) (t : Nat) {f : Fld} (hf : f.off < 0x400) :
    u.flag (bsnBase t 0) f = s.flag (bsnBase t 0) f := by simp only [State.flag, h.get t (j := 0) (by decide) hf]

/-! #### The weirs are told (R39, R207) -/

theorem setMissBit_basinKept (c : Nat) (s : State) : BasinKept s (setMissBit c s) := by
  have set (o : Nat) (ho : o < 0x100000) (b : Bool) : BasinKept s (s.setRegBit o c b) :=
    (BasinKept.refl s).setReg _ (not_basinReg_package ho)
  unfold setMissBit
  dsimp only
  exact .ite (.refl s) (.ite (set _ (by decide) _) ((set _ (by decide) _).trans (.ofSlices (fun _ _ => rfl) rfl rfl rfl)))

theorem reportGroup_basinKept {t : Nat} (ht : t < 8) (s : State) : BasinKept s (reportGroup t s) := by
  have guaranteed (l : List Nat) (f : Nat → Nat) : BasinKept s (forEach l (fun c u =>
      { u with effective := Sparse.set (fun _ => 0) u.effective (t * 64 + c) (f c) }) s) :=
    (BasinKept.refl s).forEach _ _ (fun _ _ => .ofSlices (fun _ _ => rfl) rfl rfl rfl)
  have shown (i : Nat) (hi : i < 0x100) : ¬basinReg (weirBase + 0x40 + 0x10 * t + i) :=
    not_basinReg_package (by simp only [weirBase]; omega)
  have told (l : List Nat) (u : State) (h : BasinKept s u) : BasinKept s (forEach l setMissBit u) :=
    h.forEach _ _ setMissBit_basinKept
  have written (l : List Nat) (f : Nat → Nat) (a b c d e : DWord) := (((((guaranteed l f).setReg a (shown 0 (by decide))).setReg b
    (shown 4 (by decide))).setReg c (shown 8 (by decide))).setReg d (shown 0xC (by decide))).setReg (o := weirBase + 0x20) e
    (not_basinReg_package (by decide))
  unfold reportGroup
  dsimp only
  exact .ite ((told _ _ (written _ _ _ _ _ _ _)).raise _ _ _ _ _) (told _ _ (written _ _ _ _ _ _ _))

end
end Sys2Proof.Machine

namespace Sys2Proof.Machine
open Sys2Proof.Safety

/-! ### A lost runnel (R100, R324, R325) -/

/-- `u` keeps the basin's registers but those of `P`, the migrations and the repair state. -/
structure KeepsBut (P : Nat → Prop) (s u : State) : Prop where
  regs : ∀ o, basinReg o → ¬P o → u.reg o = s.reg o
  migrations : u.migrations = s.migrations
  repair : u.repair = s.repair

section
variable {P : Nat → Prop} {t j : Nat} {s u v : State}

theorem KeepsBut.refl (P : Nat → Prop) (s : State) : KeepsBut P s s := ⟨fun _ _ _ => rfl, rfl, rfl⟩

theorem KeepsBut.trans (h : KeepsBut P s u) (k : KeepsBut P u v) : KeepsBut P s v :=
  ⟨fun o ho hne => (k.regs o ho hne).trans (h.regs o ho hne), k.migrations.trans h.migrations, k.repair.trans h.repair⟩

theorem KeepsBut.ofKept (h : BasinKept s u) : KeepsBut P s u := ⟨fun o ho _ => h.regs o ho, h.migrations, h.repair⟩
theorem KeepsBut.ofCistern (h : CisternWork s u) : KeepsBut P s u := .ofKept (.ofCistern h)

theorem KeepsBut.setReg (h : KeepsBut P s u) {o : Nat} (x : DWord) (ho : basinReg o → P o) : KeepsBut P s (u.setReg o x) :=
  h.trans ⟨fun _ hb hne => State.reg_setReg_ne u x (by rintro rfl; exact hne (ho hb)), by simp only [State.setReg_frame],
    by simp only [State.setReg_frame]⟩

theorem KeepsBut.setSlice (h : KeepsBut P s u) (n k : Nat) (sl : Slice) : KeepsBut P s (u.setSlice n k sl) :=
  h.trans ⟨fun _ _ _ => rfl, rfl, rfl⟩

theorem KeepsBut.forEach {α : Type} (l : List α) (f : α → State → State) (hf : ∀ a u, KeepsBut P u (f a u)) (s : State) :
    KeepsBut P s (forEach l f s) := by
  induction l generalizing s with
  | nil => exact .refl P s
  | cons a l ih => exact (hf a s).trans (ih _)

/-! #### Dirty extents (R325) -/

/-- Markers written to a list of lines, and counted. -/
theorem keepsBut_markers (o : Nat) (l : List Nat) (f : Nat → State → Acc) (s : State) (ho : P o) :
    KeepsBut P s ((forEach l (fun o u => writeMarker (f o u) u) s).count o l.length) :=
  (KeepsBut.ofCistern ((CisternWork.refl s).forEach _ _ (fun _ _ w => (CisternWork.refl w).writeMarker _))).setReg _ (fun _ => ho)

theorem poisonExtent_keepsBut (t j e : Nat) (s : State) (hp : P (bsnBase t 0 + 0x298)) : KeepsBut P s (poisonExtent t j e s) := by
  unfold poisonExtent
  extract_lets offs lines own marked
  exact keepsBut_markers _ lines _ s hp

theorem poisonMarked_keepsBut (t j : Nat) (s : State) (hp : P (bsnBase t 0 + 0x298)) : KeepsBut P s (poisonMarked t j s) :=
  (KeepsBut.forEach _ _ (fun e u => poisonExtent_keepsBut t j e u hp) s).trans
    (.forEach _ _ (fun c u => .ofCistern ((CisternWork.refl u).raiseCtx _ _ c)) _)

/-- Victims of the lost slice leave the basin's registers and the other lines alone (R324). -/
theorem moveVictims_basinKept (t : Nat) (l : List Victim) (s : State) : BasinKept s (moveVictims t l s) := by
  refine (BasinKept.refl s).forEach _ _ (fun v u => ?_)
  have written := (CisternWork.refl u).writeCistern { victimAcc t v with force := true } v.line.data
    (v.line.code = .marker || v.line.code = .uncorrectable)
  dsimp only
  by_cases valid : u.pageValid t v.off = true
  · rw [if_pos valid]
    split
    · next heq => exact .ofCistern (written _ heq)
    · exact (BasinKept.refl u).setVictims _ _ _
  · rw [if_neg valid]
    exact .refl u

theorem complete_basinKept (d : DescRef) (status result : Nat) (s : State) : BasinKept s (complete d status result s) := by
  unfold complete
  split
  · exact .refl s
  · have queued (c : Cpl) (l : List Fetched) : BasinKept s (queueCpl c { s with fetched := l }) := .ofSlices (fun _ _ => rfl) rfl rfl rfl
    exact .ite ((queued _ _).raise _ _ _ _ _) (queued _ _)

theorem trimHistory_basinKept (s : State) : BasinKept s (trimHistory s) := by
  have trimmed (m : Meter) : BasinKept s (s.meterSet m) := .ofSlices (fun _ _ => rfl) rfl rfl rfl
  have answered (l : List MeterWait) (u : State) (h : BasinKept s u) : BasinKept s (forEach l (fun w v => complete w.desc 0x02 0 v) u) :=
    h.forEach _ _ (fun _ _ => complete_basinKept _ _ _ _)
  exact ((answered _ _ (trimmed _)).setReg (o := mtrBase + 0x18) _ (not_basinReg_package (by decide))).setReg (o := mtrBase + 0xC) _
    (not_basinReg_package (by decide))

end

/-! #### The slice map (R100) -/

/-- The register of an entry of the slice map, and the runnel that the entry names. -/
def mapReg (t v : Nat) : Nat := bsnBase t 0 + 0x210 + 4 * (v / 8)
def State.mapEntry (s : State) (t v : Nat) : Nat := bitsAt (s.reg (mapReg t v)).toNat (4 * (v % 8) + 3) (4 * (v % 8))

/-- Runnels that can take over the entries of runnel `j`. -/
def State.alive (s : State) (t j : Nat) : List Nat := (upto 16).filter (fun r => s.width t r ≠ 2 && r ≠ j)

/-- The surviving runnel after `a`. -/
def nextAlive (alive : List Nat) (a : Nat) : Option Nat := ((upto 16).map (fun i => (a + 1 + i) % 16)).find? alive.contains

/-- One entry goes to the next surviving runnel. -/
def giveEntry (t : Nat) (alive : List Nat) (v : Nat) (x : State × Nat) : State × Nat :=
  match nextAlive alive x.2 with
  | none => x
  | some r => (x.1.setReg (mapReg t v) (BitVec.ofNat 64 (setBits (x.1.reg (mapReg t v)).toNat (4 * (v % 8) + 3) (4 * (v % 8)) r)), r)

section
variable {t j : Nat} {s : State}

theorem rewriteMap_eq (t j : Nat) (s : State) : rewriteMap t j s =
    (forEach ((upto 64).filter (fun v => s.mapEntry t v = j)) (giveEntry t (s.alive t j)) (s, j)).1 := rfl

theorem nextAlive_some {alive : List Nat} {r : Nat} (hr : r ∈ alive) (lt : r < 16) (a : Nat) :
    ∃ q, nextAlive alive a = some q ∧ q ∈ alive := by
  cases found : nextAlive alive a with
  | some q => exact ⟨q, rfl, by simpa using List.find?_some found⟩
  | none =>
    have all := List.find?_eq_none.1 found r (List.mem_map.2 ⟨(r + 15 - a % 16) % 16, mem_upto.2 (Nat.mod_lt _ (by decide)), by omega⟩)
    exact absurd (List.contains_iff_mem.2 hr) all

theorem mapEntry_setReg (v w r : Nat) (hr : r < 16) (s : State) :
    (s.setReg (mapReg t v) (BitVec.ofNat 64 (setBits (s.reg (mapReg t v)).toNat (4 * (v % 8) + 3) (4 * (v % 8)) r))).mapEntry t w =
      if w = v then r else s.mapEntry t w := by
  have small : setBits (s.reg (mapReg t v)).toNat (4 * (v % 8) + 3) (4 * (v % 8)) r < 2 ^ 64 :=
    setBits_lt (s.reg (mapReg t v)).isLt (by omega) (by omega)
  unfold State.mapEntry
  by_cases same : mapReg t w = mapReg t v
  · rw [same, State.reg_setReg_same, BitVec.toNat_ofNat, Nat.mod_eq_of_lt small]
    split
    · next eq =>
      subst eq
      rw [bitsAt_setBits_same _ _ _ _ (by omega), show 4 * (w % 8) + 3 + 1 - 4 * (w % 8) = 4 by omega]
      exact Nat.mod_eq_of_lt hr
    · next ne =>
      have apart : w % 8 ≠ v % 8 := by simp only [mapReg] at same; omega
      exact bitsAt_setBits_other _ _ _ _ _ _ (by omega) (by omega) (by omega)
  · rw [State.reg_setReg_ne _ _ same, if_neg (by rintro rfl; exact same rfl)]

/-- After a rewrite no entry names the lost runnel while another serves. -/
theorem mapEntry_rewriteMap {r : Nat} (hr : r < 16) (hj : r ≠ j) (alive : s.width t r ≠ 2) {v : Nat} (hv : v < 64) :
    (rewriteMap t j s).mapEntry t v ≠ j := by
  have mem : r ∈ s.alive t j := by simp [State.alive, mem_upto, hr, hj, alive]
  have give (l : List Nat) (x : State × Nat) (h : ∀ w, w < 64 → x.1.mapEntry t w = j → w ∈ l) :
      ∀ w, w < 64 → (forEach l (giveEntry t (s.alive t j)) x).1.mapEntry t w ≠ j := by
    induction l generalizing x with
    | nil => exact fun w hw eq => by simpa using h w hw eq
    | cons a l ih =>
      rw [forEach_cons]
      refine ih _ (fun w hw => ?_)
      obtain ⟨q, next, hq⟩ := nextAlive_some mem hr x.2
      obtain ⟨lt, -, other⟩ : q < 16 ∧ s.width t q ≠ 2 ∧ q ≠ j := by simpa [State.alive, mem_upto] using hq
      rw [giveEntry, next]
      dsimp only
      rw [mapEntry_setReg a w q lt]
      split
      · exact fun eq => absurd eq other
      · next ne => exact fun eq => (List.mem_cons.1 (h w hw eq)).resolve_left ne
  rw [rewriteMap_eq]
  exact give _ _ (fun w hw eq => List.mem_filter.2 ⟨mem_upto.2 hw, by simpa using eq⟩) v hv

theorem rewriteMap_onlyRegs (t j : Nat) (s : State) : OnlyRegs (fun o => ∃ v < 64, o = mapReg t v) s (rewriteMap t j s) := by
  rw [rewriteMap_eq]
  have give (l : List Nat) (hl : ∀ v ∈ l, v < 64) (x : State × Nat) (h : OnlyRegs (fun o => ∃ v < 64, o = mapReg t v) s x.1) :
      OnlyRegs (fun o => ∃ v < 64, o = mapReg t v) s (forEach l (giveEntry t (s.alive t j)) x).1 := by
    induction l generalizing x with
    | nil => exact h
    | cons a l ih =>
      rw [forEach_cons]
      refine ih (fun v hv => hl v (by simp [hv])) _ ?_
      unfold giveEntry
      split
      · exact h
      · exact h.setReg _ ⟨a, hl a (by simp), rfl⟩
  exact give _ (fun v hv => mem_upto.1 (List.mem_filter.1 hv).1) (s, j) (OnlyRegs.refl _ s)

end
end Sys2Proof.Machine

namespace Sys2Proof.Machine
open Sys2Proof.Safety

/-! #### The steps of a loss (R324) -/

section
variable {P : Nat → Prop} {t j : Nat} {s u : State}

/-- A runnel that is lost and keeps no line. -/
structure LostRunnel (t j : Nat) (u : State) : Prop where
  width : u.width t j = 2
  sets : (u.slice t j).sets = []
  dirtyExt : (u.slice t j).dirtyExt = []
  flush : (u.slice t j).flush = none

theorem LostRunnel.keep (h : LostRunnel t j s) (k : BasinKept s u) (hj : j < 16) : LostRunnel t j u := by
  obtain ⟨sets, ext, flush⟩ := k.lines t j
  exact ⟨(k.width t hj).trans h.width, sets.trans h.sets, ext.trans h.dirtyExt, flush.trans h.flush⟩

theorem OnlyRegs.slices (h : OnlyRegs P s u) : u.slices = s.slices := by
  have frame := h.1
  generalize u = v at frame ⊢
  rw [frame]

theorem LostRunnel.onlyRegs (h : LostRunnel t j s) (k : OnlyRegs P s u) (hp : ¬P (bsnBase t j)) : LostRunnel t j u := by
  have width : u.width t j = s.width t j := by
    have same : u.reg (bsnBase t j + BSN_SLICE_STATUS_WIDTH.off) = s.reg (bsnBase t j + BSN_SLICE_STATUS_WIDTH.off) := k.2 _ hp
    simp only [State.width, State.get, same]
  have slice : u.slice t j = s.slice t j := by simp only [State.slice, OnlyRegs.slices k]
  exact ⟨width.trans h.width, slice ▸ h.sets, slice ▸ h.dirtyExt, slice ▸ h.flush⟩

theorem lostRunnel_setSlice (width : s.width t j = 2) {sl : Slice} (sets : sl.sets = []) (ext : sl.dirtyExt = []) (flush : sl.flush = none) :
    LostRunnel t j (s.setSlice t j sl) := by
  have put := State.slice_setSlice_same s t j sl
  exact ⟨width, (congrArg Slice.sets put).trans sets, (congrArg Slice.dirtyExt put).trans ext, (congrArg Slice.flush put).trans flush⟩

theorem width_put (s : State) {w : Nat} (hw : w < 4) : (s.put (bsnBase t j) BSN_SLICE_STATUS_WIDTH w).width t j = w :=
  (State.get_put_same _ _ _ _ (by decide) (by decide)).trans (Nat.mod_eq_of_lt hw)

theorem not_basinReg_jet {t i : Nat} (h : i < 0x1000) : ¬basinReg (jetBase t + i) := by
  simp only [basinReg, jetBase, tierBase]; omega

theorem KeepsBut.setJet (h : KeepsBut P s u) (n k : Nat) (x : Jet) : KeepsBut P s (u.setJet n k x) := h.trans ⟨fun _ _ _ => rfl, rfl, rfl⟩

theorem retireJet_keepsBut (hp : P (bsnBase t j)) (s : State) : KeepsBut P s (retireJet t j s) := by
  unfold retireJet
  extract_lets b s₁ s₂ s₃ jet s₄ slice s₅
  have h₁ : KeepsBut P s s₁ := (KeepsBut.refl P s).setReg _ (fun h => absurd h (not_basinReg_jet (by decide)))
  have h₂ : KeepsBut P s s₂ := h₁.setReg (o := bsnBase t j) _ (fun _ => hp)
  have h₃ : KeepsBut P s s₃ := h₂.setReg (o := jetBase t + 0xC) _ (fun h => absurd h (not_basinReg_jet (by decide)))
  have h₅ : KeepsBut P s s₅ := (h₃.setJet _ _ _).setSlice _ _ _
  exact h₅.trans (.ofCistern ((CisternWork.refl s₅).raise _ _ _ _ _))

theorem slice_setJet (x : Jet) (s : State) : (s.setJet t j x).slice t j = s.slice t j := rfl

theorem width_setJet (x : Jet) (s : State) : (s.setJet t j x).width t j = s.width t j := rfl

/-- Retiring the jet of a lost runnel leaves the runnel lost. -/
theorem LostRunnel.retireJet (h : LostRunnel t j s) (hj : j < 16) : LostRunnel t j (Machine.retireJet t j s) := by
  unfold Machine.retireJet
  extract_lets b s₁ s₂ s₃ jet s₄ slice s₅
  have h₁ : LostRunnel t j s₁ := h.onlyRegs (onlyRegs_setReg s (jetBase t + JET_STATUS_RETIRED.off) _)
    (by simp only [jetBase, bsnBase, JET_STATUS_RETIRED]; omega)
  have h₂ : s₂.width t j = 2 := (State.get_put_apart s₁ (bsnBase t j) _ (by decide)).trans h₁.width
  have h₃ : s₃.width t j = 2 := by
    have other := (onlyRegs_setReg s₂ (jetBase t + 0xC) (BitVec.ofNat 64 (setBit (s₂.reg (jetBase t + 0xC)).toNat 2 true))).2 (bsnBase t j)
      (by simp only [jetBase, bsnBase]; omega)
    exact (congrArg (fun v : DWord => bitsAt v.toNat _ _) other).trans h₂
  have slices : s₃.slices = s.slices := by simp only [s₃, s₂, s₁, State.setRegBit_frame, State.putFlag_frame, State.put_frame]
  have same : slice = s.slice t j := (slice_setJet _ s₃).trans (by simp only [State.slice, slices])
  have h₅ : LostRunnel t j s₅ := lostRunnel_setSlice (s := s₄) ((width_setJet _ s₃).trans h₃) ((congrArg Slice.sets same).trans h.sets)
    ((congrArg Slice.dirtyExt same).trans h.dirtyExt) ((congrArg Slice.flush same).trans h.flush)
  exact h₅.keep (.ofReports (raise_reports _ _ _ _ _ _)) hj

end
end Sys2Proof.Machine

namespace Sys2Proof.Machine
open Sys2Proof.Safety

section
variable {P : Nat → Prop} {t j : Nat} {s u : State}

theorem setMaps_basinKept (v : Sparse ValidLine) (g : Sparse TagSet) (s : State) : BasinKept s { s with valid := v, tagSets := g } :=
  .ofSlices (fun _ _ => rfl) rfl rfl rfl

theorem KeepsBut.onlyRegs {Q : Nat → Prop} (h : OnlyRegs Q s u) (k : ∀ o, basinReg o → Q o → P o) : KeepsBut P s u := by
  obtain ⟨migrations, repair⟩ : u.migrations = s.migrations ∧ u.repair = s.repair := by
    have frame := h.1
    generalize u = v at frame ⊢
    rw [frame]
    exact ⟨rfl, rfl⟩
  exact ⟨fun o ho hne => h.2 o (fun hq => hne (k o ho hq)), migrations, repair⟩

theorem KeepsBut.width {q : Nat} (h : KeepsBut P s u) (hq : q < 16) (hp : ¬P (bsnBase t q)) : u.width t q = s.width t q := by
  have reg : u.reg (bsnBase t q + BSN_SLICE_STATUS_WIDTH.off) = s.reg (bsnBase t q + BSN_SLICE_STATUS_WIDTH.off) :=
    h.regs _ (basinReg_slice hq (by decide)) hp
  simp only [State.width, State.get, reg]

theorem BasinKept.mapEntry (h : BasinKept s u) {v : Nat} (hv : v < 64) : u.mapEntry t v = s.mapEntry t v := by
  have reg := h.regs (mapReg t v) (by simp only [mapReg, basinReg, bsnBase, tierBase]; omega)
  simp only [State.mapEntry, reg]

theorem flag_repBit (f : Fld) (s : State) (h : f.lo = f.hi) (hw : f.hi < 64) : (repBit t f s).flag (bsnBase t 0) f = true :=
  State.flag_putFlag_same s _ true h hw

theorem repBit_onlyRegs (t : Nat) (f : Fld) (s : State) : OnlyRegs (· = bsnBase t 0 + f.off) s (repBit t f s) :=
  (OnlyRegs.refl _ s).putFlag true rfl

/-- The map without runnel `j`, as far as another runnel serves in `s`. -/
def MapSpares (t j : Nat) (s u : State) : Prop :=
  (∃ r, r < 16 ∧ r ≠ j ∧ s.width t r ≠ 2) → ∀ v, v < 64 → u.mapEntry t v ≠ j

theorem MapSpares.keep {w : State} (h : MapSpares t j s u) (k : ∀ v, v < 64 → w.mapEntry t v = u.mapEntry t v) : MapSpares t j s w :=
  fun other v hv => by rw [k v hv]; exact h other v hv

/-- A lost runnel's jet is retired with it (R324). -/
def jetGone (t j : Nat) (s : State) : State := if (s.jet t j).retired then s else retireJet t j s

/-- A lost runnel is emptied, its marked extents poisoned first (R324, R325). -/
def emptyRunnel (t j : Nat) (s : State) : State :=
  let s := poisonMarked t j s
  let s := s.put (bsnBase t j) BSN_SLICE_STATUS_WIDTH 2
  jetGone t j (s.setSlice t j { s.slice t j with sets := [], victims := [], dirtyExt := [], flush := none })

/-- The map goes to the surviving runnels, and the lost runnel's victims, tags and valid lines go with it (R100, R324). -/
def reassignRunnel (t j : Nat) (victims : List Victim) (s : State) : State :=
  let s := moveVictims t victims (rewriteMap t j s)
  let valid : Sparse ValidLine := s.valid.map (fun (e : Nat × ValidLine) =>
    let m := e.1 % 2 ^ 20 / 512 % 16
    if e.1 / 2 ^ 20 = t then
      (e.1, { e.2 with primaryBad := e.2.primaryBad || decide (m = j), shadowBad := e.2.shadowBad || decide ((m + 8) % 16 = j) })
    else e)
  let tags : Sparse TagSet := s.tagSets.map (fun (e : Nat × TagSet) =>
    if e.1 / 2 ^ 21 = t && e.1 % 2 ^ 21 / 32 % 16 = j then (e.1, { e.2 with copy0Bad := true, copy1Bad := true }) else e)
  reportGroup t { s with valid := valid, tagSets := tags }

/-- The loss of a runnel up to the migrations that it ends (R324). -/
def severRunnel (t j : Nat) (s : State) : State :=
  raiseRunnel t j 3 (repBit t BSN_REPAIR_STATUS_LOST (reassignRunnel t j (s.slice t j).victims (emptyRunnel t j s)))

/-- Migrations to tier `t` that the loss of one of its runnels ends. -/
def State.endangered (s : State) (t : Nat) : List Migration :=
  s.migrations.filter (fun m => (m.phase = .copying || m.phase = .switching) && penPkg m.dest = s.pkg && penTier m.dest = t)

theorem loseRunnel_eq (hw : s.width t j ≠ 2) : loseRunnel t j s =
    trimHistory (forEach ((severRunnel t j s).endangered t) (fun m u => endMigration m 0x0A u) (severRunnel t j s)) := by
  unfold loseRunnel
  rw [if_neg hw]
  rfl

theorem jetGone_keepsBut (hp : P (bsnBase t j)) (s : State) : KeepsBut P s (jetGone t j s) := by
  unfold jetGone
  split
  · exact .refl P s
  · exact retireJet_keepsBut hp s

theorem LostRunnel.jetGone (h : LostRunnel t j s) (hj : j < 16) : LostRunnel t j (Machine.jetGone t j s) := by
  unfold Machine.jetGone
  split
  · exact h
  · exact h.retireJet hj

/-- A runnel of the basin that is reported lost, and the slice map without it. -/
structure RunnelGone (t j : Nat) (s u : State) : Prop extends LostRunnel t j u where
  shown : u.flag (bsnBase t 0) BSN_REPAIR_STATUS_LOST = true
  map : MapSpares t j s u

theorem RunnelGone.keep {v : State} (h : RunnelGone t j s u) (k : BasinKept u v) (hj : j < 16) : RunnelGone t j s v :=
  ⟨h.toLostRunnel.keep k hj, (k.flag t (by decide)).trans h.shown, h.map.keep (fun _ hv => k.mapEntry hv)⟩

/-- The registers of the basin that a loss writes before the map: the poison count and the runnel's status. -/
def lossRegs (t j o : Nat) : Prop := o = bsnBase t 0 + 0x298 ∨ o = bsnBase t j

theorem emptyRunnel_keepsBut (t j : Nat) (s : State) : KeepsBut (lossRegs t j) s (emptyRunnel t j s) := by
  unfold emptyRunnel
  extract_lets s₁ s₂ sl
  have h₂ : KeepsBut (lossRegs t j) s s₂ := (poisonMarked_keepsBut t j s (.inl rfl)).setReg (o := bsnBase t j) _ (fun _ => .inr rfl)
  exact (h₂.setSlice _ _ _).trans (jetGone_keepsBut (.inr rfl) _)

theorem emptyRunnel_lost (hj : j < 16) (s : State) : LostRunnel t j (emptyRunnel t j s) := by
  unfold emptyRunnel
  extract_lets s₁ s₂ sl
  exact (lostRunnel_setSlice (width_put s₁ (by decide)) rfl rfl rfl).jetGone hj

/-- After the map the basin's registers, lines and repair state stand. -/
theorem reassignRunnel_kept (ht : t < 8) (l : List Victim) (s : State) : BasinKept (rewriteMap t j s) (reassignRunnel t j l s) := by
  unfold reassignRunnel
  extract_lets moved valid tags
  exact ((moveVictims_basinKept t l _).trans (setMaps_basinKept _ _ _)).trans (reportGroup_basinKept ht _)

theorem repBit_lost (hj : j < 16) (hl : LostRunnel t j u) (hm : MapSpares t j s u) :
    RunnelGone t j s (raiseRunnel t j 3 (repBit t BSN_REPAIR_STATUS_LOST u)) := by
  have bit := repBit_onlyRegs t BSN_REPAIR_STATUS_LOST u
  have gone : RunnelGone t j s (repBit t BSN_REPAIR_STATUS_LOST u) :=
    ⟨hl.onlyRegs bit (by simp only [BSN_REPAIR_STATUS_LOST, bsnBase]; omega), flag_repBit _ _ (by decide) (by decide),
      hm.keep (fun v hv => by
        have reg := bit.2 (mapReg t v) (by simp only [mapReg, BSN_REPAIR_STATUS_LOST]; omega)
        simp only [State.mapEntry, reg])⟩
  exact gone.keep ((BasinKept.refl _).raise _ _ _ _ _) hj

theorem severRunnel_gone (ht : t < 8) (hj : j < 16) (s : State) : RunnelGone t j s (severRunnel t j s) := by
  have map : MapSpares t j s (rewriteMap t j (emptyRunnel t j s)) := by
    rintro ⟨q, hq, ne, alive⟩ v hv
    have width := (emptyRunnel_keepsBut t j s).width (t := t) hq (by simp only [lossRegs, bsnBase, tierBase]; omega)
    exact mapEntry_rewriteMap hq ne (fun eq => alive (width.symm.trans eq)) hv
  have rewritten := (emptyRunnel_lost (t := t) hj s).onlyRegs (rewriteMap_onlyRegs t j _) (by simp only [mapReg, bsnBase]; omega)
  have kept := reassignRunnel_kept (j := j) ht (s.slice t j).victims (emptyRunnel t j s)
  exact repBit_lost hj (rewritten.keep kept hj) (map.keep (fun _ hv => kept.mapEntry hv))

/-- What a loss does not touch: the migrations and the repair state. -/
theorem severRunnel_keepsBut (ht : t < 8) (s : State) : KeepsBut (fun _ => True) s (severRunnel t j s) := by
  have any {P : Nat → Prop} {a b : State} (h : KeepsBut P a b) : KeepsBut (fun _ => True) a b :=
    ⟨fun _ _ h => absurd trivial h, h.migrations, h.repair⟩
  have rest := (KeepsBut.onlyRegs (P := fun _ => True) (rewriteMap_onlyRegs t j (emptyRunnel t j s)) (fun _ _ _ => trivial)).trans
    (.ofKept (reassignRunnel_kept ht (s.slice t j).victims (emptyRunnel t j s)))
  exact (((any (emptyRunnel_keepsBut t j s)).trans rest).trans (.onlyRegs (repBit_onlyRegs t _ _) (fun _ _ _ => trivial))).trans
    (.ofKept ((BasinKept.refl _).raise _ _ _ _ _))

/-- A runnel that is lost keeps no line, and the slice map names it no longer. -/
theorem loseRunnel_gone (ht : t < 8) (hj : j < 16) (hw : s.width t j ≠ 2) (hm : s.migrations = []) :
    RunnelGone t j s (loseRunnel t j s) := by
  have gone := severRunnel_gone ht hj s
  have kept := severRunnel_keepsBut (j := j) ht s
  have none : (severRunnel t j s).endangered t = [] := by rw [State.endangered, kept.migrations, hm]; rfl
  rw [loseRunnel_eq hw, none]
  exact gone.keep (trimHistory_basinKept _) hj

end
end Sys2Proof.Machine

namespace Sys2Proof.Machine
open Sys2Proof.Safety

/-! ### The repair state of a failing pair (R321, R322) -/

section
variable {t j h g p : Nat} {s u v : State}

theorem rep_setRep (r : Repair) (s : State) : (s.setRep t r).rep t = r := Sparse.get_set_same _ _ _ _

theorem coil_setCoil_same (c : CoilGroup) (s : State) : (s.setCoil t j h g c).coil t j h g = c := by
  unfold State.coil State.setCoil
  rw [rep_setRep]
  exact Sparse.get_set_same _ _ _ _

theorem queued_setCoil (c : CoilGroup) (s : State) : ((s.setCoil t j h g c).rep t).queued = (s.rep t).queued := by
  unfold State.setCoil
  rw [rep_setRep]

theorem coil_of_repair (hr : u.repair = s.repair) (t j h g : Nat) : u.coil t j h g = s.coil t j h g := by
  simp only [State.coil, State.rep, hr]

/-- Every pair that has failed in `s`, and no other, has failed in `u`. -/
def SameBad (s u : State) : Prop := ∀ t j h g, (u.coil t j h g).bad = (s.coil t j h g).bad

theorem SameBad.refl (s : State) : SameBad s s := fun _ _ _ _ => rfl
theorem SameBad.trans (h : SameBad s u) (k : SameBad u v) : SameBad s v := fun t j h' g => (k t j h' g).trans (h t j h' g)
theorem SameBad.ofRepair (hr : u.repair = s.repair) : SameBad s u := fun t j h g => by rw [coil_of_repair hr]

theorem SameBad.setRep {r : Repair} (hg : r.groups = (s.rep t).groups) : SameBad s (s.setRep t r) := fun t' j' h' g' => by
  unfold State.coil
  by_cases same : t' = t
  · rw [same, rep_setRep, hg]
  · have other : (s.setRep t r).rep t' = s.rep t' := Sparse.get_set_ne _ _ _ same
    rw [other]

theorem SameBad.setCoil {c : CoilGroup} (hc : c.bad = (s.coil t j h g).bad) : SameBad s (s.setCoil t j h g c) := fun t' j' h' g' => by
  by_cases same : t' = t ∧ groupKey j' h' g' = groupKey j h g
  · obtain ⟨rfl, key⟩ := same
    have moved : (s.setCoil t' j h g c).coil t' j' h' g' = c := by
      unfold State.coil
      rw [key]
      exact coil_setCoil_same c s
    have old : s.coil t' j' h' g' = s.coil t' j h g := by simp only [State.coil, key]
    rw [moved, old, hc]
  · have other : (s.setCoil t j h g c).coil t' j' h' g' = s.coil t' j' h' g' := by
      by_cases tier : t' = t
      · subst tier
        unfold State.coil State.setCoil
        rw [rep_setRep]
        exact Sparse.get_set_ne _ _ _ (fun key => same ⟨rfl, key⟩)
      · have rep : (s.setCoil t j h g c).rep t' = s.rep t' := Sparse.get_set_ne _ _ _ tier
        simp only [State.coil, rep]
    rw [other]

/-! #### Registers and messages -/

/-- `u` differs from `s` at most in registers, of the basin's those of `P`, and in what the collector does with messages. -/
structure Shown (P : Nat → Prop) (s u : State) : Prop where
  frame : u = { s with regs := u.regs, flt := u.flt, mgmt := u.mgmt, ports := u.ports, out := u.out, pool := u.pool }
  regs : ∀ o, basinReg o → ¬P o → u.reg o = s.reg o

variable {P Q : Nat → Prop}

theorem Shown.refl (P : Nat → Prop) (s : State) : Shown P s s := ⟨rfl, fun _ _ _ => rfl⟩

theorem Shown.trans (h : Shown P s u) (k : Shown P u v) : Shown P s v := by
  refine ⟨?_, fun o ho hne => (k.regs o ho hne).trans (h.regs o ho hne)⟩
  have e := k.frame
  rw [h.frame] at e
  exact e

theorem Shown.mono (h : Shown P s u) (k : ∀ o, P o → Q o) : Shown Q s u :=
  ⟨h.frame, fun o ho hne => h.regs o ho (fun hp => hne (k o hp))⟩

theorem Shown.ofReports (h : Reports s u) : Shown P s u := by
  refine ⟨?_, fun o ho _ => h.regs o (faultReg_of_basinReg ho)⟩
  have frame := h.frame
  generalize u = v at frame ⊢
  rw [frame]

theorem Shown.ofOnlyRegs (h : OnlyRegs P s u) : Shown P s u := by
  refine ⟨?_, fun o _ hne => h.2 o hne⟩
  have frame := h.1
  generalize u = v at frame ⊢
  rw [frame]

theorem Shown.setReg (h : Shown P s u) {o : Nat} (x : DWord) (ho : P o) : Shown P s (u.setReg o x) :=
  h.trans (.ofOnlyRegs ((OnlyRegs.refl P u).setReg x ho))

theorem Shown.same (h : Shown P s u) : u.repair = s.repair ∧ u.us = s.us ∧ u.slices = s.slices ∧ u.migrations = s.migrations := by
  have frame := h.frame
  generalize u = v at frame ⊢
  rw [frame]
  exact ⟨rfl, rfl, rfl, rfl⟩

theorem Shown.kept (h : Shown P s u) : Kept s u := by
  have frame := h.frame
  generalize u = v at frame ⊢
  rw [frame]
  exact ⟨rfl, rfl, rfl, rfl, rfl, rfl, rfl, rfl, rfl, rfl⟩

theorem Shown.width (h : Shown P s u) {q : Nat} (hq : q < 16) (hp : ¬P (bsnBase t q)) : u.width t q = s.width t q := by
  have reg : u.reg (bsnBase t q + BSN_SLICE_STATUS_WIDTH.off) = s.reg (bsnBase t q + BSN_SLICE_STATUS_WIDTH.off) :=
    h.regs _ (basinReg_slice hq (by decide)) hp
  simp only [State.width, State.get, reg]

theorem Shown.flag (h : Shown P s u) {f : Fld} (hf : f.off < 0x400) (hp : ¬P (bsnBase t 0 + f.off)) :
    u.flag (bsnBase t 0) f = s.flag (bsnBase t 0) f := by
  have reg := h.regs (bsnBase t 0 + f.off) (basinReg_slice (by decide) hf) hp
  have get : u.get (bsnBase t 0) f = s.get (bsnBase t 0) f := by simp only [State.get, reg]
  simp only [State.flag, get]

theorem raiseRunnel_shown (t j kind : Nat) (s : State) : Shown P s (raiseRunnel t j kind s) := .ofReports (raise_reports _ _ _ _ _ _)

theorem showHop_onlyRegs (t j h : Nat) (s : State) : OnlyRegs (· = bsnBase t j + 4 * h + 0x40) s (showHop t j h s) := by
  have put (u : State) (f : Fld) (x : Nat) (hf : f.off = 0x40) (k : OnlyRegs (· = bsnBase t j + 4 * h + 0x40) s u) :
      OnlyRegs (· = bsnBase t j + 4 * h + 0x40) s (u.put (bsnBase t j + 4 * h) f x) := OnlyRegs.put k x (by rw [hf])
  unfold showHop
  extract_lets b c weak s₁
  exact put _ _ _ rfl (put _ _ _ rfl (put _ _ _ rfl (put _ _ _ rfl (put _ _ _ rfl (OnlyRegs.refl _ s)))))

theorem showFuses_onlyRegs (t : Nat) (s : State) : OnlyRegs (· = bsnBase t 0 + 0x27C) s (showFuses t s) := onlyRegs_setReg _ _ _

end
end Sys2Proof.Machine

namespace Sys2Proof.Safety
open Sys2Proof.Machine

section
variable {P : Nat → Prop} {s u v : State}

theorem Kept.refl (s : State) : Kept s s := ⟨rfl, rfl, rfl, rfl, rfl, rfl, rfl, rfl, rfl, rfl⟩

theorem Kept.setRep (h : Kept s u) (t : Nat) (r : Repair) : Kept s (u.setRep t r) :=
  ⟨h.ctxs, h.exts, h.alloc, h.valid, h.slices, h.cistern, h.chans, h.tags, h.keys, h.poison⟩

theorem Kept.shown (h : Kept s u) (k : Shown P u v) : Kept s v := by
  have k := k.kept
  exact ⟨k.ctxs.trans h.ctxs, k.exts.trans h.exts, k.alloc.trans h.alloc, k.valid.trans h.valid, k.slices.trans h.slices,
    k.cistern.trans h.cistern, k.chans.trans h.chans, k.tags.trans h.tags, k.keys.trans h.keys, k.poison.trans h.poison⟩

end
end Sys2Proof.Safety

namespace Sys2Proof.Machine
open Sys2Proof.Safety

/-! ### A pair fails (R321, R322, R324) -/

/-- The failed pair is kept with its group. -/
def keepFailed (t j h g p : Nat) (s : State) : State :=
  let c := s.coil t j h g
  let bad := if c.bad.contains p then c.bad else c.bad ++ [p]
  s.setCoil t j h g { c with bad := bad, weak := c.weak.filter (fun x => x ≠ p) }

/-- Spare `i` takes the place of pair `q`. -/
def takeSpare (t j h g q i : Nat) (s : State) : State :=
  let c := s.coil t j h g
  s.setCoil t j h g { c with taken := c.taken.filter (fun x => x.1 ≠ q) ++ [(q, i)] }

/-- A spare that has taken a place is shown, counted and told (R321). -/
def showSpare (t j h : Nat) (s : State) : State :=
  raiseRunnel t j 0 ((showHop t j h (repBit t BSN_REPAIR_STATUS_COIL_SPARE s)).count (bsnBase t 0 + 0x280) 1)

section
variable {t j h g p : Nat} {s u : State}

theorem failPair_eq (t j h g p : Nat) (s : State) : failPair t j h g p s =
    match s.fate t j h g p with
    | .none => showHop t j h (keepFailed t j h g p s)
    | .spare i => queueFuse t (coilEntry j h g p i)
        (showSpare t j h (takeSpare t j h g ((s.coil t j h g).served g p) i (keepFailed t j h g p s)))
    | .narrow => narrowRunnel t j (queueFuse t (coilEntry j h g p 0x7F) (keepFailed t j h g p s))
    | .lose => loseRunnel t j (queueFuse t (coilEntry j h g p 0x7F) (keepFailed t j h g p s)) := rfl

theorem keepFailed_bad (t j h g p : Nat) (s : State) : p ∈ ((keepFailed t j h g p s).coil t j h g).bad := by
  unfold keepFailed
  dsimp only
  rw [coil_setCoil_same]
  dsimp only
  split
  · next known => exact List.contains_iff_mem.1 known
  · simp

theorem takeSpare_sameBad (t j h g q i : Nat) (s : State) : SameBad s (takeSpare t j h g q i s) := .setCoil rfl

theorem takeSpare_taken (t j h g q i : Nat) (s : State) : (q, i) ∈ ((takeSpare t j h g q i s).coil t j h g).taken := by
  unfold takeSpare
  dsimp only
  rw [coil_setCoil_same]
  simp

/-- The registers that show a spare in use. -/
def spareRegs (t j h o : Nat) : Prop := o = bsnBase t 0 + 0x274 ∨ o = bsnBase t j + 4 * h + 0x40 ∨ o = bsnBase t 0 + 0x280

theorem showSpare_shown (t j h : Nat) (s : State) : Shown (spareRegs t j h) s (showSpare t j h s) :=
  (((Shown.ofOnlyRegs (repBit_onlyRegs t BSN_REPAIR_STATUS_COIL_SPARE s)).mono (fun _ => .inl)).trans
    ((Shown.ofOnlyRegs (showHop_onlyRegs t j h _)).mono (fun _ e => .inr (.inl e)))).setReg _ (.inr (.inr rfl)) |>.trans
    (raiseRunnel_shown t j 0 _)

theorem showSpare_flag (t j : Nat) (hh : h < 8) (s : State) :
    (showSpare t j h s).flag (bsnBase t 0) BSN_REPAIR_STATUS_COIL_SPARE = true := by
  have after : Shown (fun o => o = bsnBase t j + 4 * h + 0x40 ∨ o = bsnBase t 0 + 0x280) (repBit t BSN_REPAIR_STATUS_COIL_SPARE s)
      (showSpare t j h s) :=
    ((Shown.ofOnlyRegs (showHop_onlyRegs t j h _)).mono (fun _ => .inl)).setReg _ (.inr rfl) |>.trans (raiseRunnel_shown t j 0 _)
  exact (after.flag (by decide) (by simp only [bsnBase, BSN_REPAIR_STATUS_COIL_SPARE]; omega)).trans
    (flag_repBit _ _ (by decide) (by decide))

/-- The queue of repair entries as `queueFuse` leaves it; nothing else of the repair state changes. -/
theorem queueFuse_shown (t entry : Nat) (s : State) :
    Shown (· = bsnBase t 0 + 0x27C) (s.setRep t { s.rep t with
      queued := (s.rep t).queued ++ [BitVec.ofNat 64 (entry + s.us / 2 ^ 20 % 2 ^ 32)] }) (queueFuse t entry s) :=
  .ofOnlyRegs (showFuses_onlyRegs t _)

theorem queueFuse_sameBad (t entry : Nat) (s : State) : SameBad s (queueFuse t entry s) := by
  have after := SameBad.ofRepair (queueFuse_shown t entry s).same.1
  exact SameBad.trans (SameBad.setRep (by rfl)) after

theorem queueFuse_rep (t entry : Nat) (s : State) : (queueFuse t entry s).rep t = { s.rep t with
    queued := (s.rep t).queued ++ [BitVec.ofNat 64 (entry + s.us / 2 ^ 20 % 2 ^ 32)] } := by
  have repair := (queueFuse_shown t entry s).same.1
  simp only [State.rep, repair]
  exact rep_setRep _ s

theorem queueFuse_coil (t entry j h g : Nat) (s : State) : (queueFuse t entry s).coil t j h g = s.coil t j h g := by
  simp only [State.coil, queueFuse_rep]

/-- A failed pair with its spare: kept, in place, shown, and queued for the fuses (R321). -/
theorem spareTaken (q i : Nat) (hj : j < 16) (hh : h < 8) (s : State) {u : State}
    (hu : u = queueFuse t (coilEntry j h g p i) (showSpare t j h (takeSpare t j h g q i (keepFailed t j h g p s)))) :
    p ∈ (u.coil t j h g).bad ∧ (q, i) ∈ (u.coil t j h g).taken ∧ u.width t j = s.width t j ∧
      u.flag (bsnBase t 0) BSN_REPAIR_STATUS_COIL_SPARE = true ∧
      (u.rep t).queued = (s.rep t).queued ++ [BitVec.ofNat 64 (coilEntry j h g p i + s.us / 2 ^ 20 % 2 ^ 32)] ∧ Kept s u := by
  have bad := (takeSpare_sameBad t j h g q i (keepFailed t j h g p s)) t j h g ▸ keepFailed_bad t j h g p s
  have taken := takeSpare_taken t j h g q i (keepFailed t j h g p s)
  have queued : ((takeSpare t j h g q i (keepFailed t j h g p s)).rep t).queued = (s.rep t).queued :=
    (queued_setCoil _ _).trans (queued_setCoil _ _)
  have kept : Kept s (takeSpare t j h g q i (keepFailed t j h g p s)) := ((Kept.refl s).setRep _ _).setRep _ _
  have width : (takeSpare t j h g q i (keepFailed t j h g p s)).width t j = s.width t j := rfl
  have us : (takeSpare t j h g q i (keepFailed t j h g p s)).us = s.us := rfl
  generalize takeSpare t j h g q i (keepFailed t j h g p s) = w at *
  have shown := showSpare_shown t j h w
  obtain ⟨repair, us', -, -⟩ := shown.same
  have flag := showSpare_flag t j hh w
  have width' := shown.width (q := j) hj (t := t) (by simp only [spareRegs, bsnBase]; omega)
  have kept := kept.shown shown
  generalize showSpare t j h w = x at *
  have fused := queueFuse_shown t (coilEntry j h g p i) x
  have coil : u.coil t j h g = w.coil t j h g := by rw [hu, queueFuse_coil, coil_of_repair repair]
  rw [coil]
  refine ⟨bad, taken, ?_, ?_, ?_, ?_⟩
  · rw [hu, fused.width hj (by simp only [bsnBase]; omega)]
    exact width'.trans width
  · rw [hu, fused.flag (by decide) (by simp only [bsnBase, BSN_REPAIR_STATUS_COIL_SPARE]; omega)]
    exact flag
  · rw [hu, queueFuse_rep, State.rep, repair, us', us]
    exact congrArg (· ++ _) queued
  · rw [hu]
    exact (kept.setRep _ _).shown fused

theorem completes_coilSpareReplace {i : Nat} (hj : j < 16) (hh : h < 8) (hf : s.fate t j h g p = .spare i) :
    Completes (.coilSpareReplace t j h g p) s (fun u =>
      p ∈ (u.coil t j h g).bad ∧ ((s.coil t j h g).served g p, i) ∈ (u.coil t j h g).taken ∧ u.width t j = s.width t j ∧
      u.flag (bsnBase t 0) BSN_REPAIR_STATUS_COIL_SPARE = true ∧
      (u.rep t).queued = (s.rep t).queued ++ [BitVec.ofNat 64 (coilEntry j h g p i + s.us / 2 ^ 20 % 2 ^ 32)] ∧ Kept s u) := by
  have step : exec (.coilSpareReplace t j h g p) s = .next (failPair t j h g p s) := by
    show execCoilSpareReplace t j h g p s = _
    rw [execCoilSpareReplace, hf]
  exact ⟨_, step, spareTaken _ i hj hh s (by rw [failPair_eq, hf])⟩

end
end Sys2Proof.Machine

namespace Sys2Proof.Machine
open Sys2Proof.Safety

/-! ### Half width, and the loss of a runnel (R322, R324) -/

/-- The coil groups of a runnel at half width, when the spares suffice (R322). -/
def narrowGroups (t j : Nat) (s : State) : Option State :=
  ((upto 8).flatMap (fun h => (upto 3).map (fun g => (h, g)))).foldl (fun (r : Option State) k => match r with
    | none => none
    | some u => ((u.coil t j k.1 k.2).narrow k.2).map (fun c => u.setCoil t j k.1 k.2 c)) (some s)

/-- The slice of a narrowed runnel begins its flush (R323). -/
def beginFlush (t j : Nat) (s : State) : State :=
  let s := forEach (upto 8) (fun h u => showHop t j h u) s
  let s := s.put (bsnBase t j) BSN_SLICE_STATUS_WIDTH 1
  s.setSlice t j { s.slice t j with flush := some 0 }

/-- A narrowed runnel is shown and told (R322). -/
def showNarrow (t j : Nat) (s : State) : State := raiseRunnel t j 2 (reportGroup t (repBit t BSN_REPAIR_STATUS_NARROW (beginFlush t j s)))

/-- At most the repair state differs, and the same pairs have failed. -/
def Regrouped (s : State) (r : Option State) : Prop := ∀ u, r = some u → u = { s with repair := u.repair } ∧ SameBad s u

section
variable {t j h g p : Nat} {s u : State}

theorem narrowRunnel_of_none (h : narrowGroups t j s = none) : narrowRunnel t j s = loseRunnel t j s := by
  unfold narrowRunnel
  extract_lets keys r
  have none : r = none := h
  clear_value r
  rw [none]

theorem narrowRunnel_of_some (h : narrowGroups t j s = some u) : narrowRunnel t j s = showNarrow t j u := by
  unfold narrowRunnel
  extract_lets keys r
  have some : r = some u := h
  clear_value r
  rw [some]
  rfl

theorem CoilGroup.narrow_bad {c d : CoilGroup} (h : c.narrow g = some d) : d.bad = c.bad := by
  unfold CoilGroup.narrow at h
  extract_lets badIn half need free at h
  split at h
  · cases h; rfl
  · cases h

theorem narrowGroups_regrouped (t j : Nat) (s : State) : Regrouped s (narrowGroups t j s) := by
  unfold narrowGroups
  refine List.foldlRecOn _ _ (motive := Regrouped s) (fun u e => by cases e; exact ⟨rfl, .refl s⟩) (fun r ih k _ u e => ?_)
  cases r with
  | none => cases e
  | some v =>
    obtain ⟨frame, bad⟩ := ih v rfl
    obtain ⟨c, narrow, rfl⟩ := Option.map_eq_some_iff.1 e
    refine ⟨?_, bad.trans (.setCoil (CoilGroup.narrow_bad narrow))⟩
    generalize v = w at frame ⊢
    rw [frame]
    rfl

theorem OnlyRegs.forEach {P : Nat → Prop} {α : Type} (l : List α) (f : α → State → State) (hf : ∀ a ∈ l, ∀ u, OnlyRegs P u (f a u))
    (s : State) : OnlyRegs P s (forEach l f s) := by
  induction l generalizing s with
  | nil => exact Safety.OnlyRegs.refl P s
  | cons a l ih => exact OnlyRegs.trans (hf a (by simp) s) (ih (fun b hb => hf b (by simp [hb])) _)

/-- The registers of a runnel that its narrowing writes. -/
def runnelRegs (t j o : Nat) : Prop := o = bsnBase t j ∨ ∃ h < 8, o = bsnBase t j + 4 * h + 0x40

theorem showHops_onlyRegs (t j : Nat) (s : State) : OnlyRegs (runnelRegs t j) s (forEach (upto 8) (fun h u => showHop t j h u) s) :=
  OnlyRegs.forEach (P := runnelRegs t j) _ (fun h u => showHop t j h u)
    (fun h hh u => (showHop_onlyRegs t j h u).mono (fun _ e => .inr ⟨h, mem_upto.1 hh, e⟩)) s

theorem width_setSlice (s : State) (sl : Slice) : (s.setSlice t j sl).width t j = s.width t j := rfl

theorem beginFlush_width (t j : Nat) (s : State) : (beginFlush t j s).width t j = 1 := by
  unfold beginFlush
  extract_lets s₁ s₂ sl
  exact (width_setSlice s₂ _).trans (width_put s₁ (by decide))

theorem flush_setSlice (s : State) {sl : Slice} {x : Option Nat} (h : sl.flush = x) : ((s.setSlice t j sl).slice t j).flush = x :=
  (congrArg Slice.flush (State.slice_setSlice_same s t j sl)).trans h

theorem beginFlush_flush (t j : Nat) (s : State) : ((beginFlush t j s).slice t j).flush = some 0 := by
  unfold beginFlush
  extract_lets s₁ s₂ sl
  exact flush_setSlice s₂ rfl

theorem beginFlush_keepsBut (t j : Nat) (s : State) : KeepsBut (runnelRegs t j) s (beginFlush t j s) := by
  unfold beginFlush
  extract_lets s₁ s₂ sl
  have h₂ : OnlyRegs (runnelRegs t j) s s₂ := OnlyRegs.put (showHops_onlyRegs t j s) _ (.inl rfl)
  exact (KeepsBut.onlyRegs h₂ (fun _ _ h => h)).setSlice _ _ _

/-- What the weirs and the collector are told after a narrowing keeps the basin. -/
theorem showNarrow_kept (ht : t < 8) (s : State) :
    BasinKept (repBit t BSN_REPAIR_STATUS_NARROW (beginFlush t j s)) (showNarrow t j s) :=
  (reportGroup_basinKept ht _).raise _ _ _ _ _

theorem showNarrow_shown (ht : t < 8) (hj : j < 16) (s : State) : (showNarrow t j s).width t j = 1 ∧
    ((showNarrow t j s).slice t j).flush = some 0 ∧ (showNarrow t j s).flag (bsnBase t 0) BSN_REPAIR_STATUS_NARROW = true := by
  have kept := showNarrow_kept (j := j) ht s
  have width := beginFlush_width t j s
  have flush := beginFlush_flush t j s
  generalize beginFlush t j s = u at kept width flush
  have bit := repBit_onlyRegs t BSN_REPAIR_STATUS_NARROW u
  refine ⟨?_, ?_, ?_⟩
  · rw [kept.width t hj, (Shown.ofOnlyRegs bit).width hj (by simp only [BSN_REPAIR_STATUS_NARROW, bsnBase]; omega), width]
  · obtain ⟨-, -, same⟩ := kept.lines t j
    rw [same, State.slice, OnlyRegs.slices bit]
    exact flush
  · rw [kept.flag t (by decide)]
    exact flag_repBit _ _ (by decide) (by decide)

/-- The failed pair is kept and queued for the fuses: what comes before a narrowing or a loss. -/
def queueFailed (t j h g p : Nat) (s : State) : State := queueFuse t (coilEntry j h g p 0x7F) (keepFailed t j h g p s)

theorem queueFailed_width (t j h g p : Nat) {q : Nat} (hq : q < 16) (s : State) : (queueFailed t j h g p s).width t q = s.width t q :=
  (queueFuse_shown t _ (keepFailed t j h g p s)).width hq (by simp only [bsnBase]; omega)

theorem queueFailed_migrations (t j h g p : Nat) (s : State) : (queueFailed t j h g p s).migrations = s.migrations :=
  (queueFuse_shown t _ (keepFailed t j h g p s)).same.2.2.2

theorem loseFailed_gone (ht : t < 8) (hj : j < 16) (hw : s.width t j ≠ 2) (hm : s.migrations = []) :
    RunnelGone t j s (loseRunnel t j (queueFailed t j h g p s)) := by
  have gone := loseRunnel_gone (s := queueFailed t j h g p s) ht hj ((queueFailed_width t j h g p hj s).trans_ne hw)
    ((queueFailed_migrations t j h g p s).trans hm)
  refine ⟨gone.toLostRunnel, gone.shown, ?_⟩
  rintro ⟨r, hr, ne, alive⟩
  exact gone.map ⟨r, hr, ne, (queueFailed_width t j h g p hr s).trans_ne alive⟩

theorem width_lt_of_fate (hf : s.fate t j h g p ≠ .none) : s.width t j < 2 := by
  unfold State.fate at hf
  dsimp only at hf
  by_contra wide
  exact hf (if_pos (by simp [Nat.le_of_not_lt wide]))

theorem completes_runnelLost (ht : t < 8) (hj : j < 16) (hf : s.fate t j h g p = .lose) (hm : s.migrations = []) :
    Completes (.runnelLost t j h g p) s (RunnelGone t j s) := by
  have step : exec (.runnelLost t j h g p) s = .next (failPair t j h g p s) := by
    show execRunnelLost t j h g p s = _
    rw [execRunnelLost, hf]
  have below := width_lt_of_fate (s := s) (t := t) (j := j) (h := h) (g := g) (p := p) (by rw [hf]; decide)
  refine ⟨_, step, ?_⟩
  rw [failPair_eq, hf]
  exact loseFailed_gone ht hj (by omega) hm

theorem completes_runnelNarrow (ht : t < 8) (hj : j < 16) (hf : s.fate t j h g p = .narrow) (hm : s.migrations = []) :
    Completes (.runnelNarrow t j h g p) s (fun u =>
      (u.width t j = 1 ∧ (u.slice t j).flush = some 0 ∧ u.flag (bsnBase t 0) BSN_REPAIR_STATUS_NARROW = true) ∨
      (u.width t j = 2 ∧ u.flag (bsnBase t 0) BSN_REPAIR_STATUS_LOST = true)) := by
  have step : exec (.runnelNarrow t j h g p) s = .next (narrowRunnel t j (queueFailed t j h g p s)) := by
    show execRunnelNarrow t j h g p s = _
    rw [execRunnelNarrow, hf]
    simp only [failPair_eq, hf]
    rfl
  have below := width_lt_of_fate (s := s) (t := t) (j := j) (h := h) (g := g) (p := p) (by rw [hf]; decide)
  refine ⟨_, step, ?_⟩
  cases found : narrowGroups t j (queueFailed t j h g p s) with
  | none =>
    rw [narrowRunnel_of_none found]
    have gone := loseFailed_gone (h := h) (g := g) (p := p) ht hj (show s.width t j ≠ 2 by omega) hm
    exact .inr ⟨gone.width, gone.shown⟩
  | some u =>
    rw [narrowRunnel_of_some found]
    exact .inl (showNarrow_shown ht hj u)

theorem exec_failing_of_none (hf : s.fate t j h g p = .none) : exec (.coilSpareReplace t j h g p) s = .next s ∧
    exec (.runnelNarrow t j h g p) s = .next s ∧ exec (.runnelLost t j h g p) s = .next s := by
  refine ⟨?_, ?_, ?_⟩
  · show execCoilSpareReplace t j h g p s = _
    rw [execCoilSpareReplace, hf]
  · show execRunnelNarrow t j h g p s = _
    rw [execRunnelNarrow, hf]
  · show execRunnelLost t j h g p s = _
    rw [execRunnelLost, hf]

end
end Sys2Proof.Machine

namespace Sys2Proof.Machine
open Sys2Proof.Safety

/-! ### The flush of a narrowed slice (R323) -/

section
variable {t j n w i pos : Nat} {way : Way} {s : State}

/-- The next set that the flush looks for: at or above its position and with a dirty line. -/
def State.nextDirty (s : State) (t j pos : Nat) : Option (Nat × Sparse Way) :=
  (s.slice t j).sets.find? (fun e => pos ≤ e.1 && e.2.any (fun w => w.2.dirty ≠ 0))

/-- The dirty lines of a set, by way and line number. -/
def dirtyLines (ways : Sparse Way) : List (Nat × Nat) :=
  ways.flatMap (fun w => ((upto 32).filter (fun i => w.2.dirty.getLsbD i)).map (fun i => (w.1, i)))

/-- A dirty line leaves its way for the victim buffer, or is dropped when its page is no longer valid. -/
def flushLine (t j n : Nat) (x : Nat × Nat) (u : State) : State :=
  let v := u.way t j n x.1
  let off := v.tag * 2048 + x.2 * 64
  let u := if u.pageValid t off then bufferLine t j n x.1 x.2 u else u
  dropLine t j n x.1 x.2 u

/-- The flush goes on to a set. -/
def walkTo (t j n : Nat) (s : State) : State := s.setSlice t j { s.slice t j with flush := some n }

theorem exec_sliceFlush_idle (h : (s.slice t j).flush = none) : exec (.sliceFlush t j) s = .next s := by
  show execSliceFlush t j s = _
  unfold execSliceFlush
  extract_lets sl
  rw [show sl.flush = none from h]

theorem exec_sliceFlush_end (hf : (s.slice t j).flush = some pos) (free : (upto 16).any (s.jetFree t) = true)
    (hr : s.reacting = false) (hd : s.nextDirty t j pos = none) :
    exec (.sliceFlush t j) s = .next (s.setSlice t j { s.slice t j with flush := none, dirtyExt := [] }) := by
  show execSliceFlush t j s = _
  unfold execSliceFlush
  extract_lets sl
  rw [show sl.flush = some pos from hf]
  dsimp only
  rw [free, hr, if_neg (by decide), show sl.sets.find? (fun e => pos ≤ e.1 && e.2.any (fun w => w.2.dirty ≠ 0)) = none from hd]

theorem nextDirty_none (h : ∀ e ∈ (s.slice t j).sets, pos ≤ e.1 → ∀ w ∈ e.2, w.2.dirty = 0) : s.nextDirty t j pos = none := by
  refine List.find?_eq_none.2 (fun e he found => ?_)
  obtain ⟨le, w, hw, dirty⟩ : pos ≤ e.1 ∧ ∃ w ∈ e.2, w.2.dirty ≠ 0 := by simpa using found
  exact dirty (h e he le w hw)

theorem exec_sliceFlush_set {ways : Sparse Way} (hf : (s.slice t j).flush = some pos) (free : (upto 16).any (s.jetFree t) = true)
    (hr : s.reacting = false) (hd : s.nextDirty t j pos = some (n, ways))
    (room : (dirtyLines ways).length ≤ 64 - (s.slice t j).victims.length) :
    exec (.sliceFlush t j) s = .next (walkTo t j (n + 1) (forEach (dirtyLines ways) (flushLine t j n) s)) := by
  show execSliceFlush t j s = _
  unfold execSliceFlush
  extract_lets sl
  rw [show sl.flush = some pos from hf]
  dsimp -zeta only
  have found : sl.sets.find? (fun e => pos ≤ e.1 && e.2.any (fun w => w.2.dirty ≠ 0)) = some (n, ways) := hd
  rw [free, hr, if_neg (by decide)]
  generalize sl.sets.find? (fun e => pos ≤ e.1 && e.2.any (fun w => w.2.dirty ≠ 0)) = next at found
  subst found
  dsimp -zeta only
  extract_lets all now moved next
  have taken : now = all := List.take_of_length_le room
  have after : next = n + 1 := if_pos (congrArg List.length taken)
  have gone : moved = forEach (dirtyLines ways) (flushLine t j n) s := congrArg (fun l => forEach l (flushLine t j n) s) taken
  show Host.Outcome.next (walkTo t j next moved) = _
  rw [after, gone]

/-- A clean line goes to the end of the victim buffer and is counted as written back. -/
theorem bufferLine_of_clean (h : ((s.way t j n w).line i).code = .clean) : bufferLine t j n w i s =
    (s.setSlice t j { s.slice t j with victims := (s.slice t j).victims ++
      [{ off := (s.way t j n w).tag * 2048 + i * 64, cls := (s.way t j n w).cls, line := (s.way t j n w).line i }] }).count
        (bsnBase t j + 0x18) 1 := by
  have read : readDirty t j n w i s = (s, (s.way t j n w).line i) := by
    unfold readDirty
    dsimp only
    rw [h]
  unfold bufferLine
  dsimp only
  rw [read]

theorem bits_pow (hi : i < 32) : (upto 32).filter (fun k => (BitVec.ofNat 32 (2 ^ i)).getLsbD k) = [i] ∧ BitVec.ofNat 32 (2 ^ i) ≠ 0 := by
  have each : ∀ i < 32, (upto 32).filter (fun k => (BitVec.ofNat 32 (2 ^ i)).getLsbD k) = [i] ∧ BitVec.ofNat 32 (2 ^ i) ≠ 0 := by
    decide +kernel
  exact each i hi

theorem way_of_sets (h : (s.slice t j).sets = [(n, [(w, way)])]) : s.way t j n w = way := by
  simp [State.way, Slice.set, h, Sparse.get]

theorem dirtyLines_one (hi : i < 32) (hd : way.dirty = BitVec.ofNat 32 (2 ^ i)) : dirtyLines [(w, way)] = [(w, i)] := by
  simp only [dirtyLines, hd, (bits_pow hi).1, List.flatMap_cons, List.flatMap_nil, List.map_cons, List.map_nil, List.append_nil]

theorem nextDirty_one (hp : pos ≤ n) (hs : (s.slice t j).sets = [(n, [(w, way)])]) (hd : way.dirty ≠ 0) :
    s.nextDirty t j pos = some (n, [(w, way)]) := by
  simpa [State.nextDirty, hs, hp] using hd

/-! #### What the move leaves of a slice -/

theorem victims_setWay (v : Way) (s : State) : ((s.setWay t j n w v).slice t j).victims = (s.slice t j).victims := by
  unfold State.setWay
  dsimp only
  rw [State.slice_setSlice_same]

theorem way_setWay_same (v : Way) (s : State) : (s.setWay t j n w v).way t j n w = v := by
  unfold State.way State.setWay Slice.set
  rw [State.slice_setSlice_same, Sparse.get_set_same, Sparse.get_set_same]

theorem way_setSlice_sets {sl : Slice} (h : sl.sets = (s.slice t j).sets) : (s.setSlice t j sl).way t j n w = s.way t j n w := by
  unfold State.way Slice.set
  rw [State.slice_setSlice_same, h]

/-- At most slices and registers differ. -/
def SlicesOnly (s u : State) : Prop := u = { s with slices := u.slices, regs := u.regs }

theorem SlicesOnly.setSlice {u : State} (h : SlicesOnly s u) (n k : Nat) (sl : Slice) : SlicesOnly s (u.setSlice n k sl) := by
  unfold SlicesOnly at h ⊢
  generalize u = v at h ⊢
  rw [h]
  rfl

theorem SlicesOnly.setReg {u : State} (h : SlicesOnly s u) (o : Nat) (v : DWord) : SlicesOnly s (u.setReg o v) := by
  unfold SlicesOnly at h ⊢
  generalize u = x at h ⊢
  rw [h]
  rfl

theorem victims_dropLine (u : State) : ((dropLine t j n w i u).slice t j).victims = (u.slice t j).victims := victims_setWay _ u
theorem dirty_dropLine (u : State) : ((dropLine t j n w i u).way t j n w).dirty = (u.way t j n w).dirty &&& ~~~(bit32 i) :=
  congrArg Way.dirty (way_setWay_same _ u)
theorem reg_dropLine (o : Nat) (u : State) : (dropLine t j n w i u).reg o = u.reg o := rfl
theorem slice_count (o k : Nat) (u : State) : (u.count o k).slice t j = u.slice t j := rfl
theorem way_count (o k : Nat) (u : State) : (u.count o k).way t j n w = u.way t j n w := rfl
theorem walkTo_way (m : Nat) (u : State) : (walkTo t j m u).way t j n w = u.way t j n w := way_setSlice_sets rfl

/-- A dirty line leaves its set for the victim buffer. -/
theorem flushLine_moved (hs : s.way t j n w = way) (clean : (way.line i).code = .clean)
    (valid : s.pageValid t (way.tag * 2048 + i * 64) = true) {u : State} (hu : u = flushLine t j n (w, i) s) :
    (u.slice t j).victims = (s.slice t j).victims ++ [{ off := way.tag * 2048 + i * 64, cls := way.cls, line := way.line i }] ∧
    (u.way t j n w).dirty = way.dirty &&& ~~~(bit32 i) ∧ SlicesOnly s u ∧ (∀ o, o ≠ bsnBase t j + 0x18 → u.reg o = s.reg o) := by
  subst hs
  have moved : u = dropLine t j n w i (bufferLine t j n w i s) := by
    rw [hu]
    unfold flushLine
    dsimp only
    rw [if_pos valid]
  rw [bufferLine_of_clean clean] at moved
  subst moved
  refine ⟨?_, ?_, ?_, fun o ho => ?_⟩
  · rw [victims_dropLine, slice_count, State.slice_setSlice_same]
  · rw [dirty_dropLine, way_count, way_setSlice_sets (by rfl)]
  · exact (((show SlicesOnly s s from rfl).setSlice _ _ _).setReg _ _).setSlice _ _ _
  · rw [reg_dropLine]
    exact (onlyRegs_setReg (s.setSlice t j _) (bsnBase t j + 0x18) _).2 o ho

theorem completes_sliceFlush (hf : (s.slice t j).flush = some pos) (free : (upto 16).any (s.jetFree t) = true)
    (hr : s.reacting = false) (hp : pos ≤ n) (hs : (s.slice t j).sets = [(n, [(w, way)])]) (hi : i < 32)
    (hd : way.dirty = BitVec.ofNat 32 (2 ^ i)) (clean : (way.line i).code = .clean) (room : (s.slice t j).victims.length < 64)
    (valid : s.pageValid t (way.tag * 2048 + i * 64) = true) : Completes (.sliceFlush t j) s (fun u =>
      (u.slice t j).victims = (s.slice t j).victims ++ [{ off := way.tag * 2048 + i * 64, cls := way.cls, line := way.line i }] ∧
      (u.slice t j).flush = some (n + 1) ∧ (u.way t j n w).dirty = 0 ∧ u = { s with slices := u.slices, regs := u.regs } ∧
      (∀ o, o ≠ bsnBase t j + 0x18 → u.reg o = s.reg o)) := by
  have lines := dirtyLines_one (w := w) hi hd
  have step := exec_sliceFlush_set hf free hr (nextDirty_one hp hs (hd ▸ (bits_pow hi).2)) (by rw [lines, List.length_singleton]; omega)
  rw [lines, show forEach [(w, i)] (flushLine t j n) s = flushLine t j n (w, i) s from rfl] at step
  refine ⟨_, step, ?_⟩
  obtain ⟨victims, dirty, only, regs⟩ := flushLine_moved (way_of_sets hs) clean valid rfl
  generalize flushLine t j n (w, i) s = u at victims dirty only regs
  refine ⟨?_, flush_setSlice u rfl, ?_, only.setSlice _ _ _, regs⟩
  · exact (congrArg Slice.victims (State.slice_setSlice_same u t j _)).trans victims
  · rw [walkTo_way, dirty, hd]
    exact BitVec.and_not_self (bit32 i)

/-! ### Command parity (R319) -/

theorem exec_relayCommandParityError {h : Nat} (new : (j, h) ∉ (s.rep t).parity) (hw : s.width t j < 2) :
    exec (.relayCommandParityError t j h) s =
      .next (s.setRep t { s.rep t with parity := (s.rep t).parity ++ [(j, h)] }) := by
  show execRelayCommandParityError t j h s = _
  unfold execRelayCommandParityError
  extract_lets r
  exact if_neg (by simpa [r, new] using hw)

end
end Sys2Proof.Machine

/-! What serving a request leaves unchanged (R20, R80, R85, R103-R106, R305): the accesses to a tier's memory are work on that memory, and
all else that a request brings about keeps the stacks' repair state. -/

namespace Sys2Proof.Machine
open Sys2Proof.Safety

/-! ### Accesses to a tier's memory (R85, R103-R106) -/

section
variable {s t u : State}

theorem MemoryWork.result {α : Type} {r : State × α} {x : α} (h : MemoryWork s r.1) (e : r = (u, x)) : MemoryWork s u := by
  subst e
  exact h

theorem MemoryWork.unlistPoison (h : MemoryWork s t) (n pa : Nat) : MemoryWork s (Machine.unlistPoison n pa t) :=
  h.cistern (.ofListed (unlistPoison_listed n pa t))

theorem MemoryWork.listAcc (h : MemoryWork s t) (a : Acc) (source : Nat) : MemoryWork s (Machine.listAcc a source t) :=
  h.cistern ((CisternWork.refl t).listAcc a source)

theorem MemoryWork.missedSet (h : MemoryWork s t) (a : Acc) (use : ReadFor) (keep : Option Nat) :
    MemoryWork s (Machine.missedSet a use keep t).1 := by
  unfold Machine.missedSet
  extract_lets j u
  have aged : MemoryWork s u := (h.ageOthers _ _ _ _).count _ _
  split
  · exact aged
  · split
    · exact aged.reportPoison _ _ _
    · exact aged.reportPoison _ _ _
    · exact aged

theorem MemoryWork.lookup (h : MemoryWork s t) (a : Acc) (use : ReadFor) : MemoryWork s (Machine.lookup a use t).1 := by
  unfold Machine.lookup
  extract_lets n j k i u
  have opened : MemoryWork s u := h.openSet _ _ _
  have hj : j < 16 := t.sliceOf_lt _ _
  split
  · extract_lets v u₁ addr l u₂ u₃ v₃ u₄ u₅
    have touched : MemoryWork s u₁ := opened.touchWay _ _ _ _
    split
    · split
      · exact touched.count _ _
      · exact (touched.cistern (((CisternWork.refl u₁).corrected _ _ _ _ _ _ _ (by omega)).watchRow _ _ _ _ _)).count _ _
      · exact (touched.count _ _).reportPoison _ _ _
      · have seen : MemoryWork s u₃ := touched.cistern (((CisternWork.refl u₁).sawUncorrectable _ _ _ (by omega)).watchRow _ _ _ _ _)
        split
        · exact (seen.setWay _ _ _ _ _).reportPoison _ _ _
        · exact ((seen.dropLine _ _ _ _ _).raise _ _ _ _ _).missedSet _ _ _
    · exact opened.missedSet _ _ _
  · exact opened.missedSet _ _ _

theorem MemoryWork.fillMiss (h : MemoryWork s t) (a : Acc) (l : Line) : Stored s (Machine.fillMiss a l t) := by
  unfold Machine.fillMiss
  split
  · exact .ok h
  split
  · exact .error _ _
  · next u e => exact .ok (h.allocWay a e)
  · next u w e =>
    extract_lets v
    have put : MemoryWork s v := (h.allocWay a e).putBasin _ _ _ _ _
    split
    · refine .ok (put.forEach _ _ (fun i x => ?_))
      have read (b : Acc) : MemoryWork x (Machine.readCistern b .read x).1 := (MemoryWork.refl x).readCistern b .read
      extract_lets b j held victims
      split
      · exact .refl x
      split
      · next y line c e => exact MemoryWork.putBasin ((read b).result e) _ _ _ _ _
      · next y out _ e => exact (read b).result e
    · exact .ok put

theorem MemoryWork.localRead (h : MemoryWork s t) (a : Acc) : MemoryWork s (Machine.localRead a t).1 := by
  have looked : MemoryWork s (if a.noalloc then (t, Lookup.miss) else Machine.lookup a .read t).1 := by
    split
    · exact h
    · exact h.lookup a .read
  unfold Machine.localRead
  split
  · next e => exact looked.result e
  · next e => exact looked.result e
  · next e => exact looked.result e
  · next u e =>
    have read := MemoryWork.readCistern (s := s) (t := u) (looked.result e) a .read
    split
    · next v l c e =>
      split
      · next w e' => exact MemoryWork.fillMiss (s := s) (t := v) (read.result e) a l w e'
      · exact h
    · exact h
    · next e => exact read.result e

/-- What follows a write that has been placed: the poison list, and the victim buffer without the line. -/
theorem MemoryWork.entered (h : MemoryWork s t) (a : Acc) (poison : Bool) :
    MemoryWork s (if poison then Machine.listAcc a a.psrc t else Machine.unlistPoison a.t (t.pa a) t) :=
  .ite (h.listAcc _ _) (h.unlistPoison _ _)

theorem MemoryWork.localWrite (h : MemoryWork s t) (a : Acc) (l : Line) (poison : Bool) :
    MemoryWork s (Machine.localWrite a l poison t).1 := by
  unfold Machine.localWrite
  extract_lets line entered toChannel j n opened here aged
  have enter {u : State} (k : MemoryWork s u) : MemoryWork s (entered u) := k.entered a poison
  have channel {u : State} (k : MemoryWork s u) : MemoryWork s (toChannel u).1 := by
    simp only [toChannel]
    split
    · next v e => exact enter ((k.writeCistern _ _ _ v e).dropVictim _ _)
    · exact h
  have open_ : MemoryWork s opened := h.openSet _ _ _
  have aged_ : MemoryWork s aged := (open_.ageOthers _ _ _ _).count _ _
  clear_value aged here opened
  split
  · exact channel h
  split
  · next w =>
    extract_lets u
    have touched : MemoryWork s u := (open_.touchWay _ _ _ _).count _ _
    clear_value u
    split
    · split
      · next v e => exact enter (((touched.writeCistern _ _ _ v e).putBasin _ _ _ _ _).dropVictim _ _)
      · exact h
    · exact enter ((touched.putBasin a w line poison true).dropVictim a.t a.off)
  · split
    · exact channel aged_
    split
    · exact h
    · next v e => exact channel (aged_.allocWay a e)
    · next v w e => exact enter (((aged_.allocWay a e).putBasin a w line poison true).dropVictim a.t a.off)

theorem MemoryWork.localPartial (h : MemoryWork s t) (a : Acc) (l : Line) (be : BitVec 64) :
    MemoryWork s (Machine.localPartial a l be t).1 := by
  unfold Machine.localPartial
  extract_lets channelMerge
  have merge {u : State} (k : MemoryWork s u) : MemoryWork s (channelMerge u).1 := by
    have read := k.readCistern a .merge
    simp only [channelMerge]
    split
    · next v old c e =>
      split
      · next w e' => exact MemoryWork.writeCistern (t := v) (read.result e) _ _ _ w e'
      · exact h
    · next e => exact read.result e
    · next e => exact read.result e
    · exact h
  have looked := h.lookup a .merge
  split
  · exact merge h
  split
  · next u w old d e =>
    have found : MemoryWork s u := looked.result e
    extract_lets m
    split
    · split
      · next v e' => exact (found.writeCistern _ _ _ v e').putBasin a w m false false
      · exact h
    · exact found.putBasin a w m false true
  · next e => exact looked.result e
  · next u old e =>
    have found : MemoryWork s u := looked.result e
    have through (m : Line) {v : State} (k : MemoryWork s v) : MemoryWork s (match Machine.writeCistern a m false v with
        | .ok s => (Machine.dropVictim a.t a.off s, WrOut.done)
        | .error e => (t, .wait e)).1 := by
      split
      · next w e' => exact (k.writeCistern _ _ _ w e').dropVictim _ _
      · exact h
    extract_lets m
    split
    · exact through m found
    split
    · exact h
    · next v w e' => exact ((found.allocWay a e').putBasin _ _ _ _ _).dropVictim _ _
    · next v e' => exact through m (found.allocWay a e')
  · next u e =>
    have missed : MemoryWork s u := looked.result e
    have read := missed.readCistern a .merge
    split
    · exact merge missed
    split
    · next v old c e' =>
      have old_ : MemoryWork s v := read.result e'
      extract_lets m
      split
      · exact h
      · next x w e'' => exact (old_.allocWay a e'').putBasin a w m false true
      · next x e'' =>
        split
        · next y e₃ => exact (old_.allocWay a e'').writeCistern _ _ _ y e₃
        · exact h
    · next e' => exact read.result e'
    · next e' => exact read.result e'
    · exact h

/-! #### Page fill (R85, R187) -/

theorem MemoryWork.forgetLine (h : MemoryWork s t) (n off : Nat) : MemoryWork s (Machine.forgetLine n off t) := by
  have dropped := h.dropVictim n off
  unfold Machine.forgetLine
  dsimp only
  split
  · exact dropped.dropLine _ _ _ _ _
  · exact dropped

theorem MemoryWork.freshTagLine (h : MemoryWork s t) (a : Acc) (x : Nat) : Stored s (Machine.freshTagLine a x t) := by
  unfold Machine.freshTagLine
  dsimp only
  split
  · exact .ok h
  split
  · exact .ok (h.cistern ((CisternWork.refl t).setTagSet _ _ _))
  split
  · exact .error _ _
  · exact .ok (h.cistern ((CisternWork.refl t).placeTag _ _ _ _))

theorem MemoryWork.pageFill (h : MemoryWork s t) (a : Acc) (l : Line) (be : BitVec 64) (poison : Bool) :
    MemoryWork s (Machine.pageFill a l be poison t).1 := by
  unfold Machine.pageFill
  extract_lets base dpa cleared tags toBasin step
  have clear : MemoryWork s cleared := h.forEach _ _ (fun _ u => (MemoryWork.refl u).forgetLine _ _)
  have tagged : Stored s tags := by
    simp only [tags]
    split
    · refine List.foldlRecOn _ _ (motive := Stored s) (.ok clear) (fun r k i _ => ?_)
      cases r with
      | error w => exact .error s w
      | ok u => exact (k u rfl).freshTagLine _ _
    · exact .ok clear
  have filled : Stored s ((upto 64).foldl step tags) := by
    refine List.foldlRecOn _ _ (motive := Stored s) tagged (fun r k i _ => ?_)
    cases r with
    | error w => exact .error s w
    | ok u =>
      dsimp -zeta only [step]
      extract_lets b mine bad v u' chan
      have begun : MemoryWork s u' := .ite (k u rfl) ((k u rfl).unlistPoison _ _)
      have written {x : State} (hx : MemoryWork s x) : Stored s (chan x) := hx.writeCistern b v bad
      clear_value u'
      split
      · split
        · exact .error _ _
        · next x e => exact written (begun.allocWay b e)
        · next x w e =>
          have room := begun.allocWay b e
          split
          · split
            · next y e' => exact .ok ((written room y e').putBasin b w v bad false)
            · exact .error _ _
          · exact .ok (room.putBasin b w v bad true)
      · exact written begun
  clear_value step tags
  split
  · exact h
  · next u e => exact (MemoryWork.ite ((filled u e).listAcc _ _) (filled u e)).setValidLine _ _ _

end
end Sys2Proof.Machine

namespace Sys2Proof.Machine
open Sys2Proof.Safety

section
variable {s t u : State}

theorem openValid_memoryWork (n e : Nat) (s : State) : MemoryWork s (openValid n e s).1 := by
  unfold openValid
  extract_lets v gone j w
  split
  · exact .refl s
  split
  · exact ((MemoryWork.refl s).setValidLine n e w).cistern ((CisternWork.refl _).raiseOpen _ _)
  · exact .refl s

/-- Serving an access at its tier is work on the tier's memory (R85, R87). -/
theorem serveLocal_memoryWork (a : Acc) (kind : ReqKind) (l : Line) (be : BitVec 64) (poison : Bool) (s : State) :
    MemoryWork s (serveLocal a kind l be poison s).1 := by
  have opened := openValid_memoryWork a.t (extOf a.off) s
  unfold serveLocal
  extract_lets e
  split
  · next u eq => exact (opened.result eq).cistern ((CisternWork.refl _).raiseCtx _ _ _)
  · next u eq =>
    have ready : MemoryWork s u := opened.result eq
    extract_lets hit
    clear_value hit
    split
    · split
      · have filled := ready.pageFill a l (BitVec.allOnes 64) poison
        split <;> next eq' => exact filled.result eq'
      · have filled := ready.pageFill a l be poison
        split <;> next eq' => exact filled.result eq'
      · exact ready
    · split
      · have written := ready.localWrite a l poison
        split <;> next eq' => exact written.result eq'
      · split
        · have written := ready.localWrite a l true
          split <;> next eq' => exact written.result eq'
        · have written := ready.localPartial a l be
          split <;> next eq' => exact written.result eq'
      · have read := ready.localRead a
        split <;> next eq' => exact read.result eq'

end

/-! ### The stacks' repair state stands -/

/-- The repair state is the same. -/
def RepairKept (s u : State) : Prop := u.repair = s.repair

section
variable {s t u : State}

theorem RepairKept.refl (s : State) : RepairKept s s := rfl
theorem RepairKept.trans (h : RepairKept s t) (k : RepairKept t u) : RepairKept s u := Eq.trans k h
theorem RepairKept.ite {c : Prop} [Decidable c] (h : RepairKept s t) (k : RepairKept s u) : RepairKept s (if c then t else u) := by
  split <;> assumption
theorem RepairKept.result {α : Type} {r : State × α} {x : α} (h : RepairKept s r.1) (e : r = (u, x)) : RepairKept s u := by
  subst e
  exact h
theorem RepairKept.forEach {α : Type} (h : RepairKept s t) (l : List α) (f : α → State → State) (hf : ∀ a u, RepairKept u (f a u)) :
    RepairKept s (forEach l f t) := by
  induction l generalizing t with
  | nil => exact h
  | cons a l ih => exact ih (h.trans (hf a t))

theorem RepairKept.ofMemory (h : MemoryWork s t) : RepairKept s t := by
  have frame := h.frame
  generalize t = u at frame ⊢
  rw [frame]
  rfl

theorem RepairKept.cistern (h : RepairKept s t) (k : CisternWork t u) : RepairKept s u := h.trans (BasinKept.ofCistern k).repair
theorem RepairKept.reports (h : RepairKept s t) (k : Reports t u) : RepairKept s u := h.cistern (.ofReports k)
theorem RepairKept.raise (h : RepairKept s t) (src kind level addr detail : Nat) :
    RepairKept s (Machine.raise src kind level addr detail t) := h.reports (raise_reports _ _ _ _ _ _)
theorem RepairKept.raiseCtx (h : RepairKept s t) (src kind c : Nat) : RepairKept s (Machine.raiseCtx src kind c t) := h.raise _ _ _ _ _
theorem RepairKept.raiseOpen (h : RepairKept s t) (src kind : Nat) : RepairKept s (Machine.raiseOpen src kind t) := h.raise _ _ _ _ _
theorem RepairKept.setReg (h : RepairKept s t) (o : Nat) (v : DWord) : RepairKept s (t.setReg o v) := h.trans rfl
theorem RepairKept.emit (h : RepairKept s t) (x : Output) : RepairKept s (t.emit x) := h.trans rfl
theorem RepairKept.setLink (h : RepairKept s t) (a : Nat) (l : AqLink) : RepairKept s (t.setLink a l) := h.trans rfl
theorem RepairKept.setTier (h : RepairKept s t) (n : Nat) (x : Tier) : RepairKept s (t.setTier n x) := h.trans rfl
theorem RepairKept.setHeld (h : RepairKept s t) (l : List Req) : RepairKept s { t with held := l } := h.trans rfl

theorem RepairKept.complete (h : RepairKept s t) (d : DescRef) (status result : Nat) :
    RepairKept s (Machine.complete d status result t) := h.trans (complete_basinKept d status result t).repair

/-! #### Tokens, leaves and wake-ups (R196, R202, R221, R380) -/

theorem RepairKept.wakeTier (h : RepairKept s t) (n : Nat) : RepairKept s (Machine.wakeTier n t) := by
  unfold Machine.wakeTier
  split
  · exact (h.setTier _ _).setReg _ _
  · exact h.trans rfl
  · exact h.setTier _ _

theorem RepairKept.takeToken (h : RepairKept s t) (p k n : Nat) : RepairKept s (Machine.takeToken p k n t) := h.trans rfl
theorem RepairKept.setPortClass (h : RepairKept s t) (p k : Nat) (v : PortClass) : RepairKept s (t.setPortClass p k v) := h.trans rfl
theorem RepairKept.updateCredits (h : RepairKept s t) (p : Nat) : RepairKept s (Machine.updateCredits p t) := h.trans rfl
theorem RepairKept.leafAdd (h : RepairKept s t) (n c k v : Nat) : RepairKept s (Machine.leafAdd n c k v t) := h.trans rfl
theorem RepairKept.markDirty (h : RepairKept s t) (c i p : Nat) : RepairKept s (Machine.markDirty c i p t) := h.trans rfl

theorem RepairKept.remoteAdd (h : RepairKept s t) (n p c k v : Nat) : RepairKept s (Machine.remoteAdd n p c k v t) := by
  unfold Machine.remoteAdd
  extract_lets bank base pairs pair full key x u
  have added : RepairKept s u := h.trans rfl
  exact .ite ((added.setReg _ _).raiseOpen _ _) added

/-! #### The aqueducts (R303-R307) -/

theorem RepairKept.emitFlit (h : RepairKept s t) (a ftype seq : Nat) (m : Option AqMsg) : RepairKept s (Machine.emitFlit a ftype seq m t) :=
  ((h.setLink _ _).emit _).setReg _ _

theorem RepairKept.postMsg (h : RepairKept s t) (a : Nat) (m : AqMsg) : RepairKept s (Machine.postMsg a m t) := by
  unfold Machine.postMsg
  dsimp only
  split
  · exact (h.setLink _ _).emitFlit _ _ _ _
  · exact h.setLink _ _

theorem RepairKept.sendToward (h : RepairKept s t) (d : Nat) (m : AqMsg) : RepairKept s (Machine.sendToward d m t).1 := by
  have noted (x : Sparse Bool) : RepairKept s { t with noRoute := x } := h.trans rfl
  unfold Machine.sendToward
  split
  · exact (noted _).postMsg _ _
  · unfold noRouteEvent
    split
    · exact h
    · exact (noted _).raise _ _ _ _ _

theorem RepairKept.settleTask (h : RepairKept s t) (d : DescRef) : RepairKept s (Machine.settleTask d t) := by
  unfold Machine.settleTask
  split
  · split
    · exact h
    · extract_lets u v
      have ended : RepairKept s u := h.trans rfl
      exact (RepairKept.ite (ended.emit _) ended).complete _ _ _
  · exact h

theorem RepairKept.completeRemote (h : RepairKept s t) (m : AqMsg) : RepairKept s (Machine.completeRemote m t) := by
  unfold Machine.completeRemote
  split
  · exact h
  · extract_lets d src u
    have answered : RepairKept s u := h.trans rfl
    split
    · split
      · exact answered.settleTask _
      · exact answered
    · exact .ite (answered.emit _) (answered.emit _)

theorem RepairKept.sendResponse (h : RepairKept s t) (m : AqMsg) : RepairKept s (Machine.sendResponse m t) :=
  .ite (h.completeRemote m) (h.sendToward _ _)

/-! #### Requests served or held (R20, R79, R80, R391) -/

theorem RepairKept.answerLost (h : RepairKept s t) (r : Req) : RepairKept s (Machine.answerLost r t) := by
  have drawn : RepairKept s t.drawn := h.trans rfl
  exact .ite (drawn.emit _) (drawn.emit _)

theorem RepairKept.expireFrozen (h : RepairKept s t) (r : Req) : RepairKept s (Machine.expireFrozen r t) := (h.raiseCtx _ _ _).answerLost r

theorem RepairKept.expireReset (h : RepairKept s t) (r : Req) : RepairKept s (Machine.expireReset r t) := by
  unfold Machine.expireReset
  extract_lets x u
  have told : RepairKept s u := .ite h ((h.setTier _ _).raiseCtx _ _ _)
  clear_value u
  split
  · exact told.sendResponse _
  · exact told.answerLost r

theorem RepairKept.holdReq (h : RepairKept s t) (r : Req) (why : HoldWhy) : RepairKept s (Machine.holdReq r why t) :=
  .ite (h.expireReset r) (.ite (h.expireFrozen r) (.ite ((h.setHeld _).updateCredits _) (h.setHeld _)))

theorem RepairKept.serveRemote (h : RepairKept s t) (r : Req) (c : Nat) (e : ExtEntry) : RepairKept s (Machine.serveRemote r c e t) := by
  unfold Machine.serveRemote
  extract_lets x pkg pa m
  split
  · next u eq => exact ((h.sendToward pkg m).result eq).answerLost r
  · next u eq => exact ((h.sendToward pkg m).result eq).trans rfl

theorem RepairKept.serveLocal (h : RepairKept s t) (a : Acc) (kind : ReqKind) (l : Line) (be : BitVec 64) (poison : Bool) :
    RepairKept s (Machine.serveLocal a kind l be poison t).1 := h.trans (.ofMemory (serveLocal_memoryWork a kind l be poison t))

end
end Sys2Proof.Machine

namespace Sys2Proof.Machine
open Sys2Proof.Safety

section
variable {s t : State}

theorem RepairKept.setPool (h : RepairKept s t) (p : Pool) : RepairKept s { t with pool := p } := h.trans rfl

theorem RepairKept.pick {α : Type} {c : Prop} [Decidable c] {x y : State × α} (hx : RepairKept s x.1) (hy : RepairKept s y.1) :
    RepairKept s (if c then x else y).1 := by
  split <;> assumption

/-! #### Attempts (R20, R80, R91) -/

theorem RepairKept.attemptRemote (h : RepairKept s t) (r : Req) (m : AqMsg) : RepairKept s (Machine.attemptRemote r m t).1 := by
  unfold Machine.attemptRemote
  extract_lets n off answer kind p r' credit u r'' pool told woken a
  have answered {u : State} (b : Bool) (l : Line) (k : RepairKept s u) : RepairKept s (answer b l u) := k.sendResponse _
  have credited : RepairKept s u := .ite h ((h.setLink _ _).takeToken _ _ _)
  have told' : RepairKept s told := .ite credited ((credited.setPool _).raiseCtx _ _ _)
  have woken' : RepairKept s woken := credited.wakeTier _
  clear_value answer told woken u
  split
  · exact h
  split
  · exact answered _ _ credited
  split
  · exact answered _ _ told'
  split
  · exact answered _ _ (credited.raiseCtx _ _ _)
  split
  · exact woken'
  have served := woken'.serveLocal a kind m.data m.be m.poison
  split
  · next v l hit e =>
    have k : RepairKept s v := served.result e
    exact answered _ _ (.ite ((k.remoteAdd _ _ _ _ _).remoteAdd _ _ _ _ _) (k.remoteAdd _ _ _ _ _))
  · next v e => exact answered _ _ (RepairKept.remoteAdd (served.result e) _ _ _ _ _)
  · next v e => exact answered _ _ (served.result e)
  · next v k hit e => exact answered _ _ (RepairKept.remoteAdd (served.result e) _ _ _ _ _)
  · next v e => exact answered _ _ (served.result e)
  · next v e => exact served.result e
  · next v w e => exact served.result e

theorem RepairKept.attemptPassed (h : RepairKept s t) (r : Req) : RepairKept s (Machine.attemptPassed r t).1 := by
  unfold Machine.attemptPassed
  extract_lets n u a ch
  have woken : RepairKept s u := h.wakeTier _
  clear_value u
  split
  · exact woken
  have served := woken.serveLocal a r.kind r.data r.be r.poison
  split
  · next v l hit e =>
    have k : RepairKept s v := served.result e
    exact (RepairKept.ite ((k.leafAdd _ _ _ _).leafAdd _ _ _ _) (k.leafAdd _ _ _ _)).emit _
  · next v e => exact (RepairKept.leafAdd (served.result e) _ _ _ _).emit _
  · next v e => exact (served.result e).emit _
  · next v k hit e => exact ((RepairKept.leafAdd (served.result e) _ _ _ _).markDirty _ _ _).emit _
  · next v e => exact (served.result e).emit _
  · next v e => exact served.result e
  · next v w e => exact served.result e

theorem RepairKept.attempt (h : RepairKept s t) (r : Req) : RepairKept s (Machine.attempt r t).1 := by
  unfold Machine.attempt
  refine .pick (h.attemptPassed r) (.pick (h.wakeTier _) ?_)
  extract_lets n
  generalize (t.port r.port).windowAt r.dpa = found
  obtain _ | ⟨i, w⟩ := found
  · exact (h.raiseOpen _ _).answerLost r
  dsimp -zeta only
  extract_lets c x r₁ idx e owner off r₂ switching sent u q u' r₃
  refine .pick ((RepairKept.ite h (h.raiseOpen _ _)).answerLost r) (.pick h (.pick ((h.raiseOpen _ _).answerLost r₁)
    (.pick ((h.raiseCtx _ _ _).answerLost r₁) (.pick (h.answerLost r₂) (.pick h (.pick h ?_))))))
  have taken : RepairKept s u := h.takeToken _ _ _
  have sent' : RepairKept s u' := .ite (taken.setPortClass _ _ _) taken
  exact .pick (sent'.serveRemote _ _ _) (sent'.attemptPassed _)

theorem RepairKept.serveReq (h : RepairKept s t) (r : Req) : RepairKept s (Machine.serveReq r t) := by
  have tried : RepairKept s (match r.remote with | some m => Machine.attemptRemote r m t | none => Machine.attempt r t).1 := by
    split
    · exact h.attemptRemote r _
    · exact h.attempt r
  unfold Machine.serveReq
  split
  · next e => exact tried.result e
  · next e => exact RepairKept.holdReq (tried.result e) _ _

/-! #### A migration that ends early (R90) -/

theorem RepairKept.givesBack {u : State} (h : RepairKept s t) (k : GivesBack t u) : RepairKept s u := by
  refine h.trans ?_
  have frame := k.frame
  generalize u = v at frame ⊢
  rw [frame]
  rfl

theorem RepairKept.endMigration (h : RepairKept s t) (m : Migration) (status : Nat) :
    RepairKept s (Machine.endMigration m status t) := by
  have counted (e : ExtEntry) (x : Ctx) : RepairKept s ((t.setExt m.ctx m.index e).setCtx m.ctx x) := h.trans rfl
  unfold Machine.endMigration
  extract_lets e x u u₁ u₂ u₃ again u₄
  have h₀ : RepairKept s u := counted _ _
  have h₁ : RepairKept s u₁ :=
    .ite ((h₀.givesBack (clearValid_givesBack _ _ _)).givesBack (freeExtent_givesBack _ _ _)) (h₀.setPool _)
  have h₂ : RepairKept s u₂ := h₁.trans rfl
  have h₃ : RepairKept s u₃ := h₂.raiseOpen _ _
  have h₄ : RepairKept s u₄ := (h₃.setHeld _).forEach _ _ (fun r v => (RepairKept.refl v).serveReq r)
  exact h₄.complete _ _ _

end
end Sys2Proof.Machine

namespace Sys2Proof.Machine
open Sys2Proof.Safety

/-! ### A pair that fails stays failed (R319, R321, R322, R324) -/

section
variable {t j h g p : Nat} {s u : State}

theorem RepairKept.onlyRegs {P : Nat → Prop} (k : OnlyRegs P s u) : RepairKept s u := (Shown.ofOnlyRegs k).same.1

theorem RepairKept.reportGroup (k : RepairKept s u) (t : Nat) : RepairKept s (Machine.reportGroup t u) := by
  have guaranteed (l : List Nat) (f : Nat → Nat) : RepairKept s (Sys2Proof.forEach l (fun c v =>
      { v with effective := Sparse.set (fun _ => 0) v.effective (t * 64 + c) (f c) }) u) := k.forEach _ _ (fun _ _ => rfl)
  have told (l : List Nat) {v : State} (hv : RepairKept s v) : RepairKept s (Sys2Proof.forEach l setMissBit v) :=
    hv.forEach _ _ (fun c w => (setMissBit_basinKept c w).repair)
  have written (l : List Nat) (f : Nat → Nat) (o₁ o₂ o₃ o₄ o₅ : Nat) (a b c d e : DWord) :=
    (((((guaranteed l f).setReg o₁ a).setReg o₂ b).setReg o₃ c).setReg o₄ d).setReg o₅ e
  unfold Machine.reportGroup
  dsimp only
  exact .ite ((told _ (written _ _ _ _ _ _ _ _ _ _ _ _)).raise _ _ _ _ _) (told _ (written _ _ _ _ _ _ _ _ _ _ _ _))

theorem severRunnel_repair (t j : Nat) (s : State) : RepairKept s (severRunnel t j s) := by
  have empty : RepairKept s (emptyRunnel t j s) := (emptyRunnel_keepsBut t j s).repair
  have mapped : RepairKept s (rewriteMap t j (emptyRunnel t j s)) := empty.trans (.onlyRegs (rewriteMap_onlyRegs t j _))
  have moved (l : List Victim) : RepairKept s (moveVictims t l (rewriteMap t j (emptyRunnel t j s))) :=
    mapped.trans (moveVictims_basinKept t l _).repair
  have assigned (l : List Victim) : RepairKept s (reassignRunnel t j l (emptyRunnel t j s)) := by
    unfold reassignRunnel
    extract_lets v valid tags
    exact RepairKept.reportGroup ((moved l).trans (setMaps_basinKept valid tags v).repair) t
  exact ((assigned _).trans (.onlyRegs (repBit_onlyRegs t _ _))).raise _ _ _ _ _

theorem loseRunnel_repair (t j : Nat) (s : State) : RepairKept s (loseRunnel t j s) := by
  by_cases lost : s.width t j = 2
  · rw [loseRunnel, if_pos lost]
    exact .refl s
  · rw [loseRunnel_eq lost]
    exact ((severRunnel_repair t j s).forEach _ _ (fun m v => (RepairKept.refl v).endMigration m _)).trans (trimHistory_basinKept _).repair

theorem narrowRunnel_sameBad (t j : Nat) (s : State) : SameBad s (narrowRunnel t j s) := by
  cases found : narrowGroups t j s with
  | none =>
    rw [narrowRunnel_of_none found]
    exact .ofRepair (loseRunnel_repair t j s)
  | some u =>
    rw [narrowRunnel_of_some found]
    have flushed : RepairKept u (beginFlush t j u) := (beginFlush_keepsBut t j u).repair
    exact (narrowGroups_regrouped t j s u found).2.trans
      (.ofRepair ((RepairKept.reportGroup (flushed.trans (.onlyRegs (repBit_onlyRegs t _ _))) t).raise _ _ _ _ _))

theorem spareShown_sameBad (t j h g q i entry : Nat) (s : State) :
    SameBad s (queueFuse t entry (showSpare t j h (takeSpare t j h g q i s))) := by
  have shown : SameBad (takeSpare t j h g q i s) (showSpare t j h (takeSpare t j h g q i s)) := .ofRepair (showSpare_shown t j h _).same.1
  exact ((takeSpare_sameBad t j h g q i s).trans shown).trans (queueFuse_sameBad t entry _)

theorem queueNarrow_sameBad (t j entry : Nat) (s : State) : SameBad s (narrowRunnel t j (queueFuse t entry s)) :=
  (queueFuse_sameBad t entry s).trans (narrowRunnel_sameBad t j _)

theorem queueLose_sameBad (t j entry : Nat) (s : State) : SameBad s (loseRunnel t j (queueFuse t entry s)) :=
  (queueFuse_sameBad t entry s).trans (.ofRepair (loseRunnel_repair t j _))

theorem showHop_sameBad (t j h : Nat) (s : State) : SameBad s (showHop t j h s) := .ofRepair (RepairKept.onlyRegs (showHop_onlyRegs t j h s))

/-- What a failing pair brings about besides keeps the pairs that have failed. -/
theorem failPair_sameBad (t j h g p : Nat) (s : State) : SameBad (keepFailed t j h g p s) (failPair t j h g p s) := by
  rw [failPair_eq]
  cases s.fate t j h g p with
  | none => exact showHop_sameBad t j h _
  | spare i => exact spareShown_sameBad t j h g _ i _ _
  | narrow => exact queueNarrow_sameBad t j _ _
  | lose => exact queueLose_sameBad t j _ _

theorem failPair_bad (t j h g p : Nat) (s : State) : p ∈ ((failPair t j h g p s).coil t j h g).bad := by
  rw [failPair_sameBad t j h g p s t j h g]
  exact keepFailed_bad t j h g p s

end

/-! ### The guard-band window (R319) -/

/-- Windows in a row that pair `p` has been past its threshold before this one. -/
def State.pastRun (s : State) (t j h g p : Nat) : Nat := Sparse.get (fun _ => 0) (s.rep t).gb (groupKey j h g * 128 + p)

section
variable {t j h g p n : Nat} {s : State}

/-- A window's end, with the counts of the pairs past their threshold and the pairs that fail at it. -/
def endGuardWindow (t : Nat) (gb : Sparse Nat) (bad : List (Nat × Nat × Nat × Nat)) (s : State) : State :=
  forEach bad (fun x u => failPair t x.1 x.2.1 x.2.2.1 x.2.2.2 u) (s.setRep t { s.rep t with gb := gb, parity := [] })

/-- With one pair past its threshold, the fourth window in a row fails it and an earlier one is counted. -/
theorem exec_guardBandWindow (quiet : (s.rep t).parity = []) (past : max 1 (s.get (bsnBase t 0) BSN_REPAIR_CFG_GB_THRESH) < n) :
    exec (.guardBandWindow t [(j, h, g, p, n)]) s = .next (if 3 ≤ s.pastRun t j h g p then endGuardWindow t [] [(j, h, g, p)] s
      else endGuardWindow t (Sparse.set (fun _ => 0) [] (groupKey j h g * 128 + p) (s.pastRun t j h g p + 1)) [] s) := by
  show execGuardBandWindow t [(j, h, g, p, n)] s = _
  unfold execGuardBandWindow
  extract_lets lim excess par key all old run bad gb ended
  have one : all = [(j, h, g, p)] := by
    have hpast : excess = [(j, h, g, p)] := by
      simp only [excess, lim, List.filter_cons, past, decide_true, if_true, List.filter_nil, List.map]
    have hpar : par = [] := by simp only [par, quiet, List.flatMap_nil]
    simp only [all, hpast, hpar, List.append_nil]
    rfl
  have count : run (j, h, g, p) = s.pastRun t j h g p + 1 := rfl
  show Host.Outcome.next (endGuardWindow t gb bad s) = _
  by_cases fourth : 3 ≤ s.pastRun t j h g p
  · have fails : bad = [(j, h, g, p)] := by simp [bad, one, count, fourth]
    have none : gb = [] := by simp [gb, one, count, fourth]
    rw [if_pos fourth, fails, none]
  · have stays : bad = [] := by simp [bad, one, count, fourth]
    have kept : gb = Sparse.set (fun _ => 0) [] (groupKey j h g * 128 + p) (s.pastRun t j h g p + 1) := by
      have low : s.pastRun t j h g p + 1 < 4 := by omega
      simp [gb, one, count, low, key]
    rw [if_neg fourth, stays, kept]

theorem completes_guardBandWindow_counts (quiet : (s.rep t).parity = [])
    (past : max 1 (s.get (bsnBase t 0) BSN_REPAIR_CFG_GB_THRESH) < n) (below : s.pastRun t j h g p < 3) :
    Completes (.guardBandWindow t [(j, h, g, p, n)]) s (fun u => u = { s with repair := u.repair } ∧
      Sparse.get (fun _ => 0) (u.rep t).gb (groupKey j h g * 128 + p) = s.pastRun t j h g p + 1) := by
  refine ⟨_, exec_guardBandWindow quiet past, ?_⟩
  rw [if_neg (by omega)]
  refine ⟨rfl, ?_⟩
  show Sparse.get _ ((s.setRep t _).rep t).gb _ = _
  rw [rep_setRep]
  exact Sparse.get_set_same (fun _ => 0) [] (groupKey j h g * 128 + p) (s.pastRun t j h g p + 1)

theorem completes_guardBandWindow_fails (quiet : (s.rep t).parity = [])
    (past : max 1 (s.get (bsnBase t 0) BSN_REPAIR_CFG_GB_THRESH) < n) (fourth : 3 ≤ s.pastRun t j h g p) :
    Completes (.guardBandWindow t [(j, h, g, p, n)]) s (fun u => p ∈ (u.coil t j h g).bad) := by
  refine ⟨_, exec_guardBandWindow quiet past, ?_⟩
  rw [if_pos fourth]
  exact failPair_bad t j h g p _

end

/-! ### What a failing pair brings about -/

/-- Settles O34: the spare, the narrowing and the loss by what each changes of the basin, the flush set by set, and the guard-band window
by the pairs that stay failed whatever else a loss brings about. -/
theorem failingPairs : Obligations.FailingPairs := by
  refine ⟨fun t j h g p s ht hj hh _ => ⟨?_, ?_, ?_, exec_failing_of_none⟩, ?_, ?_, ?_, ?_, ?_⟩
  · exact fun i hf => completes_coilSpareReplace hj hh hf
  · exact fun hf hm => completes_runnelNarrow ht hj hf hm
  · intro hf hm
    obtain ⟨u, step, gone⟩ := completes_runnelLost (h := h) (g := g) (p := p) ht hj hf hm
    exact ⟨u, step, gone.width, gone.sets, gone.dirtyExt, gone.flush, gone.shown, gone.map⟩
  · exact fun t j pos s hf free hr clean => exec_sliceFlush_end hf free hr (nextDirty_none clean)
  · exact fun t j pos n w i way s hf free hr hp hs hi hd clean room valid => completes_sliceFlush hf free hr hp hs hi hd clean room valid
  · exact fun t j s idle => exec_sliceFlush_idle idle
  · exact fun t j h s new hw => exec_relayCommandParityError new hw
  · exact fun t j h g p n s quiet past => ⟨completes_guardBandWindow_counts quiet past, completes_guardBandWindow_fails quiet past⟩

end Sys2Proof.Machine

/-! The cistern's channels (chapter 05): what commands of a channel leave alone, column commands, refresh, the sensors of the RDIMMs and
row tracking (R121-R130). -/

namespace Sys2Proof.Machine
open Sys2Proof.Safety

/-! ### The weirs and the collector are told (R39, R147, R207, R341) -/

/-- `u` differs from `s` at most by what the weirs and the collector are told; registers from tier `t` on stay, but for the fault blocks. -/
structure Told (t : Nat) (s u : State) : Prop where
  frame : u = { s with
    regs := u.regs, flt := u.flt, mgmt := u.mgmt, ports := u.ports, out := u.out, pool := u.pool, effective := u.effective
    missPending := u.missPending }
  regs : ∀ o, tierBase t ≤ o → faultReg o = false → u.reg o = s.reg o

section
variable {t : Nat} {s u v : State}

theorem Told.refl (t : Nat) (s : State) : Told t s s := ⟨rfl, fun _ _ _ => rfl⟩

theorem Told.trans (h : Told t s u) (k : Told t u v) : Told t s v := by
  refine ⟨?_, fun o ho hf => (k.regs o ho hf).trans (h.regs o ho hf)⟩
  have e := k.frame
  rw [h.frame] at e
  exact e

theorem Told.ite {c : Prop} [Decidable c] (h : Told t s u) (k : Told t s v) : Told t s (if c then u else v) := by split <;> assumption

theorem Told.forEach {α : Type} (h : Told t s u) (l : List α) (f : α → State → State) (hf : ∀ a v, Told t v (f a v)) :
    Told t s (forEach l f u) := by
  induction l generalizing u with
  | nil => exact h
  | cons a l ih => exact ih (h.trans (hf a u))

theorem Told.ofReports (h : Reports s u) : Told t s u := by
  refine ⟨?_, fun o _ hf => h.regs o hf⟩
  have frame := h.frame
  generalize u = v at frame ⊢
  rw [frame]

theorem Told.raise (h : Told t s u) (src kind level addr detail : Nat) : Told t s (Machine.raise src kind level addr detail u) :=
  h.trans (.ofReports (raise_reports _ _ _ _ _ _))

theorem Told.setReg (h : Told t s u) {o : Nat} (x : DWord) (ho : o < tierBase t) : Told t s (u.setReg o x) :=
  h.trans ⟨rfl, fun _ le _ => State.reg_setReg_ne u x (by omega)⟩

theorem setMissBit_told (t n : Nat) (s : State) : Told t s (setMissBit n s) := by
  have set (b : Bool) : Told t s (s.setRegBit (weirBase + 0x10) n b) :=
    (Told.refl t s).setReg _ (by simp only [weirBase, tierBase]; omega)
  unfold setMissBit
  dsimp only
  exact .ite (.refl t s) (.ite (set _) ((set _).trans ⟨rfl, fun _ _ _ => rfl⟩))

theorem Told.reportGroup (h : Told t s u) : Told t s (Machine.reportGroup t u) := by
  have guaranteed (l : List Nat) (f : Nat → Nat) : Told t s (Sys2Proof.forEach l (fun n v =>
      { v with effective := Sparse.set (fun _ => 0) v.effective (t * 64 + n) (f n) }) u) :=
    h.forEach _ _ (fun _ _ => ⟨rfl, fun _ _ _ => rfl⟩)
  have shown {v : State} (k : Told t s v) (i : Nat) (hi : i < 0x100) (x : DWord) :
      Told t s (v.setReg (weirBase + 0x40 + 0x10 * t + i) x) := k.setReg x (by simp only [weirBase, tierBase]; omega)
  have scaled {v : State} (k : Told t s v) (x : DWord) : Told t s (v.setReg (weirBase + 0x20) x) :=
    k.setReg x (by simp only [weirBase, tierBase]; omega)
  have written (l : List Nat) (f : Nat → Nat) (a b c d e : DWord) := scaled (shown (shown (shown (shown (guaranteed l f) 0 (by decide) a) 4
    (by decide) b) 8 (by decide) c) 0xC (by decide) d) e
  have told (l m : List Nat) (f : Nat → Nat) (a b c d e : DWord) := (written l f a b c d e).forEach m setMissBit (setMissBit_told t)
  unfold Machine.reportGroup
  dsimp only
  exact .ite ((told _ _ _ _ _ _ _ _).raise _ _ _ _ _) (told _ _ _ _ _ _ _ _)

/-- What is told leaves the channels, the slices, the repair state and time alone. -/
theorem Told.same (h : Told t s u) : u.chans = s.chans ∧ u.slices = s.slices ∧ u.repair = s.repair ∧ u.us = s.us := by
  have frame := h.frame
  generalize u = v at frame ⊢
  rw [frame]
  exact ⟨rfl, rfl, rfl, rfl⟩

end

/-! ### Work in the channels of a tier -/

/-- `u` differs from `s` at most by work in the channels of tier `t`: their controllers, weirs and cached tag lines, registers, of those of
the tier the ones of `P`, and what the weirs and the collector are told. The stored lines stay. -/
structure ChannelWork (P : Nat → Prop) (t : Nat) (s u : State) : Prop where
  frame : u = { s with
    regs := u.regs, flt := u.flt, mgmt := u.mgmt, ports := u.ports, out := u.out, pool := u.pool, effective := u.effective
    missPending := u.missPending, chans := u.chans, chanWeirs := u.chanWeirs, tagSets := u.tagSets }
  regs : ∀ o, tierBase t ≤ o → faultReg o = false → ¬P o → u.reg o = s.reg o

/-- Every register may differ. -/
def anyReg (_ : Nat) : Prop := True

section
variable {P Q : Nat → Prop} {t c k : Nat} {s u v : State}

theorem ChannelWork.refl (P : Nat → Prop) (t : Nat) (s : State) : ChannelWork P t s s := ⟨rfl, fun _ _ _ _ => rfl⟩

theorem ChannelWork.trans (h : ChannelWork P t s u) (k : ChannelWork P t u v) : ChannelWork P t s v := by
  refine ⟨?_, fun o ho hf hp => (k.regs o ho hf hp).trans (h.regs o ho hf hp)⟩
  have e := k.frame
  rw [h.frame] at e
  exact e

theorem ChannelWork.mono (h : ChannelWork P t s u) (k : ∀ o, P o → Q o) : ChannelWork Q t s u :=
  ⟨h.frame, fun o ho hf hq => h.regs o ho hf (fun hp => hq (k o hp))⟩

theorem ChannelWork.any (h : ChannelWork P t s u) : ChannelWork anyReg t s u := h.mono (fun _ _ => trivial)

theorem ChannelWork.ite {c : Prop} [Decidable c] (h : ChannelWork P t s u) (k : ChannelWork P t s v) :
    ChannelWork P t s (if c then u else v) := by split <;> assumption

theorem ChannelWork.forEach {α : Type} (h : ChannelWork P t s u) (l : List α) (f : α → State → State)
    (hf : ∀ a v, ChannelWork P t v (f a v)) : ChannelWork P t s (forEach l f u) := by
  induction l generalizing u with
  | nil => exact h
  | cons a l ih => exact ih (h.trans (hf a u))

theorem ChannelWork.setReg (h : ChannelWork P t s u) {o : Nat} (x : DWord) (ho : tierBase t ≤ o → P o) : ChannelWork P t s (u.setReg o x) :=
  h.trans ⟨rfl, fun _ le _ hp => State.reg_setReg_ne u x (by rintro rfl; exact hp (ho le))⟩
theorem ChannelWork.setChan (h : ChannelWork P t s u) (n c : Nat) (x : Chan) : ChannelWork P t s (u.setChan n c x) :=
  h.trans ⟨rfl, fun _ _ _ _ => rfl⟩
theorem ChannelWork.setRank (h : ChannelWork P t s u) (n c k : Nat) (r : Rank) : ChannelWork P t s (u.setRank n c k r) := h.setChan _ _ _
theorem ChannelWork.setChanWeir (h : ChannelWork P t s u) (n c : Nat) (w : ChanWeir) : ChannelWork P t s (u.setChanWeir n c w) :=
  h.trans ⟨rfl, fun _ _ _ _ => rfl⟩
theorem ChannelWork.setTagSet (h : ChannelWork P t s u) (n x : Nat) (g : TagSet) : ChannelWork P t s (u.setTagSet n x g) :=
  h.trans ⟨rfl, fun _ _ _ _ => rfl⟩

theorem ChannelWork.told (h : ChannelWork P t s u) (k : Told t u v) : ChannelWork P t s v := by
  refine h.trans ⟨?_, fun o le hf _ => k.regs o le hf⟩
  have frame := k.frame
  generalize v = w at frame ⊢
  rw [frame]

theorem ChannelWork.raise (h : ChannelWork P t s u) (src kind level addr detail : Nat) :
    ChannelWork P t s (Machine.raise src kind level addr detail u) := h.told ((Told.refl t u).raise _ _ _ _ _)

theorem ChannelWork.drcErr (h : ChannelWork P t s u) (i : Nat) (hp : P (drcBase t c + 0x24)) : ChannelWork P t s (Machine.drcErr t c i u) :=
  h.setReg _ (fun _ => hp)

/-- What the work leaves alone. -/
theorem ChannelWork.same (h : ChannelWork P t s u) : u.cistern = s.cistern ∧ u.held = s.held ∧ u.slices = s.slices ∧ u.valid = s.valid ∧
    u.ctxs = s.ctxs ∧ u.exts = s.exts := by
  have frame := h.frame
  generalize u = v at frame ⊢
  rw [frame]
  exact ⟨rfl, rfl, rfl, rfl, rfl, rfl⟩

theorem faultReg_of_below {o : Nat} (low : 0x100000 ≤ o) (below : o % 0x100000 < 0x60000) : faultReg o = false := by
  have apart : ¬(fltBase ≤ o ∧ o < fltBase + 0x10000) ∧ o ≠ rilBase + 0x40 ∧ ¬(0x100000 ≤ o ∧ 0x60000 ≤ o % 0x100000) := by
    simp only [fltBase, rilBase]; omega
  simpa [faultReg, and_assoc] using apart

theorem faultReg_drc {t c i : Nat} (hc : c < 4) (hi : i < 0x4000) : faultReg (drcBase t c + i) = false :=
  faultReg_of_below (by unfold drcBase tierBase; omega) (by unfold drcBase tierBase; omega)

theorem tierBase_le_drc (t c i : Nat) : tierBase t ≤ drcBase t c + i := by unfold drcBase; omega

theorem ChannelWork.reg (h : ChannelWork P t s u) {i : Nat} (hc : c < 4) (hi : i < 0x4000) (hp : ¬P (drcBase t c + i)) :
    u.reg (drcBase t c + i) = s.reg (drcBase t c + i) := h.regs _ (tierBase_le_drc t c i) (faultReg_drc hc hi) hp

theorem ChannelWork.get (h : ChannelWork P t s u) {f : Fld} (hc : c < 4) (hf : f.off < 0x4000) (hp : ¬P (drcBase t c + f.off)) :
    u.get (drcBase t c) f = s.get (drcBase t c) f := by simp only [State.get, h.reg hc hf hp]

theorem ChannelWork.reportChan (h : ChannelWork P t s u) (hp : P (drcBase t c + 0x20)) : ChannelWork P t s (Machine.reportChan t c u) :=
  (h.setReg _ (fun _ => hp)).told (Told.refl t _).reportGroup

theorem reportChan_chans (t c : Nat) (s : State) : (reportChan t c s).chans = s.chans := by
  unfold reportChan
  dsimp only
  exact (Told.refl t _).reportGroup.same.1.trans (by simp only [State.setReg_frame])

end
end Sys2Proof.Machine

namespace Sys2Proof.Machine
open Sys2Proof.Safety

/-! ### Banks of a channel (R124, R128, R129) -/

/-- Only the banks of a channel can differ. -/
def BanksOnly (ch x : Chan) : Prop := x = { ch with banks := x.banks }

section
variable {ch x y : Chan}

theorem BanksOnly.trans (h : BanksOnly ch x) (k : BanksOnly x y) : BanksOnly ch y := by
  unfold BanksOnly at h k ⊢
  rw [h] at k
  exact k

theorem BanksOnly.setBank (h : BanksOnly ch x) (b : Nat) (v : Bank) : BanksOnly ch (x.setBank b v) := h.trans rfl

theorem Chan.bank_setBank (ch : Chan) (k b : Nat) (v : Bank) : (ch.setBank k v).bank b = if b = k then v else ch.bank b :=
  Sparse.get_set _ _ _ _ _

theorem Chan.mapRank_banksOnly (ch : Chan) (k : Nat) (f : Nat → Bank → Bank) : BanksOnly ch (ch.mapRank k f) :=
  List.foldlRecOn _ _ (motive := BanksOnly ch) rfl (fun _ h b _ => by
    split
    · exact h.setBank _ _
    · exact h)

/-- A change of every bank of a rank, where it leaves an unused bank as it is and done twice is the same as done once. -/
theorem Chan.bank_mapRank (ch : Chan) (k b : Nat) {f : Bank → Bank} (twice : ∀ v, f (f v) = f v) (unused : f {} = {}) :
    (ch.mapRank k (fun _ v => f v)).bank b = if b / 32 % 4 = k then f (ch.bank b) else ch.bank b := by
  have walk (l : List Nat) (x : Chan) (hx : b / 32 % 4 = k → b ∈ l ∨ f (x.bank b) = x.bank b) :
      (l.foldl (fun x b => if b / 32 % 4 = k then x.setBank b (f (x.bank b)) else x) x).bank b =
        if b / 32 % 4 = k then f (x.bank b) else x.bank b := by
    induction l generalizing x with
    | nil =>
      split
      · next mine => exact ((hx mine).resolve_left (by simp)).symm
      · rfl
    | cons a l ih =>
      rw [List.foldl_cons]
      by_cases same : b = a
      · subst same
        by_cases mine : b / 32 % 4 = k
        · rw [if_pos mine, ih _ (fun _ => .inr (by simp [Chan.bank_setBank, twice])), if_pos mine, if_pos mine, Chan.bank_setBank, if_pos rfl,
            twice]
        · rw [if_neg mine, ih x (fun h => absurd h mine)]
      · have rest (mine : b / 32 % 4 = k) := (hx mine).imp_left (fun mem => (List.mem_cons.1 mem).resolve_left same)
        split
        · have apart : (x.setBank a (f (x.bank a))).bank b = x.bank b := by rw [Chan.bank_setBank, if_neg same]
          rw [ih _ (by rw [apart]; exact rest), apart]
        · exact ih x rest
  refine walk _ ch (fun _ => ?_)
  rcases Sparse.get_default_or_mem (fun _ => ({} : Bank)) ch.banks b with none | listed
  · exact .inr (by rw [show ch.bank b = {} from none, unused])
  · exact .inl (List.mem_map.2 ⟨_, listed, rfl⟩)

end

/-! ### Column commands (R121-R124) -/

/-- A channel with the same queues, and the same row in each bank. -/
structure RowsKept (ch x : Chan) : Prop where
  writes : x.writes = ch.writes
  reads : x.reads = ch.reads
  rows : ∀ b, (x.bank b).row = (ch.bank b).row

/-- Work in a channel that keeps its queues and the rows of its banks. -/
structure ColumnWork (t c : Nat) (s u : State) : Prop extends ChannelWork anyReg t s u where
  kept : RowsKept (s.chan t c) (u.chan t c)

/-- Work in a channel that keeps its queues and opens the row of an address. -/
structure OpensRow (t c off : Nat) (s u : State) : Prop extends ChannelWork anyReg t s u where
  writes : (u.chan t c).writes = (s.chan t c).writes
  reads : (u.chan t c).reads = (s.chan t c).reads
  opened : ((u.chan t c).bank (bankKey off)).row = rowOf off

section
variable {t c off cls ctx i : Nat} {ready : List Nat} {e : WriteEntry} {s u v : State} {ch x y : Chan}

theorem RowsKept.refl (ch : Chan) : RowsKept ch ch := ⟨rfl, rfl, fun _ => rfl⟩

theorem RowsKept.trans (h : RowsKept ch x) (k : RowsKept x y) : RowsKept ch y :=
  ⟨k.writes.trans h.writes, k.reads.trans h.reads, fun b => (k.rows b).trans (h.rows b)⟩

theorem RowsKept.setBank (h : RowsKept ch x) (b : Nat) {v : Bank} (hv : v.row = (x.bank b).row) : RowsKept ch (x.setBank b v) := by
  refine h.trans ⟨rfl, rfl, fun j => ?_⟩
  rw [Chan.bank_setBank]
  split
  · next e => rw [hv, e]
  · rfl

theorem ColumnWork.refl (t c : Nat) (s : State) : ColumnWork t c s s := ⟨.refl _ t s, .refl _⟩

theorem ColumnWork.trans (h : ColumnWork t c s u) (k : ColumnWork t c u v) : ColumnWork t c s v :=
  ⟨h.toChannelWork.trans k.toChannelWork, h.kept.trans k.kept⟩

theorem OpensRow.andWork (h : OpensRow t c off s u) (k : ColumnWork t c u v) : OpensRow t c off s v :=
  ⟨h.toChannelWork.trans k.toChannelWork, k.kept.writes.trans h.writes, k.kept.reads.trans h.reads, (k.kept.rows _).trans h.opened⟩

theorem ColumnWork.ite {p : Prop} [Decidable p] (h : ColumnWork t c s u) (k : ColumnWork t c s v) :
    ColumnWork t c s (if p then u else v) := by
  split <;> assumption

theorem ColumnWork.ofChans (h : ChannelWork anyReg t s u) (e : u.chans = s.chans) : ColumnWork t c s u := by
  have chan : u.chan t c = s.chan t c := by simp only [State.chan, e]
  exact ⟨h, chan ▸ .refl _⟩

theorem ColumnWork.setChan (h : ColumnWork t c s u) (k : RowsKept (u.chan t c) x) : ColumnWork t c s (u.setChan t c x) := by
  refine h.trans ⟨(ChannelWork.refl _ t u).setChan _ _ _, ?_⟩
  rw [State.chan_setChan_same]
  exact k

theorem ColumnWork.setReg (h : ColumnWork t c s u) (o : Nat) (x : DWord) : ColumnWork t c s (u.setReg o x) :=
  h.trans (.ofChans ((ChannelWork.refl _ t u).setReg x (fun _ => trivial)) rfl)
theorem ColumnWork.raise (h : ColumnWork t c s u) (src kind level addr detail : Nat) :
    ColumnWork t c s (Machine.raise src kind level addr detail u) :=
  h.trans (.ofChans ((ChannelWork.refl _ t u).raise _ _ _ _ _) ((Told.refl t u).raise _ _ _ _ _).same.1)
theorem ColumnWork.touchRank (h : ColumnWork t c s u) (k : Nat) : ColumnWork t c s (Machine.touchRank t c k u) :=
  h.setChan ⟨rfl, rfl, fun _ => rfl⟩
theorem ColumnWork.noteServed (h : ColumnWork t c s u) (k : Nat) (x : Option Nat) : ColumnWork t c s (Machine.noteServed t c k x u) :=
  h.trans (.ofChans ((ChannelWork.refl _ t u).setChanWeir _ _ _) rfl)
theorem ColumnWork.noteCommand (h : ColumnWork t c s u) (off : Nat) (write : Bool) :
    ColumnWork t c s (Machine.noteCommand t c off write u) := h.setChan ⟨rfl, rfl, fun _ => rfl⟩
theorem ColumnWork.afterColumn (h : ColumnWork t c s u) (off : Nat) (hit : Bool) :
    ColumnWork t c s (Machine.afterColumn t c off hit u) := h.setChan ((RowsKept.refl _).setBank _ rfl)

theorem ColumnWork.issueRfm (h : ColumnWork t c s u) (off : Nat) : ColumnWork t c s (Machine.issueRfm t c off u) := by
  have lowered (l : List Nat) (f : Nat → Nat) : RowsKept (u.chan t c)
      (l.foldl (fun ch g => ch.setBank (f g) { ch.bank (f g) with raa := (ch.bank (f g)).raa - ch.raaimt }) (u.chan t c)) :=
    List.foldlRecOn l _ (motive := RowsKept (u.chan t c)) (.refl _) (fun _ k _ _ => k.setBank _ rfl)
  exact (h.setChan (lowered _ _)).setReg _ _

theorem ColumnWork.namePenalty (h : ColumnWork t c s u) (x : Nat) : ColumnWork t c s (Machine.namePenalty t c x u) := by
  have named (l : List Penalty) : ColumnWork t c s (u.setChan t c { u.chan t c with penalties := l }) := h.setChan ⟨rfl, rfl, fun _ => rfl⟩
  unfold Machine.namePenalty
  dsimp only
  exact .ite ((named _).raise _ _ _ _ _) (named _)

theorem opensRow_setBank {b : Bank} (hb : b.row = rowOf off) (l : List Penalty) (s : State) :
    OpensRow t c off s (s.setChan t c { (s.chan t c).setBank (bankKey off) b with penalties := l }) := by
  refine ⟨(ChannelWork.refl _ t s).setChan _ _ _, ?_, ?_, ?_⟩
  all_goals rw [State.chan_setChan_same]
  · rfl
  · rfl
  · exact (congrArg Bank.row (Chan.bank_setBank _ _ _ _)).trans (by rw [if_pos rfl, hb])

/-- An activation opens its row (R128, R129). -/
theorem activate_opensRow (t c off ctx : Nat) (s : State) : OpensRow t c off s (activate t c off ctx s) := by
  unfold activate
  extract_lets ch k row b old low sameRow hits
  split
  next rest n _ =>
  extract_lets cross b' ch' s₁ s₂ s₃ s₄
  have opened : OpensRow t c off s s₁ := opensRow_setBank rfl _ s
  have refreshed : ColumnWork t c s₁ s₂ := .ite ((ColumnWork.refl t c s₁).issueRfm off) (.refl t c s₁)
  have counted : ColumnWork t c s₁ s₄ := (((refreshed.setReg _ _).setReg _ _).setReg _ _).setReg _ _
  exact opened.andWork (.ite refreshed (.ite (counted.raise _ _ _ _ _) (counted.namePenalty _)))

/-- The work of a column command: its queues stand, and its row is opened unless it was open. -/
structure ColumnRun (t c off : Nat) (s u : State) : Prop extends ChannelWork anyReg t s u where
  writes : (u.chan t c).writes = (s.chan t c).writes
  reads : (u.chan t c).reads = (s.chan t c).reads
  opened : s.rowHit t c off = false → ((u.chan t c).bank (bankKey off)).row = rowOf off

/-- What a column command does once its row is open (R124, R131). -/
def serveColumn (t c off cls ctx : Nat) (write hit : Bool) (s : State) : State :=
  noteServed t c cls (if write then none else some ctx)
    (touchRank t c (rankOf off) (noteCommand t c off write (afterColumn t c off hit s)))

theorem runColumn_of_hit {write : Bool} (hit : s.rowHit t c off = true) :
    runColumn t c off cls ctx write s = serveColumn t c off cls ctx write true s := by
  simp only [runColumn, serveColumn, hit, if_true]

theorem runColumn_of_miss {write : Bool} (miss : s.rowHit t c off = false) :
    runColumn t c off cls ctx write s = serveColumn t c off cls ctx write false (activate t c off ctx s) := by
  simp only [runColumn, serveColumn, miss, Bool.false_eq_true, if_false]

theorem ColumnWork.serveColumn (t c off cls ctx : Nat) (write hit : Bool) (s : State) :
    ColumnWork t c s (Machine.serveColumn t c off cls ctx write hit s) :=
  ((((ColumnWork.refl t c s).afterColumn off hit).noteCommand off write).touchRank _).noteServed _ _

theorem runColumn_columnRun (t c off cls ctx : Nat) (write : Bool) (s : State) :
    ColumnRun t c off s (runColumn t c off cls ctx write s) := by
  cases hit : s.rowHit t c off with
  | true =>
    rw [runColumn_of_hit hit]
    have work := ColumnWork.serveColumn t c off cls ctx write true s
    exact ⟨work.toChannelWork, work.kept.writes, work.kept.reads, fun h => absurd (hit.symm.trans h) (by decide)⟩
  | false =>
    rw [runColumn_of_miss hit]
    have opens := (activate_opensRow t c off ctx s).andWork (.serveColumn t c off cls ctx write false _)
    exact ⟨opens.toChannelWork, opens.writes, opens.reads, fun _ => opens.opened⟩

/-- The direction of the next column command is settled (R123). -/
def settleDirection (t c : Nat) (s : State) : State := s.setChan t c { s.chan t c with writeMode := s.writeDirection t c }

/-- A queue as the scheduler reads it. -/
def writeQueue (ch : Chan) : List (Nat × Nat × Nat × Nat) := ch.writes.map (fun e => (e.off, e.cls, e.ctx, e.arrival))
def readQueue (ch : Chan) : List (Nat × Nat × Nat × Nat) := ch.reads.map (fun e => (e.off, e.cls, e.ctx, e.arrival))

/-- An entry of a queue is taken out. -/
def takeWrite (t c off : Nat) (s : State) : State :=
  s.setChan t c { s.chan t c with writes := (s.chan t c).writes.filter (fun x => x.off ≠ off) }
def takeRead (t c i : Nat) (s : State) : State := s.setChan t c { s.chan t c with reads := (s.chan t c).reads.eraseIdx i }

/-- The write command of an entry: its line is stored and the entry freed (R121). -/
def issueWrite (t c off cls ctx : Nat) (e : WriteEntry) (s : State) : State :=
  let u := (runColumn t c off cls ctx true (takeWrite t c off s)).setCline t off e.line
  if e.pend then clearPend t off u else u

/-- The read command of an entry, which is freed (R121). -/
def issueRead (t c off cls ctx i : Nat) (s : State) : State := runColumn t c off cls ctx false (takeRead t c i s)

theorem chan_settleDirection (t c : Nat) (s : State) :
    (settleDirection t c s).chan t c = { s.chan t c with writeMode := s.writeDirection t c } := State.chan_setChan_same _ _ _ _

theorem exec_columnCommandIssue_write (hw : s.writeDirection t c = true)
    (hp : (settleDirection t c s).pick t c (writeQueue (s.chan t c)) ready = some (off, cls, ctx)) (he : (s.chan t c).entry off = some e) :
    exec (.columnCommandIssue t c ready) s = .next (issueWrite t c off cls ctx e (settleDirection t c s)) := by
  show execColumnCommandIssue t c ready s = _
  unfold execColumnCommandIssue
  extract_lets wr src s₁ ch
  have same : ch.writes = (s.chan t c).writes := (congrArg Chan.writes (chan_settleDirection t c s) :)
  have picked : s₁.pick t c (ch.writes.map (fun e => (e.off, e.cls, e.ctx, e.arrival))) ready = some (off, cls, ctx) := by
    rw [same]; exact hp
  have found : ch.entry off = some e := by rw [Chan.entry, same]; exact he
  rw [if_pos hw, picked]
  dsimp only
  rw [found]
  rfl

theorem exec_columnCommandIssue_read (hw : s.writeDirection t c = false)
    (hp : (settleDirection t c s).pick t c (readQueue (s.chan t c)) ready = some (off, cls, ctx))
    (hi : (s.chan t c).reads.findIdx? (fun e => e.off = off && e.cls = cls && e.ctx = ctx) = some i) :
    exec (.columnCommandIssue t c ready) s = .next (issueRead t c off cls ctx i (settleDirection t c s)) := by
  show execColumnCommandIssue t c ready s = _
  unfold execColumnCommandIssue
  extract_lets wr src s₁ ch
  have same : ch.reads = (s.chan t c).reads := (congrArg Chan.reads (chan_settleDirection t c s) :)
  have picked : s₁.pick t c (ch.reads.map (fun e => (e.off, e.cls, e.ctx, e.arrival))) ready = some (off, cls, ctx) := by
    rw [same]; exact hp
  have found : ch.reads.findIdx? (fun e => e.off = off && e.cls = cls && e.ctx = ctx) = some i := by rw [same]; exact hi
  rw [if_neg (by rw [show wr = false from hw]; decide), picked]
  dsimp only
  rw [found]
  rfl

/-- With nothing ready only the direction is settled (R123). -/
theorem exec_columnCommandIssue_none (hp : (settleDirection t c s).pick t c
      (if s.writeDirection t c then writeQueue (s.chan t c) else readQueue (s.chan t c)) ready = none) :
    exec (.columnCommandIssue t c ready) s = .next (settleDirection t c s) := by
  show execColumnCommandIssue t c ready s = _
  unfold execColumnCommandIssue
  extract_lets wr src s₁ ch
  have chan := chan_settleDirection t c s
  have writes : ch.writes.map (fun e => (e.off, e.cls, e.ctx, e.arrival)) = writeQueue (s.chan t c) := by rw [show ch = _ from chan]; rfl
  have reads : ch.reads.map (fun e => (e.off, e.cls, e.ctx, e.arrival)) = readQueue (s.chan t c) := by rw [show ch = _ from chan]; rfl
  rw [writes, reads]
  cases hw : s.writeDirection t c with
  | true =>
    rw [hw, if_pos rfl] at hp
    rw [if_pos hw, show s₁.pick t c (writeQueue (s.chan t c)) ready = none from hp]
    rfl
  | false =>
    rw [hw, if_neg (by decide)] at hp
    rw [if_neg (by rw [show wr = false from hw]; decide), show s₁.pick t c (readQueue (s.chan t c)) ready = none from hp]
    rfl

theorem ColumnRun.same (h : ColumnRun t c off s u) : u.cistern = s.cistern ∧ u.held = s.held ∧ u.slices = s.slices ∧ u.valid = s.valid ∧
    u.ctxs = s.ctxs ∧ u.exts = s.exts := h.toChannelWork.same


end
end Sys2Proof.Machine

namespace Sys2Proof.Machine
open Sys2Proof.Safety

section
variable {t c off cls ctx i : Nat} {ready : List Nat} {e : WriteEntry} {s u v : State}

theorem rowHit_setChan {x : Chan} (h : x.banks = (s.chan t c).banks) : (s.setChan t c x).rowHit t c off = s.rowHit t c off := by
  unfold State.rowHit
  rw [State.chan_setChan_same, Chan.bank, h]
  rfl

theorem rowHit_settleDirection (t c off : Nat) (s : State) : (settleDirection t c s).rowHit t c off = s.rowHit t c off :=
  rowHit_setChan (x := { s.chan t c with writeMode := s.writeDirection t c }) rfl

theorem clearPend_tags (t off : Nat) (s : State) : clearPend t off s = { s with tagSets := (clearPend t off s).tagSets } := by
  unfold clearPend
  dsimp only
  split <;> rfl

theorem issueWrite_tags (t c off cls ctx : Nat) (e : WriteEntry) (s : State) : issueWrite t c off cls ctx e s =
    { (runColumn t c off cls ctx true (takeWrite t c off s)).setCline t off e.line with tagSets :=
        (issueWrite t c off cls ctx e s).tagSets } := by
  unfold issueWrite
  dsimp only
  generalize (runColumn t c off cls ctx true (takeWrite t c off s)).setCline t off e.line = u
  split
  · exact clearPend_tags t off u
  · rfl

theorem entry_of_filter {ch : Chan} (l : List WriteEntry) (h : ch.writes = l.filter (fun x => x.off ≠ off)) : ch.entry off = none := by
  rw [Chan.entry, h]
  exact List.find?_eq_none.2 (fun x hx => by simpa using List.of_mem_filter hx)

/-- A write command leaves its line stored and its entry freed, and touches no other line. -/
theorem issueWrite_stored (t c off cls ctx : Nat) (e : WriteEntry) (s : State) {u : State} (hu : issueWrite t c off cls ctx e s = u) :
    u.cline t off = some e.line ∧ (u.chan t c).entry off = none ∧
    (∀ k, k ≠ lineKey t off → Sparse.get (fun _ => none) u.cistern k = Sparse.get (fun _ => none) s.cistern k) ∧
    (s.rowHit t c off = false → ((u.chan t c).bank (bankKey off)).row = rowOf off) ∧
    u.ctxs = s.ctxs ∧ u.exts = s.exts ∧ u.valid = s.valid ∧ u.slices = s.slices ∧ u.held = s.held := by
  have run := runColumn_columnRun t c off cls ctx true (takeWrite t c off s)
  have freed := run.writes.trans (congrArg Chan.writes (State.chan_setChan_same s t c _))
  have missed (miss : s.rowHit t c off = false) : (takeWrite t c off s).rowHit t c off = false :=
    (rowHit_setChan (x := { s.chan t c with writes := (s.chan t c).writes.filter (fun x => x.off ≠ off) }) rfl).trans miss
  obtain ⟨cistern, held, slices, valid, ctxs, exts⟩ := run.same
  have frame := (issueWrite_tags t c off cls ctx e s).symm.trans hu
  generalize (issueWrite t c off cls ctx e s).tagSets = m at frame
  have opened := run.opened
  generalize runColumn t c off cls ctx true (takeWrite t c off s) = v at *
  subst frame
  refine ⟨?_, entry_of_filter _ freed, fun k hk => ?_, fun miss => opened (missed miss), ctxs, exts, valid, slices, held⟩
  · exact (State.cline_setCline v t off t off e.line).trans (if_pos rfl)
  · have other : Sparse.get (fun _ => none) (v.setCline t off e.line).cistern k = Sparse.get (fun _ => none) v.cistern k :=
      Sparse.get_set_ne (fun _ => none) v.cistern (some e.line) hk
    exact other.trans (congrArg (fun m => Sparse.get (fun _ => none) m k) cistern)

theorem issueRead_freed (t c off cls ctx i : Nat) (s : State) {u : State} (hu : issueRead t c off cls ctx i s = u) :
    (u.chan t c).reads = (s.chan t c).reads.eraseIdx i ∧ (u.chan t c).writes = (s.chan t c).writes ∧ u.cistern = s.cistern ∧
    (s.rowHit t c off = false → ((u.chan t c).bank (bankKey off)).row = rowOf off) ∧
    u.ctxs = s.ctxs ∧ u.exts = s.exts ∧ u.valid = s.valid ∧ u.slices = s.slices ∧ u.held = s.held := by
  subst hu
  have run := runColumn_columnRun t c off cls ctx false (takeRead t c i s)
  have chan := State.chan_setChan_same s t c { s.chan t c with reads := (s.chan t c).reads.eraseIdx i }
  have missed (miss : s.rowHit t c off = false) : (takeRead t c i s).rowHit t c off = false :=
    (rowHit_setChan (x := { s.chan t c with reads := (s.chan t c).reads.eraseIdx i }) rfl).trans miss
  obtain ⟨cistern, held, slices, valid, ctxs, exts⟩ := run.same
  exact ⟨run.reads.trans (congrArg Chan.reads chan :), run.writes.trans (congrArg Chan.writes chan :), cistern,
    fun miss => run.opened (missed miss), ctxs, exts, valid, slices, held⟩

theorem completes_columnWrite (hw : s.writeDirection t c = true)
    (hp : (settleDirection t c s).pick t c (writeQueue (s.chan t c)) ready = some (off, cls, ctx)) (he : (s.chan t c).entry off = some e) :
    Completes (.columnCommandIssue t c ready) s (fun u =>
      u.cline t off = some e.line ∧ (u.chan t c).entry off = none ∧
      (∀ k, k ≠ lineKey t off → Sparse.get (fun _ => none) u.cistern k = Sparse.get (fun _ => none) s.cistern k) ∧
      (s.rowHit t c off = false → ((u.chan t c).bank (bankKey off)).row = rowOf off) ∧
      u.ctxs = s.ctxs ∧ u.exts = s.exts ∧ u.valid = s.valid ∧ u.slices = s.slices ∧ u.held = s.held) := by
  refine ⟨_, exec_columnCommandIssue_write hw hp he, ?_⟩
  have stored := issueWrite_stored t c off cls ctx e (settleDirection t c s) rfl
  rw [rowHit_settleDirection] at stored
  exact stored

theorem completes_columnRead (hw : s.writeDirection t c = false)
    (hp : (settleDirection t c s).pick t c (readQueue (s.chan t c)) ready = some (off, cls, ctx))
    (hi : (s.chan t c).reads.findIdx? (fun e => e.off = off && e.cls = cls && e.ctx = ctx) = some i) :
    Completes (.columnCommandIssue t c ready) s (fun u =>
      (u.chan t c).reads = (s.chan t c).reads.eraseIdx i ∧ (u.chan t c).writes = (s.chan t c).writes ∧ u.cistern = s.cistern ∧
      (s.rowHit t c off = false → ((u.chan t c).bank (bankKey off)).row = rowOf off) ∧
      u.ctxs = s.ctxs ∧ u.exts = s.exts ∧ u.valid = s.valid ∧ u.slices = s.slices ∧ u.held = s.held) := by
  refine ⟨_, exec_columnCommandIssue_read hw hp hi, ?_⟩
  have freed := issueRead_freed t c off cls ctx i (settleDirection t c s) rfl
  rw [rowHit_settleDirection, chan_settleDirection] at freed
  exact freed

end

/-! ### Refresh and row tracking (R127, R129, R130) -/

section
variable {t c k : Nat} {s u : State}

theorem State.rank_setRank_same (s : State) (t c k : Nat) (r : Rank) : (s.setRank t c k r).rank t c k = r := by
  unfold State.rank State.setRank
  rw [State.chan_setChan_same]
  exact Sparse.get_set_same _ _ _ _

theorem State.rank_setRank_ne (s : State) (t c : Nat) {k j : Nat} (r : Rank) (h : j ≠ k) :
    (s.setRank t c k r).rank t c j = s.rank t c j := by
  unfold State.rank State.setRank
  rw [State.chan_setChan_same]
  exact Sparse.get_set_ne _ _ _ h

theorem State.rank_of_chans (h : u.chans = s.chans) (t c k : Nat) : u.rank t c k = s.rank t c k := by
  simp only [State.rank, State.chan, h]

theorem exec_cisternRefreshDue_postponed (hs : s.rankState t c k = 1) (hu : s.urgent t c k = true)
    (hm : s.flag (drcBase t c) DRC_CH_CFG_REF_MODE = false) (ho : (s.rank t c k).owed < 4) (hp : (s.rank t c k).pulled = 0) :
    exec (.cisternRefreshDue t c k) s = .next (s.setRank t c k { s.rank t c k with owed := (s.rank t c k).owed + 1 }) := by
  show execCisternRefreshDue t c k s = _
  simp [execCisternRefreshDue, hs, hu, hm, ho, hp]

theorem exec_cisternRefreshDue_away (hs : s.rankState t c k = 5 ∨ s.rankState t c k = 3 ∨ s.rankState t c k = 0) :
    exec (.cisternRefreshDue t c k) s = .next s := by
  show execCisternRefreshDue t c k s = _
  exact if_neg (by omega)

/-- At most channels differ, and of one channel neither the queues nor what is pulled in for a rank. -/
structure Refreshed (t c k : Nat) (s u : State) : Prop where
  frame : u = { s with chans := u.chans }
  writes : (u.chan t c).writes = (s.chan t c).writes
  reads : (u.chan t c).reads = (s.chan t c).reads
  pulled : (u.rank t c k).pulled = (s.rank t c k).pulled

theorem Refreshed.trans {v : State} (h : Refreshed t c k s u) (g : Refreshed t c k u v) : Refreshed t c k s v := by
  refine ⟨?_, g.writes.trans h.writes, g.reads.trans h.reads, g.pulled.trans h.pulled⟩
  have e := g.frame
  rw [h.frame] at e
  exact e

/-- A rank is set in a channel that differs in its banks. -/
theorem BanksOnly.refreshed {x : Chan} (h : BanksOnly (s.chan t c) x) {r : Rank} (hr : r.pulled = (s.rank t c k).pulled) :
    Refreshed t c k s (s.setChan t c (x.setRank k r)) := by
  have chan := State.chan_setChan_same s t c (x.setRank k r)
  have writes : x.writes = (s.chan t c).writes := by rw [h]
  have reads : x.reads = (s.chan t c).reads := by rw [h]
  have rank : (s.setChan t c (x.setRank k r)).rank t c k = r := (congrArg (Chan.rank · k) chan).trans (Sparse.get_set_same _ _ _ _)
  exact ⟨rfl, (congrArg Chan.writes chan :).trans writes, (congrArg Chan.reads chan :).trans reads, (congrArg Rank.pulled rank).trans hr⟩

theorem refreshRank_refreshed (t c k : Nat) (s : State) : Refreshed t c k s (refreshRank t c k s) :=
  BanksOnly.refreshed (Chan.mapRank_banksOnly _ _ _) rfl

/-- A rank's refreshes, and none owed after them (R127). -/
def refreshTimes (t c k n : Nat) (s : State) : State := forEach (upto n) (fun _ u => refreshRank t c k u) s
def payRefreshes (t c k : Nat) (s : State) : State := s.setRank t c k { s.rank t c k with owed := 0 }

theorem exec_cisternRefreshDue_issued (hs : s.rankState t c k = 1) (hu : s.urgent t c k = false) (hi : s.rankIdle t c k = false)
    (hp : (s.rank t c k).pulled = 0) :
    exec (.cisternRefreshDue t c k) s = .next (payRefreshes t c k (refreshTimes t c k (1 + (s.rank t c k).owed) s)) := by
  show execCisternRefreshDue t c k s = _
  simp [execCisternRefreshDue, hs, hu, hi, hp, payRefreshes, refreshTimes]

theorem refreshTimes_refreshed (t c k n : Nat) (s : State) : Refreshed t c k s (refreshTimes t c k n s) :=
  forEach_keeps (Refreshed t c k s) _ _ (fun _ u h => h.trans (refreshRank_refreshed t c k u)) s ⟨rfl, rfl, rfl, rfl⟩

theorem completes_cisternRefreshDue (hs : s.rankState t c k = 1) (hu : s.urgent t c k = false) (hi : s.rankIdle t c k = false)
    (hp : (s.rank t c k).pulled = 0) : Completes (.cisternRefreshDue t c k) s (fun u => (u.rank t c k).owed = 0 ∧
      (u.rank t c k).pulled = 0 ∧ u = { s with chans := u.chans } ∧ (u.chan t c).writes = (s.chan t c).writes ∧
      (u.chan t c).reads = (s.chan t c).reads) := by
  refine ⟨_, exec_cisternRefreshDue_issued hs hu hi hp, congrArg Rank.owed (State.rank_setRank_same _ _ _ _ _), ?_⟩
  have paid : Refreshed t c k s (payRefreshes t c k (refreshTimes t c k (1 + (s.rank t c k).owed) s)) :=
    (refreshTimes_refreshed t c k _ s).trans (BanksOnly.refreshed (x := State.chan _ t c) rfl rfl)
  exact ⟨paid.pulled.trans hp, paid.frame, paid.writes, paid.reads⟩

theorem completes_rowTrackerClear (t c k : Nat) (s : State) : Completes (.rowTrackerClear t c k) s (fun u =>
    (∀ b, b / 32 % 4 = k → ((u.chan t c).bank b).tracker = []) ∧
    (∀ b, b / 32 % 4 ≠ k → (u.chan t c).bank b = (s.chan t c).bank b) ∧ u = { s with chans := u.chans }) := by
  refine ⟨_, rfl, fun b hb => ?_, fun b hb => ?_, rfl⟩
  · rw [State.chan_setChan_same, Chan.bank_mapRank _ _ _ (f := fun v => { v with tracker := [] }) (fun _ => rfl) rfl, if_pos hb]
  · rw [State.chan_setChan_same, Chan.bank_mapRank _ _ _ (f := fun v => { v with tracker := [] }) (fun _ => rfl) rfl, if_neg hb]

theorem completes_penaltyExpiry (t c x : Nat) (s : State) : Completes (.penaltyExpiry t c x) s (fun u =>
    (u.chan t c).penalties = (s.chan t c).penalties.filter (fun p => !(p.ctx = x && decide (p.expiry ≤ s.us))) ∧
    u = { s with chans := u.chans }) :=
  ⟨_, rfl, congrArg Chan.penalties (State.chan_setChan_same _ _ _ _), rfl⟩

end
end Sys2Proof.Machine

namespace Sys2Proof.Machine
open Sys2Proof.Safety

/-! ### The bits of the four-rank fields (Table DRC-4) -/

/-- A field with a bit for each of the four ranks. -/
def Fld.fourRanks (f : Fld) : Bool := f.lo + 3 = f.hi && f.hi < 64

theorem bitAt_setBit_fourRanks : ∀ n < 16, ∀ k < 4, ∀ j < 4, ∀ b : Bool,
    bitAt (setBit n k b % 16) j = if j = k then b else bitAt n j := by decide

section
variable {P : Nat → Prop} {t c k j : Nat} {f g : Fld} {s u v : State}

theorem State.get_lt (s : State) (b : Nat) (h : f.fourRanks = true) : s.get b f < 16 := by
  obtain ⟨width, -⟩ : f.lo + 3 = f.hi ∧ f.hi < 64 := by simpa [Fld.fourRanks] using h
  have e : f.hi + 1 - f.lo = 4 := by omega
  unfold State.get bitsAt
  rw [e]
  exact Nat.mod_lt _ (by decide)

/-- The bit of a rank reads as it was put, and those of the other ranks as before. -/
theorem bitAt_putRankBit (hf : f.fourRanks = true) (hk : k < 4) (hj : j < 4) (b : Bool) (s : State) :
    bitAt ((putRankBit t c k f b s).get (drcBase t c) f) j = if j = k then b else bitAt (s.get (drcBase t c) f) j := by
  obtain ⟨width, small⟩ : f.lo + 3 = f.hi ∧ f.hi < 64 := by simpa [Fld.fourRanks] using hf
  have e : f.hi + 1 - f.lo = 4 := by omega
  unfold putRankBit
  rw [State.get_put_same _ _ _ _ (by omega) small, e]
  exact bitAt_setBit_fourRanks _ (s.get_lt _ hf) k hk j hj b

theorem get_putRankBit_apart (h : f.apart g = true) (b : Bool) (s : State) :
    (putRankBit t c k f b s).get (drcBase t c) g = s.get (drcBase t c) g := s.get_put_apart _ _ h

theorem ChannelWork.putRankBit (h : ChannelWork P t s u) (f : Fld) (b : Bool) (hp : P (drcBase t c + f.off)) :
    ChannelWork P t s (Machine.putRankBit t c k f b u) := h.setReg _ (fun _ => hp)

theorem putRankBit_chans (t c k : Nat) (f : Fld) (b : Bool) (s : State) : (putRankBit t c k f b s).chans = s.chans := by
  simp only [putRankBit, State.put_frame]

theorem ChannelWork.raiseRank (h : ChannelWork P t s u) (k kind : Nat) : ChannelWork P t s (Machine.raiseRank t c k kind u) :=
  h.raise _ _ _ _ _

theorem raise_chans (src kind level addr detail : Nat) (s : State) : (raise src kind level addr detail s).chans = s.chans :=
  ((Told.refl 0 s).raise src kind level addr detail).same.1

theorem raiseRank_chans (t c k kind : Nat) (s : State) : (raiseRank t c k kind s).chans = s.chans := raise_chans _ _ _ _ _ _

theorem drcErr_chans (t c i : Nat) (s : State) : (drcErr t c i s).chans = s.chans := by simp only [drcErr, State.setRegBit_frame]

end

/-! ### The sensor of an RDIMM (R126) -/

/-- A rank after a reading of its sensor; `delta`: the change of temperature that calls for a retraining. -/
def Rank.read (r : Rank) (delta : Nat) : Option Int → Rank
  | none => { r with failReads := r.failReads + 1, sensorFailed := r.sensorFailed || decide (8 ≤ r.failReads + 1) }
  | some v =>
    let hotN := if 850 < v then r.hotReads + 1 else 0
    let coolN := if v < 820 then r.coolReads + 1 else 0
    { r with hotReads := hotN, coolReads := coolN, failReads := 0, sensorFailed := false, temp := v
             hot := decide (4 ≤ hotN) || (r.hot && !decide (4 ≤ coolN))
             due := r.due || (delta ≠ 0 && decide (delta * 10 ≤ (v - r.trainTemp).natAbs)) }

/-- A rank is refreshed at the doubled rate. -/
def Rank.doubled (r : Rank) : Bool := r.hot || r.sensorFailed

/-- The sensor of an RDIMM is read: both its ranks take the reading. -/
def readBoth (t c k : Nat) (reading : Option Int) (s : State) : State := rankReading t c (k + 1) reading (rankReading t c k reading s)

/-- A sensor that fails is told, and a change of rate is reported. -/
def tellReading (t c k : Nat) (was : Bool) (before : Nat) (s : State) : State :=
  let s := if (s.rank t c k).sensorFailed && !was then raiseRank t c k 6 (drcErr t c 5 s) else s
  if s.get (drcBase t c) DRC_RANK_STATUS_DOUBLED = before then s else reportChan t c s

section
variable {t c d k : Nat} {reading : Option Int} {s u : State}

theorem chan_lt_of_serves (serves : s.chanServes t c = true) : c < 4 := by
  obtain ⟨⟨-, hc⟩, -⟩ : (t < s.nTiers ∧ c < 4) ∧ (s.tier t).cap ≠ 0 := by simpa [State.chanServes] using serves
  exact hc

theorem exec_dimmSensorRead (serves : s.chanServes t c = true) (hd : d < 2) : exec (.dimmSensorRead t c d reading) s =
    .next (tellReading t c (d * 2) (s.rank t c (d * 2)).sensorFailed (s.get (drcBase t c) DRC_RANK_STATUS_DOUBLED)
      (readBoth t c (d * 2) reading s)) := by
  show execDimmSensorRead t c d reading s = _
  have both : d % 2 * 2 = d * 2 := by omega
  unfold execDimmSensorRead
  rw [if_neg (by simp [serves]), both]
  rfl

theorem rankReading_eq (t c k : Nat) (reading : Option Int) (s : State) : rankReading t c k reading s =
    let r := (s.rank t c k).read (s.get (drcBase t c) DRC_RETRAIN_TEMP_DELTA) reading
    putRankBit t c k DRC_RANK_STATUS_DOUBLED r.doubled (s.setRank t c k r) := by
  cases reading <;> rfl

theorem Rank.read_hot {r : Rank} {v : Int} (hot : 850 < v) (third : r.hotReads = 3) (delta : Nat) :
    (r.read delta (some v)).doubled = true := by
  simp [Rank.read, Rank.doubled, hot, third]

theorem Rank.read_failed {r : Rank} (seventh : r.failReads = 7) (delta : Nat) : (r.read delta none).sensorFailed = true := by
  simp [Rank.read, seventh]

/-- What a reading leaves of a rank, and the bit that shows the rank's rate. -/
structure RankRead (t c k : Nat) (reading : Option Int) (s u : State) : Prop extends ChannelWork (· = drcBase t c + 0x10) t s u where
  rank : ∃ delta, u.rank t c k = (s.rank t c k).read delta reading
  others : ∀ j, j ≠ k → u.rank t c j = s.rank t c j
  bit : bitAt (u.get (drcBase t c) DRC_RANK_STATUS_DOUBLED) k = (u.rank t c k).doubled
  bits : ∀ j, j < 4 → j ≠ k → bitAt (u.get (drcBase t c) DRC_RANK_STATUS_DOUBLED) j = bitAt (s.get (drcBase t c) DRC_RANK_STATUS_DOUBLED) j

theorem rankReading_rankRead (t c : Nat) (hk : k < 4) (reading : Option Int) (s : State) :
    RankRead t c k reading s (rankReading t c k reading s) := by
  rw [rankReading_eq]
  extract_lets r
  have rank (j : Nat) : (putRankBit t c k DRC_RANK_STATUS_DOUBLED r.doubled (s.setRank t c k r)).rank t c j =
      (s.setRank t c k r).rank t c j :=
    State.rank_of_chans (putRankBit_chans _ _ _ _ _ _) t c j
  refine ⟨((ChannelWork.refl _ t s).setRank t c k r).putRankBit _ _ rfl, ⟨_, (rank k).trans (s.rank_setRank_same t c k r)⟩,
    fun j hj => (rank j).trans (s.rank_setRank_ne t c r hj), ?_, fun j hj hne => ?_⟩
  · rw [rank, s.rank_setRank_same, bitAt_putRankBit (by decide) hk hk, if_pos rfl]
  · rw [bitAt_putRankBit (by decide) hk hj, if_neg hne]
    rfl

/-- Both ranks of the RDIMM have taken the reading, and their bits show their rates. -/
theorem readBoth_read (t c : Nat) (hk : k < 3) (reading : Option Int) (s : State) :
    ChannelWork (· = drcBase t c + 0x10) t s (readBoth t c k reading s) ∧ ∀ j, j = k ∨ j = k + 1 →
      (∃ delta, (readBoth t c k reading s).rank t c j = (s.rank t c j).read delta reading) ∧
      bitAt ((readBoth t c k reading s).get (drcBase t c) DRC_RANK_STATUS_DOUBLED) j = ((readBoth t c k reading s).rank t c j).doubled := by
  have first := rankReading_rankRead t c (k := k) (by omega) reading s
  have second := rankReading_rankRead t c (k := k + 1) (by omega) reading (rankReading t c k reading s)
  refine ⟨first.toChannelWork.trans second.toChannelWork, ?_⟩
  rintro j (rfl | rfl)
  · have stays := second.others j (by omega)
    refine ⟨?_, (second.bits j (by omega) (by omega)).trans (first.bit.trans (congrArg Rank.doubled stays).symm)⟩
    obtain ⟨delta, rank⟩ := first.rank
    exact ⟨delta, stays.trans rank⟩
  · obtain ⟨delta, rank⟩ := second.rank
    rw [first.others _ (by omega)] at rank
    exact ⟨⟨delta, rank⟩, second.bit⟩

theorem tellReading_work (t c k : Nat) (was : Bool) (before : Nat) (s : State) :
    ChannelWork (fun o => o = drcBase t c + 0x20 ∨ o = drcBase t c + 0x24) t s (tellReading t c k was before s) := by
  have refl := ChannelWork.refl (fun o => o = drcBase t c + 0x20 ∨ o = drcBase t c + 0x24) t s
  have failed : ChannelWork (fun o => o = drcBase t c + 0x20 ∨ o = drcBase t c + 0x24) t s
      (if (s.rank t c k).sensorFailed && !was then raiseRank t c k 6 (drcErr t c 5 s) else s) :=
    .ite ((refl.drcErr 5 (.inr rfl)).raiseRank k 6) refl
  exact .ite failed (failed.reportChan (.inl rfl))

theorem tellReading_chans (t c k : Nat) (was : Bool) (before : Nat) (s : State) : (tellReading t c k was before s).chans = s.chans := by
  unfold tellReading
  extract_lets u
  have failed : u.chans = s.chans := by
    simp only [u]
    split
    · rw [raiseRank_chans, drcErr_chans]
    · rfl
  split
  · exact failed
  · rw [reportChan_chans, failed]

/-- The outcome of a reading: both ranks of the RDIMM have taken it, and their bits show their rates; the stored lines stay. -/
theorem completes_dimmSensorRead (serves : s.chanServes t c = true) (hd : d < 2) (reading : Option Int) :
    Completes (.dimmSensorRead t c d reading) s (fun u => (∀ j, j = d * 2 ∨ j = d * 2 + 1 →
      (∃ delta, u.rank t c j = (s.rank t c j).read delta reading) ∧
      bitAt (u.get (drcBase t c) DRC_RANK_STATUS_DOUBLED) j = (u.rank t c j).doubled) ∧ u.cistern = s.cistern ∧ u.held = s.held) := by
  have hc := chan_lt_of_serves serves
  refine ⟨_, exec_dimmSensorRead serves hd, ?_⟩
  obtain ⟨work, both⟩ := readBoth_read t c (k := d * 2) (by omega) reading s
  generalize readBoth t c (d * 2) reading s = v at work both
  have told := tellReading_work t c (d * 2) (s.rank t c (d * 2)).sensorFailed (s.get (drcBase t c) DRC_RANK_STATUS_DOUBLED) v
  have chans := tellReading_chans t c (d * 2) (s.rank t c (d * 2)).sensorFailed (s.get (drcBase t c) DRC_RANK_STATUS_DOUBLED) v
  generalize tellReading t c (d * 2) _ _ v = u at told chans
  obtain ⟨cistern, held, -⟩ := work.any.trans told.any |>.same
  refine ⟨fun j hj => ?_, cistern, held⟩
  rw [State.rank_of_chans chans, told.get hc (by decide) (by simp only [DRC_RANK_STATUS_DOUBLED]; omega)]
  exact both j hj

end

/-- Settles O15: a column command by the work of its activation and its command, a refresh by what it leaves of the channel, a reading by
what both ranks make of it. -/
theorem cisternCommands : Obligations.CisternCommands := by
  unfold Obligations.CisternCommands
  refine ⟨fun t c ready s => ⟨fun off cls ctx e hw hp he => completes_columnWrite hw hp he,
      fun off cls ctx i hw hp hi => completes_columnRead hw hp hi, fun hp => exec_columnCommandIssue_none hp⟩,
    fun t c k s => exec_cisternRefreshDue_postponed, fun t c k s => completes_cisternRefreshDue,
    fun t c k s => exec_cisternRefreshDue_away, ?hot, ?failed, completes_rowTrackerClear, completes_penaltyExpiry⟩
  case hot =>
    intro t c d v s serves hot hd first second
    obtain ⟨u, step, both, cistern, held⟩ := completes_dimmSensorRead serves hd (some v)
    have doubled (j : Nat) (hj : j = d * 2 ∨ j = d * 2 + 1) (third : (s.rank t c j).hotReads = 3) :
        bitAt (u.get (drcBase t c) DRC_RANK_STATUS_DOUBLED) j = true := by
      obtain ⟨⟨delta, rank⟩, bit⟩ := both j hj
      rw [bit, rank, Rank.read_hot hot third]
    exact ⟨u, step, doubled _ (.inl rfl) first, doubled _ (.inr rfl) second, cistern, held⟩
  case failed =>
    intro t c d s serves hd first second
    obtain ⟨u, step, both, cistern, held⟩ := completes_dimmSensorRead serves hd none
    have failed (j : Nat) (hj : j = d * 2 ∨ j = d * 2 + 1) (seventh : (s.rank t c j).failReads = 7) :
        (u.rank t c j).sensorFailed = true := by
      obtain ⟨⟨delta, rank⟩, -⟩ := both j hj
      rw [rank, Rank.read_failed seventh]
    have one := failed _ (.inl rfl) first
    refine ⟨u, step, one, failed _ (.inr rfl) second, ?_, cistern, held⟩
    rw [(both _ (.inl rfl)).2, Rank.doubled, one, Bool.or_true]

end Sys2Proof.Machine

/-! Ranks that are retrained, replayed and fenced (R131-R139). -/

namespace Sys2Proof.Machine
open Sys2Proof.Safety

/-! ### Rank states (Table DRC-4) -/

section
variable {P : Nat → Prop} {t c k j v : Nat} {f : Fld} {s u w : State}

/-- The state of a rank reads as it was set, and those of the other ranks as before. -/
theorem rankState_setRankState (hk : k < 4) (hv : v < 8) (s : State) :
    (setRankState t c k v s).rankState t c j = if j = k then v else s.rankState t c j := by
  have small : s.get (drcBase t c) DRC_RANK_STATUS_STATE < 2 ^ 16 := Nat.mod_lt _ (by decide)
  have fits := setBits_lt (v := v) small (show 4 * k + 2 < 16 by omega) (show 4 * k ≤ 4 * k + 2 by omega)
  unfold State.rankState setRankState
  rw [State.get_put_same _ _ _ _ (by decide) (by decide)]
  rw [show DRC_RANK_STATUS_STATE.hi + 1 - DRC_RANK_STATUS_STATE.lo = 16 from rfl, Nat.mod_eq_of_lt fits]
  split
  · next e =>
    rw [e, bitsAt_setBits_same _ _ _ _ (by omega), show 4 * k + 2 + 1 - 4 * k = 3 by omega]
    exact Nat.mod_eq_of_lt hv
  · next ne => exact bitsAt_setBits_other _ _ _ _ _ _ (by omega) (by omega) (by omega)

theorem rankState_of_get (h : u.get (drcBase t c) DRC_RANK_STATUS_STATE = s.get (drcBase t c) DRC_RANK_STATUS_STATE) (j : Nat) :
    u.rankState t c j = s.rankState t c j := by simp only [State.rankState, h]

theorem rankState_putRankBit (h : f.apart DRC_RANK_STATUS_STATE = true) (b : Bool) (s : State) :
    (putRankBit t c k f b s).rankState t c j = s.rankState t c j := rankState_of_get (get_putRankBit_apart h b s) j

theorem ChannelWork.setRankState (h : ChannelWork P t s u) (k v : Nat) (hp : P (drcBase t c + 0x10)) :
    ChannelWork P t s (Machine.setRankState t c k v u) := h.setReg _ (fun _ => hp)

theorem ChannelWork.rankState (h : ChannelWork P t s u) (hc : c < 4) (hp : ¬P (drcBase t c + 0x10)) (j : Nat) :
    u.rankState t c j = s.rankState t c j := rankState_of_get (h.get hc (by decide) hp) j

theorem ChannelWork.training (h : ChannelWork P t s u) (hc : c < 4) (hp : ¬P (drcBase t c + 0xC)) : u.training t c = s.training t c := by
  simp only [State.training, State.flag, h.get (f := DRC_OP_STATUS_TRAINING) hc (by decide) hp]

/-! ### What a rank's fault tells (Table DRC-7) -/

/-- A fault of a rank is counted, kept in DRC_ERR_STATUS and told. -/
def tellRank (t c k kind i o : Nat) (s : State) : State := raiseRank t c k kind (drcErr t c i (s.count (drcBase t c + o) 1))

theorem tellRank_chans (t c k kind i o : Nat) (s : State) : (tellRank t c k kind i o s).chans = s.chans := by
  rw [tellRank, raiseRank_chans, drcErr_chans]
  simp only [State.count_frame]

theorem tellRank_work (t c k kind i o : Nat) (s : State) :
    ChannelWork (fun a => a = drcBase t c + 0x24 ∨ a = drcBase t c + o) t s (tellRank t c k kind i o s) :=
  (((ChannelWork.refl _ t s).setReg _ (fun _ => .inr rfl)).drcErr i (.inl rfl)).raiseRank k kind

theorem reg_tellRank {o : Nat} (hc : c < 4) (ho : o < 0x4000) (hne : o ≠ 0x24) (kind i : Nat) (s : State) :
    (tellRank t c k kind i o s).reg (drcBase t c + o) =
      BitVec.ofNat 64 (min (2 ^ 64 - 1) ((s.reg (drcBase t c + o)).toNat + 1)) := by
  have after : ChannelWork (· = drcBase t c + 0x24) t (s.count (drcBase t c + o) 1) (tellRank t c k kind i o s) :=
    ((ChannelWork.refl (· = drcBase t c + 0x24) t _).drcErr i rfl).raiseRank k kind
  rw [after.reg hc ho (by omega)]
  exact State.reg_setReg_same _ _ _

/-! ### Fencing (R138, R139) -/

/-- The registers of its channel that a fence writes, and those of them that the loss of writes does. -/
def fenceLossRegs (t c o : Nat) : Prop := o = drcBase t c + 0x20 ∨ o = drcBase t c + 0x68
def fenceRegs (t c o : Nat) : Prop := o = drcBase t c + 0x10 ∨ o = drcBase t c + 0x24 ∨ fenceLossRegs t c o

/-- A rank is FENCED, which is shown and told. -/
def beginFence (t c k : Nat) (s : State) : State :=
  let s := putRankBit t c k DRC_RANK_STATUS_FENCED true (setRankState t c k 5 s)
  raiseRank t c k 3 (drcErr t c 3 (s.setRank t c k { s.rank t c k with heldSince := none, due := false, reported := [] }))

/-- The queue entries of a rank are taken out. -/
def dropEntries (t c k : Nat) (s : State) : State :=
  s.setChan t c { s.chan t c with
    writes := (s.chan t c).writes.filter (fun e => rankOf e.off ≠ k), reads := (s.chan t c).reads.filter (fun e => rankOf e.off ≠ k) }

/-- The writes of a fenced rank are lost with its cached tag lines, and the bandwidth is reported. -/
def loseWrites (t c k : Nat) (lost : List WriteEntry) (s : State) : State :=
  reportChan t c (dropRankTags t c k (forEach lost (fun e u => lostOnFence t c k e.ctx u) s))

theorem fenceRank_eq (t c k : Nat) (s : State) : fenceRank t c k s =
    loseWrites t c k (((beginFence t c k s).chan t c).writes.filter (fun e => rankOf e.off = k))
      (dropEntries t c k (beginFence t c k s)) := rfl

/-- The same queues. -/
def SameQueues (t c : Nat) (s u : State) : Prop := (u.chan t c).writes = (s.chan t c).writes ∧ (u.chan t c).reads = (s.chan t c).reads

theorem SameQueues.trans (h : SameQueues t c s u) (g : SameQueues t c u w) : SameQueues t c s w := ⟨g.1.trans h.1, g.2.trans h.2⟩

theorem SameQueues.ofChans (h : u.chans = s.chans) : SameQueues t c s u := by
  simp only [SameQueues, State.chan, h, and_self]

theorem sameQueues_setRank (t c k : Nat) (r : Rank) (s : State) : SameQueues t c s (s.setRank t c k r) := by
  have chan := State.chan_setChan_same s t c ((s.chan t c).setRank k r)
  exact ⟨(congrArg Chan.writes chan :), (congrArg Chan.reads chan :)⟩

theorem lostOnFence_sameQueues (t c k x : Nat) (s : State) : SameQueues t c s (lostOnFence t c k x s) := by
  have counted : SameQueues t c s (s.count (drcBase t c + 0x68) 1) := .ofChans (by simp only [State.count_frame])
  unfold lostOnFence
  dsimp only
  split
  · exact counted
  · exact (counted.trans (sameQueues_setRank _ _ _ _ _)).trans (.ofChans (raise_chans _ _ _ _ _ _))

theorem lostOnFence_work (t c k x : Nat) (s : State) : ChannelWork (fenceLossRegs t c) t s (lostOnFence t c k x s) := by
  have counted : ChannelWork (fenceLossRegs t c) t s (s.count (drcBase t c + 0x68) 1) :=
      (ChannelWork.refl _ t s).setReg _ (fun _ => .inr rfl)
  exact .ite counted ((counted.setRank _ _ _ _).raise _ _ _ _ _)

theorem dropRankTags_work (t c k : Nat) (s : State) :
    ChannelWork P t s (dropRankTags t c k s) ∧ (dropRankTags t c k s).chans = s.chans := by
  unfold dropRankTags
  refine forEach_keeps (fun u => ChannelWork P t s u ∧ u.chans = s.chans) _ _ (fun key u hu => ?_) s ⟨.refl P t s, rfl⟩
  split
  · exact hu
  · extract_lets x g lost
    split
    · exact hu
    · exact ⟨hu.1.setTagSet _ _ _, hu.2⟩

theorem loseWrites_kept (t c k : Nat) (lost : List WriteEntry) (s : State) :
    ChannelWork (fenceLossRegs t c) t s (loseWrites t c k lost s) ∧ SameQueues t c s (loseWrites t c k lost s) := by
  unfold loseWrites
  have gone : ChannelWork (fenceLossRegs t c) t s (forEach lost (fun e u => lostOnFence t c k e.ctx u) s) :=
    (ChannelWork.refl _ t s).forEach _ _ (fun e u => lostOnFence_work t c k e.ctx u)
  have queues : SameQueues t c s (forEach lost (fun e u => lostOnFence t c k e.ctx u) s) :=
    forEach_keeps (SameQueues t c s) _ _ (fun e u h => h.trans (lostOnFence_sameQueues t c k e.ctx u)) s ⟨rfl, rfl⟩
  generalize forEach lost (fun e u => lostOnFence t c k e.ctx u) s = u at gone queues
  obtain ⟨tags, chans⟩ := dropRankTags_work (P := fenceLossRegs t c) t c k u
  exact ⟨(gone.trans tags).reportChan (.inl rfl), queues.trans (.ofChans ((reportChan_chans t c _).trans chans))⟩

/-- A fence as its channel shows it: no queue entry names the rank any more. -/
structure RankFenced (t c k : Nat) (s u : State) : Prop extends ChannelWork (fenceRegs t c) t s u where
  state : u.rankState t c k = 5
  fenced : u.fenced t c k = true
  writes : ∀ e ∈ (u.chan t c).writes, rankOf e.off ≠ k
  reads : ∀ e ∈ (u.chan t c).reads, rankOf e.off ≠ k

theorem beginFence_shown (hc : c < 4) (hk : k < 4) (s : State) : ChannelWork (fenceRegs t c) t s (beginFence t c k s) ∧
    (beginFence t c k s).rankState t c k = 5 ∧ (beginFence t c k s).fenced t c k = true := by
  unfold beginFence
  extract_lets v
  have shown : ChannelWork (fenceRegs t c) t s v := ((ChannelWork.refl _ t s).setRankState k 5 (.inl rfl)).putRankBit _ _ (.inl rfl)
  have state : v.rankState t c k = 5 :=
    (rankState_putRankBit (by decide) _ _).trans ((rankState_setRankState hk (by decide) s).trans (if_pos rfl))
  have bit : v.fenced t c k = true := (bitAt_putRankBit (by decide) hk hk true _).trans (if_pos rfl)
  clear_value v
  have told (P : Nat → Prop) (hp : P (drcBase t c + 0x24)) (r : Rank) :
      ChannelWork P t v (raiseRank t c k 3 (drcErr t c 3 (v.setRank t c k r))) :=
    (((ChannelWork.refl P t v).setRank t c k r).drcErr 3 hp).raiseRank k 3
  refine ⟨shown.trans (told _ (.inr (.inl rfl)) _), ?_, ?_⟩
  · rw [(told (· = drcBase t c + 0x24) rfl _).rankState hc (by omega), state]
  · rw [State.fenced, (told (· = drcBase t c + 0x24) rfl _).get hc (by decide) (by simp only [DRC_RANK_STATUS_FENCED]; omega)]
    exact bit

theorem fenceRank_fenced (hc : c < 4) (hk : k < 4) (s : State) : RankFenced t c k s (fenceRank t c k s) := by
  obtain ⟨begun, state, fenced⟩ := beginFence_shown (t := t) hc hk s
  rw [fenceRank_eq]
  generalize beginFence t c k s = v at *
  have dropped : ChannelWork (fenceLossRegs t c) t v (dropEntries t c k v) := (ChannelWork.refl _ t v).setChan _ _ _
  have chan := State.chan_setChan_same v t c { v.chan t c with
    writes := (v.chan t c).writes.filter (fun e => rankOf e.off ≠ k), reads := (v.chan t c).reads.filter (fun e => rankOf e.off ≠ k) }
  obtain ⟨lost, writes, reads⟩ := loseWrites_kept t c k ((v.chan t c).writes.filter (fun e => rankOf e.off = k)) (dropEntries t c k v)
  have work := dropped.trans lost
  have apart : ¬fenceLossRegs t c (drcBase t c + 0x10) := by simp only [fenceLossRegs]; omega
  refine ⟨begun.trans (work.mono (fun _ h => .inr (.inr h))), ?_, ?_, fun e he => ?_, fun e he => ?_⟩
  · exact (work.rankState hc apart k).trans state
  · rw [State.fenced, work.get hc (by decide) apart]
    exact fenced
  · rw [writes, dropEntries, chan] at he
    simpa using List.of_mem_filter he
  · rw [reads, dropEntries, chan] at he
    simpa using List.of_mem_filter he

theorem releaseChan_of_none (h : ∀ r ∈ s.held, r.why ≠ .rankHeld) : releaseChan t c s = s := by
  have stays (r : Req) (hr : r ∈ s.held) : (r.tier = t && r.chan = c && r.why = .rankHeld) = false := by simp [h r hr]
  have none : s.held.filter (fun r => r.tier = t && r.chan = c && r.why = .rankHeld) = [] :=
    List.filter_eq_nil_iff.2 (fun r hr => by simp [stays r hr])
  have all : s.held.filter (fun r => !(r.tier = t && r.chan = c && r.why = .rankHeld)) = s.held :=
    List.filter_eq_self.2 (fun r hr => by simp [stays r hr])
  unfold releaseChan retryHeld
  rw [none, all]
  rfl

end
end Sys2Proof.Machine

namespace Sys2Proof.Machine
open Sys2Proof.Safety

/-! ### Command-parity alerts (R131, R132) -/

/-- No register differs. -/
def noReg (_ : Nat) : Prop := False

/-- The banks of a rank are closed for a replay. -/
def closeRank (t c k : Nat) (s : State) : State := s.setChan t c ((s.chan t c).mapRank k (fun _ b => { b with isOpen := false }))

/-- The number of a rank's replays that have failed in a row. -/
def setReplays (t c k n : Nat) (s : State) : State := s.setRank t c k { s.rank t c k with failedReplays := n }

/-- A replay has passed: the bus's commands are known to be good. -/
def passReplay (t c sub k : Nat) (s : State) : State :=
  let s := closeRank t c k s
  let bus := k / 2 * 2 + sub % 2
  let good := (Sparse.get (fun _ => []) (s.chan t c).retry bus).map (fun x => { x with knownGood := true })
  let u := s.setChan t c { s.chan t c with retry := Sparse.set (fun _ => []) (s.chan t c).retry bus good }
  u.setRank t c k { s.rank t c k with failedReplays := 0 }

/-- The third replay in a row has failed: the CA bus is retrained. -/
def thirdReplay (t c k : Nat) (s : State) : State :=
  let s := tellRank t c k 1 1 0x48 (setReplays t c k 0 (closeRank t c k s))
  s.setChanWeir t c { s.chanWeir t c with disturbed := true }

section
variable {P : Nat → Prop} {t c sub k j n : Nat} {ca : Bool} {s u v : State}

theorem rank_setChan {x : Chan} (h : x.ranks = (s.chan t c).ranks) (j : Nat) : (s.setChan t c x).rank t c j = s.rank t c j := by
  unfold State.rank
  rw [State.chan_setChan_same, Chan.rank, h]
  rfl

theorem rank_closeRank (t c k j : Nat) (s : State) : (closeRank t c k s).rank t c j = s.rank t c j :=
  rank_setChan (by rw [Chan.mapRank_banksOnly]) j

theorem ChannelWork.closeRank (h : ChannelWork P t s u) (c k : Nat) : ChannelWork P t s (Machine.closeRank t c k u) := h.setChan _ _ _
theorem ChannelWork.setReplays (h : ChannelWork P t s u) (c k n : Nat) : ChannelWork P t s (Machine.setReplays t c k n u) :=
    h.setRank _ _ _ _

theorem rank_setReplays (t c k n : Nat) (s : State) : ((setReplays t c k n s).rank t c k).failedReplays = n :=
  congrArg Rank.failedReplays (s.rank_setRank_same t c k _)

/-- A rank that takes part in an alert: its channel serves, and it is neither absent nor FENCED. -/
structure Alerted (t c k : Nat) (s : State) : Prop where
  serves : s.chanServes t c = true
  present : s.rankState t c k ≠ 0
  unfenced : s.rankState t c k ≠ 5

theorem Alerted.passes (a : Alerted t c k s) : ¬(!s.chanServes t c || s.rankState t c k = 0 || s.rankState t c k = 5) = true := by
  simp [a.serves, a.present, a.unfenced]

theorem Alerted.exec_passed (a : Alerted t c k s) : exec (.caParityAlert t c sub k true ca) s =
    .next (tellRank t c k 0 0 0x40 (passReplay t c sub k s)) := by
  show execCaParityAlert t c sub k true ca s = _
  unfold execCaParityAlert
  rw [if_neg a.passes]
  rfl

theorem Alerted.exec_again (a : Alerted t c k s) (h : (s.rank t c k).failedReplays + 1 < 3) :
    exec (.caParityAlert t c sub k false ca) s =
      .next (setReplays t c k ((s.rank t c k).failedReplays + 1) (closeRank t c k s)) := by
  have same := congrArg Rank.failedReplays (rank_closeRank t c k k s)
  show execCaParityAlert t c sub k false ca s = _
  unfold execCaParityAlert
  rw [if_neg a.passes]
  rw [← same] at h ⊢
  exact if_pos h

theorem Alerted.exec_third (a : Alerted t c k s) (h : (s.rank t c k).failedReplays = 2) :
    exec (.caParityAlert t c sub k false ca) s =
      .next (if ca then thirdReplay t c k s else releaseChan t c (fenceRank t c k (thirdReplay t c k s))) := by
  have same := congrArg Rank.failedReplays (rank_closeRank t c k k s)
  show execCaParityAlert t c sub k false ca s = _
  unfold execCaParityAlert
  rw [if_neg a.passes]
  rw [← same] at h
  exact if_neg (show ¬((closeRank t c k s).rank t c k).failedReplays + 1 < 3 by omega)

theorem Alerted.chan_lt (a : Alerted t c k s) : c < 4 := chan_lt_of_serves a.serves

theorem passReplay_work (t c sub k : Nat) (s : State) : ChannelWork noReg t s (passReplay t c sub k s) :=
  (((ChannelWork.refl _ t s).closeRank c k).setChan _ _ _).setRank _ _ _ _

theorem Alerted.completes_passed (a : Alerted t c k s) : Completes (.caParityAlert t c sub k true ca) s (fun u =>
    u.reg (drcBase t c + 0x40) = BitVec.ofNat 64 (min (2 ^ 64 - 1) ((s.reg (drcBase t c + 0x40)).toNat + 1)) ∧
    (u.rank t c k).failedReplays = 0 ∧ u.rankState t c k = s.rankState t c k ∧ u.cistern = s.cistern ∧ u.held = s.held) := by
  have passed := passReplay_work t c sub k s
  have replays : ((passReplay t c sub k s).rank t c k).failedReplays = 0 :=
    congrArg Rank.failedReplays (State.rank_setRank_same _ t c k _)
  refine ⟨_, a.exec_passed, ?_⟩
  generalize passReplay t c sub k s = v at passed replays
  have told := tellRank_work t c k 0 0 0x40 v
  obtain ⟨cistern, held, -⟩ := (passed.any.trans told.any).same
  refine ⟨?_, ?_, ?_, cistern, held⟩
  · rw [reg_tellRank a.chan_lt (by decide) (by decide), passed.reg a.chan_lt (by decide) id]
  · rw [State.rank_of_chans (tellRank_chans _ _ _ _ _ _ _), replays]
  · rw [told.rankState a.chan_lt (by omega), passed.rankState a.chan_lt id]

theorem Alerted.completes_again (a : Alerted t c k s) (h : (s.rank t c k).failedReplays + 1 < 3) :
    Completes (.caParityAlert t c sub k false ca) s (fun u =>
      (u.rank t c k).failedReplays = (s.rank t c k).failedReplays + 1 ∧ u = { s with chans := u.chans }) :=
  ⟨_, a.exec_again h, rank_setReplays _ _ _ _ _, rfl⟩

theorem thirdReplay_work (t c k : Nat) (s : State) :
    ChannelWork (fun o => o = drcBase t c + 0x24 ∨ o = drcBase t c + 0x48) t s (thirdReplay t c k s) :=
  ((((ChannelWork.refl _ t s).closeRank c k).setReplays _ _ _).trans (tellRank_work t c k 1 1 0x48 _)).setChanWeir _ _ _

theorem thirdReplay_replays (t c k : Nat) (s : State) : ((thirdReplay t c k s).rank t c k).failedReplays = 0 := by
  have chans : (thirdReplay t c k s).chans = (setReplays t c k 0 (closeRank t c k s)).chans := tellRank_chans t c k 1 1 0x48 _
  rw [State.rank_of_chans chans, rank_setReplays]

theorem Alerted.completes_retrained (a : Alerted t c k s) (h : (s.rank t c k).failedReplays = 2) :
    Completes (.caParityAlert t c sub k false true) s (fun u =>
      (u.rank t c k).failedReplays = 0 ∧ u.rankState t c k = s.rankState t c k ∧ u.cistern = s.cistern ∧ u.held = s.held) := by
  have work := thirdReplay_work t c k s
  obtain ⟨cistern, held, -⟩ := work.same
  exact ⟨_, a.exec_third h, thirdReplay_replays t c k s, work.rankState a.chan_lt (by omega) k, cistern, held⟩

theorem Alerted.completes_fenced (a : Alerted t c k s) (hk : k < 4) (h : (s.rank t c k).failedReplays = 2)
    (hh : ∀ r ∈ s.held, r.why ≠ .rankHeld) : Completes (.caParityAlert t c sub k false false) s (fun u =>
      u.rankState t c k = 5 ∧ u.fenced t c k = true ∧ (∀ e ∈ (u.chan t c).writes, rankOf e.off ≠ k) ∧
      (∀ e ∈ (u.chan t c).reads, rankOf e.off ≠ k) ∧ u.cistern = s.cistern ∧ u.slices = s.slices ∧ u.valid = s.valid ∧
      u.ctxs = s.ctxs ∧ u.exts = s.exts) := by
  have fence := fenceRank_fenced (t := t) a.chan_lt hk (thirdReplay t c k s)
  obtain ⟨cistern, held, slices, valid, ctxs, exts⟩ := ((thirdReplay_work t c k s).any.trans fence.any).same
  refine ⟨_, a.exec_third h, ?_⟩
  rw [if_neg (by decide), releaseChan_of_none (by rw [held]; exact hh)]
  exact ⟨fence.state, fence.fenced, fence.writes, fence.reads, cistern, slices, valid, ctxs, exts⟩

end
end Sys2Proof.Machine

namespace Sys2Proof.Machine
open Sys2Proof.Safety

/-! ### Retraining (R135, R136, R137) -/

/-- A rank is held from now on. -/
def beginHold (t c k : Nat) (r : Rank) (s : State) : State :=
  let s := s.setRank t c k { r with due := false, heldSince := some s.us, heldFromSr := false }
  s.setChanWeir t c { s.chanWeir t c with disturbed := true }

/-- A rank is held and its training begins. -/
def holdRank (t c k : Nat) (s : State) : State :=
  beginHold t c k (s.rank t c k) ((setRankState t c k 4 s).putFlag (drcBase t c) DRC_OP_STATUS_TRAINING true)

/-- A hold has ended and the set in use is shown, the last-known-good one or not. -/
def resume (t c k : Nat) (lkg : Bool) (s : State) : State := putRankBit t c k DRC_RANK_STATUS_LKG_USED lkg (endHold t c k s)

/-- A rank after a passing retraining at an operating point: its set is new and good there. -/
def Rank.trained (us point : Nat) (r : Rank) : Rank :=
  { r with trainSoon := false, trainTime := us, trainTemp := r.temp, lkg := r.lkg ||| BitVec.ofNat 4 (2 ^ point) }

/-- A rank whose retraining has passed serves again with its new set. -/
def serveTrained (t c k : Nat) (s : State) : State :=
  let s := resume t c k false (endTraining t c s)
  s.setRank t c k ((s.rank t c k).trained s.us (s.get (drcBase t c) DRC_OP_STATUS_CUR_OP))

/-- A rank whose retraining has failed serves again on its last-known-good set. -/
def serveLastGood (t c k : Nat) (s : State) : State :=
  let s := resume t c k true s
  raiseRank t c k 2 (s.setRank t c k { s.rank t c k with trainSoon := true, trainTime := s.us })

/-- A retraining ends without a passing setting. -/
def failTraining (t c : Nat) (s : State) : State := drcErr t c 2 (endTraining t c s)

section
variable {t c k j : Nat} {short : Bool} {s u v : State}

theorem retrainFailed_eq (t c k : Nat) (short : Bool) (s : State) : retrainFailed t c k short s =
    releaseChan t c (if short then serveLastGood t c k (failTraining t c s) else fenceRank t c k (failTraining t c s)) := by
  unfold retrainFailed
  cases short with
  | true => simp only [if_true]; rfl
  | false => simp only [Bool.false_eq_true, if_false]; rfl

theorem exec_periodicRetrainingDue_start (serves : s.chanServes t c = true) (due : s.retrainDue t c k = true)
    (serving : s.rankState t c k = 1) (calm : s.changing t c = false) (free : s.training t c = false) :
    exec (.periodicRetrainingDue t c k) s = .next (holdRank t c k s) := by
  show execPeriodicRetrainingDue t c k s = _
  unfold execPeriodicRetrainingDue
  rw [if_neg (by simp [serves, due])]
  exact if_neg (by simp [serving, calm, free])

theorem exec_periodicRetrainingDue_asleep (serves : s.chanServes t c = true) (due : s.retrainDue t c k = true)
    (asleep : s.rankState t c k = 3) :
    exec (.periodicRetrainingDue t c k) s = .next (s.setRank t c k { s.rank t c k with due := true }) := by
  show execPeriodicRetrainingDue t c k s = _
  simp [execPeriodicRetrainingDue, serves, due, asleep]

theorem exec_retrainingEnd_pass (held : s.heldTraining t c k = true) :
    exec (.retrainingEnd t c k true short) s = .next (releaseChan t c (serveTrained t c k s)) := by
  show execRetrainingEnd t c k true short s = _
  unfold execRetrainingEnd
  rw [if_neg (by simp [held])]
  rfl

theorem exec_retrainingEnd_fail (held : s.heldTraining t c k = true) :
    exec (.retrainingEnd t c k false short) s = .next (retrainFailed t c k short s) := by
  show execRetrainingEnd t c k false short s = _
  unfold execRetrainingEnd
  rw [if_neg (by simp [held])]
  rfl

theorem exec_retrainHoldMaxExpiry {h : Nat} (held : s.heldTraining t c k = true) (since : (s.rank t c k).heldSince = some h)
    (late : h + (max 1 (s.get (drcBase t c) DRC_RETRAIN_HOLD_MAX) * 1000 - 200) ≤ s.us) :
    exec (.retrainHoldMaxExpiry t c k short) s = .next (retrainFailed t c k short s) := by
  show execRetrainHoldMaxExpiry t c k short s = _
  unfold execRetrainHoldMaxExpiry
  rw [since]
  exact if_pos (by simp [held, late])

/-! #### A rank is held (R135) -/

/-- At most registers, channels and channel weirs differ. -/
def ChannelsOnly (s u : State) : Prop := u = { s with regs := u.regs, chans := u.chans, chanWeirs := u.chanWeirs }

theorem ChannelsOnly.trans (h : ChannelsOnly s u) (g : ChannelsOnly u v) : ChannelsOnly s v := by
  unfold ChannelsOnly at h g ⊢
  rw [h] at g
  exact g

theorem ChannelsOnly.setReg (h : ChannelsOnly s u) (o : Nat) (x : DWord) : ChannelsOnly s (u.setReg o x) :=
  h.trans (show ChannelsOnly u (u.setReg o x) from rfl)
theorem ChannelsOnly.setRank (h : ChannelsOnly s u) (c k : Nat) (r : Rank) : ChannelsOnly s (u.setRank t c k r) :=
  h.trans (show ChannelsOnly u (u.setRank t c k r) from rfl)
theorem ChannelsOnly.setChanWeir (h : ChannelsOnly s u) (c : Nat) (w : ChanWeir) : ChannelsOnly s (u.setChanWeir t c w) :=
  h.trans (show ChannelsOnly u (u.setChanWeir t c w) from rfl)

theorem rankState_putFlag_training (b : Bool) (s : State) :
    (s.putFlag (drcBase t c) DRC_OP_STATUS_TRAINING b).rankState t c j = s.rankState t c j :=
  rankState_of_get (s.get_putFlag_apart _ b (by decide)) j

/-- The registers of a rank that is held: its state and the channel's training. -/
theorem heldRegs (hk : k < 4) (s : State) {u : State}
    (hu : (setRankState t c k 4 s).putFlag (drcBase t c) DRC_OP_STATUS_TRAINING true = u) :
    ChannelsOnly s u ∧ u.training t c = true ∧ ∀ j, u.rankState t c j = if j = k then 4 else s.rankState t c j := by
  have only : ChannelsOnly s (setRankState t c k 4 s) := (show ChannelsOnly s s from rfl).setReg _ _
  have state (j : Nat) := rankState_setRankState (t := t) (c := c) (j := j) (v := 4) hk (by decide) s
  generalize setRankState t c k 4 s = v at *
  subst hu
  exact ⟨only.setReg _ _, State.flag_putFlag_same _ _ true (by decide) (by decide),
      fun j => (rankState_putFlag_training true v).trans (state j)⟩

theorem beginHold_held (r : Rank) (s : State) : ChannelWork noReg t s (beginHold t c k r s) ∧ ChannelsOnly s (beginHold t c k r s) ∧
    (beginHold t c k r s).rank t c k = { r with due := false, heldSince := some s.us, heldFromSr := false } :=
  ⟨((ChannelWork.refl noReg t s).setRank _ _ _ _).setChanWeir _ _ _, ((show ChannelsOnly s s from rfl).setRank _ _ _).setChanWeir _ _,
    s.rank_setRank_same t c k _⟩

theorem completes_periodicRetrainingDue (hc : c < 4) (hk : k < 4) (serves : s.chanServes t c = true) (due : s.retrainDue t c k = true)
    (serving : s.rankState t c k = 1) (calm : s.changing t c = false) (free : s.training t c = false) :
    Completes (.periodicRetrainingDue t c k) s (fun u =>
      u.rankState t c k = 4 ∧ u.training t c = true ∧ (u.rank t c k).heldSince = some s.us ∧ (u.rank t c k).due = false ∧
      (∀ j, j < 4 → j ≠ k → u.rankState t c j = s.rankState t c j) ∧
      u = { s with regs := u.regs, chans := u.chans, chanWeirs := u.chanWeirs }) := by
  refine ⟨_, exec_periodicRetrainingDue_start serves due serving calm free, ?_⟩
  obtain ⟨only, training, state⟩ := heldRegs (t := t) (c := c) hk s rfl
  unfold holdRank
  generalize (setRankState t c k 4 s).putFlag (drcBase t c) DRC_OP_STATUS_TRAINING true = v at *
  have us : v.us = s.us := by rw [only]
  obtain ⟨work, alone, rank⟩ := beginHold_held (t := t) (c := c) (k := k) (s.rank t c k) v
  generalize beginHold t c k (s.rank t c k) v = u at *
  refine ⟨?_, (work.training hc id).trans training, ?_, (congrArg Rank.due rank :), fun j _ hne => ?_, only.trans alone⟩
  · exact (work.rankState hc id k).trans ((state k).trans (if_pos rfl))
  · exact (congrArg Rank.heldSince rank :).trans (congrArg some us)
  · exact (work.rankState hc id j).trans ((state j).trans (if_neg hne))

/-! #### A retraining ends (R136, R137) -/

theorem ChannelWork.us {P : Nat → Prop} (h : ChannelWork P t s u) : u.us = s.us := by
  have frame := h.frame
  generalize u = v at frame ⊢
  rw [frame]

/-- A hold that did not begin in self-refresh ends with the rank in service. -/
theorem endHold_eq (h : (s.rank t c k).heldFromSr = false) : endHold t c k s =
    (setRankState t c k 1 s).setRank t c k
      { s.rank t c k with heldSince := none, heldFromSr := false, idleSince := (setRankState t c k 1 s).us } := by
  simp only [endHold, h, Bool.false_eq_true, if_false]

theorem rankState_setRank (i : Nat) (r : Rank) (s : State) : (s.setRank t c i r).rankState t c j = s.rankState t c j := rfl

theorem endHold_served (hk : k < 4) (h : (s.rank t c k).heldFromSr = false) :
    ChannelWork (· = drcBase t c + 0x10) t s (endHold t c k s) ∧ (endHold t c k s).rankState t c k = 1 ∧
    (endHold t c k s).rank t c k = { s.rank t c k with heldSince := none, heldFromSr := false, idleSince := s.us } := by
  have begun : ChannelWork (· = drcBase t c + 0x10) t s (setRankState t c k 1 s) := (ChannelWork.refl _ t s).setRankState k 1 rfl
  have us := begun.us
  rw [endHold_eq h]
  refine ⟨begun.setRank _ _ _ _, ?_, ?_⟩
  · rw [rankState_setRank, rankState_setRankState hk (by decide), if_pos rfl]
  · rw [State.rank_setRank_same, us]

/-- A hold that did not begin in self-refresh ends with the rank in service on the set that LKG_USED shows. -/
structure Resumed (t c k : Nat) (lkg : Bool) (s u : State) : Prop extends ChannelWork (· = drcBase t c + 0x10) t s u where
  state : u.rankState t c k = 1
  set : bitAt (u.get (drcBase t c) DRC_RANK_STATUS_LKG_USED) k = lkg
  rank : u.rank t c k = { s.rank t c k with heldSince := none, heldFromSr := false, idleSince := s.us }

theorem resume_resumed (hk : k < 4) (h : (s.rank t c k).heldFromSr = false) (lkg : Bool) : Resumed t c k lkg s (resume t c k lkg s) := by
  obtain ⟨held, state, rank⟩ := endHold_served (c := c) hk h
  refine ⟨held.putRankBit _ _ rfl, ?_, ?_, ?_⟩
  · rw [resume, rankState_putRankBit (by decide), state]
  · rw [resume, bitAt_putRankBit (by decide) hk hk, if_pos rfl]
  · rw [resume, State.rank_of_chans (putRankBit_chans _ _ _ _ _ _), rank]

theorem endTraining_ended (t c : Nat) (s : State) : ChannelWork (· = drcBase t c + 0xC) t s (endTraining t c s) ∧
    (endTraining t c s).training t c = false ∧ (endTraining t c s).chans = s.chans :=
  ⟨(ChannelWork.refl _ t s).setReg _ (fun _ => rfl), State.flag_putFlag_same _ _ false (by decide) (by decide), by
    simp only [endTraining, State.putFlag_frame]⟩

theorem getLsbD_or_point (x : BitVec 4) (n : Nat) : (x ||| BitVec.ofNat 4 (2 ^ n)).getLsbD n = decide (n < 4) := by
  rw [BitVec.getLsbD_or, getLsbD_ofNat_two_pow]
  by_cases h : n < 4
  · simp [h]
  · simp [h, BitVec.getLsbD_of_ge x n (by omega)]

/-- A rank that is held for a retraining, no request waiting for the channel. -/
structure HeldAlone (t c k : Nat) (s : State) : Prop where
  channel : c < 4
  rank : k < 4
  held : s.heldTraining t c k = true
  served : (s.rank t c k).heldFromSr = false
  alone : ∀ r ∈ s.held, r.why ≠ .rankHeld

theorem HeldAlone.releaseChan (a : HeldAlone t c k s) (h : u.held = s.held) : Machine.releaseChan t c u = u :=
  releaseChan_of_none (by rw [h]; exact a.alone)

theorem endTraining_resumed (hc : c < 4) (hk : k < 4) (h : (s.rank t c k).heldFromSr = false) {u : State}
    (hu : resume t c k false (endTraining t c s) = u) :
    ChannelWork anyReg t s u ∧ u.rankState t c k = 1 ∧ u.training t c = false ∧ (u.rank t c k).heldSince = none ∧
    u.get (drcBase t c) DRC_OP_STATUS_CUR_OP = s.get (drcBase t c) DRC_OP_STATUS_CUR_OP ∧
    bitAt (u.get (drcBase t c) DRC_RANK_STATUS_LKG_USED) k = false := by
  obtain ⟨ended, training, chans⟩ := endTraining_ended t c s
  have resumed := resume_resumed (t := t) (c := c) hk (by rw [State.rank_of_chans chans, h]) false
  rw [hu] at resumed
  refine ⟨ended.any.trans resumed.any, resumed.state, (resumed.training hc (by omega)).trans training, ?_, ?_, resumed.set⟩
  · exact (congrArg Rank.heldSince resumed.rank :)
  · exact (resumed.get hc (by decide) (by simp only [DRC_OP_STATUS_CUR_OP]; omega)).trans (s.get_putFlag_apart _ false (by decide))

theorem setRank_noReg (t c k : Nat) (r : Rank) (s : State) : ChannelWork noReg t s (s.setRank t c k r) :=
  (ChannelWork.refl noReg t s).setRank t c k r

theorem HeldAlone.completes_passed (a : HeldAlone t c k s) : Completes (.retrainingEnd t c k true short) s (fun u =>
    u.rankState t c k = 1 ∧ u.training t c = false ∧ (u.rank t c k).heldSince = none ∧ (u.rank t c k).trainTime = s.us ∧
    bitAt (u.get (drcBase t c) DRC_RANK_STATUS_LKG_USED) k = false ∧
    (u.rank t c k).lkg.getLsbD (s.get (drcBase t c) DRC_OP_STATUS_CUR_OP) = decide (s.get (drcBase t c) DRC_OP_STATUS_CUR_OP < 4) ∧
    u.cistern = s.cistern) := by
  obtain ⟨w, hw⟩ : ∃ w, resume t c k false (endTraining t c s) = w := ⟨_, rfl⟩
  obtain ⟨work, state, training, since, point, set⟩ := endTraining_resumed a.channel a.rank a.served hw
  have run := exec_retrainingEnd_pass (short := short) a.held
  simp only [serveTrained, hw] at run
  have last := setRank_noReg t c k ((w.rank t c k).trained w.us (w.get (drcBase t c) DRC_OP_STATUS_CUR_OP)) w
  have rank := w.rank_setRank_same t c k ((w.rank t c k).trained w.us (w.get (drcBase t c) DRC_OP_STATUS_CUR_OP))
  generalize w.setRank t c k ((w.rank t c k).trained w.us (w.get (drcBase t c) DRC_OP_STATUS_CUR_OP)) = u at *
  rw [a.releaseChan (last.same.2.1.trans work.same.2.1)] at run
  refine ⟨u, run, (last.rankState a.channel id k).trans state, (last.training a.channel id).trans training, ?_, ?_, ?_, ?_,
    last.same.1.trans work.same.1⟩
  · rw [rank]
    exact since
  · rw [rank]
    exact work.us
  · rw [last.get a.channel (by decide) id, set]
  · rw [rank, Rank.trained, point]
    exact getLsbD_or_point _ _

/-- The registers of its channel that the end of a retraining without a passing setting writes. -/
def failRegs (t c o : Nat) : Prop := o = drcBase t c + 0xC ∨ o = drcBase t c + 0x24

theorem failTraining_failed (hc : c < 4) (t : Nat) (s : State) : ChannelWork (failRegs t c) t s (failTraining t c s) ∧
    (failTraining t c s).training t c = false ∧ (failTraining t c s).chans = s.chans := by
  obtain ⟨ended, training, chans⟩ := endTraining_ended t c s
  have told : ChannelWork (· = drcBase t c + 0x24) t (endTraining t c s) (failTraining t c s) := (ChannelWork.refl _ t _).drcErr 2 rfl
  exact ⟨(ended.mono (fun _ => .inl)).trans (told.mono (fun _ => .inr)), (told.training hc (by omega)).trans training,
    (drcErr_chans t c 2 _).trans chans⟩

theorem HeldAlone.failed_serves (a : HeldAlone t c k s) {u : State} (hu : retrainFailed t c k true s = u) :
    u.rankState t c k = 1 ∧ u.training t c = false ∧ bitAt (u.get (drcBase t c) DRC_RANK_STATUS_LKG_USED) k = true ∧
    u.cistern = s.cistern := by
  obtain ⟨failed, training, chans⟩ := failTraining_failed a.channel t s
  have resumed := resume_resumed (t := t) (c := c) a.rank (by rw [State.rank_of_chans chans, a.served]) true
  have off := (resumed.training a.channel (by omega)).trans training
  have last (w : State) : ChannelWork noReg t w
      (raiseRank t c k 2 (w.setRank t c k { w.rank t c k with trainSoon := true, trainTime := w.us })) :=
    (setRank_noReg t c k _ w).raiseRank k 2
  have done := last (resume t c k true (failTraining t c s))
  have work := (failed.any.trans resumed.any).trans done.any
  rw [retrainFailed_eq, if_pos rfl, serveLastGood, a.releaseChan work.same.2.1] at hu
  rw [hu] at done work
  exact ⟨(done.rankState a.channel id k).trans resumed.state, (done.training a.channel id).trans off,
    (congrArg (bitAt · k) (done.get a.channel (by decide) id)).trans resumed.set, work.same.1⟩

theorem HeldAlone.failed_fenced (a : HeldAlone t c k s) {u : State} (hu : retrainFailed t c k false s = u) :
    u.rankState t c k = 5 ∧ u.fenced t c k = true ∧ u.training t c = false ∧ u.cistern = s.cistern := by
  obtain ⟨failed, training, -⟩ := failTraining_failed a.channel t s
  have fence := fenceRank_fenced (t := t) a.channel a.rank (failTraining t c s)
  have work := failed.any.trans fence.any
  rw [retrainFailed_eq, if_neg (by decide), a.releaseChan work.same.2.1] at hu
  subst hu
  have apart : ¬fenceRegs t c (drcBase t c + 0xC) := by simp only [fenceRegs, fenceLossRegs]; omega
  exact ⟨fence.state, fence.fenced, (fence.training a.channel apart).trans training, work.same.1⟩

theorem HeldAlone.exec_failed (a : HeldAlone t c k s) {cmd : Bool → Instr}
    (h : cmd = .retrainingEnd t c k false ∨ ((∃ h, (s.rank t c k).heldSince = some h ∧
      h + (max 1 (s.get (drcBase t c) DRC_RETRAIN_HOLD_MAX) * 1000 - 200) ≤ s.us) ∧ cmd = .retrainHoldMaxExpiry t c k))
    (short : Bool) : exec (cmd short) s = .next (retrainFailed t c k short s) := by
  obtain rfl | ⟨⟨since, held, late⟩, rfl⟩ := h
  · exact exec_retrainingEnd_fail a.held
  · exact exec_retrainHoldMaxExpiry a.held held late

end

/-- Settles O16, by what each answer does to its rank: a passing replay or retraining keeps it serving, the third failed replay whose CA bus
fails too and the failed short check fence it, and none of them reaches the stored lines. -/
theorem cisternTraining : Obligations.CisternTraining := by
  unfold Obligations.CisternTraining
  refine ⟨fun t c sub k s serves hk present unfenced => ?_, fun t c k s hk hc => ?_⟩
  · have a : Alerted t c k s := ⟨serves, present, unfenced⟩
    exact ⟨fun _ => a.completes_passed, fun _ => a.completes_again, a.completes_retrained, a.completes_fenced hk⟩
  · refine ⟨completes_periodicRetrainingDue hc hk, exec_periodicRetrainingDue_asleep, fun held served alone short => ?_,
      fun held served alone cmd h => ?_⟩
    · exact HeldAlone.completes_passed ⟨hc, hk, held, served, alone⟩
    · have a : HeldAlone t c k s := ⟨hc, hk, held, served, alone⟩
      exact ⟨⟨_, a.exec_failed h true, a.failed_serves rfl⟩, ⟨_, a.exec_failed h false, a.failed_fenced rfl⟩⟩

end Sys2Proof.Machine

/-! Row repair, spare extents, the field self-test and repair fuses (R149, R315-R318, R327-R333). -/

namespace Sys2Proof.Machine
open Sys2Proof.Safety

/-! ### Watched rows -/

section
variable {t j die r row : Nat} {basin : Bool} {w : RowWatch} {s u : State}

theorem watched_unwatch (t : Nat) (basin : Bool) (row : Nat) (s : State) : (unwatch t basin row s).watched t basin row = none := by
  unfold State.watched unwatch
  dsimp only
  rw [Sparse.get_set_same, List.find?_filter]
  exact List.find?_eq_none.2 (fun x _ found => by simp at found; exact found.1.elim (fun ne => ne found.2.1) (fun ne => ne found.2.2))

theorem flag_unwatch (t : Nat) (basin : Bool) (row : Nat) (s : State) (o : Nat) (f : Fld) :
    (unwatch t basin row s).flag o f = s.flag o f := rfl

/-! ### The end of a row repair (R328, R329) -/

theorem rowRepaired_onlyRegs (t : Nat) (s : State) :
    OnlyRegs (fun o => o = bsnBase t 0 + 0x274 ∨ o = bsnBase t 0 + 0x288) s (rowRepaired t s) :=
  ((OnlyRegs.refl _ s).putFlag true (.inl rfl)).setReg _ (.inr rfl)

theorem rowRepaired_flag (t : Nat) (s : State) : (rowRepaired t s).flag (bsnBase t 0) BSN_REPAIR_STATUS_ROW_REPAIR = true := by
  have counted : Shown (· = bsnBase t 0 + 0x288) (repBit t BSN_REPAIR_STATUS_ROW_REPAIR s) (rowRepaired t s) :=
      (Shown.refl _ _).setReg _ rfl
  exact (counted.flag (by decide) (by simp only [BSN_REPAIR_STATUS_ROW_REPAIR]; omega)).trans (flag_repBit _ s (by decide) (by decide))

/-- At most registers and watched rows differ. -/
def WatchOnly (s u : State) : Prop := u = { s with regs := u.regs, rowWatch := u.rowWatch }

theorem WatchOnly.ofOnlyRegs {P : Nat → Prop} (h : OnlyRegs P s u) : WatchOnly s u := by
  have frame := h.1
  unfold WatchOnly
  generalize u = v at frame ⊢
  rw [frame]

theorem WatchOnly.trans {v : State} (h : WatchOnly s u) (k : WatchOnly u v) : WatchOnly s v := by
  unfold WatchOnly at h k ⊢
  rw [h] at k
  exact k

theorem WatchOnly.unwatch (h : WatchOnly s u) (t : Nat) (basin : Bool) (row : Nat) : WatchOnly s (Machine.unwatch t basin row u) :=
  h.trans (show WatchOnly u (Machine.unwatch t basin row u) from rfl)

/-- A repaired row is shown and counted, and is watched no longer. -/
def endRepair (t : Nat) (basin : Bool) (row : Nat) (s : State) : State := unwatch t basin row (rowRepaired t s)

theorem endRepair_frame (t : Nat) (basin : Bool) (row : Nat) (s : State) : WatchOnly s (endRepair t basin row s) :=
  (WatchOnly.ofOnlyRegs (rowRepaired_onlyRegs t s)).unwatch t basin row

theorem endRepair_shown (t : Nat) (basin : Bool) (row : Nat) (s : State) : (endRepair t basin row s).watched t basin row = none ∧
    (endRepair t basin row s).flag (bsnBase t 0) BSN_REPAIR_STATUS_ROW_REPAIR = true := by
  rw [endRepair, flag_unwatch]
  exact ⟨watched_unwatch t basin row _, rowRepaired_flag t s⟩

/-! ### Rows of the basin (R329) -/

/-- The number of a basin row, and the key of its spare rows. -/
def basinRowNo (j die r : Nat) : Nat := (j * 8 + die) * 16384 + r
def basinBankKey (j die r : Nat) : Nat := (j * 8 + die) * 16 + r % 16

/-- A line of a repaired row as it is read from then on. -/
def BLine.corrected (l : BLine) : BLine := if l.code = .correctable then { l with code := .clean } else l

/-- A way with its lines corrected. -/
def Way.corrected (w : Way) : Way := { w with lines := Sparse.mapVals (fun _ => {}) (fun _ l => l.corrected) w.lines }

/-- The lines of a repaired row of the line cache are read corrected. -/
def correctRow (t j die r : Nat) (s : State) : State :=
  let sets : Sparse (Sparse Way) := (s.slice t j).sets.map (fun (e : Nat × Sparse Way) =>
    if decide (652 ≤ r) && e.1 = (r - 652) * 8 + die then (e.1, e.2.map (fun (x : Nat × Way) => (x.1, x.2.corrected))) else e)
  s.setSlice t j { s.slice t j with sets := sets }

/-- The spare rows of a row's bank that are in use. -/
def State.sparesOf (s : State) (t j die r : Nat) : List Nat := Sparse.get (fun _ => []) (s.rep t).rows (basinBankKey j die r)

/-- The rows of its bank that spares serve, with one more. -/
def takeSpareRow (t j die r : Nat) (used : List Nat) (s : State) : State :=
  s.setRep t { s.rep t with rows := Sparse.set (fun _ => []) (s.rep t).rows (basinBankKey j die r) (used ++ [r]) }

theorem exec_basinRowRepair_spare (hw : s.watched t true (basinRowNo j die r) = some w) (failing : w.failing = true)
    (up : (s.tier t).engReset = false) (width : s.width t j < 2)
    (room : (s.sparesOf t j die r).length < 2) :
    exec (.basinRowRepair t j die r) s = .next (endRepair t true (basinRowNo j die r)
      (queueFuse t (rowEntry j die r (s.sparesOf t j die r).length)
        (takeSpareRow t j die r (s.sparesOf t j die r) (correctRow t j die r s)))) := by
  show execBasinRowRepair t j die r s = _
  unfold execBasinRowRepair
  extract_lets row key used n cache addr fix sets s₁ s₂
  rw [show s.watched t true row = some w from hw]
  dsimp only
  rw [if_neg (by simp [failing, up, width]), if_pos (show used.length < 2 from room)]
  rfl

theorem exec_basinRowRepair_unwatched (hw : s.watched t true (basinRowNo j die r) = none) :
    exec (.basinRowRepair t j die r) s = .next s := by
  show execBasinRowRepair t j die r s = _
  unfold execBasinRowRepair
  extract_lets row
  rw [show s.watched t true row = none from hw]

theorem WatchOnly.same (h : WatchOnly s u) : u.repair = s.repair ∧ u.cistern = s.cistern ∧ u.chans = s.chans ∧ u.slices = s.slices ∧
    u.ctxs = s.ctxs ∧ u.exts = s.exts ∧ u.valid = s.valid ∧ u.held = s.held := by
  unfold WatchOnly at h
  generalize u = v at h ⊢
  rw [h]
  exact ⟨rfl, rfl, rfl, rfl, rfl, rfl, rfl, rfl⟩

theorem Shown.held {P : Nat → Prop} (h : Shown P s u) : u.held = s.held := by
  have frame := h.frame
  generalize u = v at frame ⊢
  rw [frame]

theorem completes_basinRowRepair (hw : s.watched t true (basinRowNo j die r) = some w) (failing : w.failing = true)
    (up : (s.tier t).engReset = false) (width : s.width t j < 2) (room : (s.sparesOf t j die r).length < 2) :
    Completes (.basinRowRepair t j die r) s (fun u =>
      u.sparesOf t j die r = s.sparesOf t j die r ++ [r] ∧
      (∃ e, (u.rep t).queued = (s.rep t).queued ++ [e]) ∧ u.watched t true (basinRowNo j die r) = none ∧
      u.flag (bsnBase t 0) BSN_REPAIR_STATUS_ROW_REPAIR = true ∧ u.cistern = s.cistern ∧ u.chans = s.chans ∧
      u.ctxs = s.ctxs ∧ u.exts = s.exts ∧ u.valid = s.valid ∧ u.held = s.held) := by
  refine ⟨_, exec_basinRowRepair_spare hw failing up width room, ?_⟩
  have rep : (takeSpareRow t j die r (s.sparesOf t j die r) (correctRow t j die r s)).rep t = { s.rep t with
      rows := Sparse.set (fun _ => []) (s.rep t).rows (basinBankKey j die r) (s.sparesOf t j die r ++ [r]) } :=
    rep_setRep _ (correctRow t j die r s)
  have before : Kept { s with slices := (correctRow t j die r s).slices }
      (takeSpareRow t j die r (s.sparesOf t j die r) (correctRow t j die r s)) :=
    Kept.setRep ⟨rfl, rfl, rfl, rfl, rfl, rfl, rfl, rfl, rfl, rfl⟩ _ _
  have held : (takeSpareRow t j die r (s.sparesOf t j die r) (correctRow t j die r s)).held = s.held := rfl
  generalize takeSpareRow t j die r (s.sparesOf t j die r) (correctRow t j die r s) = v at rep before held ⊢
  have fused := queueFuse_rep t (rowEntry j die r (s.sparesOf t j die r).length) v
  have shown := queueFuse_shown t (rowEntry j die r (s.sparesOf t j die r).length) v
  have kept := ((Kept.refl v).setRep t _).shown shown
  have heldv := shown.held
  generalize queueFuse t (rowEntry j die r (s.sparesOf t j die r).length) v = x at fused shown kept heldv ⊢
  obtain ⟨unwatched, flag⟩ := endRepair_shown t true (basinRowNo j die r) x
  obtain ⟨repair, cistern, chans, -, ctxs, exts, valid, held'⟩ := (endRepair_frame t true (basinRowNo j die r) x).same
  generalize endRepair t true (basinRowNo j die r) x = u at *
  have same : u.rep t = x.rep t := by simp only [State.rep, repair]
  rw [fused, rep] at same
  refine ⟨?_, ⟨_, congrArg Repair.queued same⟩, unwatched, flag, (cistern.trans kept.cistern).trans before.cistern,
    (chans.trans kept.chans).trans before.chans, (ctxs.trans kept.ctxs).trans before.ctxs, (exts.trans kept.exts).trans before.exts,
    (valid.trans kept.valid).trans before.valid, (held'.trans heldv).trans held⟩
  rw [State.sparesOf, same]
  exact Sparse.get_set_same _ _ _ _

end
end Sys2Proof.Machine

namespace Sys2Proof.Machine
open Sys2Proof.Safety

/-! ### Rows of the cistern (R149, R328) -/

/-- Values changed where the key passes, read back. -/
theorem get_map_where {β : Type} (d : Nat → β) (f : β → β) (p : Nat → Bool) (m : Sparse β) (k : Nat) (hd : f (d k) = d k) :
    Sparse.get d (m.map (fun e => if p e.1 then (e.1, f e.2) else e)) k = if p k then f (Sparse.get d m k) else Sparse.get d m k := by
  induction m with
  | nil => simp [Sparse.get, hd]
  | cons e m ih =>
    obtain ⟨a, b⟩ := e
    rw [List.map_cons]
    by_cases here : a = k
    · subst here
      by_cases pass : p a = true <;> simp [Sparse.get, pass]
    · by_cases pass : p a = true <;> simp [Sparse.get, pass, here, ih]

/-- The number of a cistern row. -/
def cisternRowNo (c sub k group bank r : Nat) : Nat := (c * 128 + ((sub * 4 + k) * 8 + group) * 4 + bank) * 2 ^ 18 + r

/-- A line as the repair of its row writes it back (R149). -/
def CLine.mended (l : CLine) : CLine :=
  match l.code with
  | .correctable => { l with code := .clean }
  | .uncorrectable => { data := markerLine, code := .marker }
  | _ => l

theorem CLine.mended_eq (l : CLine) : l.mended = if l.code = .correctable then { l with code := .clean }
    else if l.code = .uncorrectable then { data := markerLine, code := .marker } else l := by
  unfold CLine.mended
  cases l.code <;> rfl

/-- A line of the cistern lies in a row. -/
def inRow (t row x : Nat) : Bool := x / 2 ^ 35 = t && cisternRow (x % 2 ^ 35 * 64) = row

theorem inRow_iff {t row x : Nat} : inRow t row x = true ↔ x / 2 ^ 35 = t ∧ cisternRow (x % 2 ^ 35 * 64) = row := by
  simp only [inRow, Bool.and_eq_true, decide_eq_true_eq]

/-- The lines of a row, read and written back. -/
def mendRow (t row : Nat) (s : State) : State :=
  let lines : Sparse (Option CLine) := s.cistern.map (fun (e : Nat × Option CLine) =>
    if inRow t row e.1 then (e.1, e.2.map CLine.mended) else e)
  { s with cistern := lines }

/-- A row that awaits hard repair. -/
def pprRow (c sub k group bank r : Nat) (device : Option Nat) : PprRow :=
  { chan := c, sub := sub, rank := k, group := group, bank := bank, row := r, device := device }

/-- The resource of a bank group is used, and the row kept for hard repair. -/
def useSppr (t c k group : Nat) (rk : Rank) (p : PprRow) (s : State) : State :=
  let s := s.setRank t c k { rk with spprUsed := rk.spprUsed ||| BitVec.ofNat 8 (2 ^ group) }
  s.setRep t { s.rep t with hard := (s.rep t).hard ++ [p] }

/-- A row without a resource is left to a spare extent (R328). -/
def leaveRow (t row : Nat) (s : State) : State :=
  let l := (Sparse.get (fun _ => []) s.rowWatch t).map (fun x => if x.basin = false && x.row = row then { x with noPpr := true } else x)
  { s with rowWatch := Sparse.set (fun _ => []) s.rowWatch t l }

section
variable {t c sub k group bank r row : Nat} {device : Option Nat} {w : RowWatch} {s u : State}

/-- A cistern row whose repair can begin. -/
structure RowFails (t c k row : Nat) (w : RowWatch) (s : State) : Prop where
  watched : s.watched t false row = some w
  failing : w.failing = true
  ppr : w.noPpr = false
  unfenced : s.fenced t c k = false
  free : s.rankHeld t c k = false

theorem RowFails.passes (a : RowFails t c k row w s) : ¬(!w.failing || w.noPpr || s.fenced t c k || s.rankHeld t c k) = true := by
  simp [a.failing, a.ppr, a.unfenced, a.free]

theorem exec_softPostPackageRepair_soft (a : RowFails t c k (cisternRowNo c sub k group bank r) w s)
    (free : (s.rank t c k).spprUsed.getLsbD group = false) :
    exec (.softPostPackageRepair t c sub k group bank r device) s = .next (endRepair t false (cisternRowNo c sub k group bank r)
      ((useSppr t c k group (s.rank t c k) (pprRow c sub k group bank r device)
        (mendRow t (cisternRowNo c sub k group bank r) s)).count (drcBase t c + 0x60) 1)) := by
  show execSoftPostPackageRepair t c sub k group bank r device s = _
  unfold execSoftPostPackageRepair
  extract_lets row rk l mine fix lines s₁ s₂ p s₃
  rw [show s.watched t false row = some w from a.watched]
  dsimp only
  rw [if_neg a.passes, if_neg (show ¬rk.spprUsed.getLsbD group = true from ne_true_of_eq_false free)]
  rfl

theorem exec_softPostPackageRepair_used (a : RowFails t c k (cisternRowNo c sub k group bank r) w s)
    (used : (s.rank t c k).spprUsed.getLsbD group = true) :
    exec (.softPostPackageRepair t c sub k group bank r device) s = .next
      (raise (tierSource t (12 + c)) 7 2 (poolAddr s.pkg t (rankOff c k)) 0
        (drcErr t c 6 (leaveRow t (cisternRowNo c sub k group bank r) s))) := by
  show execSoftPostPackageRepair t c sub k group bank r device s = _
  unfold execSoftPostPackageRepair
  extract_lets row rk l mine fix lines s₁ s₂ p s₃
  rw [show s.watched t false row = some w from a.watched]
  dsimp only
  rw [if_neg a.passes, if_pos (show rk.spprUsed.getLsbD group = true from used)]
  rfl

theorem get_mendRow (t row x : Nat) (s : State) : Sparse.get (fun _ => none) (mendRow t row s).cistern x =
    if inRow t row x then (Sparse.get (fun _ => none) s.cistern x).map CLine.mended else Sparse.get (fun _ => none) s.cistern x :=
  get_map_where (fun _ => none) (Option.map CLine.mended) (inRow t row) s.cistern x rfl

theorem useSppr_used {rk : Rank} {p : PprRow} (hg : group < 8) (s : State) :
    ((useSppr t c k group rk p s).rank t c k).spprUsed.getLsbD group = true ∧ p ∈ ((useSppr t c k group rk p s).rep t).hard := by
  unfold useSppr
  extract_lets v
  refine ⟨?_, ?_⟩
  · have rank : (v.setRep t { v.rep t with hard := (v.rep t).hard ++ [p] }).rank t c k = _ := s.rank_setRank_same t c k _
    rw [rank, BitVec.getLsbD_or, getLsbD_ofNat_two_pow]
    simp [hg]
  · rw [rep_setRep]
    simp

theorem useSppr_frame (t c k group : Nat) (rk : Rank) (p : PprRow) (s : State) : useSppr t c k group rk p s = { s with
    chans := (useSppr t c k group rk p s).chans, repair := (useSppr t c k group rk p s).repair } := rfl

theorem completes_softPostPackageRepair_soft (hg : group < 8) (a : RowFails t c k (cisternRowNo c sub k group bank r) w s)
    (free : (s.rank t c k).spprUsed.getLsbD group = false) :
    Completes (.softPostPackageRepair t c sub k group bank r device) s (fun u =>
      (∀ x, Sparse.get (fun _ => none) u.cistern x = if inRow t (cisternRowNo c sub k group bank r) x then
        (Sparse.get (fun _ => none) s.cistern x).map CLine.mended else Sparse.get (fun _ => none) s.cistern x) ∧
      (u.rank t c k).spprUsed.getLsbD group = true ∧ u.watched t false (cisternRowNo c sub k group bank r) = none ∧
      (∃ x ∈ (u.rep t).hard, x.row = r ∧ x.bank = bank ∧ x.group = group ∧ x.rank = k) ∧
      u.slices = s.slices ∧ u.ctxs = s.ctxs ∧ u.exts = s.exts ∧ u.valid = s.valid) := by
  refine ⟨_, exec_softPostPackageRepair_soft a free, ?_⟩
  have lines (x : Nat) := get_mendRow t (cisternRowNo c sub k group bank r) x s
  obtain ⟨used, hard⟩ := useSppr_used (t := t) (c := c) (k := k) (rk := s.rank t c k)
    (p := pprRow c sub k group bank r device) hg (mendRow t (cisternRowNo c sub k group bank r) s)
  have alone := useSppr_frame t c k group (s.rank t c k) (pprRow c sub k group bank r device)
    (mendRow t (cisternRowNo c sub k group bank r) s)
  have mended : mendRow t (cisternRowNo c sub k group bank r) s =
      { s with cistern := (mendRow t (cisternRowNo c sub k group bank r) s).cistern } := rfl
  generalize mendRow t (cisternRowNo c sub k group bank r) s = m at *
  generalize useSppr t c k group (s.rank t c k) (pprRow c sub k group bank r device) m = v at *
  obtain ⟨unwatched, -⟩ := endRepair_shown t false (cisternRowNo c sub k group bank r) (v.count (drcBase t c + 0x60) 1)
  have only : WatchOnly v (endRepair t false (cisternRowNo c sub k group bank r) (v.count (drcBase t c + 0x60) 1)) :=
    (WatchOnly.ofOnlyRegs ((OnlyRegs.refl (fun _ => True) v).setReg _ trivial)).trans (endRepair_frame _ _ _ _)
  generalize endRepair t false (cisternRowNo c sub k group bank r) (v.count (drcBase t c + 0x60) 1) = u at *
  obtain ⟨repair, cistern, chans, slices, ctxs, exts, valid, -⟩ := only.same
  rw [mended] at alone
  refine ⟨fun x => ?_, ?_, unwatched, ⟨pprRow c sub k group bank r device, ?_, rfl, rfl, rfl, rfl⟩, ?_, ?_, ?_, ?_⟩
  · rw [cistern, alone]
    exact lines x
  · rw [State.rank_of_chans chans]
    exact used
  · rw [State.rep, repair]
    exact hard
  · rw [slices, alone]
  · rw [ctxs, alone]
  · rw [exts, alone]
  · rw [valid, alone]

theorem leaveRow_watched (hw : s.watched t false row = some w) : ∃ x, (leaveRow t row s).watched t false row = some x ∧ x.noPpr = true := by
  refine ⟨{ w with noPpr := true }, ?_, rfl⟩
  have fits : w.basin = false ∧ w.row = row := by simpa using List.find?_some hw
  have same : (fun x : RowWatch => decide (x.basin = false) && decide (x.row = row)) ∘
      (fun x => if x.basin = false && x.row = row then { x with noPpr := true } else x) =
      (fun x => decide (x.basin = false) && decide (x.row = row)) := by
    funext x
    dsimp only [Function.comp]
    split <;> rfl
  unfold State.watched at hw ⊢
  unfold leaveRow
  dsimp only at hw ⊢
  rw [Sparse.get_set_same, List.find?_map, same, hw, Option.map_some, if_pos (by simp [fits])]

theorem completes_softPostPackageRepair_used (a : RowFails t c k (cisternRowNo c sub k group bank r) w s)
    (used : (s.rank t c k).spprUsed.getLsbD group = true) :
    Completes (.softPostPackageRepair t c sub k group bank r device) s (fun u => Kept s u ∧
      ∃ x, u.watched t false (cisternRowNo c sub k group bank r) = some x ∧ x.noPpr = true) := by
  refine ⟨_, exec_softPostPackageRepair_used a used, ?_⟩
  obtain ⟨x, left, noPpr⟩ := leaveRow_watched a.watched
  have kept : Kept s (leaveRow t (cisternRowNo c sub k group bank r) s) := ⟨rfl, rfl, rfl, rfl, rfl, rfl, rfl, rfl, rfl, rfl⟩
  generalize leaveRow t (cisternRowNo c sub k group bank r) s = v at left kept ⊢
  have told : Shown (fun _ => True) v (raise (tierSource t (12 + c)) 7 2 (poolAddr s.pkg t (rankOff c k)) 0 (drcErr t c 6 v)) :=
    ((Shown.refl _ v).setReg _ trivial).trans (.ofReports (raise_reports _ _ _ _ _ _))
  refine ⟨kept.shown told, x, ?_, noPpr⟩
  have frame := told.frame
  generalize raise (tierSource t (12 + c)) 7 2 (poolAddr s.pkg t (rankOff c k)) 0 (drcErr t c 6 v) = u at frame ⊢
  rw [frame]
  exact left

end
end Sys2Proof.Machine

namespace Sys2Proof.Machine
open Sys2Proof.Safety

/-! ### Spare extents (R330, R331) -/

/-- The extent's pages are copied to a spare. -/
def copyToSpare (t e spare c idx : Nat) (s : State) : State :=
  let base := s.pkg * 2 ^ 23 + t * 2 ^ 20
  copyPages { ctx := c, index := idx, src := base + e, dest := base + spare }
    ((upto 512).filter (fun p => (s.validLine t e).bits.getLsbD p)) []
    (clearValid t spare s)

/-- The entry of an extent names another physical extent. -/
def repoint (c idx pen : Nat) (s : State) : State := s.setExt c idx { s.ext c idx with pen := pen }

/-- The switch to a spare: the replaced extent is withheld. -/
def switchToSpare (t e spare c idx pen : Nat) (s : State) : State :=
  let s := logReplicas 1 (clearValid t e (repoint c idx pen s))
  withhold t e (s.setRep t { s.rep t with sparesUsed := (s.rep t).sparesUsed ++ [spare] })

/-- A remap is shown, counted and told. -/
def showRemap (t n : Nat) (s : State) : State :=
  raiseOpen (tierSource t 43) 2 ((repBit t BSN_REPAIR_STATUS_REMAP (showSpares t n s)).count (bsnBase t 0 + 0x290) 1)

/-- An extent that cannot be replaced: its failing lines are the marker, and it is withheld once it is free. -/
def keepBad (t e row c idx : Nat) (s : State) : State :=
  withholdLater t e (poisonRow t e row (some (c, idx)) (repBit t BSN_REPAIR_STATUS_SPARE_OUT s))

section
variable {P : Nat → Prop} {t e c idx spare row : Nat} {w : RowWatch} {s u v : State}

theorem remapExtent_eq (t e spare c idx : Nat) (s : State) : remapExtent t e spare c idx s =
    showRemap t ((switchToSpare t e spare c idx (s.pkg * 2 ^ 23 + t * 2 ^ 20 + spare) (copyToSpare t e spare c idx s)).spareCount t)
      (switchToSpare t e spare c idx (s.pkg * 2 ^ 23 + t * 2 ^ 20 + spare) (copyToSpare t e spare c idx s)) := rfl

/-- The watched row for which an extent is replaced. -/
def State.rowFor (s : State) (t e : Nat) : Option RowWatch :=
  ((Sparse.get (fun _ => []) s.rowWatch t).filter (fun w => !w.basin && w.noPpr)).find? (fun w => rowLines e w.row ≠ [])

theorem exec_spareExtentRemap_free (hw : s.rowFor t e = some w) (free : s.ownerOf t e = none)
    (ungranted : ∀ l ∈ s.pool.granted, ¬(l.tier = t ∧ l.first ≤ e ∧ e < l.first + l.count)) :
    exec (.spareExtentRemap t e) s = .next (unwatch t false w.row (withhold t e s)) := by
  have none : s.pool.granted.find? (fun l => l.tier = t && l.first ≤ e && decide (e < l.first + l.count) &&
      !l.returned.contains (s.pkg * 2 ^ 23 + t * 2 ^ 20 + e)) = none := by
    refine List.find?_eq_none.2 (fun l hl found => ungranted l hl ?_)
    simp only [Bool.and_eq_true, decide_eq_true_eq] at found
    exact ⟨found.1.1.1, found.1.1.2, found.1.2⟩
  show execSpareExtentRemap t e s = _
  unfold execSpareExtentRemap
  extract_lets rows
  rw [show rows.find? (fun w => rowLines e w.row ≠ []) = some w from hw]
  dsimp only
  rw [free]
  dsimp only
  rw [none]

theorem exec_spareExtentRemap_spare (hw : s.rowFor t e = some w) (owned : s.ownerOf t e = some (c, idx))
    (still : (s.ext c idx).migrating = false) (found : s.freeSpareExt t = some spare) (idle : s.ctxBusy c = false)
    (calm : s.reacting = false) (awake : (s.tier t).power < 2) (clear : (s.under c).2 = []) (acks : s.acks t = true) :
    exec (.spareExtentRemap t e) s = .next (unwatch t false w.row (remapExtent t e spare c idx s)) := by
  show execSpareExtentRemap t e s = _
  unfold execSpareExtentRemap
  extract_lets rows
  rw [show rows.find? (fun w => rowLines e w.row ≠ []) = some w from hw]
  dsimp only
  rw [owned]
  dsimp only
  rw [still, if_neg (by decide), found]
  dsimp only
  rw [if_neg (by simp [idle, calm, clear, acks]; omega)]

theorem exec_spareExtentRemap_out (hw : s.rowFor t e = some w) (owned : s.ownerOf t e = some (c, idx))
    (still : (s.ext c idx).migrating = false) (found : s.freeSpareExt t = none) :
    exec (.spareExtentRemap t e) s = .next (unwatch t false w.row (raise (tierSource t 43) 1 7 c idx (keepBad t e w.row c idx s))) := by
  show execSpareExtentRemap t e s = _
  unfold execSpareExtentRemap
  extract_lets rows
  rw [show rows.find? (fun w => rowLines e w.row ≠ []) = some w from hw]
  dsimp only
  rw [owned]
  dsimp only
  rw [still, if_neg (by decide), found]
  rfl

/-! #### What a withheld extent shows -/

theorem Shown.tables (h : Shown P s u) : u.badExt = s.badExt ∧ u.alloc = s.alloc ∧ u.exts = s.exts := by
  have frame := h.frame
  generalize u = v at frame ⊢
  rw [frame]
  exact ⟨rfl, rfl, rfl⟩

/-- An extent is withheld: its allocation bit is 1, and its record says how. -/
structure Withheld (t e : Nat) (s u : State) : Prop where
  allocBit : u.allocBit t e = true
  badExt : Sparse.get (fun _ => 0) u.badExt (tierExt t e) ≠ 0
  cistern : u.cistern = s.cistern
  exts : u.exts = s.exts
  repair : u.repair = s.repair

/-- The tables of a withheld extent. -/
def withheldAs (t e n : Nat) (s : State) : State := { s.setAlloc t e true with badExt := Sparse.set (fun _ => 0) s.badExt (tierExt t e) n }

theorem withheldAs_withheld {n : Nat} (hn : n ≠ 0) (s : State) : Withheld t e s (withheldAs t e n s) := by
  refine ⟨?_, ?_, rfl, rfl, rfl⟩
  · rw [withheldAs, State.allocBit, State.setAlloc, Sparse.get_set_same]
  · rw [withheldAs, Sparse.get_set_same]
    exact hn

theorem Withheld.shown (h : Withheld t e s u) (k : Shown P u v) : Withheld t e s v := by
  obtain ⟨badExt, alloc, exts⟩ := k.tables
  exact ⟨(congrArg (fun m => Sparse.get _ m _) alloc).trans h.allocBit, by rw [badExt]; exact h.badExt, k.kept.cistern.trans h.cistern,
    exts.trans h.exts, k.same.1.trans h.repair⟩

theorem withhold_withheld (t e : Nat) (s : State) : Withheld t e s (withhold t e s) := by
  unfold withhold
  extract_lets zero full src v
  have tables : Withheld t e s v := by
    refine withheldAs_withheld (n := if full then 3 else 1) ?_ s
    split <;> decide
  have told : Shown (fun _ => True) v (raiseOpen (tierSource t 43) 3 (v.putFlag (bsnBase t 0) BSN_REPAIR_STATUS_WITHHELD_FULL true)) :=
    ((Shown.refl _ v).setReg _ trivial).trans (.ofReports (raiseOpen_reports _ _ _))
  clear_value v
  split
  · exact tables.shown told
  · exact tables

/-! #### What a remap shows -/

theorem ext_of_exts (h : u.exts = s.exts) (c i : Nat) : u.ext c i = s.ext c i := by simp only [State.ext, h]

theorem exts_clearValid (t e : Nat) (s : State) : (clearValid t e s).exts = s.exts := by
  have frame := (clearValid_givesBack t e s).frame
  generalize clearValid t e s = u at frame ⊢
  rw [frame]

theorem exts_logReplicas (n : Nat) (s : State) : (logReplicas n s).exts = s.exts := by
  have frame := (logReplicas_books n s).frame
  generalize logReplicas n s = u at frame ⊢
  rw [frame]

theorem pen_repoint (c idx pen : Nat) (s : State) : ((repoint c idx pen s).ext c idx).pen = pen :=
  congrArg ExtEntry.pen (Sparse.get_set_same _ s.exts (extKey c idx) _)

/-- An extent that a spare has replaced: its entry names the spare, and it is withheld. -/
structure Remapped (t e spare c idx pen : Nat) (u : State) : Prop where
  pen : (u.ext c idx).pen = pen
  allocBit : u.allocBit t e = true
  used : spare ∈ (u.rep t).sparesUsed

theorem Remapped.shown {pen : Nat} (h : Remapped t e spare c idx pen u) (k : Shown P u v) : Remapped t e spare c idx pen v := by
  obtain ⟨-, alloc, exts⟩ := k.tables
  exact ⟨(congrArg ExtEntry.pen (ext_of_exts exts c idx)).trans h.pen, (congrArg (fun m => Sparse.get _ m _) alloc).trans h.allocBit,
    by rw [State.rep, k.same.1]; exact h.used⟩

theorem switchToSpare_remapped (t e spare c idx pen : Nat) (s : State) :
    Remapped t e spare c idx pen (switchToSpare t e spare c idx pen s) := by
  have exts : (logReplicas 1 (clearValid t e (repoint c idx pen s))).exts = (repoint c idx pen s).exts :=
    (exts_logReplicas 1 _).trans (exts_clearValid t e _)
  have named := (congrArg ExtEntry.pen (ext_of_exts exts c idx)).trans (pen_repoint c idx pen s)
  unfold switchToSpare
  extract_lets v
  have named : (v.ext c idx).pen = pen := named
  clear_value v
  obtain ⟨allocBit, -, -, exts', repair⟩ := withhold_withheld t e
    (v.setRep t { v.rep t with sparesUsed := (v.rep t).sparesUsed ++ [spare] })
  refine ⟨(congrArg ExtEntry.pen (ext_of_exts exts' c idx)).trans named, allocBit, ?_⟩
  rw [State.rep, repair]
  show spare ∈ ((v.setRep t _).rep t).sparesUsed
  rw [rep_setRep]
  exact List.mem_append_right _ (List.mem_singleton_self _)

/-- What is shown and told of a remap. -/
theorem showRemap_shown (t n : Nat) (s : State) : Shown (fun _ => True) s (showRemap t n s) :=
  ((((Shown.refl _ s).setReg _ trivial).setReg _ trivial).setReg _ trivial).trans (.ofReports (raiseOpen_reports _ _ _))

theorem showRemap_flag (t n : Nat) (s : State) : (showRemap t n s).flag (bsnBase t 0) BSN_REPAIR_STATUS_REMAP = true := by
  have after : Shown (· = bsnBase t 0 + 0x290) (repBit t BSN_REPAIR_STATUS_REMAP (showSpares t n s)) (showRemap t n s) :=
    ((Shown.refl (· = bsnBase t 0 + 0x290) _).setReg _ rfl).trans (.ofReports (raiseOpen_reports _ _ _))
  exact (after.flag (by decide) (by simp only [BSN_REPAIR_STATUS_REMAP]; omega)).trans (flag_repBit _ _ (by decide) (by decide))

theorem remapExtent_shown (t e spare c idx : Nat) (s : State) :
    Remapped t e spare c idx (s.pkg * 2 ^ 23 + t * 2 ^ 20 + spare) (remapExtent t e spare c idx s) ∧
    (remapExtent t e spare c idx s).flag (bsnBase t 0) BSN_REPAIR_STATUS_REMAP = true := by
  rw [remapExtent_eq]
  exact ⟨(switchToSpare_remapped t e spare c idx _ _).shown (showRemap_shown _ _ _), showRemap_flag _ _ _⟩

/-! #### What an extent without a spare shows -/

theorem poisonRow_cisternWork (t e row : Nat) (own : Option (Nat × Nat)) (s : State) : CisternWork s (poisonRow t e row own s) :=
  (CisternWork.refl s).forEach _ _ (fun _ _ u => (CisternWork.refl u).writeMarker _)

theorem exts_cisternWork (h : CisternWork s u) : u.exts = s.exts := by
  have frame := h.frame
  generalize u = v at frame ⊢
  rw [frame]

theorem withholdLater_kept (t e : Nat) (s : State) : Sparse.get (fun _ => 0) (withholdLater t e s).badExt (tierExt t e) = 2 ∧
    (∀ o f, (withholdLater t e s).flag o f = s.flag o f) ∧ (withholdLater t e s).exts = s.exts :=
  ⟨Sparse.get_set_same (fun _ => 0) s.badExt (tierExt t e) 2, fun _ _ => rfl, rfl⟩

theorem keepBad_kept (t e row c idx : Nat) (s : State) : Sparse.get (fun _ => 0) (keepBad t e row c idx s).badExt (tierExt t e) = 2 ∧
    (keepBad t e row c idx s).flag (bsnBase t 0) BSN_REPAIR_STATUS_SPARE_OUT = true ∧ (keepBad t e row c idx s).exts = s.exts := by
  have bit : (repBit t BSN_REPAIR_STATUS_SPARE_OUT s).flag (bsnBase t 0) BSN_REPAIR_STATUS_SPARE_OUT = true :=
    flag_repBit _ _ (by decide) (by decide)
  have exts : (repBit t BSN_REPAIR_STATUS_SPARE_OUT s).exts = s.exts :=
    (Shown.ofOnlyRegs (repBit_onlyRegs t BSN_REPAIR_STATUS_SPARE_OUT s)).tables.2.2
  have work := poisonRow_cisternWork t e row (some (c, idx)) (repBit t BSN_REPAIR_STATUS_SPARE_OUT s)
  obtain ⟨badExt, flags, exts'⟩ := withholdLater_kept t e (poisonRow t e row (some (c, idx)) (repBit t BSN_REPAIR_STATUS_SPARE_OUT s))
  exact ⟨badExt, (flags _ _).trans (((BasinKept.ofCistern work).flag t (by decide)).trans bit),
      exts'.trans ((exts_cisternWork work).trans exts)⟩

/-! #### Remaps (R331) -/

theorem completes_spareExtentRemap_free (hw : s.rowFor t e = some w) (free : s.ownerOf t e = none)
    (ungranted : ∀ l ∈ s.pool.granted, ¬(l.tier = t ∧ l.first ≤ e ∧ e < l.first + l.count)) :
    Completes (.spareExtentRemap t e) s (fun u => u.allocBit t e = true ∧
      Sparse.get (fun _ => 0) u.badExt (tierExt t e) ≠ 0 ∧ u.watched t false w.row = none ∧ u.cistern = s.cistern) := by
  obtain ⟨allocBit, badExt, cistern, -, -⟩ := withhold_withheld t e s
  exact ⟨_, exec_spareExtentRemap_free hw free ungranted, allocBit, badExt, watched_unwatch _ _ _ _, cistern⟩

theorem completes_spareExtentRemap_spare (hw : s.rowFor t e = some w) (owned : s.ownerOf t e = some (c, idx))
    (still : (s.ext c idx).migrating = false) (found : s.freeSpareExt t = some spare) (idle : s.ctxBusy c = false)
    (calm : s.reacting = false) (awake : (s.tier t).power < 2) (clear : (s.under c).2 = []) (acks : s.acks t = true) :
    Completes (.spareExtentRemap t e) s (fun u => (u.ext c idx).pen = s.pkg * 2 ^ 23 + t * 2 ^ 20 + spare ∧
      u.allocBit t e = true ∧ spare ∈ (u.rep t).sparesUsed ∧ u.watched t false w.row = none ∧
      u.flag (bsnBase t 0) BSN_REPAIR_STATUS_REMAP = true) := by
  obtain ⟨⟨pen, allocBit, used⟩, flag⟩ := remapExtent_shown t e spare c idx s
  exact ⟨_, exec_spareExtentRemap_spare hw owned still found idle calm awake clear acks, pen, allocBit, used, watched_unwatch _ _ _ _, flag⟩

theorem completes_spareExtentRemap_out (hw : s.rowFor t e = some w) (owned : s.ownerOf t e = some (c, idx))
    (still : (s.ext c idx).migrating = false) (found : s.freeSpareExt t = none) :
    Completes (.spareExtentRemap t e) s (fun u => Sparse.get (fun _ => 0) u.badExt (tierExt t e) = 2 ∧
      u.flag (bsnBase t 0) BSN_REPAIR_STATUS_SPARE_OUT = true ∧ u.exts = s.exts) := by
  obtain ⟨badExt, flag, exts⟩ := keepBad_kept t e w.row c idx s
  refine ⟨_, exec_spareExtentRemap_out hw owned still found, ?_⟩
  generalize keepBad t e w.row c idx s = v at *
  have told : Shown (fun _ => False) v (raise (tierSource t 43) 1 7 c idx v) := .ofReports (raise_reports _ _ _ _ _ _)
  obtain ⟨badExt', -, exts'⟩ := told.tables
  rw [flag_unwatch]
  exact ⟨(congrArg (fun m => Sparse.get _ m _) badExt').trans badExt, (told.flag (by decide) id).trans flag, exts'.trans exts⟩

end
end Sys2Proof.Machine

namespace Sys2Proof.Machine
open Sys2Proof.Safety

/-! ### The field self-test begins (R317) -/

theorem narrow_fstCfg : ∀ t < 8, (regAt (bsnBase t 0 + 0x260)).any (fun e => e.2 = bsnBase t 0 + 0x260 && !e.1.wide) = true := by
  decide +kernel

section
variable {P : Nat → Prop} {path : Path} {t bond via : Nat} {v : Word} {eyes : List PairEye} {s u : State}

theorem Shown.tier (h : Shown P s u) (t : Nat) : u.tier t = s.tier t := by
  have frame := h.frame
  generalize u = v at frame ⊢
  rw [frame]
  rfl

/-- RUN reaches the self-test once the register has been written. -/
theorem exec_run (ht : t < 8) (hv : v.getLsbD 31 = true) (h : Writable path (bsnBase t 0 + 0x260) s) :
    ∃ u, exec (.run path t v) s = .next (fstRun t u) ∧ Shown (· = bsnBase t 0 + 0x260) s u := by
  have row := narrow_fstCfg t ht
  have place : bsnBase t 0 + 0x260 = (t + 1) * 0x100000 + 0x30260 := by unfold bsnBase tierBase; omega
  show ∃ u, execRun path t v s = .next (fstRun t u) ∧ _
  rw [execRun, if_pos hv]
  generalize bsnBase t 0 + 0x260 = o at *
  simp only [Option.any_eq_true, Bool.and_eq_true, decide_eq_true_eq, Bool.not_eq_true'] at row
  obtain ⟨⟨r, lo⟩, hr, rfl, hw⟩ := row
  have number : lo / 0x100000 - 1 = t := by omega
  have inside : lo % 0x100000 = 0x30260 := by omega
  have tierBlock : ¬lo < 0x100000 := by omega
  have sel : ¬(lo = 0x70028 ∨ lo = 0x3000C ∨ lo = 0x50018 ∨ lo = 0x10118) := by omega
  have store : pathWrite path lo v s = .next (storeReg path r lo (v.zeroExtend 64) s) := exec_registerWrite_narrow v h hr hw (by omega)
  have told : Shown (· = lo) s (if r.lockHit s.locked (s.reg lo) (v.zeroExtend 64) then noteLocked s else s) := by
    split
    · exact .ofReports (noteLocked_reports s)
    · exact .refl _ s
  refine ⟨_, store.trans ?_, told.setReg (r.written s.locked (s.reg lo) (v.zeroExtend 64)) rfl⟩
  simp [storeReg, tierWritten, or_assoc, sel, number, inside, tierBlock, hv]

theorem flag_putFlag_apart {f g : Fld} (h : f.apart g = true) (b : Bool) (o : Nat) (s : State) :
    (s.putFlag o f b).flag o g = s.flag o g := by
  simp only [State.flag, s.get_putFlag_apart o b h]

theorem fstRun_shown (idle : s.flag (bsnBase t 0) BSN_FST_STATUS_BUSY = false) :
    (fstRun t s).flag (bsnBase t 0) BSN_FST_STATUS_BUSY = decide ((s.tier t).power ≤ 1) ∧
    (1 < (s.tier t).power → (fstRun t s).flag (bsnBase t 0) BSN_FST_STATUS_DEFERRED = true) ∧ Shown (fun _ => True) s (fstRun t s) := by
  unfold fstRun
  extract_lets b
  rw [if_neg (by rw [idle]; decide)]
  by_cases awake : (s.tier t).power ≤ 1
  · rw [if_pos awake]
    exact ⟨(State.flag_putFlag_same _ _ true rfl (by decide)).trans (by simp [awake]), fun asleep => absurd asleep (by omega),
      (Shown.refl _ s).setReg _ trivial⟩
  · rw [if_neg awake]
    exact ⟨(flag_putFlag_apart (by decide) true _ s).trans (idle.trans (by simp [awake])),
        fun _ => State.flag_putFlag_same _ _ true rfl (by decide),
      (Shown.refl _ s).setReg _ trivial⟩

theorem completes_run (ht : t < 8) (hv : v.getLsbD 31 = true) (h : Writable path (bsnBase t 0 + 0x260) s)
    (idle : s.flag (bsnBase t 0) BSN_FST_STATUS_BUSY = false) : Completes (.run path t v) s (fun u =>
      u.flag (bsnBase t 0) BSN_FST_STATUS_BUSY = decide ((s.tier t).power ≤ 1) ∧
      (1 < (s.tier t).power → u.flag (bsnBase t 0) BSN_FST_STATUS_DEFERRED = true) ∧ Kept s u) := by
  obtain ⟨u, run, shown⟩ := exec_run ht hv h
  obtain ⟨busy, deferred, after⟩ := fstRun_shown (s := u) (t := t)
    ((shown.flag (by decide) (by simp only [BSN_FST_STATUS_BUSY]; omega)).trans idle)
  rw [shown.tier] at busy deferred
  exact ⟨_, run, busy, deferred, shown.kept.shown after⟩

theorem exec_fieldSelfTestDeferredStart (deferred : s.flag (bsnBase t 0) BSN_FST_STATUS_DEFERRED = true) (awake : (s.tier t).power = 0) :
    exec (.fieldSelfTestDeferredStart t) s = .next ((s.putFlag (bsnBase t 0) BSN_FST_STATUS_DEFERRED false).putFlag
      (bsnBase t 0) BSN_FST_STATUS_BUSY true) := by
  show execFieldSelfTestDeferredStart t s = _
  unfold execFieldSelfTestDeferredStart
  exact if_pos (by simp [deferred, awake])

theorem exec_fieldSelfTest_asleep (present : t < s.nTiers) (asleep : 2 ≤ (s.tier t).power)
    (busy : s.flag (bsnBase t 0) BSN_FST_STATUS_BUSY = true) :
    exec (.fieldSelfTest t eyes bond via) s = .next ((s.putFlag (bsnBase t 0) BSN_FST_STATUS_BUSY false).putFlag (bsnBase t 0)
      BSN_FST_STATUS_DEFERRED true) := by
  show execFieldSelfTest t eyes bond via s = _
  unfold execFieldSelfTest
  dsimp only
  rw [if_neg (by simp [busy]; omega), if_pos asleep]

end
end Sys2Proof.Machine

namespace Sys2Proof.Machine
open Sys2Proof.Safety

/-! ### Time stands while a pair fails -/

section
variable {P : Nat → Prop} {t j h g p : Nat} {s u : State}

theorem us_cisternWork (k : CisternWork s u) : u.us = s.us := by
  have frame := k.frame
  generalize u = v at frame ⊢
  rw [frame]

theorem us_onlyRegs (k : OnlyRegs P s u) : u.us = s.us := (Shown.ofOnlyRegs k).same.2.1

theorem us_raise (src kind level addr detail : Nat) (s : State) : (raise src kind level addr detail s).us = s.us :=
  (Told.ofReports (t := 0) (raise_reports _ _ _ _ _ _)).same.2.2.2

theorem us_reportGroup (t : Nat) (s : State) : (reportGroup t s).us = s.us := (Told.refl t s).reportGroup.same.2.2.2

theorem us_forEach {α : Type} (l : List α) (f : α → State → State) (hf : ∀ a u, (f a u).us = u.us) (s : State) :
    (forEach l f s).us = s.us :=
  forEach_keeps (fun u => u.us = s.us) l f (fun a u hu => (hf a u).trans hu) s rfl

theorem us_setSlice (n i : Nat) (sl : Slice) (s : State) : (s.setSlice n i sl).us = s.us := rfl

theorem us_setJet (n i : Nat) (x : Jet) (s : State) : (s.setJet n i x).us = s.us := rfl

theorem us_setRep (n : Nat) (r : Repair) (s : State) : (s.setRep n r).us = s.us := rfl

theorem us_poisonExtent (t j e : Nat) (s : State) : (poisonExtent t j e s).us = s.us := by
  unfold poisonExtent
  extract_lets offs lines own marked
  have written : CisternWork s marked := (CisternWork.refl s).forEach _ _ (fun _ _ w => (CisternWork.refl w).writeMarker _)
  exact (us_onlyRegs (onlyRegs_setReg marked (bsnBase t 0 + 0x298) _)).trans (us_cisternWork written)

theorem us_poisonMarked (t j : Nat) (s : State) : (poisonMarked t j s).us = s.us :=
  (us_forEach _ _ (fun _ u => us_raise _ _ _ _ _ u) _).trans (us_forEach _ _ (fun e u => us_poisonExtent t j e u) s)

theorem us_retireJet (t j : Nat) (s : State) : (retireJet t j s).us = s.us := by
  unfold retireJet
  dsimp only
  rw [us_raise, us_setSlice, us_setJet]
  simp only [State.setRegBit_frame, State.putFlag_frame, State.put_frame]

theorem us_emptyRunnel (t j : Nat) (s : State) : (emptyRunnel t j s).us = s.us := by
  unfold emptyRunnel
  extract_lets s₁ s₂ sl
  have before : (s₂.setSlice t j { sl with sets := [], victims := [], dirtyExt := [], flush := none }).us = s.us := by
    rw [us_setSlice]
    simp only [s₂, State.put_frame, s₁, us_poisonMarked]
  unfold jetGone
  split
  · exact before
  · exact (us_retireJet t j _).trans before

theorem us_moveVictims (t : Nat) (l : List Victim) (s : State) : (moveVictims t l s).us = s.us := by
  refine us_forEach l _ (fun v u => ?_) s
  have written := (CisternWork.refl u).writeCistern { victimAcc t v with force := true } v.line.data
    (v.line.code = .marker || v.line.code = .uncorrectable)
  dsimp only
  by_cases valid : u.pageValid t v.off = true
  · rw [if_pos valid]
    split
    · next heq => exact us_cisternWork (written _ heq)
    · rfl
  · rw [if_neg valid]

theorem us_reassignRunnel (t j : Nat) (l : List Victim) (s : State) : (reassignRunnel t j l s).us = s.us := by
  unfold reassignRunnel
  extract_lets moved valid tags
  exact (us_reportGroup t _).trans ((us_moveVictims t l _).trans (us_onlyRegs (rewriteMap_onlyRegs t j s)))

theorem us_severRunnel (t j : Nat) (s : State) : (severRunnel t j s).us = s.us :=
  (us_raise _ _ _ _ _ _).trans ((us_onlyRegs (repBit_onlyRegs t _ _)).trans ((us_reassignRunnel t j _ _).trans (us_emptyRunnel t j s)))

theorem us_complete (d : DescRef) (status result : Nat) (s : State) : (complete d status result s).us = s.us := by
  unfold complete
  split
  · rfl
  · dsimp only
    split
    · exact us_raise _ _ _ _ _ _
    · rfl

theorem us_trimHistory (s : State) : (trimHistory s).us = s.us := by
  unfold trimHistory showDepth
  dsimp only
  simp only [State.setReg_frame]
  exact us_forEach _ _ (fun w u => us_complete _ _ _ u) _

theorem us_loseRunnel (ht : t < 8) (still : s.migrations = []) : (loseRunnel t j s).us = s.us := by
  by_cases lost : s.width t j = 2
  · rw [loseRunnel, if_pos lost]
  · have safe : (severRunnel t j s).endangered t = [] := by
      rw [State.endangered, (severRunnel_keepsBut ht s).migrations, still]
      rfl
    rw [loseRunnel_eq lost, safe]
    exact (us_trimHistory _).trans (us_severRunnel t j s)

theorem us_showNarrow (t j : Nat) (s : State) : (showNarrow t j s).us = s.us := by
  have begun : (beginFlush t j s).us = s.us := by
    unfold beginFlush
    extract_lets s₁ s₂ sl
    have shown : s₁.us = s.us := us_onlyRegs (showHops_onlyRegs t j s)
    rw [us_setSlice]
    simp only [s₂, State.put_frame, shown]
  exact (us_raise _ _ _ _ _ _).trans ((us_reportGroup t _).trans ((us_onlyRegs (repBit_onlyRegs t _ _)).trans begun))

theorem us_narrowRunnel (ht : t < 8) (still : s.migrations = []) : (narrowRunnel t j s).us = s.us := by
  cases found : narrowGroups t j s with
  | none => rw [narrowRunnel_of_none found, us_loseRunnel ht still]
  | some u =>
    rw [narrowRunnel_of_some found, us_showNarrow]
    obtain ⟨frame, -⟩ := narrowGroups_regrouped t j s u found
    generalize u = v at frame ⊢
    rw [frame]

theorem us_queueFuse (t entry : Nat) (s : State) : (queueFuse t entry s).us = s.us := (queueFuse_shown t entry s).same.2.1

theorem us_keepFailed (t j h g p : Nat) (s : State) : (keepFailed t j h g p s).us = s.us := us_setRep _ _ s

theorem us_takeSpare (t j h g q i : Nat) (s : State) : (takeSpare t j h g q i s).us = s.us := us_setRep _ _ s

theorem us_queueFailed (t j h g p : Nat) (s : State) : (queueFailed t j h g p s).us = s.us :=
  (us_queueFuse t _ _).trans (us_keepFailed t j h g p s)

theorem failPair_of_none (hf : s.fate t j h g p = .none) : failPair t j h g p s = showHop t j h (keepFailed t j h g p s) := by
  rw [failPair_eq, hf]

theorem failPair_of_spare {i : Nat} (hf : s.fate t j h g p = .spare i) : failPair t j h g p s = queueFuse t (coilEntry j h g p i)
    (showSpare t j h (takeSpare t j h g ((s.coil t j h g).served g p) i (keepFailed t j h g p s))) := by
  rw [failPair_eq, hf]

theorem failPair_of_narrow (hf : s.fate t j h g p = .narrow) : failPair t j h g p s = narrowRunnel t j (queueFailed t j h g p s) := by
  rw [failPair_eq, hf]
  rfl

theorem failPair_of_lose (hf : s.fate t j h g p = .lose) : failPair t j h g p s = loseRunnel t j (queueFailed t j h g p s) := by
  rw [failPair_eq, hf]
  rfl

theorem us_failPair (ht : t < 8) (still : s.migrations = []) : (failPair t j h g p s).us = s.us := by
  have queued : (queueFailed t j h g p s).migrations = [] := (queueFailed_migrations t j h g p s).trans still
  cases hf : s.fate t j h g p with
  | none => rw [failPair_of_none hf, us_onlyRegs (showHop_onlyRegs t j h _), us_keepFailed]
  | spare i => rw [failPair_of_spare hf, us_queueFuse, (showSpare_shown t j h _).same.2.1, us_takeSpare, us_keepFailed]
  | narrow => rw [failPair_of_narrow hf, us_narrowRunnel ht queued, us_queueFailed]
  | lose => rw [failPair_of_lose hf, us_loseRunnel ht queued, us_queueFailed]

end
end Sys2Proof.Machine

namespace Sys2Proof.Machine
open Sys2Proof.Safety

/-! ### The field self-test ends (R317, R318) -/

/-- A pair that is graded failed and was not before fails. -/
def failGraded (t j h g p : Nat) (s : State) : State := if (s.coil t j h g).bad.contains p then s else failPair t j h g p s

/-- The flags and the time of a test's end. -/
def showTestEnd (t : Nat) (s : State) : State :=
  let s := (s.putFlag (bsnBase t 0) BSN_FST_STATUS_BUSY false).putFlag (bsnBase t 0) BSN_FST_STATUS_DEFERRED false
  s.setReg (bsnBase t 0 + 0x268) (BitVec.ofNat 64 s.us)

/-- The end of a self-test that has no drift to act on. -/
def endTest (t : Nat) (s : State) : State := showTestEnd t (noteDrift t 255 255 s)

section
variable {t j h g p : Nat} {e : PairEye} {s u : State}

theorem exec_fieldSelfTest_graded (present : t < s.nTiers) (awake : (s.tier t).power < 2) (eng : (s.tier t).engReset = false)
    (port : (s.tier t).portReset = false) (busy : s.flag (bsnBase t 0) BSN_FST_STATUS_BUSY = true) :
    exec (.fieldSelfTest t [e] 255 255) s = .next (endTest t (gradeTier t [e] s)) := by
  show execFieldSelfTest t [e] 255 255 s = _
  unfold execFieldSelfTest
  rw [List.mergeSort_singleton]
  extract_lets b run graded noted shown ended again
  rw [if_neg (by simp [show run = true from busy, present]), if_neg (by omega), if_neg (by simp [eng, port]),
    if_neg (by simp [again])]
  rfl

theorem gradePair_failed (hg : e.group < 3) (narrow : e.width < s.failW t) :
    gradePair t e s = failGraded t e.runnel e.hop e.group e.pair s := by
  unfold gradePair eyePlace
  rw [if_neg (by omega)]
  dsimp only
  rw [if_pos (by simp [narrow])]
  rfl

/-- The self-test of one pair shows its width. -/
theorem gradeTier_one (hg : e.group < 3) : gradeTier t [e] s =
    (gradePair t e s).put (bsnBase t e.runnel + 4 * e.hop) BSN_HOP_MIN_W (min 255 e.width) := by
  have read : e.group ≠ 3 := by omega
  simp [gradeTier, forEach, read]

theorem failGraded_bad (t j h g p : Nat) (s : State) : p ∈ ((failGraded t j h g p s).coil t j h g).bad := by
  unfold failGraded
  split
  · next known => exact List.contains_iff_mem.1 known
  · exact failPair_bad t j h g p s

theorem us_failGraded (ht : t < 8) (still : s.migrations = []) : (failGraded t j h g p s).us = s.us := by
  unfold failGraded
  split
  · rfl
  · exact us_failPair ht still

theorem reg_setRep (n : Nat) (r : Repair) (o : Nat) (s : State) : (s.setRep n r).reg o = s.reg o := rfl

/-- Without a bond chain or a via measured, the test notes that nothing drifts. -/
theorem noteDrift_none (t : Nat) (s : State) : ∃ x, noteDrift t 255 255 s =
    (s.setReg (bsnBase t 0 + 0x2A0) x).setRep t { (s.setReg (bsnBase t 0 + 0x2A0) x).rep t with drifting := false } := by
  unfold noteDrift
  extract_lets b reg generic bond s₁
  have unmeasured : bond = 255 := ite_self _
  dsimp only
  rw [if_pos (by simp [unmeasured])]
  exact ⟨_, rfl⟩

/-- The registers of the basin that the end of a test writes. -/
def testRegs (t o : Nat) : Prop := o = bsnBase t 0 + 0x2A0 ∨ o = bsnBase t 0 + 0x264 ∨ o = bsnBase t 0 + 0x268

/-- What the end of a test shows: no test runs, and when it ended. -/
structure TestEnded (t : Nat) (s u : State) : Prop where
  idle : u.flag (bsnBase t 0) BSN_FST_STATUS_BUSY = false
  time : u.reg (bsnBase t 0 + 0x268) = BitVec.ofNat 64 s.us
  bad : SameBad s u
  regs : ∀ o, ¬testRegs t o → u.reg o = s.reg o

theorem showTestEnd_ended (t : Nat) (s : State) : TestEnded t s (showTestEnd t s) := by
  unfold showTestEnd
  extract_lets v
  have flags : OnlyRegs (testRegs t) s v := ((OnlyRegs.refl (testRegs t) s).putFlag false (.inr (.inl rfl))).putFlag false (.inr (.inl rfl))
  have idle : v.flag (bsnBase t 0) BSN_FST_STATUS_BUSY = false :=
    (flag_putFlag_apart (by decide) false _ _).trans (State.flag_putFlag_same _ _ false rfl (by decide))
  clear_value v
  have timed : Shown (· = bsnBase t 0 + 0x268) v (v.setReg (bsnBase t 0 + 0x268) (BitVec.ofNat 64 v.us)) := (Shown.refl _ v).setReg _ rfl
  have all : OnlyRegs (testRegs t) s (v.setReg (bsnBase t 0 + 0x268) (BitVec.ofNat 64 v.us)) := flags.setReg _ (.inr (.inr rfl))
  refine ⟨(timed.flag (by decide) (by simp only [BSN_FST_STATUS_BUSY]; omega)).trans idle, ?_,
    .ofRepair (Shown.ofOnlyRegs all).same.1, all.2⟩
  rw [State.reg_setReg_same, us_onlyRegs flags]

theorem endTest_ended (t : Nat) (s : State) : TestEnded t s (endTest t s) := by
  obtain ⟨x, noted⟩ := noteDrift_none t s
  have shown : OnlyRegs (testRegs t) s (s.setReg (bsnBase t 0 + 0x2A0) x) := (OnlyRegs.refl _ s).setReg x (.inl rfl)
  generalize s.setReg (bsnBase t 0 + 0x2A0) x = v at noted shown
  have bad : SameBad s (noteDrift t 255 255 s) := by
    rw [noted]
    exact SameBad.trans (.ofRepair (Shown.ofOnlyRegs shown).same.1) (SameBad.setRep rfl)
  have us : (noteDrift t 255 255 s).us = s.us := by rw [noted, us_setRep, us_onlyRegs shown]
  have regs (o : Nat) (ho : ¬testRegs t o) : (noteDrift t 255 255 s).reg o = s.reg o := by
    rw [noted, reg_setRep, shown.2 o ho]
  obtain ⟨idle, time, bad', regs'⟩ := showTestEnd_ended t (noteDrift t 255 255 s)
  exact ⟨idle, time.trans (by rw [us]), bad.trans bad', fun o ho => (regs' o ho).trans (regs o ho)⟩

theorem completes_fieldSelfTest (ht : t < 8) (present : t < s.nTiers) (hh : e.hop < 8) (hg : e.group < 3)
    (narrow : e.width < s.failW t) (awake : (s.tier t).power < 2) (eng : (s.tier t).engReset = false)
    (port : (s.tier t).portReset = false) (still : s.migrations = []) (busy : s.flag (bsnBase t 0) BSN_FST_STATUS_BUSY = true) :
    Completes (.fieldSelfTest t [e] 255 255) s (fun u => e.pair ∈ (u.coil t e.runnel e.hop e.group).bad ∧
      u.get (bsnBase t e.runnel + 4 * e.hop) BSN_HOP_MIN_W = min 255 e.width ∧
      u.flag (bsnBase t 0) BSN_FST_STATUS_BUSY = false ∧ u.reg (bsnBase t 0 + 0x268) = BitVec.ofNat 64 s.us) := by
  have bad := failGraded_bad t e.runnel e.hop e.group e.pair s
  have us := us_failGraded (j := e.runnel) (h := e.hop) (g := e.group) (p := e.pair) ht still
  refine ⟨_, exec_fieldSelfTest_graded present awake eng port busy, ?_⟩
  rw [gradeTier_one hg, gradePair_failed hg narrow]
  obtain ⟨w, hw⟩ : ∃ w, failGraded t e.runnel e.hop e.group e.pair s = w := ⟨_, rfl⟩
  rw [hw] at bad us ⊢
  have width := w.get_put_same (bsnBase t e.runnel + 4 * e.hop) (min 255 e.width) BSN_HOP_MIN_W (by decide) (by decide)
  have only : OnlyRegs (fun _ => True) w (w.put (bsnBase t e.runnel + 4 * e.hop) BSN_HOP_MIN_W (min 255 e.width)) :=
    (OnlyRegs.refl _ w).put _ trivial
  generalize w.put (bsnBase t e.runnel + 4 * e.hop) BSN_HOP_MIN_W (min 255 e.width) = x at width only ⊢
  obtain ⟨idle, time, same, regs⟩ := endTest_ended t x
  generalize endTest t x = u at *
  have apart : ¬testRegs t (bsnBase t e.runnel + 4 * e.hop + BSN_HOP_MIN_W.off) := by
    simp only [testRegs, bsnBase, BSN_HOP_MIN_W]; omega
  refine ⟨?_, ?_, idle, by rw [time, us_onlyRegs only, us]⟩
  · rw [same, coil_of_repair (Shown.ofOnlyRegs only).same.1]
    exact bad
  · rw [State.get, regs _ apart]
    exact width.trans (Nat.mod_eq_of_lt (by simp only [BSN_HOP_MIN_W]; omega))

end
end Sys2Proof.Machine

namespace Sys2Proof.Machine
open Sys2Proof.Safety

/-! ### Repair fuses (R333) -/

/-- The repair state with one more fuse word, whose margin read passed or not. -/
def Repair.fused (r : Repair) (e : DWord) (ok : Bool) (rest : List DWord) : Repair :=
  { r with fuses := r.fuses ++ [(e, ok)], queued := if ok then rest else r.queued }

section
variable {P : Nat → Prop} {t : Nat} {margins : List Bool} {ok : Bool} {e : DWord} {rest : List DWord} {s u : State}

theorem exec_repairFuseWrite_barred (h : s.permitted t = false ∨ s.grottoRuns = false) : exec (.repairFuseWrite t margins) s = .next s := by
  show execRepairFuseWrite t margins s = _
  unfold execRepairFuseWrite
  rw [if_neg (by rcases h with h | h <;> simp [h])]

theorem exec_repairFuseWrite_permitted (permitted : s.permitted t = true) (runs : s.grottoRuns = true) :
    exec (.repairFuseWrite t margins) s = .next (writeRepairs t margins s) := by
  show execRepairFuseWrite t margins s = _
  unfold execRepairFuseWrite
  rw [if_pos (by simp [permitted, runs])]

theorem writeFuses_one (queued : (s.rep t).queued = e :: rest) (room : (s.rep t).fuses.length < 248) :
    writeFuses t [ok] s = s.setRep t ((s.rep t).fused e ok rest) := by
  unfold writeFuses
  rw [forEach_cons, forEach_nil]
  dsimp only
  rw [queued]
  dsimp only
  rw [if_neg (by omega), Repair.fused, queued]

theorem noteFuseFull_of_room (room : (s.rep t).fuses.length < 248) : noteFuseFull t s = s := by
  unfold noteFuseFull
  dsimp only
  rw [if_neg (by simp; omega)]

theorem shown_raises (n : Nat) (s : State) : Shown P s (forEach (upto n) (fun _ u => raiseOpen 0x001 2 u) s) :=
  forEach_keeps (Shown P s) _ _ (fun _ _ h => h.trans (.ofReports (raiseOpen_reports _ _ _))) s (.refl P s)

theorem writeRepairs_shown (margins : List Bool) (s : State) :
    ∃ u, writeRepairs t margins s = noteFuseFull t u ∧ Shown (· = bsnBase t 0 + 0x27C) (writeFuses t margins s) u :=
  ⟨_, rfl, (Shown.ofOnlyRegs (showFuses_onlyRegs t _)).trans (shown_raises _ _)⟩

theorem completes_repairFuseWrite (permitted : s.permitted t = true) (runs : s.grottoRuns = true) (queued : (s.rep t).queued = e :: rest)
    (room : (s.rep t).fuses.length < 247) (ok : Bool) : Completes (.repairFuseWrite t [ok]) s (fun u =>
      (u.rep t).fuses = (s.rep t).fuses ++ [(e, ok)] ∧ (u.rep t).queued = (if ok then rest else e :: rest) ∧ Kept s u) := by
  obtain ⟨u, written, shown⟩ := writeRepairs_shown (t := t) [ok] s
  rw [writeFuses_one queued (by omega)] at shown
  have rep : u.rep t = (s.rep t).fused e ok rest := by rw [State.rep, shown.same.1]; exact rep_setRep _ s
  have fuses : (u.rep t).fuses = (s.rep t).fuses ++ [(e, ok)] := congrArg Repair.fuses rep
  have left : noteFuseFull t u = u := noteFuseFull_of_room (by rw [fuses, List.length_append, List.length_singleton]; omega)
  refine ⟨u, (exec_repairFuseWrite_permitted permitted runs).trans (by rw [written, left]), fuses, ?_,
      ((Kept.refl s).setRep t _).shown shown⟩
  rw [rep, Repair.fused, queued]

end

/-- Settles O35: each repair by what it writes back and what it leaves to the next one, the self-test by the pair it grades and the width
it shows, and the fuses word by word. -/
theorem repairAndSelfTest : Obligations.RepairAndSelfTest := by
  unfold Obligations.RepairAndSelfTest
  refine ⟨⟨?_, ?_, ?_, ?_⟩, ?_, ?_, ?_, ?_, ?_, ?_⟩
  · intro t j die r w s _ _ row key watched failing up width room
    exact completes_basinRowRepair watched failing up width room
  · exact fun t j die r s unwatched => exec_basinRowRepair_unwatched unwatched
  · intro t c sub k group bank r device w s _ _ _ hg row watched failing ppr unfenced free
    have fails : RowFails t c k (cisternRowNo c sub k group bank r) w s := ⟨watched, failing, ppr, unfenced, free⟩
    refine ⟨fun unused => ?_, completes_softPostPackageRepair_used fails⟩
    obtain ⟨u, run, lines, rest⟩ := completes_softPostPackageRepair_soft (device := device) hg fails unused
    refine ⟨u, run, fun x l tier place held => ?_, fun x apart => ?_, rest⟩
    · have mine : inRow t (cisternRowNo c sub k group bank r) x = true := inRow_iff.2 ⟨tier, place⟩
      rw [lines, if_pos mine, held, Option.map_some, CLine.mended_eq]
    · rw [lines, if_neg (fun mine : inRow t (cisternRowNo c sub k group bank r) x = true => apart (inRow_iff.1 mine))]
  · intro t e w s _ found
    exact ⟨completes_spareExtentRemap_free found, fun c idx spare => completes_spareExtentRemap_spare found,
      fun c idx => completes_spareExtentRemap_out found⟩
  · exact fun path t v s ht hv writable idle => completes_run ht hv writable idle
  · exact fun t s deferred awake => exec_fieldSelfTestDeferredStart deferred awake
  · exact fun t bond via eyes s present asleep busy => exec_fieldSelfTest_asleep present asleep busy
  · exact fun t e s ht present _ hh hg narrow awake eng port still busy =>
      completes_fieldSelfTest ht present hh hg narrow awake eng port still busy
  · exact fun t margins s barred => exec_repairFuseWrite_barred barred
  · exact fun t e rest s _ permitted runs queued room =>
      ⟨completes_repairFuseWrite permitted runs queued room true, completes_repairFuseWrite permitted runs queued room false⟩

end Sys2Proof.Machine
